-- ==== Sys2Proof/Word.lean ====
section
/-! DEFINITION. The word types and their plainest arithmetic. -/
namespace Sys2Proof

/-- A 32-bit register word (R8, R27). -/
abbrev Word := BitVec 32

/-- A byte (R9). -/
abbrev Byte := BitVec 8

/-- A pair of values, one per storage string: string A, string B (R32). -/
structure Two (α : Type) where
  a : α
  b : α
  deriving DecidableEq, Repr

/-- The two strings of a shelf (R32). -/
inductive Str where
  | A
  | B
  deriving DecidableEq, Repr

namespace Two
variable {α : Type}

def get (t : Two α) : Str → α
  | .A => t.a
  | .B => t.b

def set (t : Two α) (x : Str) (v : α) : Two α :=
  match x with
  | .A => { t with a := v }
  | .B => { t with b := v }

def mk2 (v : α) : Two α := ⟨v, v⟩

end Two

/-- The other string of the shelf. -/
def Str.other : Str → Str
  | .A => .B
  | .B => .A

/-- 0 for string A, 1 for string B: the order of every per-string array (R297). -/
def Str.idx : Str → Nat
  | .A => 0
  | .B => 1

end Sys2Proof
end

