-- ==== Sys2Proof/Syntax.lean ====
section
/-! DEFINITION. The commands of the VL860 (spec/opcode_table.json), one constructor per row, and the operands they
carry: what the outside world presents to the module when the command arrives. Units are those of the cited rules. -/
namespace Sys2Proof

/-- A signature as the module sees it (R346, R354): the public key under which it verifies, and whether it covers
exactly the bytes R354 names for the object that carries it. -/
structure Sig where
  key : Nat
  covers : Bool
  deriving DecidableEq, Repr

/-- The tag of a field-network frame (R368, R428): all zero, valid under the group key named, or neither. -/
inductive Tag where
  | zero
  | under (key : Nat)
  | bad
  deriving DecidableEq, Repr

/-- The processor targets T0 to T4: the RT pair and the service cores S0 to S3 (R488). -/
inductive Core5 where
  | rt
  | s0
  | s1
  | s2
  | s3
  deriving DecidableEq, Repr

/-- The interface a request arrives on (R379, R441, R557): the mailbox of a logical device, the J7 port, or a
field-network channel. -/
inductive Link where
  | ld (n : Nat)
  | j7
  | fnA
  | fnB
  deriving DecidableEq, Repr

/-- The roles (R18, R365). -/
inductive Role where
  | owner
  | tenant
  | service
  | vendor
  | pub
  deriving DecidableEq, Repr

/-- A field-network channel (R412). -/
inductive Chan where
  | A
  | B
  deriving DecidableEq, Repr

/-- What every received field-network frame carries besides its payload (R414, R424, R425). `formatOk` is the check of
frame format, SDT and VCID, and `fd` tells a CAN FD frame of 64 bytes. -/
structure Hdr where
  formatOk : Bool
  fd : Bool
  chan : Chan
  ident : Nat
  typ : Nat
  gen : Nat
  src : Nat
  tag : Tag
  epoch : Nat
  counter : Nat
  deriving DecidableEq, Repr

/-- A dictionary request (R385) as it arrives. `arrived` counts the header bytes that came (20 for a whole header),
`session` is the session whose message carried it, `sigs` the signatures carried in the value, in layout order (R354),
`derivedOk` whether a carried passphrase gives the stored derived key (R375), and `can` the header of the field-network frame that
brought it (R429). -/
structure Req where
  link : Link
  session : Option Nat
  arrived : Nat
  gen : Nat
  op : Nat
  flags : Nat
  transaction : Nat
  object : Nat
  element : Nat
  ext : Nat
  resv : Nat
  count : Nat
  offset : Nat
  length : Nat
  value : List Nat
  sigs : List Sig
  derivedOk : Bool
  can : Option Hdr
  deriving DecidableEq, Repr

/-- The pace frame's payload (R81). -/
structure Pace where
  lead : Nat
  newLead : Bool
  twilight : Nat
  setpoints : List Nat
  codes : List Nat
  filler : List Nat
  phases : List Nat
  deriving DecidableEq, Repr

/-- The cap frame's payload (R83). -/
structure Cap where
  sender : Nat
  urgent : Bool
  capSeq : Nat
  allowance : Nat
  ceilings : List Nat
  consAllow : List Nat
  cause : Nat
  breakerCap : Nat
  deriving DecidableEq, Repr

/-- The heartbeat's payload (R422). -/
structure Beat where
  lease : Word
  slot : Nat
  role : Nat
  rectifiers : Nat
  ack : Nat
  input : Nat
  strPower : Int
  store : Nat
  deriving DecidableEq, Repr

/-- One limited chip of a tray report (R86). -/
structure LimChip where
  slot : Nat
  code : Nat
  step : Nat
  deriving DecidableEq, Repr

/-- The tray report's payload (R86). -/
structure Report where
  tray : Nat
  present : Nat
  limitMask : Nat
  chips : List LimChip
  power : Nat
  event : Bool
  more : Bool
  deriving DecidableEq, Repr

/-- The join frame's payload (R73). -/
structure Join where
  tray : Nat
  mask : Nat
  table : Nat
  last : Bool
  leave : Bool
  ceilings : List Nat
  deriving DecidableEq, Repr

/-- The key frame's payload (R427); `key` is the group key its whole block opens to, none where the wrap fails. -/
structure KeyChunk where
  switchEpoch : Nat
  target : Nat
  chunk : Nat
  key : Option Nat
  deriving DecidableEq, Repr

/-- What the decimators latch at clock 0 of a loop sample (R240, R243): bus channels, string and link voltages in mV, phase
currents and string currents in mA (R200), whether the decimator of a bus channel reports a fault (R251), and the die
temperature in °C (R513). The values are raw: no calibration is applied to them. -/
structure SampleIn where
  dieC : Int
  bus1 : Nat
  bus2 : Nat
  fault1 : Bool
  fault2 : Bool
  strV : Two Nat
  linkV : Two Nat
  iPhase : List Int
  iStr : Two Int
  deriving DecidableEq, Repr

/-- What the metering path hands over at an epoch boundary (R129, R422): the energy of the epoch that closes, in µJ, the mean of
its currents' magnitude per phase sum in mA for I_s (R216), and the input currents, in mA: rms of each phase, or the one current
of a DC input (R128), and the number and the sum, in control clocks, of the on-times of each phase seen on the PWM lines of the
active slot in that epoch (R332). -/
structure EpochIn where
  inputUJ : Nat
  strUJ : Two Int
  isMean : Two Nat
  amps : List Nat
  pwm : Option (List (Nat × Nat))
  deriving DecidableEq, Repr

/-- A meridian pulse at the receiver (R46, R47, R431, R568): control clocks from the prediction, clocks after the present
epoch opened, and high time in ns. -/
structure PulseIn where
  err : Int
  pos : Nat
  high : Nat
  epoch : EpochIn
  deriving DecidableEq, Repr

/-- What a start finds (R360, R401, R522, R549, R567, R203): whether each bank passes its checks, the strap pins, the MRAM
elements that fail their CRC, whether the always-on domain kept its supply and the ticks passed, whether the flush
marker is valid, whether a module of the shelf ran on meanwhile (R529), the rectifier ratings read and the phase
inductances read (0 when unreadable). -/
structure BootIn where
  okA : Bool
  okB : Bool
  straps : Nat
  crcFail : List (Nat × Nat)
  sidKept : Bool
  elapsed : Nat
  marker : Bool
  peerRan : Bool
  ratings : List Nat
  inductances : List Nat
  deriving DecidableEq, Repr

/-- The link hello that stream 0 carries beside lease words (R325, R300, R341, R333): the peer's integrator layer where it
holds one, its dictionary major version, its firmware version, its identity hash, its static encapsulation key (R417) and the hash
of its slot 1 (R410). -/
structure PeerHello where
  layer : Option Nat
  major : Nat
  firmware : Nat
  ident : Nat
  encap : Nat
  slot1 : Nat
  deriving DecidableEq, Repr

/-- One strobe of both islands (R268 to R270): the temperature of each island in °C, the sampled position voltages in µV (none
where missing), whether the sample is marked EDGE, the independent string voltages in mV, the string currents in mA at the
strobe, the charge of each string since the previous strobe in µC (positive when discharging), and the measured bleed current of
each island in µA (R279). -/
structure StrobeIn where
  islandC : Two Int
  bleedUA : Two Nat
  volts : List (Option Nat)
  edge : Bool
  strV : Two Nat
  current : Two Int
  charge : Two Int
  deriving DecidableEq, Repr

/-- Loop-engine contexts (R240): the program in service and the shadow. -/
inductive Ctx where
  | program
  | shadow
  deriving DecidableEq, Repr

/-- The operand formats of a multiply-accumulate (R241, R242). -/
inductive QFmt where
  | q1_31
  | q8_24
  deriving DecidableEq, Repr

/-- A loop-engine operand: a register, a data-memory word (R242), or an accumulator stored to a format (R241). -/
inductive LOp where
  | reg (i : Nat)
  | mem (i : Nat)
  | acc (i : Nat) (f : QFmt)
  deriving DecidableEq, Repr

/-- The loop-engine inputs (R243). -/
inductive LIn where
  | busSel
  | bus1
  | bus2
  | strV (x : Str)
  | linkV (x : Str)
  | vnow
  | iPhase (p : Nat)
  | iStr (x : Str)
  | ff (x : Str)
  | mask
  | dirs
  | states
  | limit (p : Nat)
  | sample
  deriving DecidableEq, Repr

/-- The features of a frame that the module's other blocks hand to the engine (R166): FP32 patterns in index order. -/
structure FeatIn where
  feats : List Word
  deriving DecidableEq, Repr

/-- A model slot (R199). `state`: 0 empty, 1 loading, 2 verified, 3 in service, 4 damaged; `resident` tells whether its weights
and STATE tensors fit tile SRAM (R179). -/
structure Slot where
  state : Nat
  signer : Nat
  flags : Nat
  result : Nat
  divisor : Nat
  ident : Nat
  version : Nat
  weights : Nat
  learned : Nat
  hash : Nat
  resident : Bool
  deriving DecidableEq, Repr

/-- An empty slot. -/
def Slot.empty : Slot :=
  { state := 0, signer := 0, flags := 0, result := 0, divisor := 0, ident := 0, version := 0, weights := 0,
    learned := 0, hash := 0, resident := false }

/-- The learning state (R186, R190, R192): FP32 master weights and the two optimizer moments by tensor, none before the first
step, and the step counter. -/
structure LearnState where
  master : List (Nat × List Word)
  first : List (Nat × List Word)
  second : List (Nat × List Word)
  steps : Nat
  deriving DecidableEq, Repr

/-- Where an uncorrectable error lies (R156, R158, R161): a tile and a bank of its SRAM, an offset of the stack, or a channel of
the bond. -/
inductive ErrAt where
  | sram (tile : Nat) (bank : Nat)
  | dram (offset : Nat)
  | bond (channel : Nat)
  deriving DecidableEq, Repr

/-- What held the data of an uncorrectable error (R160). -/
inductive ErrHeld where
  | refresh
  | sramWeights
  | dramWeights (slot : Nat)
  | learning
  | layout
  | swapNew
  | swapOld
  | window (ld : Nat) (offset : Nat)
  deriving DecidableEq, Repr

/-- A session open request (R365, R366): the link it comes over, its bytes, and its signature where it carries one. Over the field
network each command brings one segment (R429): the frame's header, the segment index and whether it is the last. -/
structure SessIn where
  link : Link
  raw : List Nat
  sig : Option Sig
  can : Option Hdr
  seg : Nat
  last : Bool
  deriving DecidableEq, Repr

/-- The fields of a session open request (R365). -/
def SessIn.gen (q : SessIn) : Nat := q.raw.getD 0 0 / 16
def SessIn.ext (q : SessIn) : Nat := q.raw.getD 1 0
def SessIn.role (q : SessIn) : Nat := q.raw.getD 2 0
def SessIn.key (q : SessIn) : Nat := q.raw.getD 3 0

/-- A sister-link block (R324, R326): the trailer, whether its CRC holds, the hash its message carries (R332, R191; 0 for none),
the fitness word and the slot-1 hash of a stream 5 report (R325, R345, R410), and the dictionary writes that a stream 4 message
forwards (R330): object, element, value, and the apply class of a value that pends (1 where it is in force). A stream 6 message
mirrors verified model slots, bytes of the recorder and engine regions by their offset in the stack, the learning state, and
what was written to objects 0x2020 to 0x2023: object, entry number, value (R173, R192, R262, R331). -/
structure BlockIn where
  crcOk : Bool
  seq : Nat
  ack : Nat
  stream : Nat
  nak : Bool
  idle : Bool
  digest : Nat
  fitness : Nat
  slot1 : Nat
  copy : List (Nat × Nat × Nat × Nat)
  slots : List (Nat × Slot)
  stack : List (Nat × List Nat)
  learn : Option LearnState
  archive : List (Nat × Nat × Nat)
  deriving DecidableEq, Repr

/-- The parts of a per-sample state record that the standby compares and adopts (R327, R328). -/
structure RecordIn where
  release : Bool
  held : Bool
  twilight : Bool
  sample : Nat
  epoch : Nat
  sampleSeq : Nat
  inputDigest : Nat
  outputDigest : Nat
  dataDigest : Nat
  vnow : Nat
  vtgt : Nat
  slew : Nat
  dirCnt : Two Nat
  states : Two Nat
  dirs : Two Bool
  ovLatch : Bool
  latched : Two Bool
  switching : Nat
  rotation : Two Nat
  retries : Two Nat
  hiccup : Two Nat
  limited : List Nat
  budgets : Two Nat
  dwell : Two Nat
  src : Nat
  sel : Nat
  ovrcnt : Nat
  clean : Nat
  counts : Two Nat
  vhat : Int
  idist : Int
  xs : Two Int
  refs : List Int
  y : Nat
  cu : Nat
  cd : Nat
  m : Nat
  bigM : Nat
  narrow : List Nat
  vss : Two Nat
  deriving DecidableEq, Repr

/-- A plan (R50): setpoints by shelf in W, pace codes, filler words, phases, twilight length. -/
structure Plan where
  epoch : Nat
  set : List Nat
  pace : List Nat
  fill : List Nat
  phase : List Nat
  ttw : Nat
  deriving DecidableEq, Repr

/-- The plan before any plan has arrived: setpoints of 0 W (R526). -/
def Plan.none : Plan :=
  { epoch := 0, set := [0, 0, 0, 0], pace := List.replicate 16 0, fill := List.replicate 16 0,
    phase := List.replicate 16 0xFF, ttw := 250 }

/-- The parts of an epoch image that continue the shelf after a takeover (R57, R134, R329): plans n and n+1 with the control
clock of the epoch at which their twilight starts and its length M, the latest minute record, the event entries of the open
minute, the lead's state, the carry and step counters of attribution, the accepted pace tables, trip latches, wire states, loop
data memory, the engine's mapping, pending re-shard with the epoch of its switch, and blend weight, and object values. -/
structure ImageIn where
  epoch : Nat
  planN : Plan
  planNext : Option Plan
  ts : Nat
  bigM : Nat
  emergency : Nat
  chainHead : Nat
  latest : Nat
  events : List Nat
  leadSlot : Nat
  expiry : Nat
  throttle : List Nat
  restoreDelay : List Nat
  held : Nat
  holdOrder : List Nat
  carry : Int
  stepCnt : List (Nat × Nat)
  tables : List (Nat × Nat)
  tripOv : List (Nat × Nat)
  tripUv : List (Nat × Nat)
  tripHeld : List (Nat × Nat)
  wires : List (Nat × Nat)
  loopMem : List (Nat × Nat)
  mapping : Nat
  mapNext : Option Nat
  switchEpoch : Option Nat
  blendW : Nat
  objects : List (Nat × Nat)
  deriving DecidableEq, Repr

/-- A CXL link event (R440): a CRC failure of the link layer, a replay, a retrain, the loss of the link, or the end of its
training with the trained width, the rate in GT/s and the logical devices bound (R408). -/
inductive CxlEvent where
  | crcFailure
  | replay
  | retrain
  | lost
  | up (width : Nat) (rate : Nat) (bound : Nat)
  deriving DecidableEq, Repr

/-- The PLLs of R470. -/
inductive Pll where
  | control
  | engine
  | security
  deriving DecidableEq, Repr

/-- The two contactors of a string (R221). -/
inductive Contactor where
  | main
  | pre
  deriving DecidableEq, Repr

/-- The reasons of an explicit release (R335, R343). -/
inductive RelReason where
  | guardFault
  | island
  | mram
  deriving DecidableEq, Repr

/-- The re-readable figures of the engine (R144, R165): measured at the compute die: junction temperature in 0.1 °C, power
in W, tile utilisation and DRAM bandwidth used in 0.01 %. -/
structure EngMeas where
  temp : Int
  power : Nat
  tiles : Nat
  dram : Nat
  deriving DecidableEq, Repr

/-- The commands: one constructor per row of spec/opcode_table.json; each cites the row's rule. -/
inductive Instr where
  /-- AUX_SUPPLY_APPLIED (R472). -/
  | auxSupplyApplied
  /-- SUPPLY_54V_IN_RANGE (R521). -/
  | supply54vInRange (b : BootIn)
  /-- ROLE_NEGOTIATION_TIMEOUT (R523). -/
  | roleNegotiationTimeout
  /-- LIVEREQ (R472). -/
  | liveReq (core : Core5) (set : Bool)
  /-- SUPPLY_54V_OUT_OF_RANGE (R472). -/
  | supply54vOutOfRange
  /-- STRING_FED_TIMEOUT (R472). -/
  | stringFedTimeout
  /-- POWER_FAIL_WARNING (R528). -/
  | powerFailWarning
  /-- HOLDUP_FLUSH_COMPLETE (R528). -/
  | holdupFlushComplete
  /-- HOLDUP_COMMIT (R529). -/
  | holdupCommit (e : EpochIn)
  /-- HOLDUP_CUTOFF (R530). -/
  | holdupCutoff
  /-- MODULE_RESTART (R360). -/
  | moduleRestart (b : BootIn)
  /-- MERIDIAN_PULSE (R46). -/
  | meridianPulse (p : PulseIn)
  /-- EXTRA_MERIDIAN_EDGE (R432). -/
  | extraMeridianEdge
  /-- MISSED_PULSE (R48). -/
  | missedPulse (e : EpochIn)
  /-- TWILIGHT_START (R53). -/
  | twilightStart
  /-- SIGNATURE_COMPLETE (R351). -/
  | signatureComplete
  /-- LOWER_TREE_BUILD (R350). -/
  | lowerTreeBuild
  /-- LOOP_SAMPLE (R240). -/
  | loopSample (i : SampleIn)
  /-- MOVE (R242). -/
  | lpMove (c : Ctx) (d : LOp) (a : LOp)
  /-- ADD (R242). -/
  | lpAdd (c : Ctx) (d : LOp) (a : LOp) (b : LOp)
  /-- SUBTRACT (R242). -/
  | lpSubtract (c : Ctx) (d : LOp) (a : LOp) (b : LOp)
  /-- COMPARE (R242). -/
  | lpCompare (c : Ctx) (a : LOp) (b : LOp)
  /-- SHIFT (R242). -/
  | lpShift (c : Ctx) (d : LOp) (a : LOp) (n : Int)
  /-- MIN (R242). -/
  | lpMin (c : Ctx) (d : LOp) (a : LOp) (b : LOp)
  /-- MAX (R242). -/
  | lpMax (c : Ctx) (d : LOp) (a : LOp) (b : LOp)
  /-- CLAMP (R242). -/
  | lpClamp (c : Ctx) (d : LOp) (a : LOp) (lo : LOp) (hi : LOp)
  /-- MULTIPLY_ACCUMULATE (R241). -/
  | lpMac (c : Ctx) (acc : Nat) (a : LOp) (fa : QFmt) (b : LOp) (fb : QFmt)
  /-- DIVIDE (R242). -/
  | lpDivide (c : Ctx) (d : LOp) (a : LOp) (b : LOp)
  /-- BRANCH (R242). -/
  | lpBranch (c : Ctx) (onLess : Bool) (target : Nat)
  /-- INPUT_LOAD (R243). -/
  | lpInputLoad (c : Ctx) (d : LOp) (inp : LIn)
  /-- OUTPUT_STORE (R243). -/
  | lpOutputStore (c : Ctx) (phase : Nat) (a : LOp)
  /-- END (R242). -/
  | lpEnd (c : Ctx)
  /-- PASS_DEADLINE (R247). -/
  | passDeadline
  /-- FIXED_LAW_TAKEOVER (R247). -/
  | fixedLawTakeover
  /-- PROGRAM_RETURN (R249). -/
  | programReturn
  /-- FIXED_LAW_RETURN (R249). -/
  | fixedLawReturn (r : Req)
  /-- CHANNEL_IMPLAUSIBLE (R251). -/
  | channelImplausible (second : Bool)
  /-- CHANNEL_PLAUSIBLE (R251). -/
  | channelPlausible (second : Bool)
  /-- CHANNEL_SELECTION (R251). -/
  | channelSelection (r : Req)
  /-- LPE_FIXRST (R254). -/
  | lpeFixrst (core : Core5)
  /-- LPE_SELREQ (R254). -/
  | lpeSelreq (core : Core5)
  /-- LPE_RUN (R254). -/
  | lpeRun (core : Core5) (run : Bool)
  /-- LOOP_PROGRAM_LOAD (R245). -/
  | loopProgramLoad (r : Req)
  /-- LOOP_PROGRAM_LOAD_DONE (R245). -/
  | loopProgramLoadDone (sig : Sig)
  /-- LOOP_PROGRAM_SELECT (R246). -/
  | loopProgramSelect (r : Req)
  /-- COT_TRIGGER (R205). -/
  | cotTrigger (x : Str) (clk : Nat)
  /-- ON_TIME_END (R201). -/
  | onTimeEnd (phase : Nat) (clk : Nat)
  /-- FAST_LIMIT (R214). -/
  | fastLimit (phase : Nat) (clk : Nat)
  /-- PULSE_TRUNCATION (R213). -/
  | pulseTruncation (x : Str) (begins : Bool) (clk : Nat)
  /-- HICCUP (R215). -/
  | hiccup (x : Str)
  /-- HICCUP_RETRY (R215). -/
  | hiccupRetry (x : Str)
  /-- RETRY_COUNT_RESET (R215). -/
  | retryCountReset (x : Str)
  /-- PHASE_SHED (R207). -/
  | phaseShed (x : Str)
  /-- FOLD_BACK (R216). -/
  | foldBack (x : Str)
  /-- FOLD_BACK_END (R216). -/
  | foldBackEnd (x : Str)
  /-- BUS_OVERVOLTAGE_LATCH (R217). -/
  | busOvervoltageLatch
  /-- OV_PHASE_RELEASE (R218). -/
  | ovPhaseRelease (phase : Nat) (crossing : Bool)
  /-- LINK_OVERVOLTAGE (R219). -/
  | linkOvervoltage (x : Str)
  /-- STRING_LATCH_CLEAR (R220). -/
  | stringLatchClear (r : Req)
  /-- OVERVOLTAGE_LATCH_CLEAR (R220). -/
  | overvoltageLatchClear (r : Req)
  /-- COT_OVCLR (R232). -/
  | cotOvclr (core : Core5)
  /-- COT_LATCLR (R232). -/
  | cotLatclr (core : Core5) (x : Str)
  /-- COT_SHED_EN (R232). -/
  | cotShedEn (core : Core5) (on : Bool)
  /-- COT_START (R212). -/
  | cotStart (core : Core5) (x : Str)
  /-- COT_ENA (R225). -/
  | cotEna (core : Core5) (x : Str) (on : Bool)
  /-- COT_PHEN_WRITE (R235). -/
  | cotPhenWrite (core : Core5) (value : Word)
  /-- CONTACTOR_MAIN_COMMAND (R305). -/
  | contactorMainCommand (core : Core5) (x : Str) (close : Bool)
  /-- CONTACTOR_PRECHARGE_COMMAND (R305). -/
  | contactorPrechargeCommand (core : Core5) (x : Str) (close : Bool)
  /-- CONTACTOR_HOLD_RELEASE (R305). -/
  | contactorHoldRelease (x : Str) (k : Contactor)
  /-- PRECHARGE_GUARD_OPEN (R305). -/
  | prechargeGuardOpen (x : Str)
  /-- PRECHARGE_OVERLAP_OPEN (R305). -/
  | prechargeOverlapOpen (x : Str)
  /-- LINK_DISCHARGE_DONE (R221). -/
  | linkDischargeDone (x : Str)
  /-- PRECHARGE_COMPLETE (R221). -/
  | prechargeComplete (x : Str)
  /-- PRECHARGE_TIMEOUT (R223). -/
  | prechargeTimeout (x : Str)
  /-- CONTACTOR_CONFIRMED (R223). -/
  | contactorConfirmed (x : Str) (k : Contactor) (closed : Bool)
  /-- CONTACTOR_DISAGREE (R223). -/
  | contactorDisagree (x : Str) (k : Contactor)
  /-- SOFT_START_CROSSING (R212). -/
  | softStartCrossing (x : Str)
  /-- SOFT_START_TIMEOUT (R212). -/
  | softStartTimeout (x : Str)
  /-- ZEROING_COMPLETE (R224). -/
  | zeroingComplete (x : Str)
  /-- ZEROING_TIMEOUT (R305). -/
  | zeroingTimeout (x : Str)
  /-- POWER_BOARD_PRESENCE_CHANGE (R203). -/
  | powerBoardPresenceChange (inductances : List Nat)
  /-- BUS_REFERENCE_TARGET (R211). -/
  | busReferenceTarget (r : Req)
  /-- REFERENCE_SLEW (R211). -/
  | referenceSlew (r : Req)
  /-- DRIVE_EN_LOSS (R226). -/
  | driveEnLoss
  /-- PHASE_CHECK_COMPLETE (R336). -/
  | phaseCheckComplete
  /-- STROBE (R269). -/
  | strobe (i : StrobeIn)
  /-- POSITION_TRIP (R273). -/
  | positionTrip (x : Str) (pos : Nat) (ov : Bool)
  /-- TRIP_AUTO_CLEAR (R274). -/
  | tripAutoClear (x : Str) (pos : Nat)
  /-- TRIP_CLEAR (R274). -/
  | tripClear (r : Req)
  /-- UMBRA_SURVEY (R275). -/
  | umbraSurvey (crossings : List (Str × Nat × Bool))
  /-- HOST_BLEED_MASKS (R277). -/
  | hostBleedMasks (r : Req)
  /-- BLEED_MASK_EXPIRY (R277). -/
  | bleedMaskExpiry
  /-- WIRE_SURVEY_REQUEST (R278). -/
  | wireSurveyRequest (r : Req)
  /-- WIRE_SURVEY_SLOT (R278). -/
  | wireSurveySlot (x : Str) (k : Nat) (below : Int) (above : Int) (own : Int)
  /-- OPEN_WIRE_TEST (R281). -/
  | openWireTest (x : Str) (wires : List Nat)
  /-- OPEN_WIRE_TEST_REQUEST (R281). -/
  | openWireTestRequest (r : Req)
  /-- OPEN_WIRE_RESULT (R283). -/
  | openWireResult (x : Str) (wire : Nat) (dBelow : Nat) (dAbove : Nat)
  /-- DRAWER_RELEASE (R288). -/
  | drawerRelease (x : Str) (d : Nat)
  /-- DRAWER_INSERT (R290). -/
  | drawerInsert (x : Str) (d : Nat)
  /-- STRING_ISOLATE (R291). -/
  | stringIsolate (r : Req)
  /-- END_ISOLATION (R291). -/
  | endIsolation (r : Req)
  /-- THERMISTOR_READ (R292). -/
  | thermistorRead (temps : List Int)
  /-- AFE_REPORT (R293). -/
  | afeReport (x : Str) (dev : Nat)
  /-- AFE_LINK_LOSS (R293). -/
  | afeLinkLoss (x : Str) (dev : Nat)
  /-- INTEGRATOR_LAYER_WRITE (R300). -/
  | integratorLayerWrite (r : Req)
  /-- OWNER_LAYER_WRITE (R301). -/
  | ownerLayerWrite (r : Req)
  /-- OWNER_LAYER_ADOPT (R301). -/
  | ownerLayerAdopt (layer : Nat)
  /-- GUARD_NARROWING (R302). -/
  | guardNarrowing (core : Core5) (q : Nat) (value : Word)
  /-- GUARD_ESCALATION (R304). -/
  | guardEscalation (q : Nat)
  /-- GUARD_AUTHORISATION (R308). -/
  | guardAuthorisation (bit : Nat)
  /-- AUTHORISATION_EXPIRY (R308). -/
  | authorisationExpiry (bit : Nat)
  /-- FRAME_TRANSMIT (R306). -/
  | frameTransmit (ch : Chan) (clock : Nat)
  /-- FRAME_TRANSMIT_COMPLETE (R418). -/
  | frameTransmitComplete (ch : Chan)
  /-- BABBLE_CUT (R307). -/
  | babbleCut (ch : Chan)
  /-- CUT_END (R307). -/
  | cutEnd (ch : Chan)
  /-- BUS_OFF_RECOVERY (R435). -/
  | busOffRecovery (ch : Chan)
  /-- PACE_FRAME (R45). -/
  | paceFrame (h : Hdr) (p : Pace)
  /-- CAP_FRAME (R84). -/
  | capFrame (h : Hdr) (p : Cap)
  /-- HEARTBEAT_SEND (R422). -/
  | heartbeatSend
  /-- HEARTBEAT (R422). -/
  | heartbeat (h : Hdr) (p : Beat)
  /-- SHELF_LEAVES_SERVICE (R39). -/
  | shelfLeavesService (shelf : Nat)
  /-- LEAD_LEASE_LAPSE (R89). -/
  | leadLeaseLapse
  /-- LEAD_ELECTION (R91). -/
  | leadElection (newKey : Nat)
  /-- LEAD_RELEASE (R94). -/
  | leadRelease (r : Req)
  /-- TRAY_REPORT (R86). -/
  | trayReport (h : Hdr) (p : Report)
  /-- THROTTLE_RESTORE (R100). -/
  | throttleRestore (c : Nat)
  /-- JOIN_FRAME (R74). -/
  | joinFrame (h : Hdr) (p : Join)
  /-- TRAY_ABSENCE_LEAVE (R77). -/
  | trayAbsenceLeave (tray : Nat)
  /-- HOLD_RELEASE (R106). -/
  | holdRelease
  /-- HINT_MISMATCH (R60). -/
  | hintMismatch (c : Nat)
  /-- UNKNOWN_FRAME (R424). -/
  | unknownFrame (h : Hdr)
  /-- KEY_FRAME (R427). -/
  | keyFrame (h : Hdr) (p : KeyChunk)
  /-- KEY_REQUEST (R428). -/
  | keyRequest (h : Hdr) (node : Nat)
  /-- GROUP_KEY_DISTRIBUTION (R426). -/
  | groupKeyDistribution (newKey : Nat)
  /-- READ (R387). -/
  | read (r : Req)
  /-- READ_PENDING (R387). -/
  | readPending (r : Req)
  /-- WRITE (R390). -/
  | write (r : Req)
  /-- DESCRIBE (R389). -/
  | describe (r : Req)
  /-- MALFORMED_REQUEST (R566). -/
  | malformedRequest (r : Req)
  /-- SEGMENT_TIMEOUT (R393). -/
  | segmentTimeout (object : Nat)
  /-- WRITE_FORWARD_ACK (R330). -/
  | writeForwardAck
  /-- WRITE_FORWARD_TIMEOUT (R330). -/
  | writeForwardTimeout
  /-- SESSION_OPEN (R366). -/
  | sessionOpen (q : SessIn)
  /-- SESSION_MESSAGE (R367). -/
  | sessionMessage (number : Nat) (counter : Nat) (authOk : Bool) (r : Req)
  /-- SESSION_EXPIRY (R367). -/
  | sessionExpiry (number : Nat)
  /-- CONTRACT_WRITE (R123). -/
  | contractWrite (r : Req)
  /-- BREAKER_CAP_WRITE (R119). -/
  | breakerCapWrite (r : Req)
  /-- RAMP_LIMIT_WRITE (R138). -/
  | rampLimitWrite (r : Req)
  /-- EMERGENCY_ANNOUNCEMENT (R125). -/
  | emergencyAnnouncement (r : Req)
  /-- RECTIFIER_HEALTH_CHANGE (R33). -/
  | rectifierHealthChange (mask : Nat) (ratings : List Nat)
  /-- FEED_LOST (R533): the quantities compared with U_n (R567), mV. -/
  | feedLost (volts : List Nat)
  /-- FEED_RESTORED (R534): the quantities compared with U_n (R567), mV. -/
  | feedRestored (volts : List Nat)
  /-- HOST_ALLOCATION_TABLE (R98). -/
  | hostAllocationTable (r : Req)
  /-- HOST_FILLER_ANSWER (R104). -/
  | hostFillerAnswer (r : Req)
  /-- HOST_SOC_TARGET (R67). -/
  | hostSocTarget (r : Req)
  /-- HOST_SOC_TARGET_EXPIRY (R67). -/
  | hostSocTargetExpiry
  /-- ATTRIBUTION_FOLD (R110). -/
  | attributionFold
  /-- FEATURE_FRAME (R166). -/
  | featureFrame (f : FeatIn)
  /-- REFRESH_START (R170). -/
  | refreshStart
  /-- REFRESH_DONE (R171). -/
  | refreshDone (sramFixed : Nat) (dramFixed : Nat) (inferred : List (Nat × Nat))
  /-- REFRESH_DEADLINE_MISS (R163). -/
  | refreshDeadlineMiss
  /-- HOLD_FORECAST (R164). -/
  | holdForecast
  /-- TRAINING_PAIR (R189). -/
  | trainingPair
  /-- LEARNING_STEP (R190). -/
  | learningStep
  /-- CANDIDATE_EVALUATION (R191). -/
  | candidateEvaluation
  /-- RESHARD_BUILD_DONE (R187). -/
  | reshardBuildDone
  /-- RESHARD_SHADOW_COMPARE (R187). -/
  | reshardShadowCompare (upset : Bool)
  /-- MODEL_LOAD (R180). -/
  | modelLoad (r : Req)
  /-- MODEL_LOAD_DONE (R180). -/
  | modelLoadDone (slot : Nat) (sig : Sig)
  /-- MODEL_SELECT (R182). -/
  | modelSelect (r : Req)
  /-- CLEAR_SLOT (R182). -/
  | clearSlot (r : Req)
  /-- REVERT_SIGNED_WEIGHTS (R192). -/
  | revertSignedWeights (r : Req)
  /-- DAMAGED_SLOT_FETCH (R181). -/
  | damagedSlotFetch (slot : Nat) (mirror : Option Nat)
  /-- UNCORRECTABLE_ERROR (R160). -/
  | uncorrectableError (held : ErrHeld) (place : ErrAt)
  /-- SCRUB_READ (R159). -/
  | scrubRead (corrected : Bool)
  /-- BOND_CRC_FAIL (R158). -/
  | bondCrcFail (channel : Nat) (addr : Nat) (data : List Nat) (crc : Nat) (first : Bool) (held : ErrHeld)
  /-- ENGINE_TEMPERATURE (R145). -/
  | engineTemperature (m : EngMeas)
  /-- FAST_MODE_EXIT (R155). -/
  | fastModeExit
  /-- LEASE_RENEWAL (R317). -/
  | leaseRenewal
  /-- LEASE_WORD_RECEIVED (R318). -/
  | leaseWordReceived (onLine : Bool) (word : Word) (hello : Option PeerHello)
  /-- LEASE_CLAIM (R319). -/
  | leaseClaim
  /-- DRIVE_EN_TIMEOUT (R320). -/
  | driveEnTimeout
  /-- LOCKSTEP_MISMATCH (R489). -/
  | lockstepMismatch
  /-- DRIVE_CONFLICT (R322). -/
  | driveConflict (both : Bool)
  /-- EXPLICIT_RELEASE (R335). -/
  | explicitRelease (why : RelReason)
  /-- SISTER_BLOCK_RECEIVED (R326). -/
  | sisterBlockReceived (lane : Nat) (k : BlockIn)
  /-- LANE_DOWN (R326). -/
  | laneDown (lane : Nat)
  /-- LANE_RETRAINED (R326). -/
  | laneRetrained (lane : Nat)
  /-- SISTER_LINK_LOST (R326). -/
  | sisterLinkLost
  /-- STATE_RECORD (R328). -/
  | stateRecord (k : RecordIn)
  /-- STATE_RECORD_DEADLINE_MISS (R327). -/
  | stateRecordDeadlineMiss
  /-- EPOCH_IMAGE_SEND (R329). -/
  | epochImageSend
  /-- EPOCH_IMAGE_RECEIVED (R329). -/
  | epochImageReceived (k : ImageIn)
  /-- HANDOVER_COMMAND (R338). -/
  | handoverCommand (r : Req)
  /-- CLEAR_DRIVE_FAULT (R340). -/
  | clearDriveFault (r : Req)
  /-- REVERT_HANDOVER (R339). -/
  | revertHandover
  /-- SWAP_DRILL (R340). -/
  | swapDrill
  /-- DRILL_END (R340). -/
  | drillEnd
  /-- PEER_ABSENT (R341). -/
  | peerAbsent
  /-- REPLACEMENT_ADOPTION (R358). -/
  | replacementAdoption (r : Req)
  /-- KEY_ENROLMENT (R357). -/
  | keyEnrolment (r : Req)
  /-- NODE_TABLE_WRITE (R417). -/
  | nodeTableWrite (r : Req)
  /-- FIRMWARE_LOAD (R363). -/
  | firmwareLoad (r : Req) (sig : Sig)
  /-- ACTIVATE_BANK (R363). -/
  | activateBank (r : Req)
  /-- COMMIT_TRIAL (R364). -/
  | commitTrial (r : Req)
  /-- TRIAL_BOOT_FAILED (R364). -/
  | trialBootFailed
  /-- TRIAL_AUTO_COMMIT (R364). -/
  | trialAutoCommit
  /-- EVIDENCE_REQUEST (R370). -/
  | evidenceRequest (r : Req)
  /-- ON_DEMAND_SEAL (R136). -/
  | onDemandSeal (r : Req)
  /-- UNLOCK_GRANT (R374). -/
  | unlockGrant (r : Req)
  /-- END_UNLOCK (R374). -/
  | endUnlock (r : Req)
  /-- UNLOCK_EXPIRY (R374). -/
  | unlockExpiry
  /-- CHALLENGE_EXPIRY (R374). -/
  | challengeExpiry
  /-- PASSPHRASE_VERIFIER (R375). -/
  | passphraseVerifier (r : Req)
  /-- PASSPHRASE_ATTEMPT (R375). -/
  | passphraseAttempt (r : Req)
  /-- PASSPHRASE_REFUSAL_END (R375). -/
  | passphraseRefusalEnd
  /-- ENTROPY_STOP (R347). -/
  | entropyStop
  /-- ENTROPY_RESUME (R347). -/
  | entropyResume
  /-- USER_CALIBRATION_WRITE (R512). -/
  | userCalibrationWrite (r : Req)
  /-- TRACE_ARM (R261). -/
  | traceArm (core : Core5)
  /-- TRACE_SWTRIG (R261). -/
  | traceSwtrig (core : Core5)
  /-- TRACE_TRIGGER (R258). -/
  | traceTrigger
  /-- TRACE_DONE (R258). -/
  | traceDone
  /-- SNAPSHOT_FREEZE (R259). -/
  | snapshotFreeze
  /-- SNAPSHOT_REARM (R259). -/
  | snapshotRearm (r : Req)
  /-- TRACE_CONFIGURATION (R259). -/
  | traceConfiguration (r : Req)
  /-- RECORDER_FRAME (R262). -/
  | recorderFrame (vals : List Word)
  /-- RECORDER_AUTO_STOP (R263). -/
  | recorderAutoStop
  /-- RECORDER_RESUME (R263). -/
  | recorderResume (r : Req)
  /-- EXPORT (R264). -/
  | exportContent (r : Req)
  /-- FIRST_FAULT_CLEAR (R230). -/
  | firstFaultClear (r : Req)
  /-- AUX_SYNC_FUNCTION (R259). -/
  | auxSyncFunction (r : Req)
  /-- IDENTIFY (R451). -/
  | identify (ld : Nat) (lenOk : Bool)
  /-- GET_EVENT_RECORDS (R451). -/
  | getEventRecords (ld : Nat) (lenOk : Bool)
  /-- CLEAR_EVENT_RECORDS (R451). -/
  | clearEventRecords (ld : Nat) (lenOk : Bool) (handles : List Nat)
  /-- GET_EVENT_INTERRUPT_POLICY (R451). -/
  | getEventInterruptPolicy (ld : Nat) (lenOk : Bool)
  /-- SET_EVENT_INTERRUPT_POLICY (R451). -/
  | setEventInterruptPolicy (ld : Nat) (lenOk : Bool) (policy : Word)
  /-- GET_FW_INFO (R451). -/
  | getFwInfo (ld : Nat) (lenOk : Bool)
  /-- GET_SUPPORTED_LOGS (R451). -/
  | getSupportedLogs (ld : Nat) (lenOk : Bool)
  /-- GET_LOG (R451). -/
  | getLog (ld : Nat) (lenOk : Bool)
  /-- IDENTIFY_MEMORY_DEVICE (R441). -/
  | identifyMemoryDevice (ld : Nat) (lenOk : Bool)
  /-- GET_HEALTH_INFO (R451). -/
  | getHealthInfo (ld : Nat) (lenOk : Bool)
  /-- GET_POISON_LIST (R451). -/
  | getPoisonList (ld : Nat) (lenOk : Bool)
  /-- DICTIONARY_PLAIN (R451). -/
  | dictionaryPlain (ld : Nat) (lenOk : Bool) (r : Req)
  /-- OWNER_STAGING_WRITE (R451). -/
  | ownerStagingWrite (ld : Nat) (lenOk : Bool) (session : Option Nat) (counter : Nat) (authOk : Bool) (offset : Nat) (data : List Byte)
  /-- UNSUPPORTED_COMMAND (R451). -/
  | unsupportedCommand (ld : Nat) (opcode : Nat)
  /-- CXL_MEM_READ (R442). -/
  | cxlMemRead (ld : Nat) (offset : Nat) (len : Nat) (uncorrectable : Bool)
  /-- CXL_MEM_WRITE (R442). -/
  | cxlMemWrite (ld : Nat) (offset : Nat) (data : List Byte)
  /-- CXL_LINK_CHANGE (R440). -/
  | cxlLinkChange (ev : CxlEvent)
  /-- DICTIONARY_MIRROR_REFRESH (R446). -/
  | dictionaryMirrorRefresh
  /-- BRIDGE_CRC_FAIL (R461). -/
  | bridgeCrcFail (bridge : Nat) (seq : Nat) (data : List Nat) (crc : Nat) (first : Bool)
  /-- REFERENCE_LOSS (R468). -/
  | referenceLoss
  /-- REFERENCE_RESTORED (R468). -/
  | referenceRestored
  /-- CRYSTAL_LOSS (R469). -/
  | crystalLoss
  /-- CRYSTAL_RETURN (R469). -/
  | crystalReturn
  /-- PLL_LOCK_LOSS (R470). -/
  | pllLockLoss (which : Pll)
  /-- ENGINE_PLL_RELOCK (R470). -/
  | enginePllRelock
  /-- ENGINE_PLL_ENABLE (R485). -/
  | enginePllEnable (core : Core5) (on : Bool)
  /-- SIDEREAL_READ (R485). -/
  | siderealRead (core : Core5)
  /-- READ_CLEAR_REGISTER (R27). -/
  | readClearRegister (core : Core5) (addr : Nat)
  /-- REGISTER_WRITE (R27). -/
  | registerWrite (core : Core5) (addr : Nat) (value : Word)
  /-- ENG_APER_WRITE (R464). -/
  | engAperWrite (core : Core5) (value : Word)
  /-- INTERRUPT_SOURCE (R493). -/
  | interruptSource (target : Core5) (source : Nat) (level : Bool)
  /-- ICU_CLAIM (R495). -/
  | icuClaim (t : Core5)
  /-- ICU_COMPLETE (R497). -/
  | icuComplete (t : Core5) (source : Nat)
  /-- ICU_PSWP (R496). -/
  | icuPswp (t : Core5) (value : Word)
  /-- ICU_SSWP (R496). -/
  | icuSswp (t : Core5) (source : Nat)
  /-- ICU_XSIG (R496). -/
  | icuXsig (t : Core5) (target : Nat) (source : Nat)
  /-- ICU_SWP (R496). -/
  | icuSwp (core : Core5) (w : Nat) (value : Word)
  /-- ICU_ROUTE_WRITE (R498). -/
  | icuRouteWrite (core : Core5) (src : Nat) (target : Nat)
  /-- ICU_FAULT_CLEAR (R504). -/
  | icuFaultClear (core : Core5)
  /-- BUS_PREBIAS_CHECK (R525). -/
  | busPrebiasCheck
  /-- ENGINE_WAKE_COMPLETE (R143). -/
  | engineWakeComplete
  /-- LEARNING_STATE_MIRROR (R192). -/
  | learningStateMirror
  /-- SESSION_OPEN_REASSEMBLY_TIMEOUT (R429). -/
  | sessionOpenReassemblyTimeout
  /-- LINK_BELOW_1150_V (R219). -/
  | linkBelow1150 (phase : Nat)
  /-- LEAD_MERIDIAN_DRIVE (R432). -/
  | leadMeridianDrive
  /-- EPOCH_OWN_GRID_OPEN (R568). -/
  | epochOwnGridOpen (e : EpochIn)
  /-- SISTER_ACK_TIMEOUT (R326). -/
  | sisterAckTimeout (lane : Nat)
  /-- SISTER_IDLE_BLOCK (R326). -/
  | sisterIdleBlock (lane : Nat)
  /-- PASSPHRASE_DURATION_END (R375). -/
  | passphraseDurationEnd (number : Nat)
  deriving DecidableEq, Repr

end Sys2Proof
end

