-- ==== Sys2Proof/Config.lean ====
section
/-! DEFINITION. What an implementation fixes, the free values (constants with no body: nothing can evaluate them), and
the constants of time that several chapters share. -/
namespace Sys2Proof.Config

/-- SHA-256 of a byte string (R134, R244, R346). DESIGN CHOICE (log entry 6): an uninterpreted function. -/
opaque sha256Word : List Nat → BitVec 256

/-- The same as a number below 2^256. -/
def sha256 (l : List Nat) : Nat := (sha256Word l).toNat

/-- A value the spec leaves open, drawn with the state's counter (log entry 10). -/
opaque freeNat : Nat → Nat

/-- A 32-bit value the spec leaves open, drawn with the state's counter (log entry 10). -/
opaque freeWord : Nat → Word

/-- A byte the spec leaves open, drawn with the state's counter (log entry 10). -/
opaque freeByte : Nat → Byte

/-- The result of a loop-engine add, subtract or shift whose exact result does not fit 32 bits (R241, R242 state none; log
entry 12), by operation and exact result. -/
opaque loopOutside : Nat → Int → Word

/-- Whether that result counts as a saturation (log entry 12). -/
opaque loopOutsideSat : Nat → Int → Bool

/-- The result of a loop-engine division of 0 by 0: saturated, but to which end is not stated (R242; log entry 12). -/
opaque loopZeroByZero : Word

/-- The bytes of an HSS signature by the device identity (R346, R354), by leaf index and message (log entry 5). -/
opaque hssSignature : Nat → List Nat → Nat

/-- ML-KEM-768 (R346, R367): the ciphertext to an encapsulation key made with a random value, and the key that it gives the
holder of the decapsulation key (log entry 5). -/
opaque kemCipher : Nat → Nat → Nat
opaque kemShared : Nat → Nat → Nat

/-- The tag of AES-256-GCM (R346), by key, IV, additional data and plaintext (log entry 5). -/
opaque gcmTag : Nat → Nat → List Nat → List Nat → Nat

/-- The OTP revocations that a firmware image asks for (R361), by its hash: the header gives no place for them (log entry 103). -/
opaque imageRevokes : Nat → Nat

/-- The vendor firmware keys (R348): the HSS public key of each slot, as every image carries it (log entry 5). -/
opaque vendorKey : Nat → Nat

/-- What is written at manufacture and the spec gives no value for (R405, R509, R570): by field (log entry 3). -/
opaque factory : Nat → Nat

/-- What the dictionary definitions component of the running image gives for a vendor diagnostic object (R403), by object
number: its type (0), apply class (1), persistence (2), lowest (3) and highest (4) value and default (5), described to the
Vendor only (log entry 15). -/
opaque vendorDef : Nat → Nat → Nat

/-- A learned step rate at a pace code, in 1/65,535 (R96): by the draw of its learning (log entry 16). -/
opaque learnedRate : Nat → Nat → Nat

/-- A field of a learned Almanac element (R59, R96): by the draw of its learning and the field (log entry 16). -/
opaque learnedAlm : Nat → Nat → Nat

/-- A function of the vector units that R153 bounds in ulp and does not give, by function and FP32 operand (log entry 13). -/
opaque vectorUnit : Nat → Nat → Nat

/-- Identifier (0), version (1) and hash (2) of the reference loop program (R244), by the version of the running image: part of
the image, not given (log entry 13). -/
opaque loopReference : Nat → Nat → Nat

/-- A byte of the reference package (R173), by the version of the running image and offset: part of the image, not given (log
entry 13). -/
opaque referenceByte : Nat → Nat → Nat

/-- An attribute of a node (R177), by opcode, attribute bytes and number: their layout by opcode is not given (log entry 92). -/
opaque nodeAttr : Nat → List Nat → Nat → Nat

/-- An element of a STATE tensor before the first refresh that carries it (R176), FP32, by tensor and element (log entry 92). -/
opaque firstState : Nat → Nat → Nat

/-- A feature of the frames before the first one formed (R168), FP32, by feature (log entry 92). -/
opaque firstFeature : Nat → Nat

/-- A sum in fast mode (R155), FP32, by mapping and operands: the order of the array is not given (log entry 13). -/
opaque fastSum : Nat → List Nat → Nat

/-- The gradient of the loss of a batch (R190), FP32, by the BF16 outputs and the targets of the batch, the weights and inputs
they come from, tensor and element: how the kinks of the loss and each operator are differentiated is not given (log entry 111).
-/
opaque gradient : List Nat → List Nat → List Nat → Nat → Nat → Nat

/-- Control clocks of one loop sample: 4 µs of 5 ns (R13, R240). -/
abbrev sampleClocks : Nat := 800

/-- Control clocks of one epoch: 1 ms (R44). -/
abbrev epochClocks : Nat := 200000

/-- Epochs of one metering minute (R130). -/
abbrev minuteEpochs : Nat := 60000

/-- Loop samples of one epoch (R240). -/
abbrev epochSamples : Nat := 250

end Sys2Proof.Config
end

