-- ==== Sys2Proof/Machine/State.lean ====
section
/-! DEFINITION. The state of the VL860 as plain data: everything the spec gives the module, by chapter, and the queue of
waiting commands. Each field cites the rule that names it and its value after reset. -/
namespace Sys2Proof

/-- The inputs of R243 before any sample has been latched. -/
def SampleIn.zero : SampleIn :=
  { dieC := 25, bus1 := 0, bus2 := 0, fault1 := false, fault2 := false, strV := ⟨0, 0⟩, linkV := ⟨0, 0⟩,
    iPhase := List.replicate 24 0, iStr := ⟨0, 0⟩ }

namespace Machine

/-- A sparse table from keys to numbers: keys strictly rising, no entry equal to 0 (what an unlisted key reads as). -/
abbrev SMap := List (Nat × Nat)

/-- Byte memory by offset: addresses strictly rising, no entry equal to 0 (what an unlisted address reads as). -/
abbrev Memory := List Host.Cell

/-- Why the machine stops. -/
inductive Fault where
  /-- A CXL.mem access beyond the address space of its logical device (R441): raised by the CXL.mem rows. Safe: the
  spec gives such an address no meaning. -/
  | noSuchAddress (ld offset : Nat)
  deriving DecidableEq, Repr

/-- Why a command is refused. -/
inductive Refusal where
  /-- The command has no meaning yet: raised by the dispatch alone. Safe. -/
  | notModelled (mnemonic : String)
  deriving DecidableEq, Repr

/-- Module states (R471, R472). -/
inductive MState where
  | noSupply
  | umbra
  | watch
  | live
  | holdup
  | recovery
  deriving DecidableEq, Repr

/-- What holds a module in Watch (R406, object 0x0010 values 3 to 5). -/
inductive WatchHold where
  | none
  | position
  | layer
  | peerVersion
  deriving DecidableEq, Repr

/-- What a shelf last reported in its active heartbeat (R38, R422). -/
structure ShelfView where
  inService : Bool
  rectifiers : Nat
  input : Nat
  strPower : Int
  soc : Nat
  euse : Nat
  phases : Nat
  missed : Nat
  heard : Bool
  slot : Nat
  deriving DecidableEq, Repr

def ShelfView.none : ShelfView :=
  { inService := false, rectifiers := 0, input := 0, strPower := 0, soc := 0, euse := 0, phases := 0, missed := 0,
    heard := false, slot := 0 }

/-- An urgent cap frame kept for R84: the latest of its sender, and what it announced (R83, R425). -/
structure CapMark where
  sender : Nat
  epoch : Nat
  counter : Nat
  allowance : Nat
  cap : Nat
  ceilings : List Nat
  deriving DecidableEq, Repr

/-- A commit of the metering state (R527, R529): what is committed, and whether its marker is that of a complete flush. -/
structure Commit where
  epoch : Nat
  sidereal : Nat
  cum : Nat
  cumUJ : Nat
  cumStr : Two Int
  minuteNo : Nat
  mOpen : Bool
  mStart : Nat
  mPeak : Nat
  mOver : Nat
  mEmSec : Nat
  mSoc : Nat
  socNow : Nat
  mMinAllow : Nat
  mFill : Nat
  mStr : Int
  mFlags : Nat
  emCount : Nat
  chain : Nat
  flushed : Bool
  deriving DecidableEq, Repr

/-- The commit of the attribution table (R527, R531): the values of objects 0x3100 and 0x3101, the fold carry, and the
shelf gross energy metered so far, µJ. -/
structure AttrCommit where
  vals : SMap
  carry : Int
  gross : Int
  deriving DecidableEq, Repr

/-- Engine states (R142). -/
inductive EngState where
  | dark
  | idle
  | running
  | fault
  deriving DecidableEq, Repr

/-- The five slots as R198 states: the reference package in service in slot 0, the others empty. The header fields of slot 0 are
read from the package of the running image. -/
def Slot.initial : List Slot :=
  [{ Slot.empty with state := 3, signer := 0xFF, divisor := 1, resident := true }, Slot.empty, Slot.empty, Slot.empty,
   Slot.empty]

/-- A value of a tensor (R146): NaN, an infinity, or a sign with the exact magnitude `num / den` × 2^(-149). -/
inductive Exact where
  | nan
  | inf (neg : Bool)
  | fin (neg : Bool) (num den : Nat)
  deriving DecidableEq, Repr

/-- The inputs of a refresh (R168, R176): its number and control clock, and the fine and coarse windows, newest frame first. -/
structure RefPoint where
  number : Nat
  clock : Nat
  fine : List (List Word)
  coarse : List (List Word)
  deriving DecidableEq, Repr

/-- A training pair (R189): the inputs of a refresh, and the realised 100 µs means of the four lanes over its 500 points, W. -/
structure TrainPair where
  inp : RefPoint
  real : List Word
  deriving DecidableEq, Repr

/-- A forecast frame (R169): values in the order of its layout, FP32 patterns. -/
structure Forecast where
  valid : Bool
  hold : Bool
  blended : Bool
  swap : Bool
  carried : Bool
  slot : Nat
  mapping : Nat
  epoch : Nat
  start : Nat
  weight : Nat
  learned : Nat
  hash : Nat
  vals : List Word
  deriving DecidableEq, Repr

def Forecast.none : Forecast :=
  { valid := false, hold := true, blended := false, swap := false, carried := false, slot := 0, mapping := 0, epoch := 0,
    start := 0, weight := 0, learned := 0, hash := 0, vals := [] }

/-- String states of the converter (R225). -/
inductive SState where
  | off
  | precharge
  | ready
  | softStart
  | run
  | hiccup
  | latched
  | ovLatch
  | zeroing
  | isolated
  deriving DecidableEq, Repr

/-- The code of a string state (R225). -/
def SState.code : SState → Nat
  | .off => 0
  | .precharge => 1
  | .ready => 2
  | .softStart => 3
  | .run => 4
  | .hiccup => 5
  | .latched => 6
  | .ovLatch => 7
  | .zeroing => 8
  | .isolated => 9

/-- The converter state of one string (R202, R207, R212, R215, R216, R225). -/
structure Conv where
  /-- R225. -/
  st : SState
  /-- R202: direction charge. -/
  charge : Bool
  /-- R202: samples the reference has held the opposite sign. -/
  dirCnt : Nat
  /-- R232: ENA. -/
  ena : Bool
  /-- R216: fold-back in force. -/
  fold : Bool
  /-- R216: I_s above twice the rating limits the references to 2 × I_ph. -/
  fold2 : Bool
  /-- R216: budget b, ns. -/
  budget : Nat
  /-- R216: |Σ i| of the last 100 epochs, mA, newest first. -/
  isHist : List Nat
  /-- R215: control clocks of a hiccup that are left. -/
  hicLeft : Nat
  /-- R215: retries. -/
  retries : Nat
  /-- R215: the string holds its own latch. -/
  ownLatch : Bool
  /-- R212: V_ss in µV, 0 outside soft start. -/
  vss : Nat
  /-- R212: the crossing has been reached in the present sample. -/
  crossed : Bool
  /-- R224: where zeroing leads. -/
  after : SState
  /-- R205: last phase fired (0 to 11 in the string). -/
  rot : Nat
  /-- R207: a phase that has joined and fires at the next trigger. -/
  joined : Option Nat
  /-- R205: the phase a trigger waits for. -/
  waiting : Option Nat
  /-- R213: the trigger comparator is blanked. -/
  blank : Bool
  /-- R207: consecutive samples below the shed threshold. -/
  dwell : Nat
  /-- R208: samples of suspension left after soft start. -/
  noShed : Nat
  /-- R207: phases shed, 12 bits. -/
  shed : Nat
  /-- R221: the link is being discharged. -/
  equal : Bool
  /-- R525: a soft start has been tried since the precharge. -/
  tried : Bool
  /-- R206: per-phase ticks of the last sharing warning, (phase, tick). -/
  shareTicks : List (Nat × Nat)
  deriving DecidableEq, Repr

def Conv.reset : Conv :=
  { st := .off, charge := false, dirCnt := 0, ena := false, fold := false, fold2 := false, budget := 15000000000,
    isHist := [], hicLeft := 0, retries := 0,
    ownLatch := false, vss := 0, crossed := false, after := .off, rot := 11, joined := none, waiting := none,
    blank := false, dwell := 0,
    noShed := 0, shed := 0, equal := false, tried := false, shareTicks := [] }

/-- A loop-engine context (R241, R242): registers and data memory as 32-bit words, eight Q16.48 accumulators, the flag of
the last compare, the clock of the pass. -/
structure LoopCtx where
  regs : SMap
  mem : SMap
  memNew : SMap
  accs : List Int
  less : Bool
  pc : Nat
  clk : Nat
  ended : Bool
  dirty : Bool
  out : List (Nat × Int)
  deriving DecidableEq, Repr

def LoopCtx.reset : LoopCtx :=
  { regs := [], mem := [], memNew := [], accs := List.replicate 8 0, less := false, pc := 0, clk := 40, ended := false,
    dirty := false, out := [] }

/-- A loop program slot (R244, R254, R265) with the instructions in its bank and the initial data words. `state`: 0 empty, 1
loading, 2 verified, 3 in service. -/
structure ProgSlot where
  state : Nat
  result : Nat
  ident : Nat
  version : Nat
  hash : Nat
  code : List Nat
  data : List Nat
  deriving DecidableEq, Repr

def ProgSlot.empty : ProgSlot := { state := 0, result := 0, ident := 0, version := 0, hash := 0, code := [], data := [] }

/-- Slot 0 holds the reference program, in service (R244, R265). -/
def ProgSlot.reference : ProgSlot := { ProgSlot.empty with state := 3 }

/-- The energy sums of a string (R286), in J, and its state of charge in 0.01 %. -/
structure Sums where
  e : Nat
  emin : Nat
  emax : Nat
  soc : Nat
  deriving DecidableEq, Repr

def Sums.zero : Sums := { e := 0, emin := 0, emax := 0, soc := 0 }

/-- Roles of a module (R407). -/
inductive RedRole where
  | active
  | standby
  | alone
  | noRole
  deriving DecidableEq, Repr

/-- The sums of one phase for the check of R336: of the open epoch, |COT_IREF| and COT_IREF in Q8.24 A and COT_IMEAS in mA; of
the epochs that count, COT_IREF, COT_IMEAS and their samples. -/
structure PhaseSum where
  abs : Nat
  ref : Int
  meas : Int
  allRef : Int
  allMeas : Int
  n : Nat
  deriving DecidableEq, Repr

/-- The sums at the start of a check. -/
def PhaseSum.zero : PhaseSum := { abs := 0, ref := 0, meas := 0, allRef := 0, allMeas := 0, n := 0 }

/-- One sister-link lane (R324, R326). -/
structure Lane where
  up : Bool
  training : Bool
  txSeq : Nat
  acked : Nat
  expect : Nat
  nakDue : Bool
  idleDue : Bool
  resendFrom : Option Nat
  replays : Nat
  crcFails : Nat
  deriving DecidableEq, Repr

def Lane.reset : Lane :=
  { up := false, training := false, txSeq := 0, acked := 0, expect := 0, nakDue := false, idleDue := false,
    resendFrom := none, replays := 0, crcFails := 0 }

/-- A queued signature (R351). `kind`: 0 hour seal, 1 on-demand seal, 2 evidence; `contract` is the contract hash in force
at the minute of a seal (R136). -/
structure SignJob where
  kind : Nat
  minute : Nat
  root : Nat
  contract : Nat
  role : Nat
  nonce : Nat
  deriving DecidableEq, Repr

/-- An open session (R366, R367, R375) with its keys and IV prefixes by direction. `promoted` marks a Public session
that a passphrase made a Service session, `till` the tick at which that ends. -/
structure Session where
  number : Nat
  role : Role
  key : Nat
  link : Link
  rx : Nat
  tx : Nat
  opened : Nat
  used : Nat
  promoted : Bool
  scopes : Nat
  till : Nat
  kRd : Nat
  kDr : Nat
  sRd : Nat
  sDr : Nat
  deriving DecidableEq, Repr

/-- A grant in force (R374). -/
structure Grant where
  signer : Nat
  scopes : Nat
  duration : Nat
  service : Nat
  bytes : Nat
  since : Nat
  deriving DecidableEq, Repr

/-- An entry of the factory calibration layer (R509): channel, form, gain error in 10^-9, offset in 1/16 of its unit, gain
change per °C in 10^-9. -/
structure CalEntry where
  channel : Nat
  form : Nat
  gain : Int
  offset : Int
  temp : Int
  deriving DecidableEq, Repr

/-- A firmware bank (R361, R378): its image's versions, the revocations it asks for, and its components,
kind and hash in ascending kind. `state`: 0 empty, 1 valid, 2 trial, 3 running, 4 rejected. -/
structure Bank where
  state : Nat
  version : Nat
  security : Nat
  revoke : Nat
  comps : List (Nat × Nat)
  deriving DecidableEq, Repr

/-- R565: the reference firmware in bank A, running. -/
def Bank.shipped : Bank :=
  { state := 3, version := 0, security := 0, revoke := 0,
    comps := [(1, Config.factory 8), (2, Config.factory 9), (3, Config.factory 10)] }

def Bank.empty : Bank := { state := 0, version := 0, security := 0, revoke := 0, comps := [] }

/-- A dictionary response (R386). -/
structure Resp where
  op : Nat
  result : Nat
  transaction : Nat
  object : Nat
  element : Nat
  ext : Nat
  more : Bool
  source : Nat
  count : Nat
  offset : Nat
  snapshot : Nat
  value : List Nat
  deriving DecidableEq, Repr

/-- The frames the module sends (R414, R416). -/
inductive Body where
  | pace (p : Pace)
  | cap (p : Cap)
  | beat (p : Beat)
  | key (p : KeyChunk)
  | ask (node : Nat)
  | reply (p : Resp)
  | opened (k : Nat)
  deriving DecidableEq, Repr

/-- A frame queued for transmission (R306, R418). -/
structure Frame where
  ident : Nat
  size : Nat
  dest : Nat
  epoch : Nat
  counter : Nat
  tag : Tag
  body : Body
  deriving DecidableEq, Repr

/-- A session-open message under reassembly (R429): its link and identifier, the segment index due next, and its bytes so far. -/
structure Reasm where
  link : Link
  ident : Nat
  next : Nat
  bytes : List Nat
  deriving DecidableEq, Repr

/-- A mailbox completion (R451, R452): the return code (0 Success, 1 Invalid Input, 2 Unsupported, 3 Internal Error), the
opcode answered and the payload's figures. -/
structure MailOut where
  ld : Nat
  opcode : Nat
  code : Nat
  payload : List Nat
  deriving DecidableEq, Repr

/-- A CXL.mem response (R442, R454): the data, all ones where refused, and the uncorrectable error status. -/
structure MemOut where
  ld : Nat
  data : List Byte
  error : Bool
  deriving DecidableEq, Repr

/-- The content of ICU_FAULT (R504). -/
structure IcuFault where
  count : Nat
  target : Nat
  cause : Nat
  source : Nat
  deriving DecidableEq, Repr

/-- A fault record (R227): the head and the body's 96 bytes as a little-endian value. `tick` orders it for R230; a `blank`
element failed its CRC and reads as zeros (R401). -/
structure Record where
  block : Nat
  severity : Nat
  cause : Nat
  active : Bool
  sidereal : Nat
  epoch : Nat
  seq : Nat
  repeats : Nat
  merged : Bool
  mstate : Nat
  body : Nat
  tick : Nat
  blank : Bool
  deriving DecidableEq, Repr

/-- A pending value (R21, R22): object, element, value, class and the boundary tick from which it may apply. -/
structure Pend where
  object : Nat
  element : Nat
  value : Nat
  cls : Nat
  due : Nat
  deriving DecidableEq, Repr

/-- A staged segmented write (R392, R393); `resv` tells that a segment's header had a reserved field set (R390). -/
structure Staged where
  object : Nat
  element : Nat
  count : Nat
  session : Option Nat
  bytes : List Nat
  whole : Nat
  resv : Bool
  deriving DecidableEq, Repr

/-- A response that waits (R330, R395): the session or link it belongs to, where it goes and to which node, and whether it waits
for the standby's acknowledgement. -/
structure Held where
  key : Nat
  link : Link
  dest : Nat
  resp : Resp
  waits : Bool
  deriving DecidableEq, Repr

/-- The always-on domain, the power states and the clocks (17_module_internals.md, 20_startup_power_loss.md). -/
structure Power where
  /-- R471 R472 the module state. -/
  mstate : MState
  /-- R513 die temperature latched with the last sample, °C. -/
  dieC : Int
  /-- R406 what holds the module in Watch (object 0x0010 values 3 to 5). -/
  hold : WatchHold
  /-- R484 AON_PSTATE WAKE, cause of the last start. -/
  wake : Nat
  /-- R484 R520 AON_PSTATE PFW, power-fail warning present. -/
  pfw : Bool
  /-- R484 AON_PSTATE SUPSTR, string-fed supply carrying the module. -/
  supStr : Bool
  /-- R484 AON_PSTATE SUP54, 54 V input within range. -/
  sup54 : Bool
  /-- R484 AON_PSTATE LIVEREQ. -/
  liveReq : Bool
  /-- R528 the hold-up flush is complete. -/
  flushed : Bool
  /-- R485 R14 sidereal counter, 48 bits. -/
  sidereal : Nat
  /-- R485 AON_SIDH, captured bits 47 to 32. -/
  sidh : Nat
  /-- R485 AON_CLK SIDHOLD. -/
  sidHold : Bool
  /-- R485 AON_CLK HOLDOVER. -/
  holdover : Bool
  /-- R485 AON_CLK EPLL_LOCK. -/
  eplLock : Bool
  /-- R485 AON_CLK EPLL_EN. -/
  eplEn : Bool
  /-- R485 AON_CLK YPLL_LOCK. -/
  yplLock : Bool
  /-- R485 AON_CLK CPLL_LOCK. -/
  cplLock : Bool
  /-- R485 AON_CLK CRYSLOSS (W1C). -/
  crysLoss : Bool
  /-- R485 AON_CLK REFLOSS (W1C). -/
  refLoss : Bool
  /-- R468 the reference is absent. -/
  refGone : Bool
  /-- R486 AON_LEASE LSMM. -/
  lsmm : Bool
  /-- R486 AON_XLOST LOST, 11 bits (W1C). -/
  xlost : Nat
  /-- R476 events of pulse crossing Pi not acknowledged: one, and those held. -/
  pulseCount : SMap
  /-- R486 AON_XDROP[i], 32 bits each (RC). -/
  xdrop : SMap
  /-- R487 tick plus 1 of a crossing's last record, by 32 × class + index. -/
  xTicks : SMap
  /-- R461 failed attempts of the flit in progress, per bridge. -/
  bridgeTries : SMap
  /-- R461 retrains of the last second: key 16 × tick + bridge, value their number. -/
  bridgeTrains : SMap
  /-- R462 failed bridges. -/
  bridgeFailed : List Nat
  /-- R470 a record of block 9 cause 0x04 is due after the restart. -/
  pllRecord : Bool
  /-- R525 R89 tick of the entry to Live. -/
  liveTick : Nat
  /-- R525 cause 0x0C has been written in this Live. -/
  prebiasRec : Bool
  /-- R464 ENG_APER BASE, 7 bits. -/
  aper : Nat
  /-- R463 words written to the RT pair's data memory, the service-core SRAM and the MRAM region, by address. -/
  ram : SMap
  /-- R463 R464 bus errors counted per target block (key: block number, or 65,536 + the 64 KiB page). -/
  busErrors : SMap
  /-- R360 R468 R470 a restart is due: its WAKE value. -/
  wakeNext : Option Nat
  /-- R35 R549 shelf index from the straps, 2 bits. -/
  strapShelf : Nat
  /-- R35 R549 slot letter from the straps: B. -/
  strapB : Bool
  /-- R36 R549 the strap pattern is valid. -/
  strapsOk : Bool
  /-- R405 R570 serial number, 32 bits (factory). -/
  serial : Nat
  /-- R348 identity hash, 256 bits (factory). -/
  ident : Nat
  /-- R527 R529 last commit with a valid marker (MRAM). -/
  commit : Option Commit
  /-- R527 R531 last commit of the attribution table (MRAM). -/
  attrCommit : AttrCommit
  deriving DecidableEq, Repr

/-- Power after reset. -/
def Power.reset : Power :=
  { mstate := .watch, dieC := 25, hold := .none, wake := 0, pfw := false, supStr := false, sup54 := false, liveReq := false,
    flushed := false, sidereal := 0, sidh := 0, sidHold := false, holdover := false, eplLock := false,
    eplEn := false, yplLock := false, cplLock := false, crysLoss := false, refLoss := false, refGone := false,
    lsmm := false, xlost := 0, pulseCount := [], xdrop := [], xTicks := [], bridgeTries := [], bridgeTrains := [],
    bridgeFailed := [], pllRecord := false, liveTick := 0, prebiasRec := false, aper := 0, ram := [],
    busErrors := [], wakeNext := none, strapShelf := 0, strapB := false, strapsOk := true, serial := 0,
    ident := 0, commit := none, attrCommit := { vals := [], carry := 0, gross := 0 } }

/-- The epoch clock, the plan and the twilight (02_energy_plan.md). -/
structure Epo where
  /-- R45 R522 epoch count, 48 bits. -/
  count : Nat
  /-- R44 epochs opened since start: the model's millisecond count. -/
  ticks : Nat
  /-- R46 R240 loop sample in the epoch, 0 to 249. -/
  sample : Nat
  /-- R327 samples since the module's start. -/
  samples : Nat
  /-- R53 control clocks since the epoch opened, as counted by its samples. -/
  clk : Nat
  /-- R568 a meridian pulse has been accepted since start. -/
  firstPulse : Bool
  /-- R47 residual grid error, control clocks. -/
  gridErr : Int
  /-- R432 a pulse was accepted and its blanking has not ended. -/
  lastEdge : Bool
  /-- R45 epoch of the last pace frame accepted. -/
  lastPace : Option Nat
  /-- R50 plan n. -/
  planN : Plan
  /-- R50 R51 plan n+1 once its frame has been accepted. -/
  planNext : Option Plan
  /-- R55 twilight length announced for the next boundary, µs. -/
  ttw : Nat
  /-- R53 the twilight of the next boundary has started. -/
  twRunning : Bool
  /-- R51 the twilight blends a complete plan. -/
  twPlan : Bool
  /-- R53 control clocks since the twilight start. -/
  m : Nat
  /-- R53 twilight length in control clocks. -/
  bigM : Nat
  /-- R62 storage feedforward of plan n+1 per string, W. -/
  ffNext : Two Int
  /-- R62 storage feedforward of plan n per string, W. -/
  ffNow : Two Int
  /-- R53 blended setpoint of this shelf, µW. -/
  blendSet : Nat
  /-- R53 blended feedforward per string, W. -/
  blendFf : Two Int
  /-- R56 R81 quantities already counted as clamped in this epoch. -/
  clamped : List Nat
  /-- R50 R90 a shadow mismatch has been counted in this epoch. -/
  mismatchThis : Bool
  /-- R90 tick of the last shadow mismatch. -/
  mismatchTick : Nat
  /-- R50 R95 the plan this module forms in shadow. -/
  shadow : Option Plan
  /-- R571 the plan the lead has formed, to be sent. -/
  ownPlan : Option Plan
  /-- R522 epoch until which no new metering minute opens. -/
  noMinuteUntil : Nat
  /-- R60 tick until which a hint holds, per constellation. -/
  hintHold : SMap
  /-- R166 tick at which the phase in force began, per constellation. -/
  phaseSince : SMap
  /-- R60 Almanac phase in force per constellation (0xFE, 0xFF as R81). -/
  phaseNow : List Nat
  /-- R60 consecutive epochs of disagreement per constellation. -/
  mismatchRun : SMap
  /-- R60 the engine's inferred phase per constellation, plus 1. -/
  inferred : SMap
  /-- R60 the inference that stood when the twilight now running started. -/
  inferredDue : SMap
  /-- R66 object 0x4004 low half: functions falling back. -/
  fallback : Nat
  /-- R60 object 0x4004 high half: hint mismatch per constellation. -/
  hintBad : Nat
  deriving DecidableEq, Repr

/-- Epo after reset. -/
def Epo.reset : Epo :=
  { count := 0, ticks := 0, sample := 0, samples := 0, clk := 0, firstPulse := false, gridErr := 0,
    lastEdge := false, lastPace := none, planN := Plan.none, planNext := none, ttw := 250, twRunning := false,
    twPlan := false, m := 0, bigM := 50000, ffNext := ⟨0, 0⟩, ffNow := ⟨0, 0⟩, blendSet := 0, blendFf := ⟨0, 0⟩,
    clamped := [], mismatchThis := false, mismatchTick := 0, shadow := none, ownPlan := none,
    noMinuteUntil := 0, hintHold := [], phaseNow := List.replicate 16 255, mismatchRun := [], inferred := [],
    inferredDue := [], phaseSince := [],
    fallback := 0, hintBad := 0 }

/-- The rack lead, the shelves it hears and the allocator (03_rack_allocation.md). -/
structure Lead where
  /-- R82 R89 lease holder known to this module, slot index. -/
  holder : Option Nat
  /-- R88 this module holds the rack lead lease. -/
  isLead : Bool
  /-- R89 latest EXPIRY heard, low 16 bits. -/
  expiry : Option Nat
  /-- R89 own epoch count at the entry to Live. -/
  entryEpoch : Nat
  /-- R88 R91 CLAIM is set in own heartbeats. -/
  claiming : Bool
  /-- R88 R94 RELEASE is set in the next heartbeat. -/
  releasing : Bool
  /-- R91 e_L of the election in progress. -/
  elapsed : Option Nat
  /-- R92 the relaxed round runs. -/
  relaxed : Bool
  /-- R92 the rounds of this election repeat. -/
  again : Bool
  /-- R91 slot indices whose claims were heard. -/
  claims : List Nat
  /-- R91 the next pace frame carries NEWLEAD. -/
  newLead : Bool
  /-- R432 R91 the module drives the meridian line. -/
  drives : Bool
  /-- R432 meridian pulses driven. -/
  pulseOut : Nat
  /-- R38 R422 what each shelf last reported. -/
  shelves : List ShelfView
  /-- R422 this shelf's own figures for its heartbeat. -/
  own : ShelfView
  /-- R99 throttle ceiling per constellation, 255 none. -/
  throttle : List Nat
  /-- R100 restore delay per constellation, epochs. -/
  restoreDelay : List Nat
  /-- R100 tick at which all flags of a constellation were clear. -/
  clearSince : SMap
  /-- R100 tick of the last removal of a throttle ceiling. -/
  removedAt : SMap
  /-- R100 tick of the last local-limit flag. -/
  flaggedAt : SMap
  /-- R105 object 0x3051: held constellations. -/
  held : Nat
  /-- R106 held constellations, latest first. -/
  holdOrder : List Nat
  /-- R106 consecutive epochs with the release conditions. -/
  holdGood : Nat
  /-- R105 G1, W. -/
  g1 : Int
  /-- R105 a fall of the allowance is being handled. -/
  falling : Bool
  /-- R105 the allowance for which G1 was formed. -/
  g1For : Option Nat
  /-- R105 storage has reached the reserve. -/
  reserveHit : Bool
  /-- R97 R112 rack allowance in force, W. -/
  allowance : Nat
  /-- R83 cap sequence, 16 bits. -/
  capSeq : Nat
  /-- R39 shelves that left service: their next planned setpoint rises from 0 kW, 4 bits. -/
  fromZero : Nat
  /-- R84 the urgent cap frames kept, latest of each sender. -/
  capMarks : List CapMark
  /-- R111 object 0x3010: pace codes in force. -/
  paceNow : List Nat
  /-- R102 filler words in force. -/
  fillNow : List Nat
  /-- R75 object 0x3020: nadir floors. -/
  nadir : List Nat
  /-- R71 members in force: chip slot to constellation + 1. -/
  members : SMap
  /-- R74 object 0x3060: accepted pace tables by chip slot (LE value of 516 bytes). -/
  tables : SMap
  /-- R74 tables that replace others at the next class-E boundary. -/
  tablesNext : SMap
  /-- R71 R74 tables as they are to be at the boundary whose twilight runs. -/
  tablesDue : SMap
  /-- R71 presence per tray as it is to be at that boundary (mask + 1). -/
  presDue : SMap
  /-- R21 the two are set for the boundary whose twilight runs. -/
  snap : Bool
  /-- R77 chips that leave at the next class-E boundary (value 1). -/
  leaving : SMap
  /-- R71 R86 reported presence mask per tray (value + 1). -/
  present : SMap
  /-- R86 R99 local-limit mask per tray. -/
  limited : SMap
  /-- R99 effective pace code per chip slot whose local-limit flag is set (code + 1). -/
  limChips : SMap
  /-- R82 role of the latest heartbeat per slot index (role + 1). -/
  roles : SMap
  /-- R77 R110 consecutive windows without a record per tray. -/
  absent : SMap
  /-- R77 epochs the tray's slots have stayed frozen, plus 1. -/
  frozenFor : SMap
  /-- R77 trays whose chips left by absence (value 1). -/
  left : SMap
  /-- R166 chip-reported power of constellations in the last folded window, W. -/
  chipPower : List Nat
  /-- R97 chip-reported power of the rack in the last folded window, W. -/
  chipAll : Nat
  /-- R96 steps observed per constellation. -/
  steps : SMap
  /-- R96 draw of the learned step rates per constellation, plus 1. -/
  rates : SMap
  /-- R87 R422 event reports not yet acknowledged: tray, counter. -/
  acks : List (Nat × Nat)
  /-- R87 acknowledgements are suppressed. -/
  ackOff : Bool
  /-- R422 the acknowledgement of the latest heartbeat. -/
  ackSent : Option (Nat × Nat)
  /-- R104 filler proposals by epoch, the last three. -/
  proposals : List (Nat × List Nat)
  /-- R104 host answers by epoch, the last three. -/
  answers : List (Nat × List Nat)
  /-- R64 consecutive epochs without a valid host table. -/
  hostMiss : Nat
  /-- R64 consecutive valid host tables. -/
  hostGood : Nat
  /-- R64 the learned allocator has taken over. -/
  hostOut : Bool
  /-- R448 weights read at the last fold, key 1,024 × tray + 32 × slot-on-tray + partition. -/
  inbox : SMap
  /-- R110 filler was in force in the present window per constellation. -/
  lastFill : List Bool
  /-- R110 filler was in force in the last complete window per constellation. -/
  fillPrev : List Bool
  /-- R444 R448 end epoch of the last folded window. -/
  foldEnd : Nat
  /-- R109 step counter last folded per chip slot (counter + 1). -/
  stepCnt : SMap
  /-- R166 step rate per constellation in the last folded window, steps/s. -/
  stepRate : List Nat
  /-- R110 carry, µJ. -/
  carry : Int
  /-- R110 shelf gross energy of the window, µJ. -/
  winEnergy : Int
  /-- R110 shelf gross energy of the last complete window, µJ. -/
  winPrev : Int
  /-- R67 boundary tick from which the host target's validity counts. -/
  targetSince : Nat
  deriving DecidableEq, Repr

/-- Lead after reset. -/
def Lead.reset : Lead :=
  { holder := none, isLead := false, expiry := none, entryEpoch := 0, claiming := false, releasing := false,
    elapsed := none, relaxed := false, again := false, claims := [], newLead := false, drives := false, pulseOut := 0,
    shelves := List.replicate 4 ShelfView.none, own := ShelfView.none, throttle := List.replicate 16 255,
    restoreDelay := List.replicate 16 200, clearSince := [], removedAt := [], flaggedAt := [], held := 0,
    holdOrder := [], holdGood := 0, g1 := 0, falling := false, g1For := none, reserveHit := false,
    allowance := 0, capSeq := 0, fromZero := 0, capMarks := [], paceNow := List.replicate 16 0, fillNow := List.replicate 16 0,
    nadir := List.replicate 16 0, members := [], tables := [], tablesNext := [], tablesDue := [], presDue := [],
    snap := false, leaving := [], present := [], limited := [], limChips := [], roles := [], absent := [],
    frozenFor := [], left := [], chipPower := List.replicate 16 0, chipAll := 0, steps := [], rates := [],
    acks := [], ackOff := false, ackSent := none, proposals := [], answers := [], hostMiss := 0, hostGood := 0,
    hostOut := false, inbox := [], lastFill := List.replicate 16 false, fillPrev := List.replicate 16 false,
    foldEnd := 0, stepCnt := [], stepRate := List.replicate 16 0, carry := 0, winEnergy := 0, winPrev := 0,
    targetSince := 0 }

/-- The contract, the limits, metering and the record chain (04_facility_contract.md). -/
structure Fac where
  /-- R126 emergency minutes used in the contract day. -/
  emCount : Nat
  /-- R126 the present minute is counted. -/
  emThis : Bool
  /-- R125 epoch in which the announcement was accepted. -/
  announcedAt : Nat
  /-- R132 cumulative shelf input energy, mJ, 64 bits. -/
  cum : Nat
  /-- R129 part of the input energy below 1 mJ, µJ. -/
  cumUJ : Nat
  /-- R527 cumulative string-side energy per string, µJ. -/
  cumStr : Two Int
  /-- R130 number of the open minute. -/
  minuteNo : Nat
  /-- R130 a minute is open. -/
  mOpen : Bool
  /-- R132 cumulative counter at the minute's start, mJ. -/
  mStart : Nat
  /-- R130 peak second so far, W. -/
  mPeak : Nat
  /-- R130 seconds over cap so far. -/
  mOver : Nat
  /-- R130 emergency seconds so far. -/
  mEmSec : Nat
  /-- R130 shelf state of charge at the minute's start, 0.01 %. -/
  mSoc : Nat
  /-- R130 lowest rack allowance in the minute, kW. -/
  mMinAllow : Nat
  /-- R130 R132 filler energy of the minute, mJ. -/
  mFill : Nat
  /-- R130 net string-side energy of the minute, µJ. -/
  mStr : Int
  /-- R131 flags of the open minute, 16 bits. -/
  mFlags : Nat
  /-- R132 energy of the present second, µJ. -/
  secE : Nat
  /-- R132 epochs metered in the present second. -/
  secN : Nat
  /-- R132 sum of the shelf ceiling over the second, W. -/
  secCeil : Nat
  /-- R130 an emergency limit was in force in the second. -/
  secEm : Bool
  /-- R128 epochs of the minute with a current out of the accuracy range. -/
  metroSec : Nat
  /-- R134 chain head: digest of the latest minute, 256 bits. -/
  chain : Nat
  /-- R133 R135 event log ring, 4,096 entries (LE value of 32 bytes). -/
  events : SMap
  /-- R133 event entries written since manufacture. -/
  eventN : Nat
  /-- R135 minute records ring, 10,080 (LE value of 64 bytes). -/
  minutes : SMap
  /-- R135 minute records written. -/
  minuteN : Nat
  /-- R135 object 0x2020: latest minute record. -/
  latest : Nat
  /-- R135 R136 hour seals ring, 168 (value with length mark). -/
  seals : SMap
  /-- R135 hour seals written. -/
  sealN : Nat
  /-- R136 contract hash at the last minute of each of the last 168 hours, by minute number. -/
  hourHash : SMap
  /-- R401 the elements of objects 0x2020 to 0x2023 that failed their CRC and are not yet taken from the standby's mirror. -/
  lost : List (Nat × Nat)
  /-- R522 R512 flags that the next minute opened carries. -/
  nextFlags : Nat
  /-- R533 the facility feed is declared lost. -/
  feedLost : Bool
  /-- R567 nominal input voltage U_n, V. -/
  un : Nat
  /-- R551 R33 healthy rectifier modules by bit, 8 bits. -/
  rectOk : Nat
  /-- R84 R569 shelf ceiling in force, W. -/
  ceiling : Nat
  /-- R116 ramp limiter output, µW. -/
  y : Nat
  /-- R116 up credit, µW. -/
  cu : Nat
  /-- R116 down credit, µW. -/
  cd : Nat
  /-- R550 SEQ of the next RECT_SET word, 4 bits. -/
  rectSeq : Nat
  /-- R550 the RECT_SET word last sent. -/
  rectWord : Word
  /-- R422 shelf input power, mean over the last complete epoch, W. -/
  lastIn : Nat
  /-- R422 string-side power, mean over the last complete epoch, W. -/
  lastStr : Int
  /-- R166 string-side power per string over the last epoch, W. -/
  lastStr2 : Two Int
  /-- R121 hash of the contract in force. -/
  contractHash : Nat
  /-- R117 protection or a takeover has acted in the present epoch. -/
  stepDue : Bool
  deriving DecidableEq, Repr

/-- Fac after reset. -/
def Fac.reset : Fac :=
  { emCount := 0, emThis := false, announcedAt := 0, cum := 0, cumUJ := 0, cumStr := ⟨0, 0⟩, minuteNo := 0, mOpen := false,
    mStart := 0, mPeak := 0, mOver := 0, mEmSec := 0, mSoc := 0, mMinAllow := 0, mFill := 0, mStr := 0,
    mFlags := 0, secE := 0, secN := 0, secCeil := 0, secEm := false, metroSec := 0, chain := 0, events := [],
    eventN := 0, minutes := [], minuteN := 0, latest := 0, seals := [], sealN := 0, hourHash := [], lost := [], nextFlags := 0,
    feedLost := false, un := 800, rectOk := 0, ceiling := 0, y := 0, cu := 0, cd := 0, rectSeq := 0,
    rectWord := 0#32, lastIn := 0, lastStr := 0, lastStr2 := ⟨0, 0⟩, contractHash := 0,
    stepDue := false }

/-- The Ephemeris engine: states, memory, models, mappings, learning (05_forecast_engine.md, 06_models_learning.md). -/
structure Eng where
  /-- R142 R165 object 0x4181: engine state. -/
  state : EngState
  /-- R143 the wake from Dark is in progress. -/
  waking : Bool
  /-- R145 the temperature lowers the effective power limit. -/
  hot : Bool
  /-- R145 Fault was entered for temperature. -/
  hotFault : Bool
  /-- R165 junction temperature, 0.1 °C. -/
  temp : Int
  /-- R165 mean power over 10 ms, W. -/
  power : Nat
  /-- R165 tile utilisation, 0.01 %. -/
  tiles : Nat
  /-- R165 DRAM bandwidth used, 0.01 %. -/
  dramUse : Nat
  /-- R160 epoch boundaries until the weights in tile SRAM are reloaded (0: they are sound). -/
  corrupt : Nat
  /-- R139 R179 slot whose weight stripes lie in tile SRAM, 0 to 4. -/
  sram : Option Nat
  /-- R183 refresh rotations of the weight stripes, mod 4. -/
  stripes : Nat
  /-- R158 failed attempts of the transfer in progress per channel. -/
  bondTries : SMap
  /-- R158 retrains of the present second per channel. -/
  bondTrains : SMap
  /-- R159 scrub position, byte offset. -/
  scrubAddr : Nat
  /-- R159 tick at which the present scrub sweep began. -/
  scrubTick : Nat
  /-- R173 R199 object 0x4110: the five model slots. -/
  slots : List Slot
  /-- R182 slot selected for the next boundary. -/
  swapTo : Option Nat
  /-- R54 the swap twilight runs. -/
  swapRun : Bool
  /-- R160 the incoming model alone serves in the swap twilight. -/
  swapAlone : Bool
  /-- R191 the swap twilight that runs adopts the candidate. -/
  adoptDue : Bool
  /-- R182 model swaps cancelled. -/
  swapCancels : Nat
  /-- R180 slots being loaded: the role that commanded the load, plus 1. -/
  loaders : SMap
  /-- R184 R198 mapping in force: 0 serve, 1 burst. -/
  mapping : Nat
  /-- R187 mapping being built or scheduled. -/
  mapNext : Option Nat
  /-- R182 mapping whose build a selection abandoned, to be built after the swap. -/
  rebuild : Option Nat
  /-- R187 the build is complete. -/
  built : Bool
  /-- R187 boundary tick of the scheduled switch. -/
  switchAt : Option Nat
  /-- R187 tick before which no re-shard starts. -/
  noShardBefore : Nat
  /-- R185 consecutive epochs without a burst trigger, up to 50. -/
  calm : Nat
  /-- R170 refresh in progress: epoch and start µs. -/
  started : Option (Nat × Nat)
  /-- R168 feature frames formed and epochs closed since that start. -/
  since : Nat × Nat
  /-- R170 grid instant of the last serve refresh, 100 µs units. -/
  lastGrid : Option Nat
  /-- R176 STATE tensors by lane and tensor, as the last refresh left them. -/
  carried : List (Nat × Nat × List Exact)
  /-- R189 number of the next refresh. -/
  refreshNo : Nat
  /-- R169 latest forecast frame. -/
  frame : Forecast
  /-- R184 the burst view, 100 points per lane. -/
  burst : Forecast
  /-- R172 valid refreshes with the control clock at which they completed, newest first, at most 8. -/
  recent : List (Nat × Forecast)
  /-- R184 first point of the last serve refresh, 100 µs units. -/
  serveAt : Nat
  /-- R164 the twilight that runs returns to the engine forecast. -/
  returning : Bool
  /-- R166 feature frames formed in this epoch. -/
  frameN : Nat
  /-- R168 feature frames of this epoch that the engine has received. -/
  frameE : Nat
  /-- R480 feature frames in FIFO F0 while the engine is stopped, oldest first, at most 8. -/
  feedQ : List (List Word)
  /-- R164 sums of the frames since the last complete 100 µs, as in the lane sums. -/
  partSum : Int × Int × Int
  /-- R164 means over the last epoch, shelf gross power and string-side power of A and B, W, FP32. -/
  lastMeans : List Word
  /-- R168 1 ms means of every feature, newest first. -/
  coarse : List (List Word)
  /-- R184 values of the last serve refresh. -/
  serveVals : List Word
  /-- R164 consecutive valid refreshes. -/
  validRun : Nat
  /-- R164 control clock at which the last valid refresh completed. -/
  lastValid : Nat
  /-- R164 the hold forecast serves. -/
  holdFc : Bool
  /-- R166 latest feature frame. -/
  feats : List Word
  /-- R168 feature frames kept, newest first. -/
  featHist : List (List Word)
  /-- R164 sums of ten frames, shelf gross power and string-side power of A and B, in 2^(-149) W: the 100 µs means of the last
  100 ms, newest first. -/
  laneSums : List (Int × Int × Int)
  /-- R164 rack gross power of the last 100 epochs, W, newest first. -/
  rackMeans : List Int
  /-- R195 blend weight in force, 1/10,000. -/
  blendW : Nat
  /-- R195 missed frames. -/
  blendMiss : Nat
  /-- R195 consecutive missed frames. -/
  missRun : Nat
  /-- R195 consecutive consistent frames. -/
  goodRun : Nat
  /-- R193 host frame in use. -/
  hostFrame : List Word
  /-- R193 target epoch of the frame in use. -/
  hostEpoch : Nat
  /-- R194 first epoch of forecast mode 1. -/
  hostFrom : Nat
  /-- R449 a valid frame for the present epoch was read. -/
  hostOk : Bool
  /-- R198 last mean absolute difference, W. -/
  lastDiff : Nat
  /-- R189 serve refreshes of the last 50 ms, newest first. -/
  refs : List RefPoint
  /-- R189 R190 training pairs, newest first, at most 65,536. -/
  train : List TrainPair
  /-- R189 holdout pairs, newest first, at most 4,096. -/
  holdout : List TrainPair
  /-- R190 number of the last pair drawn for a batch, plus 1. -/
  drawnTo : Nat
  /-- R190 R192 the learning state. -/
  learn : LearnState
  /-- R160 R192 the learning state as last mirrored: the checkpoint. -/
  checkpoint : LearnState
  /-- R192 tick of the last mirror of the learning state. -/
  mirrorTick : Nat
  /-- R191 R197 learned weights in service, by tensor. -/
  learnedW : List (Nat × List Exact)
  /-- R191 R197 candidate weights, by tensor. -/
  candW : List (Nat × List Exact)
  /-- R198 learning steps done. -/
  stepsDone : Nat
  /-- R198 learning steps deferred. -/
  stepsDeferred : Nat
  /-- R191 learned version. -/
  learnVer : Nat
  /-- R198 adoptions. -/
  adoptions : Nat
  /-- R198 candidates rejected. -/
  rejected : Nat
  /-- R192 R198 discarded versions. -/
  discarded : Nat
  /-- R198 holdout error in service (F32 pattern). -/
  errServe : Word
  /-- R198 candidate error (F32 pattern). -/
  errCand : Word
  /-- R191 hash of a passed candidate. -/
  candidate : Option Nat
  /-- R191 its mirror is acknowledged. -/
  candAcked : Bool
  /-- R191 tick of the last adoption. -/
  lastAdopt : Nat
  /-- R191 tick of the last evaluation. -/
  lastEval : Option Nat
  /-- R199 hash of the learned weights in service. -/
  learnHash : Nat
  /-- R192 the standby holds the present learning state. -/
  mirrored : Bool
  /-- R192 the swap twilight that runs reverts to the signed weights. -/
  revert : Bool
  /-- R155 fast mode ends at the next class-E boundary. -/
  fastOut : Bool
  deriving DecidableEq, Repr

/-- Eng after reset. -/
def Eng.reset : Eng :=
  { state := .dark, waking := false, hot := false, hotFault := false, temp := 0, power := 0, tiles := 0,
    dramUse := 0, corrupt := 0, sram := none, stripes := 0, bondTries := [], bondTrains := [], scrubAddr := 0,
    scrubTick := 0, slots := Slot.initial,
    swapTo := none, swapRun := false, swapAlone := false, adoptDue := false, swapCancels := 0, loaders := [],
    mapping := 0, mapNext := none, rebuild := none, built := false, switchAt := none, noShardBefore := 0, calm := 50,
    started := none, since := (0, 0), lastGrid := none, carried := [], refreshNo := 0, frame := Forecast.none,
    burst := Forecast.none, recent := [], serveAt := 0,
    returning := false, frameN := 0, frameE := 0, feedQ := [], partSum := (0, 0, 0), lastMeans := [], coarse := [],
    serveVals := [], validRun := 0, lastValid := 0,
    holdFc := true, feats := [], featHist := [], laneSums := [], rackMeans := [], blendW := 0,
    blendMiss := 0, missRun := 0, goodRun := 0, hostFrame := [], hostEpoch := 0, hostFrom := 0, hostOk := false, lastDiff := 0,
    refs := [], train := [], holdout := [], drawnTo := 0, learn := ⟨[], [], [], 0⟩, checkpoint := ⟨[], [], [], 0⟩,
    mirrorTick := 0, learnedW := [], candW := [], stepsDone := 0, stepsDeferred := 0, learnVer := 0, adoptions := 0,
    rejected := 0,
    discarded := 0, errServe := 0#32, errCand := 0#32, candidate := none, candAcked := false, lastAdopt := 0,
    lastEval := none, learnHash := 0, mirrored := true, revert := false, fastOut := false }

/-- The converter: strings, phases, contactors, protection (07_storage_converter.md). -/
structure Cot where
  /-- R225 R215 R216 per-string converter state. -/
  str : Two Conv
  /-- R234 COT_VREF TARGET, mV, 20 bits. -/
  vTgt : Nat
  /-- R234 R210 V_now, µV. -/
  vNow : Nat
  /-- R234 COT_SLEW SLEW, mV/ms, 15 bits. -/
  slew : Nat
  /-- R212 the string whose start reference V_now follows. -/
  vFollow : Option Str
  /-- R232 COT_CTRL SHED_EN. -/
  shedEn : Bool
  /-- R235 COT_PHEN as written, 24 bits. -/
  phen : Nat
  /-- R203 phases disabled for their identity record, 24 bits. -/
  refused : Nat
  /-- R336 phases removed by the phase check, 24 bits. -/
  checkedOff : Nat
  /-- R235 COT_ACT: phases switching, 24 bits. -/
  active : Nat
  /-- R204 current emulators, mA. -/
  emu : List Int
  /-- R204 emulators at the midpoint of the present sample, mA. -/
  emuMid : List Int
  /-- R204 control clock of the sample to which the emulators have run. -/
  emuClk : Nat
  /-- R201 last edge of each phase's active switch, control clocks from the start of the present sample. -/
  edge : List Int
  /-- R332 on-times of each phase in the open epoch. -/
  onCnt : List Nat
  /-- R332 their sum per phase, control clocks. -/
  onSum : List Nat
  /-- R201 on-time last started per phase, control clocks. -/
  onClk : List Nat
  /-- R212 sample in which the string that V_now follows started. -/
  followAt : Nat
  /-- R201 phases in their on-time, 24 bits. -/
  onTime : Nat
  /-- R236 COT_FLT, 16 bits (W1C). -/
  flt : Nat
  /-- R237 COT_CONT commands: PRE_A, MAIN_A, PRE_B, MAIN_B, 4 bits. -/
  cmd : Nat
  /-- R237 COT_CONT feedback, 4 bits. -/
  fb : Nat
  /-- R238 COT_IREF in force, Q8.24 A. -/
  iref : List Int
  /-- R243 output buffer of phase references, Q8.24 A. -/
  irefBuf : List Int
  /-- R206 sum of the samples of the present 100 ms window per phase, mA. -/
  shareSum : List Int
  /-- R206 samples in the present 100 ms window. -/
  shareN : Nat
  /-- R238 COT_IMEAS, mA. -/
  imeas : List Int
  /-- R215 consecutive limited cycles per phase. -/
  limitedRun : List Nat
  /-- R228 phases whose last cycle ended at the fast limit, 24 bits. -/
  lastLim : Nat
  /-- R217 R220 bus overvoltage latch. -/
  ovLatch : Bool
  /-- R218 phases released under the latch, 24 bits. -/
  ovOff : Nat
  /-- R219 phases held off for their link, 24 bits. -/
  linkOff : Nat
  /-- R203 R239 object 0x5040, 0.1 µH. -/
  induct : List Nat
  /-- R212 R228 bus-sense channel 1, mV. -/
  bus1 : Nat
  /-- R212 R228 bus-sense channel 2, mV. -/
  bus2 : Nat
  /-- R228 string voltages, mV. -/
  strV : Two Nat
  /-- R228 link voltages, mV. -/
  linkV : Two Nat
  deriving DecidableEq, Repr

/-- Cot after reset. -/
def Cot.reset : Cot :=
  { str := ⟨Conv.reset, Conv.reset⟩, vTgt := 800000, vNow := 0, slew := 2000, vFollow := none, shedEn := true,
    phen := 0xFFFFFF, refused := 0, checkedOff := 0, active := 0, onClk := List.replicate 24 0, followAt := 0,
    emu := List.replicate 24 0, emuMid := List.replicate 24 0, emuClk := 0, edge := List.replicate 24 (-4000),
    onCnt := List.replicate 24 0, onSum := List.replicate 24 0,
    onTime := 0, flt := 0, cmd := 0, fb := 0, iref := List.replicate 24 0, irefBuf := List.replicate 24 0,
    shareSum := List.replicate 24 0, shareN := 0, imeas := List.replicate 24 0,
    limitedRun := List.replicate 24 0, lastLim := 0, ovLatch := false, ovOff := 0, linkOff := 0,
    induct := List.replicate 24 0, bus1 := 0, bus2 := 0, strV := ⟨0, 0⟩, linkV := ⟨0, 0⟩ }

/-- The loop engine and the Parallax check (08_loop_engine.md). -/
structure Lpe where
  /-- R242 program context. -/
  prog : LoopCtx
  /-- R242 shadow context. -/
  shad : LoopCtx
  /-- R254 LPE_CTRL RUN. -/
  run : Bool
  /-- R254 LPE_CTRL SHADOW_EN. -/
  shadowEn : Bool
  /-- R254 LPE_CTRL SELCH. -/
  selCh : Bool
  /-- R255 LPE_STAT OVR (W1C). -/
  ovrFlag : Bool
  /-- R255 LPE_STAT SAT (W1C). -/
  satFlag : Bool
  /-- R255 LPE_STAT OVRCNT, 8 bits. -/
  ovrCnt : Nat
  /-- R255 LPE_STAT SRC: 0 program, 1 fixed law, 2 open-loop. -/
  src : Nat
  /-- R255 LPE_STAT SEL: channel 2 selected. -/
  sel : Bool
  /-- R255 LPE_STAT IMPL1, IMPL2. -/
  impl : Bool × Bool
  /-- R251 consecutive samples beyond the band per channel. -/
  overBand : Nat × Nat
  /-- R251 consecutive samples within the band per channel. -/
  inBand : Nat × Nat
  /-- R251 decimator fault or reading out of range per channel. -/
  chFault : Bool × Bool
  /-- R255 LPE_CYC LASTCYC, 16 bits. -/
  lastCyc : Nat
  /-- R255 LPE_CYC MAXCYC, 16 bits (RC). -/
  maxCyc : Nat
  /-- R255 LPE_SHD CLEAN of the shadow context, 11 bits. -/
  clean : Nat
  /-- R249 consecutive clean background passes, 11 bits. -/
  cleanBg : Nat
  /-- R250 bus model, Q16.48 V. -/
  vhat : Int
  /-- R250 disturbance, Q16.48 A. -/
  idist : Int
  /-- R250 residuals, Q16.48 V. -/
  resid : Int × Int
  /-- R248 fixed-law integrators, Q16.48 A. -/
  xs : Two Int
  /-- R248 the fixed law's phase references, Q8.24 A. -/
  law : List Int
  /-- R265 object 0x5052: program in service. -/
  slotNow : Nat
  /-- R265 object 0x5051 element 1. -/
  slot1 : ProgSlot
  /-- R265 object 0x5051 element 0. -/
  slot0 : ProgSlot
  /-- R410 slot-1 hash of the standby. -/
  peerHash : Nat
  /-- R245 R254 a checked load of slot 1 is authorised. -/
  loadFor : Bool
  /-- R245 offset in the Owner staging area and length of the image that is loading. -/
  loadAt : Nat × Nat
  /-- R247 the fixed law takes charge at the next clock 0. -/
  takeover : Bool
  /-- R249 the program returns at the next clock 0. -/
  progReturn : Bool
  /-- R249 the program returns at the next sample 0 of an epoch. -/
  returnAtEpoch : Bool
  /-- R256 instruction at the deadline. -/
  abortPc : Nat
  /-- R243 the inputs latched at clock 0. -/
  latched : SampleIn
  deriving DecidableEq, Repr

/-- Lpe after reset. -/
def Lpe.reset : Lpe :=
  { prog := LoopCtx.reset, shad := LoopCtx.reset, run := false, shadowEn := true, selCh := false,
    ovrFlag := false, satFlag := false, ovrCnt := 0, src := 0, sel := false, impl := (false, false),
    overBand := (0, 0), inBand := (0, 0), chFault := (false, false), lastCyc := 0, maxCyc := 0, clean := 0,
    cleanBg := 0, vhat := 0, idist := 0, resid := (0, 0), xs := ⟨0, 0⟩, law := List.replicate 24 0,
    slotNow := 0, slot1 := ProgSlot.empty, slot0 := ProgSlot.reference, peerHash := 0, loadFor := false, loadAt := (0, 0),
    takeover := false, progReturn := false, returnAtEpoch := false, abortPc := 0, latched := SampleIn.zero }

/-- The trace buffer, the fault snapshot and the flight recorder (08_loop_engine.md). -/
structure Trc where
  /-- R261 TRC_CTRL PRE, 16 bits. -/
  pre : Nat
  /-- R261 TRC_CTRL DECIM, 4 bits. -/
  decim : Nat
  /-- R261 TRC_CTRL REARM. -/
  rearm : Bool
  /-- R261 TRC_CTRL EN. -/
  en : Bool
  /-- R261 TRC_STAT TPOS, 15 bits. -/
  tpos : Nat
  /-- R261 TRC_STAT DONE. -/
  done : Bool
  /-- R261 TRC_STAT TRIGGERED. -/
  triggered : Bool
  /-- R261 TRC_STAT ARMED. -/
  armed : Bool
  /-- R261 TRC_TRIG. -/
  trig : Word
  /-- R261 TRC_THR. -/
  thr : Word
  /-- R261 TRC_SRC[c], 11 bits each. -/
  src : List Nat
  /-- R258 sample index of the buffer. -/
  pos : Nat
  /-- R258 samples still to be filled after the trigger. -/
  left : Nat
  /-- R542 the external trigger condition. -/
  auxCond : Bool
  /-- R259 R265 object 0xA101: the fault snapshot is enabled. -/
  snapOn : Bool
  /-- R259 a freeze is running its further samples. -/
  snapDue : Bool
  /-- R259 further samples of the snapshot still to be taken. -/
  snapLeft : Nat
  /-- R259 sample index of the snapshot's channels. -/
  snapPos : Nat
  /-- R259 the fault snapshot holds. -/
  snapFrozen : Bool
  /-- R262 R263 the flight recorder runs. -/
  recRun : Bool
  /-- R263 tick at which auto-stop is due. -/
  recStop : Option Nat
  /-- R262 sequence of the next recorder frame, 32 bits. -/
  recSeq : Nat
  /-- R480 recorder frames in FIFO F2 while the engine is stopped, with their numbers, oldest first, at most 64. -/
  recQ : List (Nat × Nat)
  /-- R262 frames in the open segment. -/
  recInSeg : Nat
  /-- R262 segments closed. -/
  segDone : Nat
  /-- R262 R331 segments mirrored. -/
  segMirrored : Nat
  /-- R262 the frame last written (LE value of 272 bytes). -/
  recFrame : Nat
  /-- R258 trace buffer: key 32,768 × channel + sample index. -/
  buf : SMap
  /-- R262 frame number of the next recorder frame in the open epoch. -/
  frameNo : Nat
  /-- R434 rising edges reproduced on AUX_SYNC. -/
  auxPulses : Nat
  /-- R264 last export: content, window, segments lost. -/
  exported : Option (Nat × Nat × Nat)
  deriving DecidableEq, Repr

/-- Trc after reset. -/
def Trc.reset : Trc :=
  { pre := 0x4000, decim := 0, rearm := false, en := false, tpos := 0, done := false, triggered := false,
    armed := false, trig := 0#32, thr := 0#32, src := List.replicate 16 0, pos := 0, auxCond := false,
    snapOn := true, snapDue := false, snapLeft := 0, snapPos := 0, snapFrozen := false, left := 0, recRun := true,
    recStop := none, recSeq := 0, recQ := [],
    recInSeg := 0, segDone := 0, segMirrored := 0, recFrame := 0, buf := [], frameNo := 0, auxPulses := 0, exported := none }

/-- The storage strings: cells, drawers, wires (09_storage_strings.md). -/
structure Strs where
  /-- R273 overvoltage trip latches, key 288 × string + position (value 1). -/
  tripOv : SMap
  /-- R273 undervoltage trip latches. -/
  tripUv : SMap
  /-- R274 trip latches held for the Owner. -/
  tripHeld : SMap
  /-- R274 tick after the last trip of each position. -/
  tripTicks : SMap
  /-- R274 (position, tick) of automatic clears. -/
  clearTicks : List (Nat × Nat)
  /-- R270 R297 object 0x6050 less 0xFFFF default: reading + 1 per position, mV. -/
  readings : SMap
  /-- R270 published mean in µV + 1 per position. -/
  readUv : SMap
  /-- R270 running sum of samples per position, µV. -/
  acc : SMap
  /-- R270 samples summed per position. -/
  accN : SMap
  /-- R270 strobes in the present window. -/
  window : Nat
  /-- R297 object 0x6051 as 1 + state where it differs from 1 (unmeasured). -/
  pstate : SMap
  /-- R297 object 0x6032 as 1 + state where it differs from 3 (untested), key 289 × string + wire. -/
  wires : SMap
  /-- R280 consecutive failing updates of the pair test per wire. -/
  pairRun : SMap
  /-- R280 consecutive failing updates of the single test per position. -/
  singleRun : SMap
  /-- R280 consecutive failing updates of the sum check. -/
  sumRun : Two Nat
  /-- R277 positions bleeding (value 1). -/
  bleed : SMap
  /-- R277 host bleed masks in force. -/
  hostMask : Bool
  /-- R278 string surveyed and next slot. -/
  survey : Option (Str × Nat)
  /-- R278 last slot of the survey in progress. -/
  surveyEnd : Nat
  /-- R278 first result of a wire measured twice, in µV + 1. -/
  steps : SMap
  /-- R281 wires still to be tested. -/
  owt : List (Str × Nat)
  /-- R291 the last open-wire test found an open wire. -/
  owtFound : Two Bool
  /-- R281 the test in progress covers the whole string. -/
  owtWhole : Two Bool
  /-- R281 wires to be tested from the next epoch boundary. -/
  owtDue : List (Str × Nat)
  /-- R288 drawers present, 6 bits. -/
  drawers : Two Nat
  /-- R297 object 0x6055: thermistors, 0.1 °C. -/
  temps : List Int
  /-- R513 temperature of each sense island at the last strobe, °C. -/
  islandC : Two Int
  /-- R279 measured bleed current of each island, as of the last strobe, µA. -/
  bleedUA : Two Nat
  /-- R292 drawers at least 60 °C (with hysteresis), 12 bits. -/
  hot : Nat
  /-- R292 drawers at least 65 °C (with hysteresis), 12 bits. -/
  hot65 : Nat
  /-- R292 drawers at most −20 °C (with hysteresis), 12 bits. -/
  cold : Nat
  /-- R292 invalid thermistors, 48 bits. -/
  thermBad : Nat
  /-- R293 devices whose reports are lost (value 1), key 18 × string + device. -/
  afeMiss : SMap
  /-- R286 E, E_min, E_max and state of charge. -/
  energy : Two Sums
  /-- R287 discharge is blocked. -/
  blockDis : Two Bool
  /-- R287 charge is blocked. -/
  blockChg : Two Bool
  /-- R291 R288 R292 why the string is isolated: bit 0 Owner, bit 1 drawer, bit 2 temperature. -/
  isoCause : Two Nat
  /-- R285 first anchor: v_oc in µV + 1 per position. -/
  anchors : SMap
  /-- R285 charge taken from the position since the anchor, µC, 64-bit two's complement. -/
  anchorQ : SMap
  /-- R285 consecutive rejections per position. -/
  rejects : SMap
  /-- R284 string current at the last strobe, mA. -/
  lastI : Two Int
  /-- R284 sample of the last strobe, µV + 1. -/
  lastUv : SMap
  /-- R269 strobes taken. -/
  strobes : Nat
  /-- R297 sum of readings, mV. -/
  sumMv : Two Nat
  /-- R280 independent string voltage, mV. -/
  indep : Two Nat
  /-- R295 reading changes of the last open-wire test, mV. -/
  injected : Two Nat
  deriving DecidableEq, Repr

/-- Strs after reset. -/
def Strs.reset : Strs :=
  { tripOv := [], tripUv := [], tripHeld := [], tripTicks := [], clearTicks := [], readings := [], readUv := [], acc := [],
    accN := [], window := 0, pstate := [], wires := [], pairRun := [], singleRun := [], sumRun := ⟨0, 0⟩,
    bleed := [], hostMask := false, survey := none, surveyEnd := 0, steps := [], owt := [],
    owtFound := ⟨false, false⟩, owtWhole := ⟨false, false⟩, owtDue := [], drawers := ⟨0x3F, 0x3F⟩,
    temps := List.replicate 48 250, islandC := ⟨25, 25⟩, bleedUA := ⟨150000, 150000⟩, hot := 0,
    hot65 := 0, cold := 0, thermBad := 0, afeMiss := [], energy := ⟨Sums.zero, Sums.zero⟩,
    blockDis := ⟨false, false⟩, blockChg := ⟨false, false⟩, isoCause := ⟨0, 0⟩, anchors := [], anchorQ := [],
    rejects := [], lastI := ⟨0, 0⟩, lastUv := [], strobes := 0, sumMv := ⟨0, 0⟩, indep := ⟨0, 0⟩,
    injected := ⟨0, 0⟩ }

/-- The envelope guard (10_envelope_guard.md). -/
structure Grd where
  /-- R300 R312 INT_BLANK, the integrator layer has not been written. -/
  intBlank : Bool
  /-- R308 Owner commands accepted whose GRD_AUTH bit the security die has still to set, 6 bits. -/
  granted : Nat
  /-- R313 GRD_NAR[q] where it differs from the factory value (value + 1). -/
  nar : SMap
  /-- R313 GRD_VCNT[q] (RC). -/
  vcnt : SMap
  /-- R304 quantities violated in the present epoch. -/
  violThis : List Nat
  /-- R304 violated quantities of the last 256 epochs, newest first. -/
  window : List (List Nat)
  /-- R304 quantities at warning level. -/
  warn : List Nat
  /-- R304 quantities at fault level. -/
  fault : List Nat
  /-- R304 tick + 1 of the last warning per quantity. -/
  warnTick : SMap
  /-- R312 GRD_AUTH, 6 bits. -/
  auth : Nat
  /-- R307 channels cut now: bit 0 A, bit 1 B. -/
  cut : Nat
  /-- R312 CUT_A, CUT_B (W1C). -/
  cutFlag : Nat
  /-- R312 SILENT_A, SILENT_B. -/
  silent : Nat
  /-- R307 (channel, tick) of recent cuts. -/
  cutTicks : List (Nat × Nat)
  /-- R312 LAYER_ERR. -/
  layerErr : Bool
  /-- R314 last value clamped. -/
  lastClamped : Nat
  /-- R314 source of that value: 0 RT pair, 1 loop engine. -/
  lastSrc : Nat
  /-- R314 last quantity clamped. -/
  lastQ : Nat
  /-- R305 (contactor, tick) of closes: 0 PRE_A, 1 MAIN_A, 2 PRE_B, 3 MAIN_B. -/
  closeTicks : List (Nat × Nat)
  /-- R305 commands held back: contactor, close. -/
  heldCmd : List (Nat × Bool)
  deriving DecidableEq, Repr

/-- Grd after reset. -/
def Grd.reset : Grd :=
  { intBlank := true, granted := 0, nar := [], vcnt := [], violThis := [], window := [], warn := [],
    fault := [], warnTick := [], auth := 0, cut := 0, cutFlag := 0, silent := 0, cutTicks := [],
    layerErr := false, lastClamped := 0, lastSrc := 0, lastQ := 255, closeTicks := [], heldCmd := [] }

/-- The active and standby modules: lease, link, fitness (11_redundancy.md). -/
structure Red where
  /-- R407 role of this module. -/
  role : RedRole
  /-- R341 a peer is heard. -/
  peerHere : Bool
  /-- R318 last lease word of the peer. -/
  peerWord : Word
  /-- R319 the peer's lease is valid in this module's view. -/
  peerHold : Bool
  /-- R341 dictionary major version of the peer. -/
  peerMajor : Nat
  /-- R486 AON_LEASE VALID. -/
  timerOk : Bool
  /-- R486 AON_LEASE REMAIN, reference clocks, 16 bits. -/
  remain : Nat
  /-- R480 L1, drive request. -/
  driveReq : Bool
  /-- R320 DRIVE_EN. -/
  driveEn : Bool
  /-- R322 tick of the last assertion of DRIVE_EN. -/
  drvTick : Nat
  /-- R318 SEQ of the next lease word, 8 bits. -/
  seq : Nat
  /-- R318 lease word last sent. -/
  wordOut : Word
  /-- R317 this module holds the shelf lease. -/
  holding : Bool
  /-- R523 this module claimed and no further word has passed. -/
  claimed : Bool
  /-- R333 drive fault of this module. -/
  driveFault : Bool
  /-- R318 lease words ignored. -/
  ignored : Nat
  /-- R324 R326 the sister-link lanes. -/
  lanes : Two Lane
  /-- R326 the sister link is up. -/
  linkUp : Bool
  /-- R345 the lease line carries valid words. -/
  lineOk : Bool
  /-- R329 epoch of the complete epoch image held. -/
  image : Option Nat
  /-- R330 the dictionary copy of the standby is current. -/
  current : Bool
  /-- R333 consecutive records in time, up to 1,000. -/
  recordsOk : Nat
  /-- R332 consecutive agreements of the input digest, up to 1,000. -/
  inAgree : Nat
  /-- R328 consecutive samples in agreement, up to 250. -/
  stAgree : Nat
  /-- R332 agreements of the forecast hash, up to 100. -/
  fcAgree : Nat
  /-- R332 consecutive disagreements of the forecast hash. -/
  fcMiss : Nat
  /-- R332 forecast hash the active module reported. -/
  peerFc : Option Nat
  /-- R417 static encapsulation key of the peer, as received over the sister link. -/
  peerEncap : Nat
  /-- R345 fitness word the peer last sent on stream 5. -/
  peerFitness : Nat
  /-- R341 R358 identity hash of the peer. -/
  peerIdent : Nat
  /-- R341 R358 identity hash of the replacement adopted. -/
  adoptedPeer : Option Nat
  /-- R333 both modules run the same firmware version. -/
  fwSame : Bool
  /-- R328 record to be adopted at the second sample start. -/
  adopt : Option RecordIn
  /-- R328 sample starts until the adoption. -/
  adoptIn : Nat
  /-- R343 last record verified. -/
  recSeq : Nat
  /-- R343 samples since the last record. -/
  recAge : Nat
  /-- R338 boundary tick of a planned handover. -/
  handover : Option Nat
  /-- R335 RELEASE is set in the present record. -/
  relSet : Bool
  /-- R343 reason of the release in progress. -/
  relWhy : Nat
  /-- R343 kind of the takeover or handover in progress. -/
  relKind : Nat
  /-- R340 minute at which the running drill ends. -/
  drill : Option Nat
  /-- R340 this module is the original module of the drill. -/
  drillOrig : Bool
  /-- R339 the slot active before the last takeover (true: B). -/
  origB : Option Bool
  /-- R339 consecutive minutes with the peer FIT. -/
  fitMin : Nat
  /-- R332 tick of the last cause 0x07 record. -/
  digTick : Option Nat
  /-- R518 user calibration layer of the peer, as its last image gave it. -/
  peerLayer : Option Nat
  /-- R336 a phase check runs. -/
  checking : Bool
  /-- R336 epochs left of the phase check. -/
  checkLeft : Nat
  /-- R336 sums of the phases over the open epoch and over the epochs that count. -/
  checkSums : List PhaseSum
  /-- R336 samples in the open epoch's sums. -/
  checkN : Nat
  /-- R336 failing phases. -/
  failMask : Nat
  /-- R330 R395 responses that wait for the standby's acknowledgement, or behind one that does, oldest first. -/
  forwards : List Held
  /-- R327 sample sequence of the last state record frozen. -/
  frozenRec : Nat
  /-- R327 R328 the record this module last froze. -/
  frozen : Option RecordIn
  /-- R332 consecutive epochs in which the PWM seen differs, up to 3. -/
  pwmMiss : Nat
  /-- R332 agreeing epochs since. -/
  pwmGood : Nat
  /-- R332 the PWM comparison holds OUTPUTS at 0. -/
  pwmBad : Bool
  /-- R340 minute of the last drill begun or skipped. -/
  lastDrill : Option Nat
  /-- R327 input and output digests of the last frozen record. -/
  digests : Nat × Nat
  /-- R329 epoch of the last epoch image sent. -/
  imageSent : Nat
  /-- R331 mirrors sent. -/
  mirrorsSent : Nat
  deriving DecidableEq, Repr

/-- Red after reset. -/
def Red.reset : Red :=
  { role := .noRole, peerHere := false, peerWord := 0#32, peerHold := false, peerMajor := 1, timerOk := false,
    remain := 0, driveReq := false, driveEn := false, drvTick := 0, seq := 0, wordOut := 0#32, holding := false,
    claimed := false, driveFault := false, ignored := 0, lanes := ⟨Lane.reset, Lane.reset⟩, linkUp := false,
    lineOk := false, image := none, current := true, recordsOk := 0, inAgree := 1000, stAgree := 250,
    fcAgree := 100, fcMiss := 0, peerFc := none, peerEncap := 0, peerFitness := 0, peerIdent := 0,
    adoptedPeer := none, fwSame := false, adopt := none, adoptIn := 0, recSeq := 0, recAge := 0,
    handover := none, relSet := false, relWhy := 0, relKind := 0, drill := none, drillOrig := false,
    origB := none, fitMin := 0, digTick := none, peerLayer := none, checking := false, checkLeft := 0,
    checkSums := List.replicate 24 PhaseSum.zero, checkN := 0, failMask := 0,
    forwards := [], frozenRec := 0, frozen := none, pwmMiss := 0, pwmGood := 0, pwmBad := false, lastDrill := none,
    digests := (0, 0), imageSent := 0, mirrorsSent := 0 }

/-- The security die: keys, sessions, access, banks (12_trust_keys.md). -/
structure Sec where
  /-- R349 next leaf index, 25 bits. -/
  q : Nat
  /-- R349 CTR_LEAF. -/
  ctrLeaf : Nat
  /-- R350 lower tree built. -/
  lowerTree : Option Nat
  /-- R351 signing queue, in order of arrival. -/
  queue : List SignJob
  /-- R352 signatures counted today: Owner, Tenant. -/
  day : Two Nat
  /-- R352 metering day of the counts. -/
  dayNo : Nat
  /-- R347 the entropy source passes its health tests. -/
  entropyOk : Bool
  /-- R358 expected Owner and Tenant key hashes. -/
  expected : Option (Nat × Nat)
  /-- R366 open sessions. -/
  sessions : List Session
  /-- R365 next session number. -/
  nextSess : Nat
  /-- R374 grant in force. -/
  grant : Option Grant
  /-- R374 nonce of the outstanding challenge, 256 bits. -/
  challenge : Nat
  /-- R374 epoch in which the challenge was issued. -/
  issued : Nat
  /-- R375 consecutive passphrase failures. -/
  passFails : Nat
  /-- R375 a refusal period runs. -/
  passWait : Bool
  /-- R375 length of the last refusal period, min. -/
  passPeriod : Nat
  /-- R375 tick of the last attempt. -/
  passTick : Option Nat
  /-- R378 R565 object 0x8063: the banks A and B. -/
  banks : Two Bank
  /-- R407 bank B runs. -/
  bankB : Bool
  /-- R364 the bank that ran before the trial. -/
  prevB : Bool
  /-- R364 the running bank is in trial. -/
  trial : Bool
  /-- R364 failed trial boots. -/
  trialFails : Nat
  /-- R364 a record of severity 3 from block 8 was written in the trial. -/
  trialBad : Bool
  /-- R378 rollback counter. -/
  rollback : Nat
  /-- R363 activation accepted: the bank to run after the restart. -/
  activate : Option Bool
  /-- R357 tick of the last cold start. -/
  cold : Option Nat
  /-- R354 R361 vendor slots revoked in OTP, 4 bits. -/
  revoked : Nat
  /-- R365 the last session-open response: result and session number. -/
  sessOut : Option (Nat × Nat)
  /-- R365 the response to the last session open, 2,232 bytes (LE value). -/
  sessResp : Nat
  /-- R557 bytes of the image that recovery hold has taken on J7. -/
  recImage : List Nat
  /-- R426 group key in force. -/
  keyCur : Option Nat
  /-- R426 previous group key. -/
  keyPrev : Option Nat
  /-- R426 pending group key. -/
  keyNext : Option Nat
  /-- R426 e_k. -/
  keySwitch : Nat
  /-- R426 epoch from which the key has been in force. -/
  keySince : Nat
  /-- R427 chunks collected. -/
  keyChunks : List Nat
  /-- R427 e_k of the chunks collected. -/
  keyChunkEpoch : Nat
  /-- R427 key frames queued by the lead. -/
  keyBlocks : Nat
  /-- R425 last accepted (epoch, counter) per source and identifier: key 4,096 × source + identifier, value 65,536 × epoch +
  counter + 1. -/
  fresh : SMap
  /-- R428 tick + 1 of the last answer per node index. -/
  keyAsked : SMap
  /-- R352 tenths of the leaves already recorded. -/
  usedWarn : Nat
  /-- R352 the leaf reserve has been recorded. -/
  reserveRec : Bool
  /-- R509 the factory calibration layer: the entries whose trims are not all zero, by rising channel. -/
  calFactory : List CalEntry
  /-- R362 firmware measurement. -/
  fwMeasure : Nat
  deriving DecidableEq, Repr

/-- Sec after reset. -/
def Sec.reset : Sec :=
  { q := 0, ctrLeaf := 0, lowerTree := none, queue := [], day := ⟨0, 0⟩, dayNo := 0, entropyOk := true,
    expected := none, sessions := [], nextSess := 1, grant := none, challenge := 0, issued := 0, passFails := 0,
    passWait := false, passPeriod := 0, passTick := none, banks := ⟨Bank.shipped, Bank.empty⟩, bankB := false,
    prevB := false, trial := false, trialFails := 0, trialBad := false, rollback := 0, activate := none,
    cold := some 0, revoked := 0, sessOut := none, sessResp := 0, recImage := [], keyCur := none, keyPrev := none,
    keyNext := none,
    keySwitch := 0, keySince := 0, keyChunks := [], keyChunkEpoch := 0, keyBlocks := 0, fresh := [],
    keyAsked := [], usedWarn := 0, reserveRec := false, calFactory := [], fwMeasure := 0 }

/-- The field-network transmitter and the CXL attachment (15_field_network.md, 16_cxl_attachment.md). -/
structure Net where
  /-- R306 R418 frames waiting on FN-A, in queue order. -/
  txA : List Frame
  /-- R306 R418 frames waiting on FN-B. -/
  txB : List Frame
  /-- R418 frame being sent on FN-A. -/
  onA : Option Frame
  /-- R418 frame being sent on FN-B. -/
  onB : Option Frame
  /-- R418 frames completed in this epoch, newest first. -/
  sent : List Frame
  /-- R306 own transmissions of the last 10 ms: channel, start and duration in ns. -/
  txLog : List (Nat × Nat × Nat)
  /-- R87 frames received in the last 10 ms: channel, time and duration in ns. -/
  rxLog : List (Nat × Nat × Nat)
  /-- R306 a frame waited in this epoch. -/
  waited : Bool
  /-- R306 tick of the last cause 0x03 record. -/
  waitTick : Option Nat
  /-- R425 sender counter per identifier. -/
  txCtr : SMap
  /-- R83 R421 the periodic cap frame of this epoch. -/
  capFrame : Option Frame
  /-- R421 an urgent cap frame has replaced it. -/
  capGone : Bool
  /-- R83 cause that the next periodic cap frame carries. -/
  capCause : Nat
  /-- R422 tick + 1 at which the last heartbeat was queued. -/
  beatAt : Nat
  /-- R428 tick + 1 of the last key request sent. -/
  askTick : Nat
  /-- R408 channels enabled by object 0x1000 since the start. -/
  chans : Nat
  /-- R408 R412 20 Mbit/s data phase since the start. -/
  fast : Bool
  /-- R437 bad tags and stranger frames of the last second: key 2 × tick + kind, value their number. -/
  badLog : SMap
  /-- R437 ticks of the last causes 0x03 and 0x06. -/
  badTick : Option Nat × Option Nat
  /-- R408 tick + 1 at which each node index was last heard. -/
  heard : SMap
  /-- R155 tick + 1 of the last heartbeat of another controller. -/
  peerBeat : Nat
  /-- R429 the session-open message under reassembly. -/
  reasm : Option Reasm
  /-- R408 object 0x1011 link state: 0 down, 1 training, 2 up. -/
  cxl : Nat
  /-- R408 trained width of the CXL link. -/
  cxlWidth : Nat
  /-- R408 rate of the CXL link, GT/s. -/
  cxlRate : Nat
  /-- R408 logical devices bound, 4 bits. -/
  cxlBound : Nat
  /-- R408 retrains since start. -/
  retrains : Nat
  /-- R157 the DRAM stack, bytes by offset in the 72 GB. -/
  dram : Memory
  /-- R454 General Media Event Records: handle, logical device, window offset. -/
  evRecords : List (Nat × Nat × Nat)
  /-- R451 next event record handle. -/
  evHandle : Nat
  /-- R451 event interrupt policy per logical device. -/
  policy : List Word
  /-- R442 tick of the last cause 0x10 record. -/
  roTick : Option Nat
  /-- R446 mirror sequence. -/
  mirrorSeq : Nat
  /-- R446 snapshot epoch of the mirrors. -/
  mirrorEpoch : Nat
  /-- R446 archive header sequence. -/
  archiveSeq : Nat
  /-- R446 forecast frames published. -/
  viewCount : Nat
  /-- R446 burst frames published. -/
  burstCount : Nat
  /-- R443 telemetry records written. -/
  telemetry : Nat
  /-- R451 R452 the last mailbox completion. -/
  mailOut : Option MailOut
  /-- R442 R454 the last CXL.mem response. -/
  memOut : Option MemOut
  deriving DecidableEq, Repr

/-- Net after reset. -/
def Net.reset : Net :=
  { txA := [], txB := [], onA := none, onB := none, sent := [], txLog := [], rxLog := [], waited := false,
    waitTick := none, txCtr := [], capFrame := none, capGone := false, capCause := 0, beatAt := 0, askTick := 0,
    chans := 3, fast := false, badLog := [], badTick := (none, none), heard := [], peerBeat := 0,
    reasm := none, cxl := 0, cxlWidth := 0, cxlRate := 0, cxlBound := 0, retrains := 0, dram := [],
    evRecords := [], evHandle := 0, policy := List.replicate 4 0#32, roTick := none, mirrorSeq := 0,
    mirrorEpoch := 0, archiveSeq := 0, viewCount := 0, burstCount := 0, telemetry := 0, mailOut := none,
    memOut := none }

/-- The interrupt controller (18_cores_interrupts.md). -/
structure Icu where
  /-- R506 ICU_EN[w], 32 bits each, w = 1 to 15. -/
  en : SMap
  /-- R506 ICU_SWP[w], 32 bits each. -/
  swp : SMap
  /-- R492 levels of the shared sources, by word. -/
  lvl : SMap
  /-- R507 ICU_PEN per target. -/
  pen : SMap
  /-- R507 ICU_PSWP per target. -/
  pswp : SMap
  /-- R501 levels of the private sources per target. -/
  plvl : SMap
  /-- R506 ICU_ROUTE[s] TARGET where it differs from its reset (value + 1). -/
  route : SMap
  /-- R505 active source per target. -/
  active : SMap
  /-- R505 SPUR per target, 16 bits (RC). -/
  spur : SMap
  /-- R504 ICU_FAULT. -/
  fault : Option IcuFault
  /-- R504 ROUTEREJ, 16 bits (RC). -/
  routeRej : Nat
  deriving DecidableEq, Repr

/-- Icu after reset. -/
def Icu.reset : Icu :=
  { en := [], swp := [], lvl := [], pen := [], pswp := [], plvl := [], route := [], active := [], spur := [],
    fault := none, routeRej := 0 }

/-- Fault records (07_storage_converter.md, 21_load_faults_service.md). -/
structure Rec where
  /-- R230 fault ring, newest first, at most 512. -/
  ring : List Record
  /-- R227 records written since manufacture. -/
  seq : Nat
  /-- R230 object 0xA001. -/
  first : Option Record
  deriving DecidableEq, Repr

/-- Rec after reset. -/
def Rec.reset : Rec :=
  { ring := [], seq := 0, first := none }

/-- The object dictionary (13_dictionary_model.md, 14_dictionary_reference.md). -/
structure Dic where
  /-- R382 values in force where they differ from the default: key 2^24 × object + element, value + 1. -/
  vals : SMap
  /-- R22 pending values. -/
  pend : List Pend
  /-- R393 staged segmented writes. -/
  staged : List Staged
  /-- R386 the last response sent. -/
  resp : Option Resp
  /-- R386 where it was sent. -/
  respTo : Option Link
  /-- R394 per session: last request, kept response and its tick. -/
  kept : List (Nat × Req × Resp × Nat)
  /-- R463 data of the last register read. -/
  reg : Word
  /-- R463 the last register access completed with a bus error. -/
  busErr : Bool
  /-- the model's counter of free values drawn. -/
  free : Nat
  deriving DecidableEq, Repr

/-- Dic after reset. -/
def Dic.reset : Dic :=
  { vals := [], pend := [], staged := [], resp := none, respTo := none, kept := [], reg := 0#32,
    busErr := false, free := 0 }

/-- The whole machine: the groups of state and the queue of waiting commands, first in, first out. -/
structure State where
  power : Power
  epo : Epo
  lead : Lead
  fac : Fac
  eng : Eng
  cot : Cot
  lpe : Lpe
  trc : Trc
  strs : Strs
  grd : Grd
  red : Red
  sec : Sec
  net : Net
  icu : Icu
  recs : Rec
  dic : Dic
  pending : List Instr
  deriving DecidableEq, Repr

/-- The module right after reset: a module as shipped (R565), just entered into Watch (AON_PSTATE STATE, R484), with an
empty queue. -/
def State.reset : State :=
  { power := Power.reset, epo := Epo.reset, lead := Lead.reset, fac := Fac.reset, eng := Eng.reset,
    cot := Cot.reset, lpe := Lpe.reset, trc := Trc.reset, strs := Strs.reset, grd := Grd.reset,
    red := Red.reset, sec := Sec.reset, net := Net.reset, icu := Icu.reset, recs := Rec.reset, dic := Dic.reset,
    pending := [] }

end Machine

end Sys2Proof
end

