-- ==== Sys2Proof/Machine/Ops.lean ====
section
/-! DEFINITION. The named operations shared by every chapter: sparse tables, byte memory, bits of a register held as a
number, little-endian byte strings, and arithmetic with a stated rounding. -/
namespace Sys2Proof.Machine

/-- What a command answers. -/
abbrev Out := Host.Outcome State Fault Refusal

/-- One meaning after another: the second runs on the first's next state. -/
def andThen (o : Out) (f : State → Out) : Out :=
  match o with
  | .next s => f s
  | .fault r => .fault r
  | .refused r => .refused r

/-- The state a meaning answers, or the given one where it stops. -/
def stateOr (o : Out) (s : State) : State :=
  match o with
  | .next t => t
  | .fault _ => s
  | .refused _ => s

/-! ## Sparse tables -/

/-- The value listed under a key, 0 where none is. -/
def mget : SMap → Nat → Nat
  | [], _ => 0
  | (k', v) :: rest, k => if k' = k then v else mget rest k

/-- Remove a key. -/
def mdel (m : SMap) (k : Nat) : SMap := m.filter (fun p => p.1 != k)

/-- Insert a non-zero value, keeping keys rising. -/
def mins : SMap → Nat → Nat → SMap
  | [], k, v => [(k, v)]
  | (k', v') :: rest, k, v =>
    if k < k' then (k, v) :: (k', v') :: rest
    else if k = k' then (k, v) :: rest
    else (k', v') :: mins rest k v

/-- Set a key; 0 removes the entry, so that equal tables are equal data. -/
def mset (m : SMap) (k v : Nat) : SMap := if v = 0 then mdel m k else mins m k v

/-- A table of the pairs of a list. -/
def smapOf (l : List (Nat × Nat)) : SMap := l.foldl (fun m p => mset m p.1 p.2) []

/-- Add to a key's value. -/
def madd (m : SMap) (k n : Nat) : SMap := mset m k (mget m k + n)

/-- Keys strictly rising, and above a bound. -/
def mrising : Option Nat → SMap → Bool
  | _, [] => true
  | lo, (k, v) :: rest => (match lo with | none => true | some l => decide (l < k)) && v != 0 && mrising (some k) rest

/-- The canonical form of a sparse table. -/
def mwf (m : SMap) : Bool := mrising none m

/-! ## Byte memory (R157, R441) -/

/-- One byte: 0 where nothing is listed. -/
def memRead : Memory → Nat → Byte
  | [], _ => 0#8
  | (k', v) :: rest, k => if k' = k then v else memRead rest k

/-- Insert a byte, keeping addresses rising. -/
def memIns : Memory → Nat → Byte → Memory
  | [], k, v => [(k, v)]
  | (k', v') :: rest, k, v =>
    if k < k' then (k, v) :: (k', v') :: rest
    else if k = k' then (k, v) :: rest
    else (k', v') :: memIns rest k v

/-- Write one byte; the byte an unlisted address reads as removes the entry. -/
def memWrite (m : Memory) (a : Nat) (v : Byte) : Memory :=
  if v = 0#8 then m.filter (fun p => p.1 != a) else memIns m a v

/-- Write bytes at rising addresses. -/
def memWriteAll (m : Memory) (a : Nat) : List Byte → Memory
  | [] => m
  | b :: rest => memWriteAll (memWrite m a b) (a + 1) rest

/-- Read `n` bytes at rising addresses. -/
def memReadAll (m : Memory) (a : Nat) : Nat → List Byte
  | 0 => []
  | n + 1 => memRead m a :: memReadAll m (a + 1) n

/-- Addresses strictly rising above a bound, no byte equal to what an unlisted address reads as. -/
def memRising : Option Nat → Memory → Bool
  | _, [] => true
  | lo, (k, v) :: rest =>
    (match lo with | none => true | some l => decide (l < k)) && v != 0#8 && memRising (some k) rest

/-- The canonical form of memory. -/
def Memory.wf (m : Memory) : Bool := memRising none m

/-! ## Bits and bytes -/

/-- Bit `i` of a register held as a number. -/
def bit (n i : Nat) : Bool := Nat.testBit n i

/-- Set or clear bit `i`. -/
def setBit (n i : Nat) (b : Bool) : Nat :=
  if bit n i = b then n else if b then n + 2 ^ i else n - 2 ^ i

/-- The number of set bits among the lowest `w`. -/
def popcount (n : Nat) : Nat → Nat
  | 0 => 0
  | w + 1 => (if bit n w then 1 else 0) + popcount n w

/-- The field of `w` bits at bit `lo`. -/
def field (n lo w : Nat) : Nat := n / 2 ^ lo % 2 ^ w

/-- A Bool as a bit. -/
def b2n (b : Bool) : Nat := if b then 1 else 0

/-- Clear in `n` the bits set in `v`, over `w` bits: a W1C write (R27). -/
def clearBits (n v : Nat) (w : Nat) : Nat := n &&& ((2 ^ w - 1) ^^^ (v &&& (2 ^ w - 1)))

/-- A byte string as a little-endian number (R9). -/
def leOf : List Nat → Nat
  | [] => 0
  | b :: rest => b % 256 + 256 * leOf rest

/-- The `n` little-endian bytes of a number (R9). -/
def bytesOf (v : Nat) : Nat → List Nat
  | 0 => []
  | n + 1 => v % 256 :: bytesOf (v / 256) n

/-- A field of `len` bytes at byte offset `off` of a little-endian value. -/
def fieldAt (v off len : Nat) : Nat := v / 256 ^ off % 256 ^ len

/-- A layout given as (offset, bytes, value) triples, as a little-endian value. -/
def packAt : List (Nat × Nat × Nat) → Nat
  | [] => 0
  | (off, len, v) :: rest => v % 256 ^ len * 256 ^ off + packAt rest

/-- An array of values of `len` bytes each at offset `off`, as triples for `packAt`. -/
def arrAt (off len : Nat) : List Nat → List (Nat × Nat × Nat)
  | [] => []
  | v :: rest => (off, len, v) :: arrAt (off + len) len rest

/-- Two's complement of `w` bits. -/
def toTwos (i : Int) (w : Nat) : Nat := (i % (2 ^ w : Int)).toNat

/-- The value of a two's complement pattern of `w` bits. -/
def ofTwos (n w : Nat) : Int := if n % 2 ^ w < 2 ^ (w - 1) then (n % 2 ^ w : Nat) else (n % 2 ^ w : Nat) - (2 ^ w : Int)

/-- A variable-length byte string as a value: its bytes followed by a byte 1, so that its length can be read back
(log entry 4). -/
def varOf (l : List Nat) : Nat := leOf l + 256 ^ l.length

/-- The number of bytes of a value made by `varOf`, searched up to `fuel`. -/
def varLen : Nat → Nat → Nat
  | 0, _ => 0
  | fuel + 1, v => if v < 256 then 0 else 1 + varLen fuel (v / 256)

/-! ## Arithmetic -/

/-- Clamp to an interval (R15). -/
def clampN (x lo hi : Nat) : Nat := min (max x lo) hi

/-- Clamp to an interval (R15). -/
def clampI (x lo hi : Int) : Int := min (max x lo) hi

/-- Division that truncates toward zero (R15). -/
def tdiv (a b : Int) : Int := Int.tdiv a b

/-- Division that rounds up. -/
def cdiv (a b : Nat) : Nat := (a + b - 1) / b

/-- The sum of a list. -/
def sumN (l : List Nat) : Nat := l.foldl (· + ·) 0

/-- The sum of a list. -/
def sumI (l : List Int) : Int := l.foldl (· + ·) 0

/-- Integer square root by bisection: the largest r below 2^(fuel) with r² ≤ n. -/
def isqrtFrom (n : Nat) : Nat → Nat → Nat
  | 0, r => r
  | k + 1, r => let c := r + 2 ^ k; if c * c ≤ n then isqrtFrom n k c else isqrtFrom n k r

/-- The integer square root of a value below 2^128. -/
def isqrt (n : Nat) : Nat := isqrtFrom n 64 0

/-- Saturating increment. -/
def satInc (n hi : Nat) : Nat := if n < hi then n + 1 else hi

/-- Element `i` of a list of numbers, 0 beyond its end. -/
def at0 (l : List Nat) (i : Nat) : Nat := l.getD i 0

/-- Element `i` of a list of integers, 0 beyond its end. -/
def atI (l : List Int) (i : Nat) : Int := l.getD i 0

/-- Replace element `i` of a list. -/
def setAt {α : Type} : List α → Nat → α → List α
  | [], _, _ => []
  | _ :: rest, 0, v => v :: rest
  | x :: rest, n + 1, v => x :: setAt rest n v

/-- The numbers 0 to n − 1. -/
def upTo (n : Nat) : List Nat := List.range n

end Sys2Proof.Machine
end

