-- ==== Sys2Proof/Machine/Objects.lean ====
section
/-! DEFINITION. The object dictionary's descriptors (R379 to R382, R389, R400): every object of generation G1, with its
type, roles, range, default, apply class, persistence and scope, and the value each element holds by default. -/
namespace Sys2Proof.Machine

/-- The range an object declares (R389): none, an interval, "writing 0 clears", or a rule of its chapter. -/
inductive Rng where
  | none
  | iv (lo hi : Nat)
  | clears
  | rule
  deriving DecidableEq, Repr

/-- What an object declares (R382, R389): type code (bit 7: array), elements, element bytes (0: variable), read and write
sets (O 1, T 2, S 4, V 8, P 16), range, default, apply (0 none, 1 I, 2 E, 3 M, 4 B), persistence (0 none, 1 RAM, 2 MRAM,
3 OTP, 4 factory) and scope (0 module, 1 shelf, 2 rack). -/
structure Desc where
  typ : Nat
  elems : Nat
  size : Nat
  rd : Nat
  wr : Nat
  rng : Rng
  dflt : Nat
  apply : Nat
  pers : Nat
  scope : Nat
  deriving DecidableEq, Repr

/-- Objects 0x0000 to 0x0FFF (R400). -/
def objsIdentity : List (Nat × Desc) :=
  [
   -- R405 identity
   (0x0001, ⟨12, 1, 64, 16, 0, .none, 0, 0, 4, 0⟩),
   -- R396 generation and dictionary version
   (0x0002, ⟨12, 1, 4, 16, 0, .none, 0x00010101, 0, 0, 0⟩),
   -- R407 running firmware
   (0x0003, ⟨12, 1, 16, 16, 0, .none, 0, 0, 0, 0⟩),
   -- R406 module state
   (0x0010, ⟨2, 1, 1, 16, 0, .none, 0, 0, 0, 0⟩),
   -- R407 role
   (0x0011, ⟨12, 1, 4, 16, 0, .none, 0, 0, 0, 0⟩),
   -- R404 sidereal counter
   (0x0012, ⟨13, 1, 6, 16, 0, .none, 0, 0, 0, 0⟩),
   -- R404 epoch count
   (0x0013, ⟨14, 1, 6, 16, 0, .none, 0, 0, 0, 0⟩)]

/-- Objects 0x1000 to 0x1FFF (R400). -/
def objsCommunication : List (Nat × Desc) :=
  [
   -- R408 field-network configuration
   (0x1000, ⟨12, 1, 4, 3, 1, .rule, 3, 4, 2, 0⟩),
   -- R408 field-network status
   (0x1001, ⟨132, 8, 4, 3, 0, .none, 0, 0, 0, 0⟩),
   -- R408 field-network counters
   (0x1002, ⟨132, 10, 4, 3, 1, .clears, 0, 1, 1, 0⟩),
   -- R408 CXL link limits
   (0x1010, ⟨12, 1, 4, 3, 1, .rule, 0x0208, 4, 2, 0⟩),
   -- R408 CXL link status
   (0x1011, ⟨132, 6, 4, 3, 0, .none, 0, 0, 0, 0⟩),
   -- R408 CXL counters
   (0x1012, ⟨132, 6, 4, 3, 1, .clears, 0, 1, 1, 0⟩),
   -- R399 dictionary counters
   (0x1020, ⟨132, 13, 4, 3, 1, .clears, 0, 1, 1, 0⟩),
   -- R408 open sessions by role
   (0x1030, ⟨130, 5, 1, 3, 0, .none, 0, 0, 0, 0⟩)]

/-- Objects 0x2000 to 0x2FFF (R400). -/
def objsContract : List (Nat × Desc) :=
  [
   -- R121 R123 contract
   (0x2000, ⟨12, 1, 0, 3, 3, .rule, 1, 3, 2, 2⟩),
   -- R137 contract status
   (0x2001, ⟨12, 1, 48, 3, 0, .none, 0, 0, 0, 0⟩),
   -- R137 rack allowance in force
   (0x2010, ⟨4, 1, 4, 3, 0, .none, 0, 0, 0, 0⟩),
   -- R119 breaker cap
   (0x2011, ⟨4, 1, 4, 3, 1, .rule, 0xFFFFFFFF, 1, 2, 2⟩),
   -- R138 rack ramp-up limit
   (0x2012, ⟨4, 1, 4, 3, 1, .iv 1000 1200000, 20000, 2, 2, 2⟩),
   -- R138 rack ramp-down limit
   (0x2013, ⟨4, 1, 4, 3, 1, .iv 1000 1200000, 20000, 2, 2, 2⟩),
   -- R115 ramp share weights
   (0x2014, ⟨130, 4, 1, 3, 1, .rule, 64, 2, 2, 2⟩),
   -- R125 emergency announcement
   (0x2015, ⟨14, 1, 6, 3, 1, .rule, 0, 1, 2, 2⟩),
   -- R135 latest minute record
   (0x2020, ⟨12, 1, 64, 3, 0, .none, 0, 0, 2, 1⟩),
   -- R135 minute record archive
   (0x2021, ⟨140, 10080, 64, 3, 0, .none, 0, 0, 2, 1⟩),
   -- R133 event log
   (0x2022, ⟨140, 4096, 32, 3, 0, .none, 0, 0, 2, 1⟩),
   -- R135 hour seals
   (0x2023, ⟨140, 168, 0, 3, 0, .none, 1, 0, 2, 1⟩)]

/-- Objects 0x3000 to 0x3FFF (R400). -/
def objsAllocation : List (Nat × Desc) :=
  [
   -- R72 constellation table
   (0x3000, ⟨140, 16, 528, 3, 2, .rule, 0, 2, 2, 2⟩),
   -- R111 Owner priorities
   (0x3001, ⟨130, 16, 1, 3, 1, .iv 1 255, 128, 2, 2, 2⟩),
   -- R111 pace codes in force
   (0x3010, ⟨130, 16, 1, 3, 0, .none, 0, 0, 0, 0⟩),
   -- R96 learned step rates
   (0x3011, ⟨131, 4096, 2, 3, 0, .none, 0, 0, 1, 0⟩),
   -- R75 nadir floors
   (0x3020, ⟨130, 16, 1, 3, 0, .none, 0, 0, 0, 0⟩),
   -- R101 filler ceilings
   (0x3030, ⟨131, 16, 2, 3, 1, .iv 0 256, 192, 2, 2, 2⟩),
   -- R105 hold horizon
   (0x3031, ⟨3, 1, 2, 3, 1, .iv 1 60, 5, 2, 2, 2⟩),
   -- R101 Tenant filler consent
   (0x3032, ⟨129, 16, 1, 3, 2, .iv 0 1, 1, 2, 2, 2⟩),
   -- R98 host allocation table
   (0x3040, ⟨12, 1, 56, 3, 1, .rule, 0, 1, 1, 2⟩),
   -- R104 host filler answer
   (0x3041, ⟨12, 1, 40, 3, 1, .rule, 0, 1, 1, 2⟩),
   -- R104 filler proposal
   (0x3042, ⟨12, 1, 40, 3, 0, .none, 0, 0, 0, 0⟩),
   -- R111 lead statistics
   (0x3050, ⟨132, 7, 4, 3, 1, .clears, 0, 1, 1, 0⟩),
   -- R105 held constellations
   (0x3051, ⟨3, 1, 2, 3, 0, .none, 0, 0, 0, 0⟩),
   -- R94 lead release command
   (0x3052, ⟨1, 1, 1, 0, 1, .iv 0 1, 0, 1, 0, 0⟩),
   -- R74 accepted pace tables
   (0x3060, ⟨140, 4096, 516, 3, 0, .none, 0, 0, 1, 0⟩),
   -- R107 attribution table
   (0x3100, ⟨140, 131072, 16, 3, 0, .none, 0, 0, 2, 1⟩),
   -- R110 attribution counters
   (0x3101, ⟨136, 4, 8, 3, 0, .none, 0, 0, 2, 1⟩)]

/-- Objects 0x4000 to 0x4FFF (R400). -/
def objsPlan : List (Nat × Desc) :=
  [
   -- R55 twilight length
   (0x4001, ⟨3, 1, 2, 3, 1, .iv 100 500, 250, 2, 2, 2⟩),
   -- R68 plans n and n+1
   (0x4002, ⟨12, 1, 0, 3, 0, .none, 1, 0, 0, 0⟩),
   -- R64 assist map
   (0x4003, ⟨3, 1, 2, 3, 1, .rule, 0, 2, 2, 2⟩),
   -- R66 R60 assist status and hint mismatch
   (0x4004, ⟨4, 1, 4, 3, 0, .none, 0, 0, 0, 0⟩),
   -- R68 epoch statistics
   (0x4005, ⟨132, 6, 4, 3, 1, .clears, 0, 1, 1, 0⟩),
   -- R58 Almanac
   (0x4010, ⟨140, 1024, 176, 3, 2, .rule, 0, 2, 2, 2⟩),
   -- R59 phase hints
   (0x4011, ⟨130, 16, 1, 3, 2, .rule, 0xFF, 2, 1, 2⟩),
   -- R61 state-of-charge target
   (0x4020, ⟨3, 1, 2, 3, 1, .iv 2000 8000, 6000, 2, 2, 2⟩),
   -- R68 upper band
   (0x4021, ⟨3, 1, 2, 3, 1, .iv 7000 9500, 9000, 2, 2, 2⟩),
   -- R61 steering time constant
   (0x4022, ⟨3, 1, 2, 3, 1, .iv 60 3600, 600, 2, 2, 2⟩),
   -- R61 bias limit
   (0x4023, ⟨4, 1, 4, 3, 1, .iv 0 30000, 10000, 2, 2, 2⟩),
   -- R67 host state-of-charge target
   (0x4024, ⟨12, 1, 8, 3, 1, .rule, 0, 2, 1, 2⟩),
   -- R193 forecast mode
   (0x4100, ⟨2, 1, 1, 3, 2, .iv 0 1, 0, 2, 2, 1⟩),
   -- R169 latest forecast frame
   (0x4101, ⟨12, 1, 24032, 3, 0, .none, 0, 0, 0, 0⟩),
   -- R185 burst policy
   (0x4102, ⟨2, 1, 1, 3, 1, .iv 0 2, 0, 2, 2, 1⟩),
   -- R198 host blend status
   (0x4103, ⟨132, 4, 4, 3, 0, .none, 0, 0, 0, 0⟩),
   -- R195 maximum blend weight
   (0x4104, ⟨3, 1, 2, 3, 1, .iv 0 10000, 5000, 2, 2, 1⟩),
   -- R194 consistency band
   (0x4105, ⟨3, 1, 2, 3, 1, .iv 100 5000, 500, 2, 2, 1⟩),
   -- R198 mapping and output counters
   (0x4106, ⟨132, 7, 4, 3, 1, .clears, 0, 1, 1, 0⟩),
   -- R184 burst view
   (0x4107, ⟨12, 1, 4832, 3, 0, .none, 0, 0, 0, 0⟩)]

/-- Objects 0x4000 to 0x4FFF, continued (R400). -/
def objsPlan2 : List (Nat × Desc) :=
  [
   -- R199 model slots
   (0x4110, ⟨140, 5, 96, 3, 0, .none, 0, 0, 1, 1⟩),
   -- R182 slot in service
   (0x4111, ⟨2, 1, 1, 3, 3, .iv 0 4, 0, 2, 1, 1⟩),
   -- R182 Tenant selection permitted
   (0x4112, ⟨1, 1, 1, 3, 1, .iv 0 1, 1, 2, 2, 1⟩),
   -- R180 load command
   (0x4113, ⟨12, 1, 24, 0, 3, .rule, 0, 1, 0, 1⟩),
   -- R182 clear slot
   (0x4114, ⟨2, 1, 1, 0, 3, .iv 1 4, 0, 1, 0, 1⟩),
   -- R190 Owner learning enable
   (0x4120, ⟨1, 1, 1, 3, 1, .iv 0 1, 1, 2, 2, 1⟩),
   -- R190 Tenant learning enable
   (0x4121, ⟨1, 1, 1, 3, 2, .iv 0 1, 1, 2, 2, 1⟩),
   -- R191 adoption margin
   (0x4122, ⟨3, 1, 2, 3, 1, .iv 0 2000, 50, 2, 2, 1⟩),
   -- R198 learning status
   (0x4123, ⟨132, 8, 4, 3, 0, .none, 0, 0, 0, 0⟩),
   -- R192 revert to signed weights
   (0x4124, ⟨1, 1, 1, 0, 3, .iv 1 1, 0, 2, 0, 1⟩),
   -- R155 arithmetic mode
   (0x4180, ⟨2, 1, 1, 3, 1, .iv 0 1, 0, 2, 1, 0⟩),
   -- R142 engine state
   (0x4181, ⟨2, 1, 1, 3, 0, .none, 0, 0, 0, 0⟩),
   -- R165 engine counters
   (0x4182, ⟨132, 12, 4, 3, 1, .clears, 0, 1, 1, 0⟩),
   -- R144 engine power limit
   (0x4183, ⟨3, 1, 2, 3, 1, .iv 40 150, 150, 2, 2, 0⟩),
   -- R165 engine measurements
   (0x4184, ⟨131, 4, 2, 3, 0, .none, 0, 0, 0, 0⟩),
   -- R159 scrub period
   (0x4185, ⟨3, 1, 2, 3, 1, .iv 1 24, 4, 2, 2, 0⟩)]

/-- Objects 0x5000 to 0x5FFF (R400). -/
def objsConverter : List (Nat × Desc) :=
  [
   -- R210 bus reference target
   (0x5000, ⟨4, 1, 4, 3, 1, .iv 760000 840000, 800000, 1, 2, 2⟩),
   -- R210 reference slew
   (0x5001, ⟨3, 1, 2, 3, 1, .iv 100 20000, 2000, 1, 2, 2⟩),
   -- R210 reference ramp value
   (0x5002, ⟨4, 1, 4, 3, 0, .none, 0, 0, 0, 0⟩),
   -- R207 shedding
   (0x5010, ⟨131, 4, 2, 3, 1, .rule, 0, 2, 2, 1⟩),
   -- R209 phase disable mask
   (0x5011, ⟨4, 1, 4, 3, 1, .rule, 0x00FFFFFF, 2, 2, 1⟩),
   -- R239 converter status
   (0x5020, ⟨132, 6, 4, 3, 0, .none, 0, 0, 0, 0⟩),
   -- R239 converter counters
   (0x5021, ⟨132, 12, 4, 3, 1, .clears, 0, 1, 1, 0⟩),
   -- R220 latch clear
   (0x5031, ⟨2, 1, 1, 0, 1, .iv 1 3, 0, 1, 0, 1⟩),
   -- R203 phase inductances
   (0x5040, ⟨131, 24, 2, 7, 0, .none, 0, 0, 0, 0⟩),
   -- R245 loop program load
   (0x5050, ⟨12, 1, 16, 0, 1, .rule, 0, 1, 0, 0⟩),
   -- R265 program slots
   (0x5051, ⟨140, 2, 44, 3, 0, .none, 0, 0, 0, 0⟩),
   -- R246 program in service
   (0x5052, ⟨2, 1, 1, 3, 1, .iv 0 1, 0, 2, 2, 1⟩),
   -- R249 fixed-law return
   (0x5053, ⟨1, 1, 1, 0, 1, .iv 1 1, 0, 1, 0, 1⟩),
   -- R265 loop status
   (0x5054, ⟨132, 6, 4, 3, 0, .none, 0, 0, 0, 0⟩),
   -- R265 loop counters
   (0x5055, ⟨132, 7, 4, 3, 1, .clears, 0, 1, 1, 0⟩),
   -- R250 Parallax settings
   (0x5060, ⟨132, 4, 4, 3, 1, .rule, 0, 2, 2, 1⟩),
   -- R251 channel selection
   (0x5061, ⟨2, 1, 1, 0, 1, .iv 1 2, 0, 1, 0, 1⟩),
   -- R265 Parallax status
   (0x5062, ⟨132, 5, 4, 3, 0, .none, 0, 0, 0, 0⟩),
   -- R253 open-loop string current limit
   (0x5063, ⟨3, 1, 2, 3, 1, .iv 0 1875, 470, 2, 2, 1⟩),
   -- R300 integrator layer
   (0x5080, ⟨12, 1, 264, 7, 16, .rule, 0, 1, 3, 0⟩)]

/-- Objects 0x5000 to 0x5FFF, continued (R400). -/
def objsConverter2 : List (Nat × Desc) :=
  [
   -- R301 Owner layer
   (0x5081, ⟨12, 1, 264, 3, 1, .rule, 0, 1, 2, 1⟩),
   -- R299 effective limits
   (0x5082, ⟨132, 64, 4, 3, 0, .none, 0, 0, 0, 0⟩),
   -- R316 guard counters
   (0x5083, ⟨132, 69, 4, 3, 1, .clears, 0, 1, 1, 0⟩)]

/-- Objects 0x6000 to 0x6FFF (R400). -/
def objsStrings : List (Nat × Desc) :=
  [
   -- R272 position overvoltage threshold
   (0x6000, ⟨3, 1, 2, 3, 1, .iv 3820 4000, 3900, 1, 2, 1⟩),
   -- R272 position undervoltage threshold
   (0x6001, ⟨3, 1, 2, 3, 1, .iv 2800 3130, 3050, 1, 2, 1⟩),
   -- R274 trip clear
   (0x6002, ⟨12, 1, 4, 0, 1, .rule, 0, 1, 0, 1⟩),
   -- R273 trip latches
   (0x6003, ⟨130, 72, 1, 3, 0, .none, 0, 0, 0, 0⟩),
   -- R269 strobe schedule
   (0x6010, ⟨12, 1, 8, 3, 1, .rule, 0, 2, 2, 1⟩),
   -- R270 averaging window
   (0x6011, ⟨3, 1, 2, 3, 1, .rule, 16, 2, 2, 1⟩),
   -- R277 balancing mode
   (0x6020, ⟨2, 1, 1, 3, 1, .iv 0 2, 0, 2, 2, 1⟩),
   -- R278 wire resistances
   (0x6021, ⟨131, 578, 2, 3, 0, .none, 400, 0, 2, 1⟩),
   -- R277 host bleed masks
   (0x6022, ⟨12, 1, 80, 3, 1, .rule, 0, 1, 1, 1⟩),
   -- R277 balancing start, stop
   (0x6023, ⟨131, 2, 2, 3, 1, .rule, 0, 2, 2, 1⟩),
   -- R278 wire survey request
   (0x6024, ⟨2, 1, 1, 0, 1, .iv 1 2, 0, 1, 0, 1⟩),
   -- R281 open-wire interval
   (0x6030, ⟨3, 1, 2, 3, 1, .rule, 60, 2, 2, 1⟩),
   -- R281 open-wire test request
   (0x6031, ⟨2, 1, 1, 0, 1, .iv 1 2, 0, 1, 0, 1⟩),
   -- R297 wire states
   (0x6032, ⟨130, 578, 1, 3, 0, .none, 3, 0, 0, 0⟩),
   -- R291 isolation
   (0x6040, ⟨130, 2, 1, 3, 1, .rule, 0, 1, 2, 1⟩),
   -- R297 position readings
   (0x6050, ⟨131, 576, 2, 3, 0, .none, 0xFFFF, 0, 0, 0⟩),
   -- R297 position states
   (0x6051, ⟨130, 576, 1, 3, 0, .none, 1, 0, 0, 0⟩),
   -- R285 capacitances
   (0x6052, ⟨131, 576, 2, 3, 0, .none, 6000, 0, 2, 1⟩),
   -- R284 ESR
   (0x6053, ⟨131, 576, 2, 3, 0, .none, 400, 0, 2, 1⟩),
   -- R297 string summary
   (0x6054, ⟨132, 12, 4, 3, 0, .none, 0, 0, 0, 0⟩)]

/-- Objects 0x6000 to 0x6FFF, continued (R400). -/
def objsStrings2 : List (Nat × Desc) :=
  [
   -- R297 drawer temperatures
   (0x6055, ⟨134, 48, 2, 3, 0, .none, 0, 0, 0, 0⟩),
   -- R297 string counters
   (0x6056, ⟨132, 8, 4, 3, 1, .clears, 0, 1, 1, 0⟩)]

/-- Objects 0x7000 to 0x7FFF (R400). -/
def objsRedundancy : List (Nat × Desc) :=
  [
   -- R339 return policy
   (0x7000, ⟨12, 1, 4, 3, 1, .rule, 0, 1, 2, 1⟩),
   -- R340 swap drill schedule
   (0x7001, ⟨12, 1, 8, 3, 1, .rule, 0, 3, 2, 1⟩),
   -- R338 handover command
   (0x7002, ⟨2, 1, 1, 0, 1, .iv 1 2, 0, 1, 0, 1⟩),
   -- R345 redundancy status
   (0x7003, ⟨132, 6, 4, 3, 0, .none, 0, 0, 0, 0⟩),
   -- R345 redundancy counters
   (0x7004, ⟨132, 12, 4, 3, 1, .clears, 0, 1, 1, 0⟩),
   -- R341 replacement adoption
   (0x7010, ⟨12, 1, 0, 0, 1, .rule, 1, 1, 0, 1⟩)]

/-- Objects 0x8000 to 0x8FFF (R400). -/
def objsSecurity : List (Nat × Desc) :=
  [
   -- R356 Owner keys
   (0x8000, ⟨12, 1, 0, 16, 16, .rule, 0, 1, 2, 1⟩),
   -- R356 Tenant key
   (0x8001, ⟨12, 1, 0, 16, 16, .rule, 0, 1, 2, 1⟩),
   -- R570 identity record
   (0x8002, ⟨12, 1, 0, 16, 0, .none, 1, 0, 4, 0⟩),
   -- R374 unlock challenge
   (0x8010, ⟨12, 1, 76, 16, 0, .none, 0, 0, 0, 0⟩),
   -- R374 unlock grant
   (0x8011, ⟨12, 1, 0, 5, 16, .rule, 1, 1, 1, 0⟩),
   -- R374 end unlock
   (0x8012, ⟨1, 1, 1, 0, 1, .iv 1 1, 0, 1, 0, 0⟩),
   -- R373 vendor access permitted
   (0x8013, ⟨1, 1, 1, 3, 1, .iv 0 1, 0, 1, 2, 1⟩),
   -- R375 passphrase verifier
   (0x8014, ⟨12, 1, 56, 0, 1, .rule, 0, 1, 2, 1⟩),
   -- R375 passphrase attempt
   (0x8015, ⟨12, 1, 0, 0, 16, .rule, 1, 1, 0, 0⟩),
   -- R417 node table
   (0x8020, ⟨140, 128, 1188, 3, 1, .rule, 0, 2, 2, 2⟩),
   -- R352 signing status
   (0x8040, ⟨132, 5, 4, 3, 0, .none, 0, 0, 0, 0⟩),
   -- R352 daily signing budget
   (0x8041, ⟨131, 2, 2, 3, 1, .iv 0 16384, 4096, 3, 2, 1⟩),
   -- R352 on-demand seal request
   (0x8042, ⟨12, 1, 36, 0, 3, .rule, 0, 1, 0, 0⟩),
   -- R378 latest on-demand seal
   (0x8043, ⟨140, 2, 0, 3, 0, .none, 1, 0, 1, 0⟩),
   -- R370 evidence request nonce
   (0x8050, ⟨130, 32, 1, 0, 3, .rule, 0, 1, 0, 0⟩),
   -- R378 evidence
   (0x8051, ⟨140, 2, 0, 3, 0, .none, 1, 0, 1, 0⟩),
   -- R363 firmware load
   (0x8060, ⟨12, 1, 16, 0, 1, .rule, 0, 1, 0, 0⟩),
   -- R363 activate bank
   (0x8061, ⟨2, 1, 1, 0, 1, .iv 0 1, 0, 4, 0, 0⟩),
   -- R364 commit trial
   (0x8062, ⟨1, 1, 1, 0, 1, .iv 1 1, 0, 1, 0, 0⟩),
   -- R378 bank state
   (0x8063, ⟨12, 1, 28, 7, 0, .none, 0, 0, 0, 0⟩)]

/-- Objects 0x8000 to 0x8FFF, continued (R400). -/
def objsSecurity2 : List (Nat × Desc) :=
  [
   -- R378 security counters
   (0x8070, ⟨132, 6, 4, 3, 1, .clears, 0, 1, 1, 0⟩)]

/-- Objects 0x9000 to 0x9FFF (R400). -/
def objsCalibration : List (Nat × Desc) :=
  [
   -- R411 user calibration layer
   (0x9000, ⟨12, 1, 0, 7, 4, .rule, 256 ^ 16 + 0x0B10, 3, 2, 0⟩),
   -- R411 factory calibration
   (0x9001, ⟨12, 1, 0, 7, 0, .none, 1, 0, 4, 0⟩),
   -- R411 calibration hashes
   (0x9002, ⟨12, 1, 64, 3, 0, .none, 0, 0, 0, 0⟩)]

/-- Objects 0xA000 to 0xAFFF (R400). -/
def objsRecords : List (Nat × Desc) :=
  [
   -- R230 fault ring
   (0xA000, ⟨140, 512, 128, 7, 0, .none, 0, 0, 2, 0⟩),
   -- R230 first-fault latch
   (0xA001, ⟨12, 1, 128, 7, 1, .rule, 0, 1, 2, 0⟩),
   -- R259 trace configuration
   (0xA100, ⟨132, 20, 4, 5, 1, .rule, 0, 1, 1, 0⟩),
   -- R259 fault snapshot
   (0xA101, ⟨2, 1, 1, 5, 1, .iv 0 1, 1, 1, 1, 0⟩),
   -- R263 recorder
   (0xA103, ⟨12, 1, 130, 5, 1, .rule, 0, 2, 2, 1⟩),
   -- R264 export
   (0xA104, ⟨12, 1, 20, 0, 5, .rule, 0, 1, 0, 0⟩),
   -- R259 AUX_SYNC function
   (0xA105, ⟨2, 1, 1, 5, 1, .iv 0 2, 0, 1, 2, 0⟩)]

/-- Every object of the tables of "Object dictionary reference" (R400). -/
def objTable : List (Nat × Desc) :=
  objsIdentity ++
  objsCommunication ++
  objsContract ++
  objsAllocation ++
  objsPlan ++
  objsPlan2 ++
  objsConverter ++
  objsConverter2 ++
  objsStrings ++
  objsStrings2 ++
  objsRedundancy ++
  objsSecurity ++
  objsSecurity2 ++
  objsCalibration ++
  objsRecords

/-- Look an object up in a table. -/
def findDesc : List (Nat × Desc) → Nat → Option Desc
  | [], _ => none
  | (k, d) :: rest, o => if k = o then some d else findDesc rest o

/-- The bytes of one element of a type of fixed size (R381). -/
def typeSize (t : Nat) : Nat := at0 [0, 1, 1, 2, 4, 8, 2, 4, 8, 4, 4, 0, 0, 6, 6] (t % 128)

/-- The descriptor of a vendor diagnostic object (R403): roles V/V, persistence factory or RAM, module scope; type, apply class,
range and default as the running image defines them. DESIGN CHOICE (log entry 15): each has one element. -/
def vendorDesc (o : Nat) : Desc :=
  let f := Config.vendorDef o
  let t := 1 + f 0 % 14
  let n := 256 ^ typeSize t
  let blob := t == 11 || t == 12
  { typ := t, elems := 1, size := typeSize t, rd := 8, wr := 8
    rng := if blob then .none else .iv (f 3 % n) (f 4 % n)
    dflt := if blob then 1 else f 5 % n
    apply := 1 + f 1 % 4, pers := if f 2 % 2 = 0 then 1 else 4, scope := 0 }

/-- The descriptor of an object (R380, R400, R403): none where it is not defined in G1. -/
def objDesc (o : Nat) : Option Desc :=
  if 0xF000 ≤ o && o ≤ 0xFFFF then some (vendorDesc o) else findDesc objTable o

/-- The value an element takes by default (R382), where the elements of an object differ. -/
def objDefault (o e : Nat) : Nat :=
  if o = 0x5010 then at0 [180, 550, 500, 2] e
  else if o = 0x5060 then at0 [6000, 5, 5000, 4096] e
  else if o = 0x6010 then packAt [(0, 2, 25), (2, 2, 400), (4, 2, 250)]
  else if o = 0x6023 then at0 [10, 4] e
  else if o = 0x7000 then packAt [(2, 2, 15)]
  else if o = 0x7001 then packAt [(0, 1, 1), (2, 2, 168), (4, 2, 120), (6, 2, 5)]
  else if o = 0xA103 then
    packAt (arrAt 0 2 (upTo 24 ++ (upTo 24).map (· + 0x20) ++ (upTo 16).map (· + 0x40)) ++ [(128, 1, 1)])
  else match objDesc o with
    | some d => d.dflt
    | none => 0

end Sys2Proof.Machine
end

