-- ==== Sys2Proof/Machine/Base.lean ====
section
/-! DEFINITION. Operations on the whole state that every chapter uses: the dictionary store, free values, the module's own
identity, fault records (R227 to R230) and event-log entries (R133). -/
namespace Sys2Proof.Machine

/-! ## The dictionary store (R379, R382) -/

/-- The key of an element in a sparse table. -/
def dkey (o e : Nat) : Nat := o * 16777216 + e

/-- The stored value of an element: its default where none is listed. -/
def dget (s : State) (o e : Nat) : Nat :=
  let v := mget s.dic.vals (dkey o e)
  if v = 0 then objDefault o e else v - 1

/-- Store a value; the default removes the entry. -/
def dset (s : State) (o e v : Nat) : State :=
  { s with dic.vals := mset s.dic.vals (dkey o e) (if v = objDefault o e then 0 else v + 1) }

/-- Count an event in a counter object: saturating at 0xFFFF_FFFF (R165, R239, R265, R316, R399). -/
def bump (s : State) (o e : Nat) : State := dset s o e (satInc (dget s o e) 0xFFFFFFFF)

/-- Count `n` events in a counter object. -/
def bumpN (s : State) (o e n : Nat) : State := dset s o e (min (dget s o e + n) 0xFFFFFFFF)

/-- Elements `0` to `n − 1` of an object. -/
def dgets (s : State) (o n : Nat) : List Nat := (upTo n).map (dget s o)

/-- The pending value of an element, if it has one (R22). -/
def pendOf (s : State) (o e : Nat) : Option Pend :=
  s.dic.pend.find? (fun p => p.object == o && p.element == e)

/-- A numeric class-E value while its twilight runs (R54): blended per R53 from the value in force to the value that comes
into force at the boundary; otherwise the value in force. -/
def dnow (s : State) (o e : Nat) : Nat :=
  match pendOf s o e with
  | none => dget s o e
  | some p =>
    if s.epo.twRunning && s.epo.twPlan && p.cls == 2 && decide (p.due ≤ s.epo.ticks + 1) && s.epo.bigM != 0 then
      ((dget s o e : Int) + tdiv (((p.value : Int) - (dget s o e : Int)) * (s.epo.m : Int)) (s.epo.bigM : Int)).toNat
    else dget s o e

/-- The boundary tick from which a class-E value accepted now may apply (R21): the next one whose twilight starts after the
acceptance. -/
def dueE (s : State) : Nat := if s.epo.twRunning then s.epo.ticks + 2 else s.epo.ticks + 1

/-- Remove the pending value of an element. -/
def dropPend (s : State) (o e : Nat) : State :=
  { s with dic.pend := s.dic.pend.filter (fun p => !(p.object == o && p.element == e)) }

/-- Give an element its pending value: the last accepted replaces an earlier one (R22). -/
def setPend (s : State) (o e v cls : Nat) : State :=
  let t := dropPend s o e
  { t with
    dic.pend := t.dic.pend ++
      [{ object := o, element := e, value := v, cls := cls, due := if cls = 2 then dueE s else 0 }] }

/-- A copy of a write: in force, or pending under its class (R330). -/
def copyWrite (s : State) (w : Nat × Nat × Nat × Nat) : State :=
  if w.2.2.2 ≤ 1 then dset s w.1 w.2.1 w.2.2.1 else setPend s w.1 w.2.1 w.2.2.1 w.2.2.2

/-! ## Free values -/

/-- Draw a value the spec leaves open: the counter advances, nothing constrains the value (log entry 10). -/
def drawn (s : State) : State := { s with dic.free := s.dic.free + 1 }

/-- The value `drawn` hands out. -/
def freeOf (s : State) : Nat := Config.freeNat s.dic.free

/-! ## The module's own identity -/

/-- Slot index (R35): 2 × shelf + slot; 0 where the straps are not valid (R405). -/
def slotIdx (s : State) : Nat := if s.power.strapsOk then 2 * s.power.strapShelf + b2n s.power.strapB else 0

/-- This shelf's index (R35). -/
def shelfIdx (s : State) : Nat := s.power.strapShelf

/-- The module holds the active role (R37, R407). -/
def isActive (s : State) : Bool := s.red.role == .active || s.red.role == .alone

/-- The module is the standby (R37). -/
def isStandby (s : State) : Bool := s.red.role == .standby

/-- The role code of R407. -/
def RedRole.code : RedRole → Nat
  | .active => 0
  | .standby => 1
  | .alone => 2
  | .noRole => 3

/-- Object 0x0010 (R406). -/
def stateCode (s : State) : Nat :=
  match s.power.mstate with
  | .noSupply => 0
  | .umbra => 0
  | .watch => match s.power.hold with
    | .none => 1
    | .position => 3
    | .layer => 4
    | .peerVersion => 5
  | .live => 2
  | .holdup => 6
  | .recovery => 7

/-- The module is in Live. -/
def inLive (s : State) : Bool := s.power.mstate == .live

/-- A dictionary can be reached: some interface answers (R406, R472). -/
def powered (s : State) : Bool := s.power.mstate != .noSupply && s.power.mstate != .umbra

/-- The CXL link has its supply: all dies are powered in Watch and Live; in hold-up the link die is not (R471). -/
def cxlOn (s : State) : Bool := s.power.mstate == .watch || s.power.mstate == .live

/-- The interfaces that answer a request (R406, R471): a CXL mailbox while the link die has its supply; in recovery hold J7
alone (R360). -/
def answersOn (s : State) (l : Link) : Bool :=
  match l with
  | .ld _ => cxlOn s
  | .j7 => powered s
  | .fnA => powered s && s.power.mstate != .recovery
  | .fnB => powered s && s.power.mstate != .recovery

/-- Bridge B3 has failed: the CXL mailboxes return Internal Error (R462). -/
def mailCut (s : State) (l : Link) : Bool :=
  match l with
  | .ld _ => s.power.bridgeFailed.contains 3
  | .j7 => false
  | .fnA => false
  | .fnB => false

/-! ## Event log (R133) -/

/-- The metering-minute number of the present epoch (R130). -/
def minuteOf (s : State) : Nat := s.epo.count / Config.minuteEpochs

/-- The 32-byte entry of R133 as a little-endian value. -/
def eventBytes (s : State) (kind role value prev : Nat) : Nat :=
  packAt [(0, 6, s.epo.count), (6, 1, kind), (7, 1, slotIdx s + 8 * role), (8, 4, value), (12, 4, prev),
    (16, 4, minuteOf s)]

/-- An entry enters the event log (R133): the ring keeps the latest 4,096 entries, keyed by entry number. -/
def putEvent (s : State) (v : Nat) : State :=
  let m := mset s.fac.events s.fac.eventN v
  { s with
    fac.events := if 4096 ≤ s.fac.eventN then mdel m (s.fac.eventN - 4096) else m
    fac.eventN := s.fac.eventN + 1 }

/-- The role code of an event's source (R133). -/
def roleBits : Role → Nat
  | .owner => 0
  | .tenant => 1
  | .service => 2
  | .vendor => 3
  | .pub => 4

/-- Log an event (R133). -/
def logEvent (s : State) (kind role value prev : Nat) : State := putEvent s (eventBytes s kind role value prev)

/-- Set a flag of the open minute record (R131). -/
def minuteFlag (s : State) (i : Nat) : State := { s with fac.mFlags := setBit s.fac.mFlags i true }

/-! ## Fault records (R227 to R230) -/

/-- The fault record about to be written: the head of R227 and a body packed from offset 32. -/
def newRecord (s : State) (block severity cause body : Nat) : Record :=
  { block := block, severity := severity, cause := cause, active := isActive s, sidereal := s.power.sidereal,
    epoch := s.epo.count, seq := s.recs.seq, repeats := 0, merged := false, mstate := stateCode s, body := body,
    tick := s.epo.ticks, blank := false }

/-- A record written less than 1 s earlier with the same block and cause (R230). -/
def mergesWith (s : State) (block cause : Nat) (r : Record) : Bool :=
  r.block == block && r.cause == cause && decide (s.epo.ticks < r.tick + 1000)

/-- Count one more occurrence in the latest record that merges (R230). -/
def mergeInto (s : State) (block cause : Nat) : List Record → List Record
  | [] => []
  | r :: rest =>
    if mergesWith s block cause r then { r with repeats := satInc r.repeats 65535, merged := true } :: rest
    else r :: mergeInto s block cause rest

/-- The paths a record of severity 2 or 3 adds (R117, R230, R259, R261, R263, R364, R539): the first-fault latch, the snapshot
freeze for blocks 1 and 2, the mark that protection (blocks 1 and 3) may move the draw of this epoch, the recorder's auto-stop
60 s later, and the mark of a failed trial. -/
def faultPaths (s : State) (r : Record) : State :=
  let s := if r.severity ≥ 2 && s.recs.first.isNone then { s with recs.first := some r } else s
  let s := if r.severity ≥ 2 && (r.block == 1 || r.block == 2) && s.trc.snapOn && !s.trc.snapFrozen then
    { s with trc.snapDue := true, trc.snapLeft := 8192 } else s
  let s := if r.severity ≥ 2 && (r.block == 1 || r.block == 3) then { s with fac.stepDue := true } else s
  let s := if r.severity ≥ 3 && fieldAt (dget s 0xA103 0) 128 1 == 1 then
    { s with trc.recStop := some (s.epo.ticks + 60000) } else s
  if r.severity ≥ 3 && r.block == 8 && s.sec.trial then { s with sec.trialBad := true } else s

/-- The bank that runs (R378). -/
def runBank (s : State) : Bank := if s.sec.bankB then s.sec.banks.b else s.sec.banks.a

/-- Write a fault record with a body (R230): merged into a record of the same block and cause written less than 1 s earlier
unless its severity is latch; otherwise a new element of the ring, which keeps 512. -/
def writeRecB (s : State) (block severity cause body : Nat) : State :=
  if severity < 3 && s.recs.ring.any (mergesWith s block cause) then
    { s with recs.ring := mergeInto s block cause s.recs.ring }
  else
    faultPaths { s with
      recs.ring := (newRecord s block severity cause body :: s.recs.ring).take 512
      recs.seq := s.recs.seq + 1 } (newRecord s block severity cause body)

/-! ## Crossings (R476 to R482) -/

/-- A crossing's record (R487): block 10, with its class (0 pulse, 1 FIFO), index and count, at most once a minute per crossing.
-/
def crossRec (s : State) (cls i count : Nat) : State :=
  let key := 32 * cls + i
  if mget s.power.xTicks key ≠ 0 ∧ s.epo.ticks < mget s.power.xTicks key - 1 + 60000 then s
  else
    writeRecB { s with power.xTicks := mset s.power.xTicks key (s.epo.ticks + 1) } 10 (if cls = 0 then 1 else 0) (2 + cls)
      (packAt [(0, 1, 0xFF), (1, 1, cls), (2, 1, i), (4, 4, count)])

/-- The LOST bit of a pulse crossing sets (R476, R486). -/
def setLost (s : State) (i : Nat) : State :=
  if bit s.power.xlost i then s else crossRec { s with power.xlost := setBit s.power.xlost i true } 0 i 1

/-- An event crosses in pulse mode (R476, R481). A running domain acknowledges it before the next command (log entry 98). Into a
stopped one the first event waits for its acknowledge, 15 more are held, and each one beyond is lost; the count kept is one more
than the events held. -/
def pulse (s : State) (i : Nat) (stopped : Bool) : State :=
  if !stopped then s
  else if mget s.power.pulseCount i < 16 then { s with power.pulseCount := madd s.power.pulseCount i 1 }
  else setLost s i

/-- A pulse crossing at a reset of either side (R480, R482): its count is cleared, and LOST set if it was not zero. -/
def resetPulse (s : State) (i : Nat) : State :=
  let held := mget s.power.pulseCount i
  let s := { s with power.pulseCount := mdel s.power.pulseCount i }
  if 2 ≤ held then setLost s i else s

/-- Entries of a FIFO are discarded (R478, R482, R486): counted, saturating. -/
def dropEntries (s : State) (f n : Nat) : State :=
  { s with power.xdrop := mset s.power.xdrop f (min (mget s.power.xdrop f + n) 0xFFFFFFFF) }

/-- A FIFO at a reset of either side (R478, R487): the `n` entries in flight are discarded. -/
def resetFifo (s : State) (f n : Nat) : State := if n = 0 then s else crossRec (dropEntries s f n) 1 f n

/-- Write a fault record whose body carries nothing further. -/
def writeRec (s : State) (block severity cause : Nat) : State := writeRecB s block severity cause 0

/-- The 128 bytes of a fault record as a little-endian value (R227). -/
def recordBytes (slot : Nat) (r : Record) : Nat :=
  if r.blank then 0
  else packAt [(0, 1, 0x1E), (1, 1, slot + 8 * b2n r.active), (2, 1, r.block), (3, 1, r.severity), (4, 2, r.cause),
    (6, 2, b2n r.merged), (8, 6, r.sidereal), (14, 6, r.epoch), (20, 4, r.seq), (24, 2, r.repeats), (28, 1, r.mstate),
    (32, 96, r.body)]

/-! ## Register accesses (R463) -/

/-- The number of a processor target (R488). -/
def coreNum : Core5 → Nat
  | .rt => 0
  | .s0 => 1
  | .s1 => 2
  | .s2 => 3
  | .s3 => 4

/-- A register access that completed. -/
def accessOk (s : State) : State := { s with dic.busErr := false }

/-- An access that completes with a bus error (R463, R501 source 7): no effect, counted for the target block. -/
def busError (s : State) (core : Core5) (block : Nat) : State :=
  { s with
    dic.busErr := true
    power.busErrors := madd s.power.busErrors block 1
    icu.plvl := mset s.icu.plvl (coreNum core) (setBit (mget s.icu.plvl (coreNum core)) 7 true) }

/-! ## The DRAM stack (R157, R440) -/

/-- Write bytes at an offset of the stack. -/
def dramBytes (s : State) (a : Nat) (l : List Byte) : State := { s with net.dram := memWriteAll s.net.dram a l }

/-- Write a number as `n` little-endian bytes. -/
def dramPut (s : State) (a n v : Nat) : State := dramBytes s a ((bytesOf v n).map (BitVec.ofNat 8))

/-- A little-endian number of `n` bytes. -/
def dramN (s : State) (a n : Nat) : Nat := leOf ((memReadAll s.net.dram a n).map (·.toNat))

/-- The windows of LD0 (Owner), LD1 (Tenant) and LD2 (Service) in the stack (R441). -/
abbrev ld0Base : Nat := 16 * 2 ^ 30
abbrev ld1Base : Nat := 40 * 2 ^ 30
abbrev ld2Base : Nat := 48 * 2 ^ 30

/-! ## Mailbox commands (R408, R450, R452) -/

/-- Count a command that arrives on a mailbox (R408). -/
def mailCount (s : State) (l : Link) : State :=
  match l with
  | .ld _ => bump s 0x1012 3
  | _ => s

/-- A mailbox command completes; its completion crosses to the link die (R476, R480). -/
def mailDone (s : State) (ld op code : Nat) (payload : List Nat) : State :=
  { pulse s 8 (s.net.cxl != 2) with net.mailOut := some { ld := ld, opcode := op, code := code, payload := payload } }

/-- A command on a mailbox that B3 no longer joins to the control die completes with Internal Error (R462). -/
def mailLost (s : State) (l : Link) (op : Nat) : State :=
  match l with
  | .ld n => mailDone (mailCount s l) n op 3 []
  | .j7 => s
  | .fnA => s
  | .fnB => s

/-- A mailbox command completes with an error and is counted as refused (R452). -/
def mailRefused (s : State) (ld op code : Nat) : State := bump (mailDone s ld op code []) 0x1012 4

/-- A message that came by mailbox completes there with Success (R452). -/
def mailMessage (s : State) (l : Link) (op : Nat) : State :=
  match l with
  | .ld n => mailDone s n op 0 []
  | _ => s

/-! ## Bits of phase masks and strings -/

/-- Phases 0 to 11 serve string A, 12 to 23 string B (R200). -/
def phaseStr (p : Nat) : Str := if p < 12 then .A else .B

/-- The phases of a string (R200). -/
def phasesOf (x : Str) : List Nat := match x with
  | .A => upTo 12
  | .B => (upTo 12).map (· + 12)

/-- The bits of a string's phases in a 24-bit mask. -/
def strMask (x : Str) : Nat := match x with
  | .A => 0xFFF
  | .B => 0xFFF000

end Sys2Proof.Machine
end

