-- ==== Sys2Proof/Machine/Operands.lean ====
section
/-! DEFINITION. Number formats and operand forms: the fixed-point formats of R11 and R241, loop-engine operands (R242,
R243), binary32 arithmetic (R146, R381), calibration of measured values (R513, R514) and the CRC-8 of R318. -/
namespace Sys2Proof.Machine

/-! ## Fixed point (R11, R241) -/

/-- The signed value of a 32-bit pattern held as a number. -/
def s32 (n : Nat) : Int := ofTwos n 32

/-- A signed value fits 32 bits. -/
def fits32 (i : Int) : Bool := decide (-2147483648 ≤ i) && decide (i ≤ 2147483647)

/-- Saturate to 32 bits. -/
def sat32 (i : Int) : Int := clampI i (-2147483648) 2147483647

/-- Saturate to Q16.48 (R241). -/
def sat64 (i : Int) : Int := clampI i (-9223372036854775808) 9223372036854775807

/-- Divide by 2^n, rounding to nearest with ties to even (R241). -/
def rne (i : Int) (n : Nat) : Int :=
  let d : Int := 2 ^ n
  let q := i / d
  let r := i % d
  if d < 2 * r then q + 1 else if 2 * r = d ∧ q % 2 = 1 then q + 1 else q

/-- 2^48, one in Q16.48. -/
abbrev q48 : Int := 281474976710656

/-- 2^24, one in Q8.24. -/
abbrev q24 : Int := 16777216

/-- mV as Q8.24 in units of 10 V (R243). -/
def mvQ24 (mv : Nat) : Int := sat32 (tdiv ((mv : Int) * q24) 10000)

/-- mA as Q8.24 A (R243). -/
def maQ24 (ma : Int) : Int := sat32 (tdiv (ma * q24) 1000)

/-- mA as Q8.24 in units of 4 A (R243). -/
def maQ24x4 (ma : Int) : Int := sat32 (tdiv (ma * q24) 4000)

/-! ## Loop-engine operands (R241, R242) -/

/-- A value stored from an accumulator (R241): rounded to nearest, ties to even, and saturated; the flag tells whether it
saturated. -/
def accStore (a : Int) (f : QFmt) : Int × Bool :=
  let v := match f with | .q1_31 => rne a 17 | .q8_24 => rne a 24
  (sat32 v, !fits32 v)

/-- A value loaded into an accumulator: aligned to Q16.48, exact (R241). -/
def accLoad (v : Int) (f : QFmt) : Int := match f with | .q1_31 => v * 131072 | .q8_24 => v * q24

/-- Read an operand: its signed value, and whether reading it saturated. -/
def lread (c : LoopCtx) : LOp → Int × Bool
  | .reg i => (s32 (mget c.regs i), false)
  | .mem i => (s32 (mget c.memNew i), false)
  | .acc i f => accStore (atI c.accs i) f

/-- Write a 32-bit result to an operand. -/
def lwrite (c : LoopCtx) (d : LOp) (v : Int) : LoopCtx :=
  match d with
  | .reg i => { c with regs := mset c.regs i (toTwos v 32) }
  | .mem i => { c with memNew := mset c.memNew i (toTwos v 32) }
  | .acc i f => { c with accs := setAt c.accs i (accLoad v f) }

/-- A product aligned to Q16.48 with rounding to nearest, ties to even (R241). -/
def lproduct (a : Int) (fa : QFmt) (b : Int) (fb : QFmt) : Int :=
  match fa, fb with
  | .q8_24, .q8_24 => a * b
  | .q1_31, .q8_24 => rne (a * b) 7
  | .q8_24, .q1_31 => rne (a * b) 7
  | .q1_31, .q1_31 => rne (a * b) 14

/-- A result of add, subtract or shift: exact where it fits 32 bits, otherwise a free value (log entry 12). -/
def lexact (op : Nat) (v : Int) : Int × Bool :=
  if fits32 v then (v, false) else ((Config.loopOutside op v).toInt, Config.loopOutsideSat op v)

/-- Q8.24 ÷ Q8.24, truncating and saturating; a divisor of 0 saturates (R242). -/
def ldivide (a b : Int) : Int × Bool :=
  if b = 0 then
    (if 0 < a then 2147483647 else if a < 0 then -2147483648 else Config.loopZeroByZero.toInt, true)
  else (sat32 (tdiv (a * q24) b), !fits32 (tdiv (a * q24) b))

/-! ## CRC-8 (R318, R550) -/

/-- One bit of the CRC-8 with polynomial 0x07. -/
def crc8Bit (c : Nat) : Nat := if 128 ≤ c then ((c * 2) ^^^ 0x107) % 256 else c * 2

/-- Eight bits of the CRC-8. -/
def crc8Bits : Nat → Nat → Nat
  | 0, c => c
  | n + 1, c => crc8Bits n (crc8Bit c)

/-- CRC-8, polynomial 0x07, initial value 0x00 (R318). -/
def crc8 : Nat → List Nat → Nat
  | c, [] => c
  | c, b :: rest => crc8 (crc8Bits 8 (c ^^^ (b % 256))) rest

/-- A 24-bit word with its CRC in bits [31:24] (R318, R550). -/
def withCrc8 (w : Nat) : Nat := w % 2 ^ 24 + 2 ^ 24 * crc8 0 (bytesOf w 3)

/-! ## Calibration (R509, R511, R513, R514) -/

/-- The value of the user layer in force (R511), without the length mark. -/
def calLayer (s : State) : Nat := dget s 0x9000 0

/-- The gain (ppm) and offset the user layer gives a channel: 0 and 0 without an entry (R511). -/
def calEntry (v : Nat) (ch : Nat) : Nat → Nat → Int × Int
  | 0, _ => (0, 0)
  | n + 1, off =>
    if fieldAt v off 2 = ch then (ofTwos (fieldAt v (off + 4) 2) 16, ofTwos (fieldAt v (off + 6) 2) 16)
    else calEntry v ch n (off + 8)

/-- The entry of a channel in the user layer in force. -/
def calOf (s : State) (ch : Nat) : Int × Int :=
  calEntry (calLayer s) ch (fieldAt (calLayer s) 2 2) 16

/-- The user correction of a factory-corrected value (R513). -/
def calUser (s : State) (ch : Nat) (y : Int) : Int :=
  let e := calOf s ch
  y + tdiv (y * e.1) 1000000 + e.2

/-- The factory entry of a channel (R509). -/
def calTrim (s : State) (ch : Nat) : CalEntry :=
  (s.sec.calFactory.find? (fun e => e.channel == ch)).getD { channel := ch, form := 0, gain := 0, offset := 0, temp := 0 }

/-- The gain error of a factory entry at a temperature in °C (R509, R513). -/
def calGain (e : CalEntry) (t : Int) : Int := e.gain + (if e.form = 1 then e.temp * (t - 25) else 0)

/-- The factory correction of a raw value (R513). -/
def calFactory (s : State) (ch : Nat) (t x : Int) : Int :=
  let e := calTrim s ch
  x + tdiv (x * calGain e t) 1000000000 + tdiv e.offset 16

/-- A raw value corrected by both layers (R513). -/
def calibrated (s : State) (ch : Nat) (t x : Int) : Int := calUser s ch (calFactory s ch t x)

/-- The correction of a quantity that is not negative. -/
def calibratedN (s : State) (ch : Nat) (t : Int) (x : Nat) : Nat := (calibrated s ch t x).toNat

/-- The user entry of RECT_SET inverted, and then its factory entry (R514). -/
def calInverse (s : State) (ch : Nat) (t y : Int) : Int :=
  let e := calOf s ch
  let f := calTrim s ch
  let y := tdiv ((y - e.2) * 1000000) (1000000 + e.1)
  tdiv ((y - tdiv f.offset 16) * 1000000000) (1000000000 + calGain f t)

/-! ## binary32 (R146, R381) -/

/-- A binary32 pattern that is a NaN or an infinity (R381). -/
def f32NonFinite (w : Nat) : Bool := field w 23 8 == 255

/-- A finite binary32 pattern as an exact multiple of 2^(-149). -/
def f32ToInt (w : Nat) : Int :=
  let e := field w 23 8
  let f := field w 0 23
  let m : Nat := if e = 0 then f else (f + 8388608) * 2 ^ (e - 1)
  if bit w 31 then -(m : Int) else m

/-- The number of bits of a number below 2^`fuel`. -/
def bitLen : Nat → Nat → Nat
  | 0, _ => 0
  | fuel + 1, n => if n = 0 then 0 else 1 + bitLen fuel (n / 2)

/-- Round the magnitude `num / den` × 2^(-149) to binary32, ties to even, with its sign: the pattern of R146. -/
def f32OfRatio (neg : Bool) (num den : Nat) : Nat :=
  let q := num / den
  let len := bitLen 600 q
  let e := if len ≤ 24 then 0 else len - 24
  let m := num / (den * 2 ^ e)
  let r := num % (den * 2 ^ e)
  let d := den * 2 ^ e
  let m := if d < 2 * r then m + 1 else if 2 * r = d ∧ m % 2 = 1 then m + 1 else m
  let p := if m < 8388608 then m else if m < 16777216 then (e + 1) * 8388608 + (m - 8388608)
    else (e + 2) * 8388608
  let p := if 0x7F800000 ≤ p then 0x7F800000 else p
  if neg then 2147483648 + p else p

/-- An integer multiple of 2^(-149), divided by a positive number, as binary32. -/
def f32OfInt (i : Int) (den : Nat) : Nat := f32OfRatio (decide (i < 0)) i.natAbs den

/-- The integer part of a finite binary32 value, truncated toward zero. -/
def f32Trunc (w : Nat) : Int := tdiv (f32ToInt w) (2 ^ 149)

/-- The order of two finite binary32 values. -/
def f32Lt (a b : Nat) : Bool := decide (f32ToInt a < f32ToInt b)

/-- The binary32 pattern of an integer. -/
def f32OfI (i : Int) : Nat := f32OfInt (i * 2 ^ 149) 1

end Sys2Proof.Machine
end

