-- ==== Sys2Proof/Machine/Tiles.lean ====
section
/-! DEFINITION. The compute tiles and their arithmetic (R139, R140, R146 to R153, R158): the mesh, formats, conversion, MX blocks,
exact and ordered products, the reduction tree, and the vector units. -/
namespace Sys2Proof.Machine

/-! ## Tiles (R139, R140, R183) -/

/-- The row and the column of a tile in the mesh (R139). -/
def tileRow (t : Nat) : Nat := t / 4
def tileCol (t : Nat) : Nat := t % 4

/-- Mesh hops from a tile to the channel attached to tile `c` (R140). -/
def hops (t c : Nat) : Nat :=
  (tileRow t - tileRow c) + (tileRow c - tileRow t) + (tileCol t - tileCol c) + (tileCol c - tileCol t)

/-- The SRAM of a tile and one of its 32 banks, bytes (R139). -/
abbrev tileSram : Nat := 2 ^ 22
abbrev bankBytes : Nat := 2 ^ 17

/-- The tiles of replica `r` (R183). -/
def replicaTiles (r : Nat) : List Nat := (upTo 4).map (4 * r + ·)

/-- The quarter of the weight stripes that replica `r` holds in step `k` of a refresh, `turn` refreshes after the start (R183):
each quarter is in one replica at a time, and in four steps every replica has held every quarter. -/
def stripeAt (turn r k : Nat) : Nat := (turn + r + k) % 4

/-! ## The bond's CRC-16 (R158) -/

/-- One bit of the CRC-16 with polynomial 0x1021. -/
def crc16Bit (c : Nat) : Nat := if 0x8000 ≤ c then ((c * 2) ^^^ 0x11021) % 65536 else c * 2

/-- Eight bits of the CRC-16. -/
def crc16Bits : Nat → Nat → Nat
  | 0, c => c
  | n + 1, c => crc16Bits n (crc16Bit c)

/-- CRC-16 over bytes, most significant bit first, without reflection or final XOR (R158). -/
def crc16 : Nat → List Nat → Nat
  | c, [] => c
  | c, b :: rest => crc16 (crc16Bits 8 (c ^^^ (b % 256 * 256))) rest

/-- The CRC-16 of a 64-byte transfer: the data, then the 5-byte transfer address (R158). -/
def bondCrc (addr : Nat) (data : List Nat) : Nat := crc16 0xFFFF (data ++ bytesOf addr 5)

/-! ## Formats (R146) -/

/-- The formats of R146, by their names in R176. -/
inductive Fmt where
  | fp32
  | bf16
  | fp16
  | e4m3
  | e5m2
  | mxfp8
  | mxfp4
  | mxint8
  | int8
  | int16
  deriving DecidableEq, Repr

/-- A floating-point format (R146): mantissa bits, bias, exponent bits. MX elements share the formats of their elements. -/
def Fmt.float : Fmt → Option (Nat × Nat × Nat)
  | .fp32 => some (23, 127, 8)
  | .bf16 => some (7, 127, 8)
  | .fp16 => some (10, 15, 5)
  | .e4m3 => some (3, 7, 4)
  | .e5m2 => some (2, 15, 5)
  | .mxfp8 => some (3, 7, 4)
  | .mxfp4 => some (1, 1, 2)
  | .mxint8 => none
  | .int8 => none
  | .int16 => none

/-- A format with infinities and the NaNs of IEEE 754 (R146). -/
def Fmt.ieee : Fmt → Bool
  | .fp32 => true
  | .bf16 => true
  | .fp16 => true
  | .e5m2 => true
  | .e4m3 => false
  | .mxfp8 => false
  | .mxfp4 => false
  | .mxint8 => false
  | .int8 => false
  | .int16 => false

/-- The code of the largest finite value of a floating-point format, sign bit clear (R146). -/
def Fmt.maxCode : Fmt → Nat
  | .fp32 => 0x7F7FFFFF
  | .bf16 => 0x7F7F
  | .fp16 => 0x7BFF
  | .e4m3 => 0x7E
  | .e5m2 => 0x7B
  | .mxfp8 => 0x7E
  | .mxfp4 => 0x7
  | .mxint8 => 127
  | .int8 => 127
  | .int16 => 32767

/-- The canonical NaN of a destination (R148); a format without NaN takes 0, its block or counter marks it. -/
def Fmt.nanCode : Fmt → Nat
  | .fp32 => 0x7FC00000
  | .bf16 => 0x7FC0
  | .fp16 => 0x7E00
  | .e4m3 => 0x7F
  | .e5m2 => 0x7E
  | .mxfp8 => 0x7F
  | .mxfp4 => 0
  | .mxint8 => 0
  | .int8 => 0
  | .int16 => 0

/-- Bits of an element (R146). -/
def Fmt.bits : Fmt → Nat
  | .fp32 => 32
  | .bf16 => 16
  | .fp16 => 16
  | .e4m3 => 8
  | .e5m2 => 8
  | .mxfp8 => 8
  | .mxfp4 => 4
  | .mxint8 => 8
  | .int8 => 8
  | .int16 => 16

/-- The magnitude of a finite code of a floating-point format, in 2^(-149) (R146): subnormals kept. -/
def floatMag (m bias e f : Nat) : Nat :=
  if e = 0 then f * 2 ^ (150 - bias - m) else (2 ^ m + f) * 2 ^ (149 + e - bias - m)

/-- One step of an integer format, in 2^(-149): 1, or 2^(-6) for an MXINT8 element (R146). -/
def Fmt.step (k : Fmt) : Nat := if k = .mxint8 then 2 ^ 143 else 2 ^ 149

/-- The value of a code (R146). -/
def Fmt.value (k : Fmt) (c : Nat) : Exact :=
  match k.float with
  | some (m, bias, eb) =>
    let neg := bit c (m + eb)
    let e := field c m eb
    let f := field c 0 m
    if k.ieee && e == 2 ^ eb - 1 then (if f = 0 then .inf neg else .nan)
    else if (k = .e4m3 ∨ k = .mxfp8) ∧ c % 128 = 127 then .nan
    else .fin neg (floatMag m bias e f) 1
  | none =>
    let i := ofTwos c k.bits
    .fin (decide (i < 0)) (i.natAbs * k.step) 1

/-- `num / den` rounded to an integer, ties to even (R148). -/
def rneNat (num den : Nat) : Nat :=
  let m := num / den
  let r := num % den
  if den < 2 * r then m + 1 else if 2 * r = den ∧ m % 2 = 1 then m + 1 else m

/-- A magnitude rounded to `m` mantissa bits, subnormals of step 2^`low` kept, in 2^(-149) (R148). -/
def roundMag (m low num den : Nat) : Nat :=
  let len := bitLen 900 (num / den)
  let e := max low (len - (m + 1))
  rneNat num (den * 2 ^ e) * 2 ^ e

/-- The code of a magnitude that a floating-point format holds. -/
def codeOfMag (m low v : Nat) : Nat :=
  if v < 2 ^ (m + low) then v / 2 ^ low
  else
    let k := bitLen 900 v - 1
    (k - m - low + 1) * 2 ^ m + (v / 2 ^ (k - m) - 2 ^ m)

/-- Conversion to a format (R148): the code, and whether a finite value saturated. A destination that keeps no infinity takes
its largest finite value for one. -/
def Fmt.convert (k : Fmt) (x : Exact) : Nat × Bool :=
  match k.float with
  | some (m, bias, eb) =>
    let sign := fun (neg : Bool) (c : Nat) => if neg then 2 ^ (m + eb) + c else c
    match x with
    | .nan => (k.nanCode, false)
    | .inf neg => (sign neg (if k.ieee then (2 ^ eb - 1) * 2 ^ m else k.maxCode), false)
    | .fin neg num den =>
      let low := 150 - bias - m
      let v := roundMag m low num den
      let top := floatMag m bias (field k.maxCode m eb) (field k.maxCode 0 m)
      if v ≤ top then (sign neg (codeOfMag m low v), false)
      else if k = .fp32 ∨ k = .bf16 ∨ k = .fp16 then (sign neg ((2 ^ eb - 1) * 2 ^ m), false)
      else (sign neg k.maxCode, true)
  | none =>
    let down : Nat := if k = .mxint8 then k.maxCode else k.maxCode + 1
    match x with
    | .nan => (0, false)
    | .inf neg => (toTwos (if neg then -(down : Int) else (k.maxCode : Int)) k.bits, false)
    | .fin neg num den =>
      let v := rneNat num (den * k.step)
      if neg then (if v ≤ down then (toTwos (-(v : Int)) k.bits, false) else (toTwos (-(down : Int)) k.bits, true))
      else if v ≤ k.maxCode then (v, false) else (k.maxCode, true)

/-! ## MX blocks (R147, R149) -/

/-- The value of an element of a block: its element value times 2^(scale − 127); a scale of 0xFF makes it NaN (R147). -/
def mxValue (k : Fmt) (scale c : Nat) : Exact :=
  if scale = 0xFF then .nan
  else match k.value c with
    | .fin neg num den => .fin neg (num * 2 ^ scale) (den * 2 ^ 127)
    | .inf neg => .inf neg
    | .nan => .nan

/-- The exponent of the largest finite element value (R149). -/
def emax (k : Fmt) : Int := if k = .mxfp8 then 8 else if k = .mxfp4 then 2 else 0

/-- The binary logarithm, rounded down, of the positive magnitude `num / den` × 2^(-149). -/
def floorLog (num den : Nat) : Int :=
  let k : Int := (bitLen 900 num : Int) - bitLen 900 den
  let below : Bool := if 0 ≤ k then decide (num < den * 2 ^ k.toNat) else decide (num * 2 ^ (-k).toNat < den)
  (if below then k - 1 else k) - 149

/-- The larger of two magnitudes; an infinity is beyond every other. -/
def largerMag (a b : Option (Nat × Nat)) : Option (Nat × Nat) :=
  match a, b with
  | some (n, d), some (m, e) => if m * d ≤ n * e then some (n, d) else some (m, e)
  | none, _ => none
  | _, none => none

/-- The magnitude of a value, none for an infinity. -/
def magOf : Exact → Option (Nat × Nat)
  | .fin _ n d => some (n, d)
  | .inf _ => none
  | .nan => none

/-- A value times 2^(−e). -/
def scaleDown (x : Exact) (e : Int) : Exact :=
  match x with
  | .fin neg n d => if 0 ≤ e then .fin neg n (d * 2 ^ e.toNat) else .fin neg (n * 2 ^ (-e).toNat) d
  | .inf neg => .inf neg
  | .nan => .nan

/-- Quantisation of a block to an MX format (R149): the scale code, the elements, and how many saturated. -/
def mxQuantise (k : Fmt) (l : List Exact) : Nat × List Nat × Nat :=
  if l.contains .nan then (0xFF, l.map (fun _ => 0), 0)
  else
    let amax := (l.map magOf).foldl largerMag (some (0, 1))
    if amax.any (fun p => p.1 == 0) then (0, l.map (fun _ => 0), 0)
    else
      let e : Int := match amax with
        | some (n, d) => clampI (floorLog n d - emax k) (-127) 127
        | none => 127
      let out := l.map (fun x => k.convert (scaleDown x e))
      ((e + 127).toNat, out.map (·.1), out.countP (·.2))

/-! ## Products (R150 to R152) -/

/-- The pairings of a product (R150): whether it is of the exact class, and the length of an exact block; none for any other
pairing, which the loader refuses. -/
def pairing : Fmt → Fmt → Option (Bool × Nat)
  | .e4m3, .e4m3 => some (true, 1024)
  | .e4m3, .e5m2 => some (true, 1024)
  | .e5m2, .e4m3 => some (true, 1024)
  | .e5m2, .e5m2 => some (true, 1024)
  | .int8, .int8 => some (true, 1024)
  | .int16, .int16 => some (true, 1024)
  | .int16, .int8 => some (true, 1024)
  | .mxfp8, .mxfp8 => some (true, 32)
  | .mxfp4, .mxfp4 => some (true, 32)
  | .mxfp4, .mxfp8 => some (true, 32)
  | .mxint8, .mxint8 => some (true, 32)
  | .bf16, .bf16 => some (false, 32)
  | .bf16, .fp16 => some (false, 32)
  | .fp16, .bf16 => some (false, 32)
  | .fp16, .fp16 => some (false, 32)
  | .fp32, .fp32 => some (false, 32)
  | _, _ => none

/-- The exact product of two values, in 2^(-298) over a denominator. -/
def mulExact (a b : Exact) : Exact :=
  match a, b with
  | .nan, _ => .nan
  | _, .nan => .nan
  | .inf p, .inf q => .inf (p != q)
  | .inf p, .fin q n _ => if n = 0 then .nan else .inf (p != q)
  | .fin q n _, .inf p => if n = 0 then .nan else .inf (p != q)
  | .fin p n d, .fin q m e => .fin (p != q) (n * m) (d * e)

/-- A finite exact value as an integer over the common denominator `den`. -/
def overDen (den : Nat) : Exact → Int
  | .fin neg n d => if neg then -((n * (den / d) : Nat) : Int) else ((n * (den / d) : Nat) : Int)
  | .inf _ => 0
  | .nan => 0

/-- The partial sum of an exact block (R151, R152), rounded once to FP32: NaN for a NaN or for infinities of both signs, an
infinity for infinities of one sign, +0 for an exact sum of zero. Every denominator is a power of 2 up to 2^254. -/
def exactPartial (l : List (Exact × Exact)) : Nat :=
  let ps := l.map (fun p => mulExact p.1 p.2)
  if ps.contains .nan || (ps.contains (.inf true) && ps.contains (.inf false)) then Fmt.nanCode .fp32
  else if ps.contains (.inf false) then 0x7F800000
  else if ps.contains (.inf true) then 0xFF800000
  else f32OfInt (sumI (ps.map (overDen (2 ^ 254)))) (2 ^ 254 * 2 ^ 149)

/-- The sign of a binary32 pattern. -/
def f32Neg (a : Nat) : Bool := bit a 31

/-- A fused multiply-add in FP32 with one rounding (R148, R151). -/
def f32Fma (a b c : Nat) : Nat :=
  match mulExact (Fmt.value .fp32 a) (Fmt.value .fp32 b), Fmt.value .fp32 c with
  | .nan, _ => Fmt.nanCode .fp32
  | _, .nan => Fmt.nanCode .fp32
  | .inf p, .inf q => if p = q then (if p then 0xFF800000 else 0x7F800000) else Fmt.nanCode .fp32
  | .inf p, .fin _ _ _ => if p then 0xFF800000 else 0x7F800000
  | .fin _ _ _, .inf p => if p then 0xFF800000 else 0x7F800000
  | .fin p n _, .fin q m _ =>
    let x : Int := (if p then -(n : Int) else n) + (if q then -((m * 2 ^ 149 : Nat) : Int) else ((m * 2 ^ 149 : Nat) : Int))
    if x = 0 then (if p && q then 0x80000000 else 0) else f32OfInt x (2 ^ 149)

/-- Addition in FP32 (R148, R153). -/
def f32Add (a b : Nat) : Nat := f32Fma a 0x3F800000 b

/-- Multiplication in FP32 (R148, R153): the sign of a zero product is that of its operands. -/
def f32Mul (a b : Nat) : Nat :=
  match mulExact (Fmt.value .fp32 a) (Fmt.value .fp32 b) with
  | .nan => Fmt.nanCode .fp32
  | .inf p => if p then 0xFF800000 else 0x7F800000
  | .fin p n _ => f32OfRatio p n (2 ^ 149)

/-- Division in FP32 (R153). -/
def f32Div (a b : Nat) : Nat :=
  match Fmt.value .fp32 a, Fmt.value .fp32 b with
  | .nan, _ => Fmt.nanCode .fp32
  | _, .nan => Fmt.nanCode .fp32
  | .inf _, .inf _ => Fmt.nanCode .fp32
  | .inf p, .fin q _ _ => if p != q then 0xFF800000 else 0x7F800000
  | .fin p _ _, .inf q => if p != q then 0x80000000 else 0
  | .fin p n _, .fin q m _ =>
    if m = 0 then (if n = 0 then Fmt.nanCode .fp32 else if p != q then 0xFF800000 else 0x7F800000)
    else f32OfRatio (p != q) (n * 2 ^ 149) m

/-- Square root in FP32 (R153): the root of a negative number is NaN. The root is exact, or strictly between two multiples of
2^(-179), so that one bit below them decides the rounding. -/
def f32Sqrt (a : Nat) : Nat :=
  match Fmt.value .fp32 a with
  | .nan => Fmt.nanCode .fp32
  | .inf p => if p then Fmt.nanCode .fp32 else 0x7F800000
  | .fin p n _ =>
    if n = 0 then a
    else if p then Fmt.nanCode .fp32
    else
      let v := n * 2 ^ 149 * 2 ^ 60
      let r := isqrtFrom v 260 0
      f32OfRatio false (2 * r + (if r * r = v then 0 else 1)) (2 ^ 31)

/-- The partial sum of an ordered block (R151): from +0, one fused multiply-add per index in increasing order. -/
def orderedPartial (l : List (Nat × Nat)) : Nat := l.foldl (fun acc p => f32Fma p.1 p.2 acc) 0

/-- One level of the reduction tree (R152): neighbours are added, an odd last passes up. -/
def pairUp : List Nat → List Nat
  | a :: b :: rest => f32Add a b :: pairUp rest
  | l => l

/-- The reduction tree over at most 2^`levels` partial sums (R152). -/
def treeOf : Nat → List Nat → Nat
  | 0, l => at0 l 0
  | n + 1, l => if l.length ≤ 1 then at0 l 0 else treeOf n (pairUp l)

/-- The reduction of the block partial sums, with the accumulate input where there is one (R152). -/
def reduceTree (l : List Nat) (c : Option Nat) : Nat :=
  let y := treeOf l.length l
  match c with
  | some v => f32Add y v
  | none => y

/-- A list cut into blocks of `n` (R151). -/
def blocksOf {α : Type} (n : Nat) : Nat → List α → List (List α)
  | 0, _ => []
  | fuel + 1, l => if l.isEmpty then [] else l.take n :: blocksOf n fuel (l.drop n)

/-- A product of the exact class along its reduction dimension (R151, R152), and how many block sums are not finite. -/
def exactDot (n : Nat) (l : List (Exact × Exact)) (c : Option Nat) : Nat × Nat :=
  let ps := (blocksOf n l.length l).map exactPartial
  (reduceTree ps c, ps.countP f32NonFinite)

/-- A product of the ordered class (R151, R152), its operands converted to FP32, and how many block sums are not finite. -/
def orderedDot (n : Nat) (l : List (Nat × Nat)) (c : Option Nat) : Nat × Nat :=
  let ps := (blocksOf n l.length l).map orderedPartial
  (reduceTree ps c, ps.countP f32NonFinite)

/-! ## Vector units (R153) -/

/-- The operations of the vector units and of the elementwise operator (R153, R178). -/
inductive VecOp where
  | add
  | sub
  | mul
  | div
  | min
  | max
  | abs
  | neg
  | exp
  | log
  | tanh
  | sigmoid
  | silu
  | gelu
  | sqrt
  | rsqrt
  | fma
  deriving DecidableEq, Repr

/-- A binary32 pattern with its sign changed. -/
def f32Flip (a : Nat) : Nat := if f32Neg a then a - 0x80000000 else a + 0x80000000

/-- A binary32 pattern as a number in the order of its value, −0 below +0. -/
def f32Order (a : Nat) : Int := if f32Neg a then -(a - 0x80000000 + 1 : Nat) else (a : Int)

/-- The lesser or the greater of two values (R148, R178): NaN where one is. -/
def f32Pick (least : Bool) (a b : Nat) : Nat :=
  if Fmt.value .fp32 a = .nan ∨ Fmt.value .fp32 b = .nan then Fmt.nanCode .fp32
  else if decide (f32Order a ≤ f32Order b) = least then a else b

/-! The transcendental functions are formed as multiples of 2^(-400), far finer than the smallest step of binary32. -/

/-- One, and a number of 2^(-149) in that unit. -/
abbrev fxOne : Nat := 2 ^ 400
def fxOf (neg : Bool) (n : Nat) : Int := if neg then -((n * 2 ^ 251 : Nat) : Int) else ((n * 2 ^ 251 : Nat) : Int)

/-- The product of two fixed-point numbers. -/
def fxMul (a b : Int) : Int := a * b / (fxOne : Int)

/-- The sum of the exponential series from its `k`-th term on. -/
def expTerms (r : Int) : Nat → Nat → Int → Int → Int
  | 0, _, _, sum => sum
  | n + 1, k, term, sum => expTerms r n (k + 1) (fxMul term r / ((k + 1 : Nat) : Int)) (sum + term)

/-- Repeated squaring. -/
def squareFx : Nat → Int → Int
  | 0, y => y
  | n + 1, y => squareFx n (fxMul y y)

/-- exp of a number from −128 to 128: the series at x / 2^16, squared 16 times; beyond, that of the nearer end. -/
def expFx (x : Int) : Int :=
  let x := clampI x (-(128 * fxOne : Nat)) (128 * fxOne : Nat)
  squareFx 16 (expTerms (x / 65536) 40 0 fxOne 0)

/-- The sum of u^(2k+1) / (2k+1) over `n` terms. -/
def atanhTerms (u2 : Int) : Nat → Nat → Int → Int → Int
  | 0, _, _, sum => sum
  | n + 1, k, pow, sum => atanhTerms u2 n (k + 1) (fxMul pow u2) (sum + pow / ((2 * k + 1 : Nat) : Int))

/-- ln of a fixed-point number from 1 to 2. -/
def lnUnit (a : Int) : Int :=
  let u := (a - fxOne) * fxOne / (a + fxOne)
  2 * atanhTerms (fxMul u u) 130 0 u 0

/-- ln of `n` × 2^(-149), `n` positive. -/
def lnFx (n : Nat) : Int :=
  let len := bitLen 300 n
  ((len : Int) - 150) * lnUnit (2 * fxOne) + lnUnit (n * 2 ^ 400 / 2 ^ (len - 1) : Nat)

/-- The logistic function, and tanh by it. -/
def sigmoidFx (x : Int) : Int := (fxOne * fxOne : Nat) / (fxOne + expFx (-x))
def tanhFx (x : Int) : Int := 2 * sigmoidFx (2 * x) - fxOne

/-- GELU in its tanh form, with sqrt(2/π) and 0.044715 (PRESUMED; log entry 92). -/
def geluFx (x : Int) : Int :=
  let c : Int := 2060337309860625669158887524896583040847384015804865113243324589387049149478680161082114736606036866790242378560860575272
  let y := fxMul c (x + fxMul x (fxMul x x) * 44715 / 1000000)
  fxMul x (fxOne + tanhFx y) / 2

/-- The largest binary32 pattern, finite, whose value is at most a multiple of 2^(-400). -/
def floorCode (v : Nat) : Nat :=
  let q := v / 2 ^ 251
  let e := bitLen 700 q - 24
  min 0x7F7FFFFF (if q < 8388608 then q else (e + 1) * 8388608 + (q / 2 ^ e - 8388608))

/-- A result within `span` ulp of an exact value (R153): which of the patterns around it the one fixed algorithm of the units
gives is a free value (log entry 13). -/
def within (op a span : Nat) (v : Int) : Nat :=
  let c := min 0x7F800000 (floorCode v.natAbs + Config.vectorUnit op a % (2 * span) + 1 - span)
  if v < 0 then 0x80000000 + c else c

/-- A function of the vector units on an FP32 operand: within `span` ulp of `f` on a finite number, `up` and `down` at the
infinities (R148, R153). -/
def vecFun (op span a up down : Nat) (f : Int → Int) : Nat :=
  match Fmt.value .fp32 a with
  | .nan => Fmt.nanCode .fp32
  | .inf neg => if neg then down else up
  | .fin neg n _ => within op a span (f (fxOf neg n))

/-- ln of an FP32 operand (R153): −∞ at 0, NaN below it. -/
def f32Log (a : Nat) : Nat :=
  match Fmt.value .fp32 a with
  | .nan => Fmt.nanCode .fp32
  | .inf neg => if neg then Fmt.nanCode .fp32 else 0x7F800000
  | .fin neg n _ => if n = 0 then 0xFF800000 else if neg then Fmt.nanCode .fp32 else within 2 a 2 (lnFx n)

/-- The reciprocal root of an FP32 operand (R153): an infinity at 0, NaN below it. -/
def f32Rsqrt (a : Nat) : Nat :=
  match Fmt.value .fp32 a with
  | .nan => Fmt.nanCode .fp32
  | .inf neg => if neg then Fmt.nanCode .fp32 else 0
  | .fin neg n _ =>
    if n = 0 then (if neg then 0xFF800000 else 0x7F800000)
    else if neg then Fmt.nanCode .fp32
    else within 0 a 1 (isqrtFrom (2 ^ 949 / n) 480 0 : Nat)

/-- An operation of the vector units on FP32 operands (R153): correctly rounded, or within the stated ulp of the exact result.
What SiLU and GELU give at −∞ the spec does not state: free (log entry 13). -/
def vecOp (o : VecOp) (a b c : Nat) : Nat :=
  match o with
  | .add => f32Add a b
  | .sub => f32Add a (f32Flip b)
  | .mul => f32Mul a b
  | .div => f32Div a b
  | .min => f32Pick true a b
  | .max => f32Pick false a b
  | .abs => a % 0x80000000
  | .neg => f32Flip a
  | .fma => f32Fma a b c
  | .sqrt => f32Sqrt a
  | .rsqrt => f32Rsqrt a
  | .exp => vecFun 1 2 a 0x7F800000 0 expFx
  | .log => f32Log a
  | .tanh => vecFun 3 2 a 0x3F800000 0xBF800000 tanhFx
  | .sigmoid => vecFun 4 2 a 0x3F800000 0 sigmoidFx
  | .silu => vecFun 5 2 a 0x7F800000 (Config.vectorUnit 5 a) (fun x => fxMul x (sigmoidFx x))
  | .gelu => vecFun 6 2 a 0x7F800000 (Config.vectorUnit 6 a) geluFx

end Sys2Proof.Machine
end

