-- ==== Sys2Proof/Machine/Network.lean ====
section
/-! DEFINITION. Model packages: their layout and the checks of a load (R174 to R180), and the graph a package defines, as the
tiles compute it (R150 to R153, R176 to R178, R183, R190). -/
namespace Sys2Proof.Machine

/-! ## The layout of a package (R174 to R177) -/

/-- A package as a function from an offset and a length to a little-endian number. -/
abbrev Reader := Nat → Nat → Nat

/-- The bytes of a package from an offset on. -/
def pkgBytes (r : Reader) (off len : Nat) : List Nat := (upTo len).map (fun i => r (off + i) 1)

/-- The formats by their codes (R176). -/
def Fmt.ofCode (c : Nat) : Option Fmt :=
  match c with
  | 1 => some .fp32
  | 2 => some .bf16
  | 3 => some .fp16
  | 4 => some .e4m3
  | 5 => some .e5m2
  | 6 => some .mxfp8
  | 7 => some .mxfp4
  | 8 => some .mxint8
  | 9 => some .int8
  | 10 => some .int16
  | _ => none

/-- A format with scales (R146). -/
def Fmt.isMx (k : Fmt) : Bool := k == .mxfp8 || k == .mxfp4 || k == .mxint8

/-- An entry of the section table (R175). -/
structure Section where
  kind : Nat
  resv : Nat
  offset : Nat
  length : Nat
  hash : Nat
  deriving DecidableEq, Repr

/-- A tensor descriptor (R176), dimensions innermost first. -/
structure TensorD where
  ident : Nat
  code : Nat
  rank : Nat
  flags : Nat
  dims : List Nat
  offset : Nat
  deriving DecidableEq, Repr

/-- The format of a tensor. -/
def TensorD.fmt (t : TensorD) : Fmt := (Fmt.ofCode t.code).getD .fp32

/-- Flags of a tensor (R176). -/
def TensorD.weight (t : TensorD) : Bool := bit t.flags 0
def TensorD.learnable (t : TensorD) : Bool := bit t.flags 1
def TensorD.input (t : TensorD) : Bool := bit t.flags 2
def TensorD.output (t : TensorD) : Bool := bit t.flags 3
def TensorD.state (t : TensorD) : Bool := bit t.flags 4

/-- Elements of a tensor. -/
def TensorD.count (t : TensorD) : Nat := t.dims.foldl (· * ·) 1

/-- Bytes of `n` elements of a format as stored (R147): the elements, two MXFP4 to a byte, and one scale per block of 32. -/
def Fmt.bytes (k : Fmt) (n : Nat) : Nat := cdiv (n * k.bits) 8 + if k.isMx then n / 32 else 0

/-- A node record (R177). -/
structure NodeD where
  op : Nat
  nIn : Nat
  nOut : Nat
  inRaw : List Nat
  outRaw : List Nat
  attrs : List Nat
  deriving DecidableEq, Repr

/-- The inputs and the outputs of a node. -/
def NodeD.ins (n : NodeD) : List Nat := n.inRaw.take n.nIn
def NodeD.outs (n : NodeD) : List Nat := n.outRaw.take n.nOut

/-- The learn configuration (R175): FP32 patterns, the batch size, and its other bytes. -/
structure LearnCfg where
  rate : Nat
  beta1 : Nat
  beta2 : Nat
  eps : Nat
  decay : Nat
  batch : Nat
  resv : Nat
  deriving DecidableEq, Repr

/-- A model package (R174 to R177). -/
structure Package where
  magic : Nat
  head : Nat
  signer : Nat
  flags : Nat
  ident : Nat
  version : Nat
  signed : Nat
  nSections : Nat
  resv : Nat
  fineN : Nat
  coarseN : Nat
  learnables : Nat
  weightBytes : Nat
  nNodes : Nat
  nTensors : Nat
  mask : Nat
  sigLen : Nat
  sections : List Section
  tensors : List TensorD
  nodes : List NodeD
  cfg : Option LearnCfg
  deriving DecidableEq, Repr

/-- The section of a kind. -/
def sectionOf (l : List Section) (kind : Nat) : Section :=
  (l.find? (fun x => x.kind == kind)).getD { kind := kind, resv := 0, offset := 0, length := 0, hash := 0 }

/-- Read a section table entry (R175). -/
def readSection (r : Reader) (off : Nat) : Section :=
  { kind := r off 2, resv := r (off + 2) 6, offset := r (off + 8) 8, length := r (off + 16) 8, hash := r (off + 24) 32 }

/-- Read a tensor descriptor (R176). -/
def readTensor (r : Reader) (off : Nat) : TensorD :=
  { ident := r off 4, code := r (off + 4) 1, rank := r (off + 5) 1, flags := r (off + 6) 2
    dims := (upTo 4).map (fun i => r (off + 8 + 4 * i) 4), offset := r (off + 24) 8 }

/-- Read a node record (R177). -/
def readNode (r : Reader) (off : Nat) : NodeD :=
  { op := r off 2, nIn := r (off + 2) 1, nOut := r (off + 3) 1, inRaw := (upTo 6).map (fun i => r (off + 4 + 4 * i) 4)
    outRaw := (upTo 2).map (fun i => r (off + 28 + 4 * i) 4), attrs := pkgBytes r (off + 36) 28 }

/-- Read the learn configuration (R175). -/
def readCfg (r : Reader) (off : Nat) : LearnCfg :=
  { rate := r off 4, beta1 := r (off + 4) 4, beta2 := r (off + 8) 4, eps := r (off + 12) 4, decay := r (off + 16) 4
    batch := r (off + 20) 2, resv := r (off + 22) 42 }

/-- A package (R174 to R177): its header and its tables, no longer than the counts may be. -/
def readPackage (r : Reader) : Package :=
  let n := min (r 24 2) 4
  let l := (upTo n).map (fun i => readSection r (128 + 56 * i))
  { magic := r 0 4, head := r 4 1, signer := r 5 1, flags := r 6 2, ident := r 8 4, version := r 12 4, signed := r 16 8
    nSections := r 24 2, resv := r 26 2 + r 88 40, fineN := r 28 4, coarseN := r 32 4, learnables := r 36 4
    weightBytes := r 40 8, nNodes := r 48 4, nTensors := r 52 4, mask := r 56 32, sigLen := r (r 16 8) 4
    sections := l
    tensors := (upTo (min (r 52 4) 262144)).map (fun i => readTensor r ((sectionOf l 1).offset + 32 * i))
    nodes := (upTo (min (r 48 4) 65536)).map (fun i => readNode r ((sectionOf l 2).offset + 64 * i))
    cfg := if l.any (fun x => x.kind == 4) then some (readCfg r (sectionOf l 4).offset) else none }

/-- LEARN and BURST of a package (R174). -/
def Package.learn (p : Package) : Bool := bit p.flags 0
def Package.burst (p : Package) : Bool := bit p.flags 1

/-- A tensor by its identifier. -/
def Package.tensor (p : Package) (i : Nat) : Option TensorD := p.tensors.find? (fun t => t.ident == i)

/-- The features a package reads (R174). -/
def Package.features (p : Package) : List Nat := (upTo 256).filter (bit p.mask)

/-- Bytes of the STATE tensors (R179). -/
def Package.stateBytes (p : Package) : Nat := sumN ((p.tensors.filter (·.state)).map (fun t => t.fmt.bytes t.count))

/-- A package is resident (R179). -/
def Package.resident (p : Package) : Bool := decide (p.weightBytes + p.stateBytes ≤ 56 * 2 ^ 20)

/-- The refresh divisor (R179). -/
def Package.divisor (p : Package) : Nat := if p.resident then 1 else cdiv p.weightBytes 288000000

/-- The package hash (R174). -/
def packageHash (r : Reader) (p : Package) : Nat := Config.sha256 (pkgBytes r 0 p.signed)

/-! ## The checks of a load (R174 to R180) -/

/-- Every reserved field is zero (R10, R174 to R176). -/
def reservedZero (p : Package) : Bool :=
  p.resv == 0 && decide (p.flags < 4) && p.sections.all (fun x => x.resv == 0) &&
    p.tensors.all (fun t => decide (t.flags < 32)) &&
    (match p.cfg with | some c => c.resv == 0 | none => true)

/-- An FP32 pattern is a number from `lo` on, above it where `strict`. -/
def f32From (w : Nat) (strict : Bool) : Bool :=
  !f32NonFinite w && (if strict then decide (0 < f32ToInt w) else decide (0 ≤ f32ToInt w))

/-- The learn configuration holds values in range (R175). -/
def cfgOk (c : LearnCfg) : Bool :=
  f32From c.rate true && decide (f32ToInt c.rate * 100 ≤ 2 ^ 149) &&
    f32From c.beta1 false && decide (f32ToInt c.beta1 < 2 ^ 149) &&
    f32From c.beta2 false && decide (f32ToInt c.beta2 < 2 ^ 149) &&
    f32From c.eps true && f32From c.decay false && decide (f32ToInt c.decay * 10 ≤ 2 ^ 149) &&
    decide (8 ≤ c.batch) && decide (c.batch ≤ 256)

/-- The section table (R174, R175): kinds once each, offsets, lengths and hashes. -/
def sectionsOk (r : Reader) (p : Package) : Bool :=
  let once := fun (k n : Nat) => (p.sections.filter (fun x => x.kind == k)).length == n
  p.nSections == (if p.learn then 4 else 3) && once 1 1 && once 2 1 && once 3 1 && once 4 (b2n p.learn) &&
    p.sections.all (fun x => x.offset % 64 == 0 && Config.sha256 (pkgBytes r x.offset x.length) == x.hash) &&
    p.signed == p.sections.foldl (fun m x => max m (x.offset + x.length)) 0 &&
    (sectionOf p.sections 1).length == 32 * p.nTensors && (sectionOf p.sections 2).length == 64 * p.nNodes &&
    (sectionOf p.sections 3).length == p.weightBytes && (!p.learn || (sectionOf p.sections 4).length == 64)

/-- The counts and ranges of the header (R174). -/
def headerOk (p : Package) : Bool :=
  p.ident != 0 && decide (1 ≤ p.fineN) && decide (p.fineN ≤ 20000) && decide (p.coarseN ≤ 60000) &&
    decide (1 ≤ p.nNodes) && decide (p.nNodes ≤ 65536) && decide (4 ≤ p.nTensors) && decide (p.nTensors ≤ 262144)

/-- A tensor descriptor is legal (R147, R176). -/
def tensorOk (p : Package) (t : TensorD) : Bool :=
  match Fmt.ofCode t.code with
  | none => false
  | some k =>
    decide (1 ≤ t.rank) && decide (t.rank ≤ 4) && t.dims.all (fun d => decide (1 ≤ d) && decide (d ≤ 1048576)) &&
      (t.dims.drop t.rank).all (· == 1) && (!k.isMx || at0 t.dims 0 % 32 == 0) &&
      (if t.weight then decide (t.offset + k.bytes t.count ≤ p.weightBytes) else t.offset == 0) &&
      (!t.learnable || (t.weight && (k.isMx || k == .bf16 || k == .fp16 || k == .fp32)))

/-- A tensor has a format and a shape. -/
def isShape (t : Option TensorD) (code : Nat) (dims : List Nat) : Bool :=
  match t with
  | none => false
  | some t => t.code == code && t.dims == dims

/-- The tensor table (R174, R176): identifiers, inputs, output and learnable count. A window of no frames keeps one row (log entry
92). -/
def tensorsOk (p : Package) : Bool :=
  let n := p.features.length
  (p.tensors.map (·.ident)).Nodup && p.tensors.all (tensorOk p) &&
    isShape (p.tensor 1) 1 [n, p.fineN, 1, 1] && isShape (p.tensor 2) 1 [n, max 1 p.coarseN, 1, 1] &&
    isShape (p.tensor 3) 10 [1, 1, 1, 1] &&
    p.tensors.all (fun t => t.input == (decide (1 ≤ t.ident) && decide (t.ident ≤ 3))) &&
    (p.tensors.filter (·.output)).length == 1 && isShape (p.tensors.find? (·.output)) 1 [3, 500, 1, 1] &&
    p.learnables == (if p.learn then sumN ((p.tensors.filter (·.learnable)).map (·.count)) else 0)

/-- What a node may read: inputs, weights, STATE tensors, and what earlier nodes wrote (R177). -/
def readable (p : Package) (written : List Nat) (i : Nat) : Bool :=
  match p.tensor i with
  | none => false
  | some t => t.input || t.weight || t.state || written.contains i

/-- The node records in table order (R177). -/
def orderOk (p : Package) : List Nat → List NodeD → Bool
  | _, [] => true
  | written, n :: rest =>
    decide (1 ≤ n.nIn) && decide (n.nIn ≤ 6) && decide (1 ≤ n.nOut) && decide (n.nOut ≤ 2) &&
      (n.inRaw.drop n.nIn).all (· == 0) && (n.outRaw.drop n.nOut).all (· == 0) &&
      n.ins.all (readable p written) && n.outs.all (fun i => (p.tensor i).any (fun t => !t.weight && !t.input)) &&
      orderOk p (n.outs ++ written) rest

/-- Dimension `d` of input `i` of a node, and its format. -/
def inDim (p : Package) (n : NodeD) (i d : Nat) : Nat :=
  match p.tensor (at0 n.inRaw i) with
  | some t => at0 t.dims d
  | none => 0
def inFmt (p : Package) (n : NodeD) (i : Nat) : Fmt :=
  match p.tensor (at0 n.inRaw i) with
  | some t => t.fmt
  | none => .fp32
def outDim (p : Package) (n : NodeD) (i d : Nat) : Nat :=
  match p.tensor (at0 n.outRaw i) with
  | some t => at0 t.dims d
  | none => 0

/-- An attribute of a node (R177; log entry 92). -/
def attr (n : NodeD) (k : Nat) : Nat := Config.nodeAttr n.op n.attrs k

/-- Read a tensor's weights (R147, R176): element array, then scale array. -/
def readWeights (r : Reader) (p : Package) (t : TensorD) : List Exact :=
  let base := (sectionOf p.sections 3).offset + t.offset
  let k := t.fmt
  let w := k.bits / 8
  (upTo t.count).map (fun i =>
    let c := if k = .mxfp4 then r (base + i / 2) 1 / 16 ^ (i % 2) % 16 else r (base + w * i) w
    if k.isMx then mxValue k (r (base + cdiv (t.count * k.bits) 8 + i / 32) 1) c else k.value c)

/-- A value as an index, none for a negative one. -/
def Exact.index : Exact → Option Nat
  | .fin neg n d => if neg && n != 0 then none else some (n / (d * 2 ^ 149))
  | .inf _ => none
  | .nan => none

/-- The indices of a gather are weights in INT16, and in range (R178). -/
def gatherOk (r : Reader) (p : Package) (n : NodeD) : Bool :=
  let last := n.nIn - 1
  match p.tensor (at0 n.inRaw last), p.tensor (at0 n.outRaw 0) with
  | some ix, some o =>
    let data := sumN ((upTo last).map (fun i => match p.tensor (at0 n.inRaw i) with | some t => t.count | none => 0))
    let unit := o.count / max 1 ix.count
    decide (1 ≤ last) && ix.weight && ix.fmt == .int16 && decide (ix.count ≤ 65536) && decide (1 ≤ unit) &&
      o.count % ix.count == 0 &&
      (readWeights r p ix).all (fun x => match x.index with | some v => decide ((v + 1) * unit ≤ data) | none => false)
  | _, _ => false

/-- The limits of a node's operator (R178). -/
def nodeOk (r : Reader) (p : Package) (n : NodeD) : Bool :=
  match n.op with
  | 0x01 => decide (2 ≤ n.nIn) && decide (inDim p n 0 0 ≤ 65536) && inDim p n 0 0 == inDim p n 1 0
  | 0x02 => decide (2 ≤ n.nIn) && decide (inDim p n 0 0 ≤ 65536) && inDim p n 0 0 == inDim p n 1 0 &&
      decide (inDim p n 0 2 ≤ 4096) && inDim p n 0 2 == inDim p n 1 2
  | 0x03 => decide (2 ≤ n.nIn) && decide (inDim p n 1 1 ≤ 64) && inDim p n 0 0 == inDim p n 1 0 &&
      decide (1 ≤ attr n 0) && decide (attr n 0 ≤ 256) && decide (1 ≤ attr n 1) && decide (attr n 1 ≤ 16)
  | 0x04 => n.nIn == 3 && decide (1 ≤ attr n 0) && decide (attr n 0 ≤ 64) && inDim p n 0 0 % attr n 0 == 0 &&
      decide (inDim p n 0 0 / attr n 0 ≤ 256) && decide (1 ≤ attr n 1) && decide (attr n 1 ≤ 4096)
  | 0x05 => n.nIn == 6 && n.nOut == 1 && decide (inDim p n 1 0 ≤ 4096)
  | 0x06 => n.nIn == 6 && n.nOut == 2 && decide (inDim p n 1 0 ≤ 4096)
  | 0x07 => n.nIn == 6 && n.nOut == 2 && decide (inDim p n 1 0 ≤ 256) && decide (inDim p n 0 1 ≤ 65536)
  | 0x08 => decide (attr n 0 < 16) && n.nIn == (if attr n 0 < 6 then 2 else 1)
  | 0x09 => decide (n.nIn ≤ 3) && decide (attr n 0 < 2)
  | 0x0A => n.nIn == 1
  | 0x0B => n.nIn == 1
  | 0x0C => n.nIn == 1 && (match p.tensor (at0 n.outRaw 0) with
      | some t => t.fmt == .fp32 || t.fmt == .bf16 || t.fmt == .fp16
      | none => false)
  | 0x0D => gatherOk r p n
  | _ => false

/-- Section hashes, counts, sizes and limits of R174 to R178 hold (R180). -/
def structureOk (r : Reader) (p : Package) : Bool :=
  p.head % 16 == 0xD && headerOk p && sectionsOk r p && tensorsOk p && (p.nodes.all (nodeOk r p)) && orderOk p [] p.nodes &&
    (match p.cfg with | some c => cfgOk c | none => true)

/-- The operand pairs of every product are those of R150 (R178, R180). -/
def pairsOk (p : Package) : Bool :=
  p.nodes.all (fun n => !(n.op == 1 || n.op == 2 || n.op == 3) || (pairing (inFmt p n 0) (inFmt p n 1)).isSome)

/-- The nodes that produce the output rows, from the last node back: those that write the output, or a first input with as many
rows of one of them (R184; log entry 92). -/
def rowNodes (p : Package) : List Nat → List NodeD → List NodeD
  | _, [] => []
  | rows, n :: rest =>
    if n.outs.any rows.contains then
      n :: rowNodes p (if inDim p n 0 1 = 500 then at0 n.inRaw 0 :: rows else rows) rest
    else rowNodes p rows rest

/-- BURST rows are separable (R184): the nodes that produce the output rows act row by row. -/
def rowsSeparable (p : Package) : Bool :=
  (rowNodes p ((p.tensors.filter (·.output)).map (·.ident)) p.nodes.reverse).all
    (fun n => [0x01, 0x02, 0x08, 0x09, 0x0A, 0x0B, 0x0C].contains n.op)

/-! ## The graph (R150 to R153, R176 to R178) -/

/-- How products are summed: as R151 and R152 state, in fast mode on a mapping (R155), or in BF16 for learning (R190). -/
inductive Arith where
  | exact
  | fast (mapping : Nat)
  | learn
  deriving DecidableEq, Repr

/-- A tensor in a run. -/
structure Tensor where
  fmt : Fmt
  dims : List Nat
  vals : List Exact
  deriving DecidableEq, Repr

/-- A value as an FP32 pattern. -/
def Exact.f32 (x : Exact) : Nat := (Fmt.convert .fp32 x).1

/-- Zero. -/
abbrev exactZero : Exact := .fin false 0 1

/-- The values of a list of FP32 patterns. -/
def ofF32 (l : List Nat) : List Exact := l.map (Fmt.value .fp32)

/-- A value as numbers, for the sums of fast mode. -/
def exactNums : Exact → List Nat
  | .nan => [0, 0, 0]
  | .inf neg => [1, b2n neg, 0]
  | .fin neg n d => [2 + b2n neg, n, d]

/-- A product along the reduction dimension: its FP32 result, and how many partial sums are not finite (R150 to R152, R155,
R190). -/
def dotOf (m : Arith) (fa fb : Fmt) (l : List (Exact × Exact)) (c : Option Nat) : Nat × Nat :=
  let ordered := orderedDot 32 (l.map (fun p => (p.1.f32, p.2.f32))) c
  match m with
  | .learn => ordered
  | .fast k =>
    let v := Config.fastSum k ((l.map (fun p => exactNums p.1 ++ exactNums p.2)).flatten ++ c.toList) % 2 ^ 32
    (v, b2n (f32NonFinite v))
  | .exact =>
    match pairing fa fb with
    | some (true, n) => exactDot n l c
    | some (false, _) => ordered
    | none => ordered

/-- A sum by the ordered class (R153). -/
def sumOrdered (m : Arith) (l : List Nat) : Nat :=
  (dotOf m .fp32 .fp32 ((ofF32 l).map (fun x => (x, .fin false (2 ^ 149) 1))) none).1

/-- Rows of `k` elements. -/
def rowsOf {α : Type} (k : Nat) (l : List α) : List (List α) := blocksOf (max 1 k) l.length l

/-- The products of every row of A with every row of B, with the accumulate input repeated over them (R152). -/
def products (m : Arith) (fa fb : Fmt) (a b : List (List Exact)) (c : List Nat) : List Nat × Nat :=
  let l := (a.map (fun x => (b.zip (upTo b.length)).map (fun y =>
    dotOf m fa fb (x.zip y.1) (if c.isEmpty then none else some (at0 c (y.2 % c.length)))))).flatten
  (l.map (·.1), sumN (l.map (·.2)))

/-- Products batch by batch (R178). -/
def batched (m : Arith) (fa fb : Fmt) (a b : List (List (List Exact))) (c : List (List Nat)) : List Nat × Nat :=
  let l := (a.zip b).zip (upTo a.length) |>.map (fun p => products m fa fb p.1.1 p.1.2 (c.getD p.2 []))
  ((l.map (·.1)).flatten, sumN (l.map (·.2)))

/-- The window of a causal convolution that ends at `t` (R178): `n` rows a dilation apart, oldest first, zeros before the start.
-/
def convWindow (rows : List (List Exact)) (width n dil t : Nat) : List Exact :=
  ((upTo n).map (fun j =>
    let back := (n - 1 - j) * dil
    if back ≤ t then rows.getD (t - back) [] else List.replicate width exactZero)).flatten

/-- exp of `x − hi` over their sum (R153, R178). -/
def softmax (m : Arith) (l : List Nat) : List Nat :=
  let hi := l.foldl (fun a b => vecOp .max a b 0) (at0 l 0)
  let e := l.map (fun x => vecOp .exp (vecOp .sub x hi 0) 0 0)
  let sum := sumOrdered m e
  e.map (fun x => f32Div x sum)

/-- One head of causal windowed attention at position `t` (R178; log entry 92). -/
def attend (m : Arith) (fq fk : Fmt) (q k v : List (List Exact)) (window t : Nat) : List Nat × Nat :=
  let lo := t + 1 - window
  let pos := (upTo (t + 1)).drop lo
  let x := q.getD t []
  let root := vecOp .rsqrt (f32OfI x.length) 0 0
  let s := pos.map (fun j => dotOf m fq fk (x.zip (k.getD j [])) none)
  let w := softmax m (s.map (fun y => f32Mul y.1 root))
  let out := (upTo x.length).map (fun e =>
    dotOf m .fp32 .fp32 ((ofF32 w).zip (pos.map (fun j => (v.getD j []).getD e exactZero))) none)
  (out.map (·.1), sumN (s.map (·.2)) + sumN (out.map (·.2)))

/-- Attention over all heads and positions, heads side by side in a row (R178). -/
def attention (m : Arith) (fq fk : Fmt) (width heads window : Nat) (q k v : List Exact) : List Nat × Nat :=
  let d := width / max 1 heads
  let head := fun (h : Nat) (l : List Exact) => (rowsOf width l).map (fun r => (r.drop (h * d)).take d)
  let l := ((upTo (q.length / max 1 width)).map (fun t =>
    (upTo heads).map (fun h => attend m fq fk (head h q) (head h k) (head h v) window t))).flatten
  ((l.map (·.1)).flatten, sumN (l.map (·.2)))

/-- Element by element. -/
def zipOp (o : VecOp) (a b : List Nat) : List Nat :=
  (upTo (max a.length b.length)).map (fun i => vecOp o (at0 a (i % max 1 a.length)) (at0 b (i % max 1 b.length)) 0)
def mapOp (o : VecOp) (a : List Nat) : List Nat := a.map (fun x => vecOp o x 0 0)

/-- The `g`-th of the gates of a cell. -/
def gate (h g : Nat) (l : List Nat) : List Nat := (l.drop (g * h)).take h

/-- A GRU cell (R178; log entry 92) on its input and hidden products: reset, update and new gates. -/
def gruCell (n : Nat) (x h old : List Nat) : List Nat :=
  let r := mapOp .sigmoid (zipOp .add (gate n 0 x) (gate n 0 h))
  let z := mapOp .sigmoid (zipOp .add (gate n 1 x) (gate n 1 h))
  let c := mapOp .tanh (zipOp .add (gate n 2 x) (zipOp .mul r (gate n 2 h)))
  zipOp .add (zipOp .mul (zipOp .sub (List.replicate n 0x3F800000) z) c) (zipOp .mul z old)

/-- An LSTM cell (R178; log entry 92) on its products: input, forget, cell and output gates; the new hidden and cell values. -/
def lstmCell (n : Nat) (g cell : List Nat) : List Nat × List Nat :=
  let keep := zipOp .mul (mapOp .sigmoid (gate n 1 g)) cell
  let c := zipOp .add keep (zipOp .mul (mapOp .sigmoid (gate n 0 g)) (mapOp .tanh (gate n 2 g)))
  (zipOp .mul (mapOp .sigmoid (gate n 3 g)) (mapOp .tanh c), c)

/-- A linear state-space scan over one channel (R153, R178; log entry 92): state h ← a h + b x, output c · h + d x. -/
def scanChannel (m : Arith) (a b c : List Nat) (d : Nat) : List Nat → List Nat → List Nat × List Nat
  | h, [] => ([], h)
  | h, x :: rest =>
    let h := (upTo h.length).map (fun i => f32Fma (at0 a i) (at0 h i) (f32Mul (at0 b i) x))
    let y := (dotOf m .fp32 .fp32 ((ofF32 c).zip (ofF32 h)) (some (f32Mul d x))).1
    let (ys, last) := scanChannel m a b c d h rest
    (y :: ys, last)

/-- The scan over all channels (R178): outputs in rows of channels, and the last states. -/
def scanAll (m : Arith) (width size : Nat) (x a b c d h : List Nat) : List Nat × List Nat :=
  let row := fun (l : List Nat) (i : Nat) => (rowsOf size l).getD i []
  let ch := (upTo width).map (fun i =>
    scanChannel m (row a i) (row b i) (row c i) (at0 d i) (row h i) ((rowsOf width x).map (fun r => at0 r i)))
  (((upTo (x.length / max 1 width)).map (fun t => ch.map (fun p => at0 p.1 t))).flatten, (ch.map (·.2)).flatten)

/-- Layer or RMS normalisation of a row (R153, R178; log entry 92). -/
def normRow (m : Arith) (rms : Bool) (eps : Nat) (gamma beta l : List Nat) : List Nat :=
  let n := f32OfI l.length
  let mean := if rms then 0 else f32Div (sumOrdered m l) n
  let d := if rms then l else l.map (fun x => vecOp .sub x mean 0)
  let var := f32Div (sumOrdered m (d.map (fun x => f32Mul x x))) n
  let y := d.map (fun x => f32Mul x (vecOp .rsqrt (f32Add var eps) 0 0))
  let y := if gamma.isEmpty then y else zipOp .mul y gamma
  if beta.isEmpty then y else zipOp .add y beta

/-- The elementwise functions in the order R178 lists them. -/
def vecOps : List VecOp :=
  [.add, .sub, .mul, .div, .min, .max, .abs, .neg, .exp, .log, .tanh, .sigmoid, .silu, .gelu, .sqrt, .rsqrt]

/-- What a node computes from its input tensors, before conversion to the formats of its outputs: their values, and how many
partial sums are not finite (R178; log entry 92). -/
def nodeOut (m : Arith) (n : NodeD) (outDims : List Nat) (ins : List Tensor) : List (List Exact) × Nat :=
  let t := fun (i : Nat) => ins.getD i { fmt := .fp32, dims := [], vals := [] }
  let f := fun (i : Nat) => (t i).vals.map Exact.f32
  let dim := fun (i d : Nat) => at0 (t i).dims d
  let rows := fun (i : Nat) => rowsOf (dim i 0) (t i).vals
  let one := fun (p : List Nat × Nat) => ([ofF32 p.1], p.2)
  let mm := fun (a b c : Nat) => products m (t a).fmt (t b).fmt (rows a) (rows b) (f c)
  match n.op with
  | 0x01 => one (products m (t 0).fmt (t 1).fmt (rows 0) (rows 1) (f 2))
  | 0x02 => one (batched m (t 0).fmt (t 1).fmt (rowsOf (dim 0 1) (rows 0)) (rowsOf (dim 1 1) (rows 1))
      (rowsOf (dim 1 1) (f 2)))
  | 0x03 =>
    let c := dim 0 0
    let k := dim 1 1
    let a := (upTo (at0 outDims 1)).map (fun i => convWindow (rows 0) c k (attr n 0) (i * attr n 1))
    one (products m (t 0).fmt (t 1).fmt a (rowsOf (c * k) (t 1).vals) (f 2))
  | 0x04 => one (attention m (t 0).fmt (t 1).fmt (dim 0 0) (attr n 0) (attr n 1) (t 0).vals (t 1).vals (t 2).vals)
  | 0x05 =>
    let x := mm 0 2 4
    let h := mm 1 3 5
    ([ofF32 (gruCell (dim 1 0) x.1 h.1 (f 1))], x.2 + h.2)
  | 0x06 =>
    let x := mm 0 3 5
    let h := products m (t 1).fmt (t 4).fmt (rows 1) (rows 4) x.1
    let out := lstmCell (dim 1 0) h.1 (f 2)
    ([ofF32 out.1, ofF32 out.2], x.2 + h.2)
  | 0x07 =>
    let out := scanAll m (dim 0 0) (dim 1 0) (f 0) (f 1) (f 2) (f 3) (f 4) (f 5)
    ([ofF32 out.1, ofF32 out.2], 0)
  | 0x08 =>
    let o := vecOps.getD (attr n 0) .add
    ([ofF32 (if attr n 0 < 6 then zipOp o (f 0) (f 1) else mapOp o (f 0))], 0)
  | 0x09 => ([ofF32 ((rowsOf (dim 0 0) (f 0)).map (normRow m (attr n 0 == 1) (attr n 1) (f 1) (f 2))).flatten], 0)
  | 0x0A => ([ofF32 ((rowsOf (dim 0 0) (f 0)).map (softmax m)).flatten], 0)
  | 0x0B => ([(t 0).vals], 0)
  | 0x0C => ([(t 0).vals], 0)
  | 0x0D =>
    let ix := (t (n.nIn - 1)).vals.map (fun x => x.index.getD 0)
    let data := ((upTo (n.nIn - 1)).map (fun i => (t i).vals)).flatten
    let unit := outDims.foldl (· * ·) 1 / max 1 ix.length
    ([(ix.map (fun i => (data.drop (i * unit)).take unit)).flatten], 0)
  | _ => ([], 0)

/-- Values in a format (R147 to R149): what they become, how many saturate, and how many NaN an integer format takes as 0. -/
def emit (k : Fmt) (l : List Exact) : List Exact × Nat × Nat :=
  if k.isMx then
    let q := (rowsOf 32 l).map (mxQuantise k)
    ((q.map (fun b => b.2.1.map (mxValue k b.1))).flatten, sumN (q.map (·.2.2)), 0)
  else
    let c := l.map k.convert
    (c.map (fun p => k.value p.1), c.countP (·.2), if k = .int8 ∨ k = .int16 then l.countP (· == .nan) else 0)

/-- A run of a graph: the tensors by identifier, the saturations and the non-finite values counted (R148, R152). -/
structure Run where
  env : List (Nat × Tensor)
  sats : Nat
  bad : Nat
  deriving DecidableEq, Repr

/-- A tensor of a run; one never written reads as empty. -/
def Run.get (x : Run) (i : Nat) : Tensor :=
  match x.env.find? (fun p => p.1 == i) with
  | some p => p.2
  | none => { fmt := .fp32, dims := [], vals := [] }

/-- Store one output of a node in its tensor's format, BF16 for learning (R148, R190). -/
def storeOut (m : Arith) (p : Package) (x : Run) (o : Nat × List Exact) : Run :=
  match p.tensor o.1 with
  | none => x
  | some t =>
    let k := if m = .learn then .bf16 else t.fmt
    let e := emit k o.2
    { env := (o.1, { fmt := k, dims := t.dims, vals := e.1 }) :: x.env, sats := x.sats + e.2.1, bad := x.bad + e.2.2 }

/-- Run one node (R177, R178). -/
def runNode (m : Arith) (p : Package) (x : Run) (n : NodeD) : Run :=
  let dims := match p.tensor (at0 n.outRaw 0) with | some t => t.dims | none => []
  let out := nodeOut m n dims (n.ins.map x.get)
  (n.outs.zip out.1).foldl (storeOut m p) { x with bad := x.bad + out.2 }

/-- What a lane's evaluation starts from: the weights, carried STATE tensors, the windows' frames and the lane index (R176,
R183). -/
structure LaneIn where
  weights : List (Nat × List Exact)
  carried : List (Nat × List Exact)
  fine : List (List Word)
  coarse : List (List Word)
  lane : Nat
  deriving DecidableEq, Repr

/-- The rows of a window (R176): the newest frames oldest first, its features in order; frames before the first one formed have
free values (log entry 92). -/
def windowVals (p : Package) (n : Nat) (l : List (List Word)) : List Exact :=
  let pad := n - l.length
  let first := p.features.map (fun f => Fmt.value .fp32 (Config.firstFeature f % 2 ^ 32))
  (List.replicate pad first).flatten ++
    (((l.take n).reverse).map (fun fr => p.features.map (fun f => Fmt.value .fp32 (fr.getD f 0#32).toNat))).flatten

/-- The values of a tensor before the nodes run: inputs, weights, and STATE tensors, free before the first refresh (R176; log
entry 92). -/
def startVals (p : Package) (x : LaneIn) (t : TensorD) : List Exact :=
  if t.ident = 1 then windowVals p p.fineN x.fine
  else if t.ident = 2 then (if p.coarseN = 0 then p.features.map (fun _ => exactZero) else windowVals p p.coarseN x.coarse)
  else if t.ident = 3 then [Fmt.value .int16 x.lane]
  else if t.weight then ((x.weights.find? (fun w => w.1 == t.ident)).map (·.2)).getD []
  else match x.carried.find? (fun w => w.1 == t.ident) with
    | some w => w.2
    | none => (emit t.fmt ((upTo t.count).map (fun i => Fmt.value .fp32 (Config.firstState t.ident i % 2 ^ 32)))).1

/-- The weights of a package as signed (R176). -/
def signedWeights (r : Reader) (p : Package) : List (Nat × List Exact) :=
  (p.tensors.filter (·.weight)).map (fun t => (t.ident, readWeights r p t))

/-- Evaluate the graph for a lane (R177, R183), in BF16 but for the integer tensors where it learns (R190). -/
def laneRun (m : Arith) (p : Package) (x : LaneIn) : Run :=
  let start := p.tensors.filter (fun t => t.input || t.weight || t.state)
  let narrow := fun (t : TensorD) => m = .learn && t.fmt != .int8 && t.fmt != .int16
  p.nodes.foldl (runNode m p)
    { env := start.map (fun t =>
        let v := startVals p x t
        (t.ident, { fmt := if narrow t then .bf16 else t.fmt, dims := t.dims, vals := if narrow t then (emit .bf16 v).1 else v }))
      sats := 0, bad := 0 }

/-- The `n` values a lane's evaluation gives (R176): +0 where the output is not written. -/
def laneVals (p : Package) (x : Run) (n : Nat) : List Word :=
  let o := match p.tensors.find? (·.output) with | some t => (x.get t.ident).vals | none => []
  (upTo n).map (fun k => BitVec.ofNat 32 (Exact.f32 (o.getD k exactZero)))

/-- The STATE tensors a lane's evaluation leaves (R176). -/
def laneState (p : Package) (x : Run) : List (Nat × List Exact) :=
  (p.tensors.filter (·.state)).map (fun t => (t.ident, (x.get t.ident).vals))

end Sys2Proof.Machine
end

