-- ==== Sys2Proof/Machine/Guard.lean ====
section
/-! DEFINITION. The envelope guard (10_envelope_guard.md): limits, clamps and their counts, contactor rules that other
chapters use, the guard's records, and the guard's own commands. -/
namespace Sys2Proof.Machine

/-! ## Limits (R298, R299) -/

/-- The factory values of quantities 0 to 18 (R298); index 15 is reserved. -/
def guardFactoryList : List Nat :=
  [3125, 1253, 40, 600, 120, 760000, 840000, 20000, 37500, 37500, 3950, 2950, 300000, 1200000, 1200000, 0, 16, 256, 300]

/-- The narrowest layer values of quantities 0 to 18 (R298). -/
def guardNarrowList : List Nat :=
  [500, 1240, 90, 400, 40, 790000, 810000, 500, 3125, 3125, 3820, 3130, 42000, 250, 250, 0, 1, 0, 280]

/-- A quantity of R298 that exists: 0 to 14, 16 to 18 and 32 to 47. -/
def guardHas (q : Nat) : Bool := (q ≤ 18 && q != 15) || (32 ≤ q && q ≤ 47)

/-- The factory value of a quantity, 0 where reserved (R298, R313). -/
def guardFactory (q : Nat) : Nat := if 32 ≤ q && q ≤ 47 then 255 else at0 guardFactoryList q

/-- The narrowest value a layer may set (R298). -/
def guardNarrowest (q : Nat) : Nat := if 32 ≤ q && q ≤ 47 then 0 else at0 guardNarrowList q

/-- Quantities with a lower bound (R298). -/
def guardLower (q : Nat) : Bool := q == 2 || q == 5 || q == 11

/-- The narrower of two values of a quantity (R298). -/
def narrower (q a b : Nat) : Nat := if guardLower q then max a b else min a b

/-- `v` is wider than `w` for quantity `q`. -/
def wider (q v w : Nat) : Bool := if guardLower q then v < w else w < v

/-- A layer sets a quantity (R316). -/
def layerSets (v q : Nat) : Bool := bit v q

/-- The value a layer holds for a quantity (R316). -/
def layerVal (v q : Nat) : Nat := fieldAt v (8 + 4 * q) 4

/-- The integrator layer in force (R300). -/
def intLayer (s : State) : Nat := dget s 0x5080 0

/-- The Owner layer in force (R301); a layer that failed its CRC does not bound. -/
def ownLayer (s : State) : Nat := if s.grd.layerErr then 0 else dget s 0x5081 0

/-- The firmware narrowing of a quantity (R302, R313). -/
def narrowing (s : State) (q : Nat) : Nat :=
  let v := mget s.grd.nar q
  if v = 0 then guardFactory q else v - 1

/-- The limit of the three layers alone (R299, R309). -/
def layerLimit (s : State) (q : Nat) : Nat :=
  let l := guardFactory q
  let l := if layerSets (intLayer s) q then narrower q l (layerVal (intLayer s) q) else l
  if layerSets (ownLayer s) q then narrower q l (layerVal (ownLayer s) q) else l

/-- The effective limit (R299): the narrowest of factory, integrator layer, Owner layer and firmware narrowing; 0 for a
reserved quantity. -/
def effLimit (s : State) (q : Nat) : Nat := if guardHas q then narrower q (layerLimit s q) (narrowing s q) else 0

/-- Clamp a value to the effective limit of a quantity. -/
def guardClamp (s : State) (q v : Nat) : Nat := narrower q v (effLimit s q)

/-- The layer that governs a quantity (R314): the first layer, from the factory, that holds the effective limit. -/
def governs (s : State) (q : Nat) : Nat :=
  let e := effLimit s q
  if guardFactory q = e then 0
  else if layerSets (intLayer s) q && layerVal (intLayer s) q == e then 1
  else if layerSets (ownLayer s) q && layerVal (ownLayer s) q == e then 2
  else 3

/-! ## String current limits (R287, R292) -/

/-- Some drawer of a string has a flag set. -/
def anyDrawer (m : Nat) (x : Str) : Bool := field m (6 * x.idx) 6 != 0

/-- The phases enabled (R203, R209, R235, R336): COT_PHEN AND object 0x5011, less the refused phases and those the phase
check removed. -/
def enabled (s : State) : Nat :=
  clearBits (clearBits (s.cot.phen &&& dget s 0x5011 0 &&& 0xFFFFFF) s.cot.refused 24) s.cot.checkedOff 24

/-- The enabled phases of a string. -/
def enabledOf (s : State) (x : Str) : Nat := enabled s &&& strMask x

/-- The number of enabled phases of a string. -/
def nEnabled (s : State) (x : Str) : Nat := popcount (enabledOf s x) 24

/-- A string's rating, 5 mA (R34, R209): 15.625 A for every enabled phase. -/
def strRating (s : State) (x : Str) : Nat := 3125 * nEnabled s x

/-- The limit of a string's discharge current, 10 mA (R209, R287, R292, R298 index 8). -/
def disLimit (s : State) (x : Str) : Nat :=
  if s.strs.blockDis.get x then 0
  else if anyDrawer s.strs.hot65 x then min (effLimit s 8) (strRating s x / 4)
  else effLimit s 8

/-- The limit of a string's charge current, 10 mA (R209, R287, R292, R298 index 9). -/
def chgLimit (s : State) (x : Str) : Nat :=
  if s.strs.blockChg.get x then 0
  else
    let l := if anyDrawer s.strs.hot65 x then min (effLimit s 9) (strRating s x / 4) else effLimit s 9
    if anyDrawer s.strs.cold x then min l (strRating s x / 8) else l

/-! ## Counting and records (R303, R304, R314) -/

/-- Epochs of the window that hold a violation of `q` (R304). -/
def violEpochs (s : State) (q : Nat) : Nat := (s.grd.window.filter (fun l => l.contains q)).length

/-- The body of R314. -/
def guardBody (s : State) (q source channel commanded occupancy : Nat) : Nat :=
  packAt [(0, 1, q), (1, 1, source), (2, 1, if q = 255 then 0 else governs s q), (3, 1, channel), (4, 4, commanded),
    (8, 4, effLimit s q), (12, 4, violEpochs s q), (16, 2, occupancy)]

/-- Count one command violation (R303) of the RT pair (0) or the loop engine (1): GRD_VCNT[q], object 0x5083 and the mark of
R304 for this epoch. -/
def violation (s : State) (source q v : Nat) : State :=
  let s := bump s 0x5083 q
  { s with
    grd.vcnt := mset s.grd.vcnt q (satInc (mget s.grd.vcnt q) 0xFFFFFFFF)
    grd.violThis := if s.grd.violThis.contains q then s.grd.violThis else q :: s.grd.violThis
    grd.lastClamped := v
    grd.lastSrc := source
    grd.lastQ := q }

/-- A register write by the RT pair, clamped and counted (R231, R303). -/
def clampWrite (s : State) (q v : Nat) : State × Nat :=
  if guardClamp s q v = v then (s, v) else (violation s 0 q v, guardClamp s q v)

/-- A request clamp (R303): a dictionary write answered 0x05. -/
def requestClamp (s : State) : State := bump s 0x5083 64

/-- Roll the window of R304 at an epoch boundary: the epoch that closes enters, the oldest of 256 leaves, and a fault or
warning of a quantity below 32 epochs ends. -/
def rollWindow (s : State) : State :=
  let w := (s.grd.violThis :: s.grd.window).take 256
  let n := fun q => (w.filter (fun l => l.contains q)).length
  { s with
    grd.window := w
    grd.violThis := []
    grd.warn := s.grd.warn.filter (fun q => 32 ≤ n q)
    grd.fault := s.grd.fault.filter (fun q => 32 ≤ n q) }

/-- GUARD_ESCALATION (R304, R314, R315): the count of a quantity reaches 32 (a warning, at most once per quantity per
minute) or 128 (a fault) epochs of the window. -/
def escalate (s : State) (q : Nat) : State :=
  let n := violEpochs s q
  let s := if 32 ≤ n && !s.grd.warn.contains q then { s with grd.warn := q :: s.grd.warn } else s
  let t := mget s.grd.warnTick q
  let s :=
    if 32 ≤ n && (t == 0 || decide (t - 1 + 60000 ≤ s.epo.ticks)) then
      { writeRecB s 4 1 0x01 (guardBody s q s.grd.lastSrc 255 s.grd.lastClamped 0) with
        grd.warnTick := mset s.grd.warnTick q (s.epo.ticks + 1) }
    else s
  if 128 ≤ n && !s.grd.fault.contains q then
    { writeRecB s 4 2 0x02 (guardBody s q s.grd.lastSrc 255 s.grd.lastClamped 0) with grd.fault := q :: s.grd.fault }
  else s

/-- The meaning of GUARD_ESCALATION (R304). -/
def execGuardEscalation (q : Nat) (s : State) : Out := .next (if guardHas q then escalate s q else s)

/-! ## Narrowing (R302) -/

/-- The meaning of GUARD_NARROWING (R302, R313): only the RT pair writes GRD_NAR; a write from another core is ignored and
counted, and a write of a reserved quantity is ignored. -/
def execGuardNarrowing (core : Core5) (q : Nat) (value : Word) (s : State) : Out :=
  if core ≠ .rt then .next (busError s core 4)
  else if guardHas q then
    .next { s with
      grd.nar := mset s.grd.nar q (if value.toNat = guardFactory q then 0 else value.toNat + 1) }
  else .next s

/-! ## Owner authorisations (R308) -/

/-- The meaning of GUARD_AUTHORISATION (R308): after an accepted Owner command, the security die sets its bit. -/
def execGuardAuthorisation (b : Nat) (s : State) : Out :=
  if bit s.grd.granted b then
    .next { s with grd.granted := setBit s.grd.granted b false, grd.auth := setBit s.grd.auth b true }
  else .next s

/-- The meaning of AUTHORISATION_EXPIRY (R308): the bit clears 10 ms after it was set. -/
def execAuthorisationExpiry (b : Nat) (s : State) : Out :=
  .next { s with grd.auth := setBit s.grd.auth b false }

/-- Use an authorisation: the bit clears (R308). -/
def useAuth (s : State) (b : Nat) : State := { s with grd.auth := setBit s.grd.auth b false }

/-! ## Owner layer adoption (R301) -/

/-- The meaning of OWNER_LAYER_ADOPT (R301): a module held in Watch for its Owner layer takes its peer's layer, writes it
to MRAM, writes cause 0x08 and continues into role negotiation; a position conflict goes on holding it (R36). -/
def execOwnerLayerAdopt (layer : Nat) (s : State) : Out :=
  if s.grd.layerErr && s.red.peerHere then
    let s := { dset s 0x5081 0 layer with
      grd.layerErr := false, power.hold := if s.power.hold = .layer then .none else s.power.hold }
    .next (writeRecB s 4 0 0x08 (guardBody s 255 0 255 0 0))
  else .next s

end Sys2Proof.Machine
end

