-- ==== Sys2Proof/Machine/Converter.lean ====
section
/-! DEFINITION. The storage converter (07_storage_converter.md): phases, rotation, shedding, soft start, current limits,
overvoltage, contactors and string states, and the commands that drive them. -/
namespace Sys2Proof.Machine

/-! ## Phases and masks -/

/-- The converter state of a string. -/
def conv (s : State) (x : Str) : Conv := s.cot.str.get x

/-- Replace the converter state of a string. -/
def setConv (s : State) (x : Str) (c : Conv) : State := { s with cot.str := s.cot.str.set x c }

/-- The phases of a string that switch (R235). -/
def activeOf (s : State) (x : Str) : Nat := s.cot.active &&& strMask x

/-- The number of switching phases of a string. -/
def nActive (s : State) (x : Str) : Nat := popcount (activeOf s x) 24

/-- A mask of 12 phases of a string as bits of the 24-bit mask. -/
def widen (x : Str) (m : Nat) : Nat := match x with
  | .A => m
  | .B => m * 4096

/-- Set the switching phases of one string; phases that stop end their on-time (R201). -/
def setActive (s : State) (x : Str) (m : Nat) : State :=
  { s with
    cot.active := clearBits s.cot.active (strMask x) 24 + (m &&& strMask x)
    cot.onTime := clearBits s.cot.onTime (clearBits (strMask x) m 24) 24 }

/-- Every phase of a string off (R215, R224). -/
def phasesOff (s : State) (x : Str) : State := setActive s x 0

/-- A string whose phases switch: soft start, run, zeroing, or precharge while it equalises its link (R221, R225). -/
def switching (s : State) (x : Str) : Bool :=
  (conv s x).st == .softStart || (conv s x).st == .run || (conv s x).st == .zeroing ||
    ((conv s x).st == .precharge && (conv s x).equal)

/-- The string reference: the sum of the references of its switching phases (R202), Q8.24 A. -/
def strRef (s : State) (x : Str) : Int :=
  sumI ((phasesOf x).map (fun p => if bit s.cot.active p then atI s.cot.iref p else 0))

/-- I_ph = 15.625 A in Q8.24 (R206, R216). -/
abbrev iPhRating : Int := 262144000

/-- The limit that fold-back sets on a string's phase references, Q8.24 A (R216): I_ph, or twice that, none without it. -/
def foldLimit (s : State) (x : Str) : Option Int :=
  if (conv s x).fold then some iPhRating else if (conv s x).fold2 then some (2 * iPhRating) else none

/-- The bus reading of the selected channel, mV (R251). -/
def busSel (s : State) : Nat := if s.lpe.sel then s.cot.bus2 else s.cot.bus1

/-! ## The record body (R228) -/

/-- The converter body, captured in the loop sample of the event (R228). -/
def convBody (s : State) : Nat :=
  packAt ([(0, 4, s.cot.bus1), (4, 4, s.cot.bus2), (8, 4, s.cot.strV.a), (12, 4, s.cot.strV.b), (16, 4, s.cot.linkV.a),
    (20, 4, s.cot.linkV.b), (24, 4, s.cot.vNow / 1000)] ++
    arrAt 28 2 ((upTo 24).map (fun p => toTwos (tdiv (atI s.cot.imeas p) 10) 16)) ++
    [(76, 2, toTwos (tdiv s.lpe.latched.iStr.a 100) 16), (78, 2, toTwos (tdiv s.lpe.latched.iStr.b 100) 16),
     (80, 4, s.cot.active), (84, 4, s.cot.lastLim), (88, 1, (conv s .A).st.code), (89, 1, (conv s .B).st.code),
     (90, 1, field s.cot.fb 0 2), (91, 1, field s.cot.fb 2 2), (92, 1, (conv s .A).retries),
     (93, 1, (conv s .B).retries)])

/-- A converter record (R228, R229). -/
def convRec (s : State) (severity cause : Nat) : State := writeRecB s 1 severity cause (convBody s)

/-- Set a sticky flag of COT_FLT (R236). -/
def cotFlag (s : State) (i : Nat) : State := { s with cot.flt := setBit s.cot.flt i true }

/-- Set the sticky flag of a string: `i` for string A, `i + 1` for string B (R236). -/
def cotFlagStr (s : State) (i : Nat) (x : Str) : State := cotFlag s (i + x.idx)

/-- A COT write that is ignored and counted (R232, R235). -/
def ignoredCot (s : State) : State := bump s 0x5021 11

/-- A write to a COT register by another core: ignored and counted, with a bus error (R231, R463). -/
def foreignCot (s : State) (core : Core5) : State := busError (bump s 0x5021 11) core 1

/-! ## Current emulators (R203, R204) -/

/-- The change of an emulator over `n` control clocks with `v` mV across an inductance of `l` in 0.1 µH, mA (R204). DESIGN
CHOICE (log entry 97): the change of an interval is truncated, not that of each clock. -/
def emuStep (v : Int) (n l : Nat) : Int := tdiv (v * (n : Int)) (20 * (max 1 l : Nat))

/-- The phases of a string that leave at their turn: shed, still switching (R207). -/
def leavingOf (s : State) (x : Str) : Nat := activeOf s x &&& widen x (conv s x).shed

/-- The phases of a string that stay in the rotation (R207). -/
def stayOf (s : State) (x : Str) : Nat := clearBits (activeOf s x) (widen x (conv s x).shed) 24

/-- The side of a phase that conducts outside its dead times (R201, R204, R212): the high side, the low side, or none; in soft
start the low side stays off. -/
def highOn (s : State) (p : Nat) : Bool :=
  let x := phaseStr p
  bit s.cot.active p && (if bit s.cot.onTime p then !(conv s x).charge else (conv s x).charge && (conv s x).st != .softStart)
def lowOn (s : State) (p : Nat) : Bool :=
  let x := phaseStr p
  bit s.cot.active p && (conv s x).st != .softStart &&
    (if bit s.cot.onTime p then (conv s x).charge else !(conv s x).charge)

/-- An emulator over `n` clocks with both switches off (R204): towards zero, and no further. -/
def emuOff (s : State) (p n : Nat) (i : Int) : Int :=
  let d := emuStep (busSel s) n (at0 s.cot.induct p)
  if 0 ≤ i then max 0 (i - d) else min 0 (i + d)

/-- An emulator over `n` clocks in which its switches stay as they are (R204). -/
def emuOn (s : State) (p n : Nat) (i : Int) : Int :=
  let l := at0 s.cot.induct p
  if highOn s p then i + emuStep ((s.cot.strV.get (phaseStr p) : Int) - busSel s) n l
  else if lowOn s p then i - emuStep (busSel s) n l
  else emuOff s p n i

/-- An emulator from clock `a` to clock `b` of the sample (R201, R204): 16 clocks of dead time follow each edge. -/
def emuOver (s : State) (a b p : Nat) : Int :=
  let dead := min (b - a) (atI s.cot.edge p + 16 - a).toNat
  emuOn s p (b - a - dead) (emuOff s p dead (atI s.cot.emu p))

/-- Every emulator runs to clock `b` of the sample. -/
def emuSpan (s : State) (b : Nat) : State :=
  { s with cot.emu := (upTo 24).map (emuOver s s.cot.emuClk b), cot.emuClk := max s.cot.emuClk b }

/-- The same, the value at the midpoint of the sample kept (R204). -/
def emuTo (s : State) (b : Nat) : State :=
  if s.cot.emuClk < 400 ∧ 400 ≤ b then
    let t := emuSpan s 400
    emuSpan { t with cot.emuMid := t.cot.emu } b
  else emuSpan s b

/-- The sample start re-anchors each emulator (R204): the measured current of the sample that ended, and the emulator's change
since the midpoint of that sample. -/
def reanchor (s : State) : State :=
  { s with
    cot.emu := (upTo 24).map (fun p => atI s.cot.imeas p + (atI s.cot.emu p - atI s.cot.emuMid p))
    cot.emuClk := 0
    cot.edge := s.cot.edge.map (fun e => max (e - 800) (-4000)) }

/-- The emulator sum of a string's switching phases, mA (R205). -/
def emuSum (s : State) (x : Str) : Int :=
  sumI ((phasesOf x).map (fun p => if bit s.cot.active p then atI s.cot.emu p else 0))

/-! ## Rotation (R205, R207) -/

/-- The first phase of a list that is set in a mask. -/
def firstIn (m : Nat) (l : List Nat) : Option Nat := l.find? (fun p => bit m p)

/-- A string's phases in rising order after the last phase fired, wrapping (R205). -/
def rotation (s : State) (x : Str) : List Nat := (phasesOf x).rotateLeft (((conv s x).rot + 1) % 12)

/-- The next phase of a string's rotation (R205): a phase that has just joined (R207), else rising order after the last
phase fired, wrapping. -/
def nextPhase (s : State) (x : Str) : Option Nat :=
  match (conv s x).joined with
  | some p => if bit (stayOf s x) p then some p else firstIn (stayOf s x) (rotation s x)
  | none => firstIn (stayOf s x) (rotation s x)

/-- The shed phases whose turn comes before the next phase's stop: their cycle has ended (R207). -/
def endCycles (s : State) (x : Str) : State :=
  let passed := (rotation s x).takeWhile (fun p => !bit (stayOf s x) p)
  { s with cot.active := passed.foldl (fun m p => setBit m p false) s.cot.active }

/-- The on-time at a trigger, control clocks (R201), within the guard's bounds of indices 1 and 2. -/
def onTimeOf (s : State) (x : Str) : Nat :=
  let v := s.cot.strV.get x
  let b := busSel s
  let t := if v = 0 then 0 else if (conv s x).charge then 1333 * (v - b) / v else 1333 * b / v
  clampN t (effLimit s 2) (effLimit s 1)

/-- Start the on-time of a phase at clock `at'` of the sample (R201, R205); the dead time comes first. -/
def startOnTime (s : State) (x : Str) (p at' : Nat) : State :=
  let c := conv s x
  let s := { s with
    cot.onTime := setBit s.cot.onTime p true, cot.onClk := setAt s.cot.onClk p (onTimeOf s x)
    cot.edge := setAt s.cot.edge p (at' : Int), cot.onCnt := setAt s.cot.onCnt p (at0 s.cot.onCnt p + 1) }
  setConv s x { c with rot := if c.joined = some p then c.rot else p % 12, joined := if c.joined = some p then none else c.joined,
                       waiting := none }

/-- Shed phases of a string that are enabled, as a 24-bit mask. -/
def shedOf (s : State) (x : Str) : Nat := widen x (conv s x).shed &&& enabledOf s x

/-- Every shed phase rejoins the rotation at once (R207, R208); each is counted as an add. -/
def rejoin (s : State) (x : Str) : State :=
  let m := shedOf s x
  let s := bumpN s 0x5021 6 (popcount m 24)
  let s := if switching s x then { s with cot.active := s.cot.active ||| m } else s
  setConv s x { conv s x with shed := 0, dwell := 0 }

/-- The add condition at a trigger (R54, R207): the emulator sum per switching phase above the add threshold. -/
def addDue (s : State) (x : Str) : Bool :=
  decide (nActive s x * dnow s 0x5010 1 * 15625 < (emuSum s x).natAbs * 1000) && shedOf s x != 0

/-- PHASE_ADD (R207): the lowest-numbered shed phase joins directly after the phase just fired. -/
def phaseAdd (s : State) (x : Str) : State :=
  match firstIn (shedOf s x) (phasesOf x) with
  | none => s
  | some p =>
    let c := conv s x
    setConv { bump s 0x5021 6 with cot.active := setBit s.cot.active p true } x
      { c with shed := setBit c.shed (p % 12) false, dwell := 0, joined := some p }

/-- The direction change of R202, made at the first trigger after the reference held the opposite sign for 2 samples; none in soft
start (R212). -/
def turnDirection (s : State) (x : Str) : State :=
  let c := conv s x
  if 2 ≤ c.dirCnt ∧ c.st ≠ .softStart then setConv s x { c with charge := !c.charge, dirCnt := 0 } else s

/-- The clock at which a waiting trigger's phase may turn on (R201, R205): its on-time has ended, and 80 clocks with the dead
time in them lie before its turn-on edge. -/
def wakeAt (s : State) (x : Str) : Option Nat :=
  match (conv s x).waiting with
  | none => none
  | some p => if bit s.cot.onTime p then none else some (max s.cot.emuClk (atI s.cot.edge p + 64).toNat)

/-- A waiting trigger starts the phase it waited for, up to clock `b` of the sample (R205). -/
def wake (s : State) (x : Str) (b : Nat) : State :=
  match wakeAt s x, (conv s x).waiting with
  | some t, some p => if t ≤ b ∧ bit s.cot.active p = true then startOnTime (emuTo s t) x p t else s
  | _, _ => s

/-- The modulator runs to clock `b` of the sample: the emulators, and the waiting triggers whose minimum off-time ends, the
earlier first. -/
def runTo (s : State) (b : Nat) : State :=
  let aFirst := match wakeAt s .A, wakeAt s .B with
    | some t, some u => decide (t ≤ u)
    | _, _ => true
  let s := if aFirst then wake (wake s .A b) .B b else wake (wake s .B b) .A b
  emuTo s b

/-- The comparator's condition (R205): in discharge the emulator sum has fallen to the string reference, in charge the same of the
negated sum and reference. -/
def valley (s : State) (x : Str) : Bool :=
  if (conv s x).charge then decide (strRef s x * 1000 ≤ emuSum s x * 16777216)
  else decide (emuSum s x * 16777216 ≤ strRef s x * 1000)

/-- A trigger takes phase `p` at clock `t`: it starts, or waits where the phase is in its on-time or its minimum off-time
(R205). -/
def takeTrigger (s : State) (x : Str) (p t : Nat) : State :=
  if bit s.cot.onTime p || decide ((t : Int) < atI s.cot.edge p + 80) then
    let s := cotFlag (bump s 0x5021 4) 15
    wake (setConv s x { conv s x with waiting := some p }) x t
  else startOnTime s x p t

/-- One firing of a string's trigger comparator (R205, R207) at clock `t`. -/
def trigger (s : State) (x : Str) (t : Nat) : State :=
  let s := turnDirection s x
  match (conv s x).waiting, nextPhase s x with
  | none, some p =>
    let due := addDue s x
    let s := takeTrigger (endCycles s x) x p t
    if due then phaseAdd s x else s
  | _, _ => s

/-- The modulator runs: with drive enabled, or in the standby in Live, whose outputs reach no gate (R226, R328). -/
def modulates (s : State) : Bool := s.red.driveEn || (isStandby s && inLive s)

/-- The meaning of COT_TRIGGER (R205, R328) at a control clock of the sample: where the modulator runs, an unblanked string
whose phases switch fires where its comparator's condition holds. -/
def execCotTrigger (x : Str) (clk : Nat) (s : State) : Out :=
  let s := runTo s clk
  .next (if modulates s && switching s x && !(conv s x).blank && !s.cot.ovLatch && valley s x then trigger s x clk else s)

/-- The on-time of a phase ends at clock `t`: its length enters the sum of the epoch (R332). -/
def stopOnTime (s : State) (p t : Nat) : State :=
  { s with
    cot.onTime := setBit s.cot.onTime p false
    cot.onSum := setAt s.cot.onSum p (at0 s.cot.onSum p + ((t : Int) - atI s.cot.edge p - 16).toNat)
    cot.edge := setAt s.cot.edge p (t : Int) }

/-- End the on-time of a phase without the limit: its count of limited cycles resets (R215). -/
def endOnTime (s : State) (p t : Nat) : State :=
  { stopOnTime s p t with
    cot.limitedRun := setAt s.cot.limitedRun p 0
    cot.lastLim := setBit s.cot.lastLim p false }

/-- The on-time of a phase is over at clock `t` (R201, R212): its length after the dead time, or in soft start an emulator at
zero. -/
def onTimeOver (s : State) (p t : Nat) : Bool :=
  decide (atI s.cot.edge p + 16 + at0 s.cot.onClk p ≤ t) ||
    ((conv s (phaseStr p)).st == .softStart && decide (atI s.cot.emu p ≤ 0))

/-- The meaning of ON_TIME_END (R201, R212) at a control clock of the sample: the active switch turns off. -/
def execOnTimeEnd (p clk : Nat) (s : State) : Out :=
  let s := runTo s clk
  .next (if bit s.cot.onTime p && onTimeOver s p clk then endOnTime s p clk else s)

/-- The meaning of FAST_LIMIT (R214, R215, R207): the on-time ends, the limited cycle is counted, and every shed phase of
the string joins. Under the overvoltage latch the phase is released only, by OV_PHASE_RELEASE (R226). -/
def execFastLimit (p clk : Nat) (s : State) : Out :=
  let s := runTo s clk
  if bit s.cot.onTime p && !s.cot.ovLatch then
    let s := cotFlag (bump s 0x5021 0) 0
    let s := { stopOnTime s p clk with
      cot.limitedRun := setAt s.cot.limitedRun p (at0 s.cot.limitedRun p + 1)
      cot.lastLim := setBit s.cot.lastLim p true }
    .next (rejoin s (phaseStr p))
  else .next s

/-- End every running on-time of a string (R213). -/
def endAllOnTimes (s : State) (x : Str) (t : Nat) : State :=
  (phasesOf x).foldl (fun s p => if bit s.cot.onTime p then endOnTime s p t else s) s

/-- The meaning of PULSE_TRUNCATION (R213): every running on-time of the string ends and its comparator is blanked, until
both channels read inside the threshold again. -/
def execPulseTruncation (x : Str) (begins : Bool) (clk : Nat) (s : State) : Out :=
  let s := runTo s clk
  if begins then
    if (s.cot.onTime &&& strMask x) != 0 then
      let s := cotFlag (bump (endAllOnTimes s x clk) 0x5021 3) 14
      .next (setConv s x { conv s x with blank := true })
    else .next s
  else .next (setConv s x { conv s x with blank := false })

/-! ## Phase shedding (R207, R208) -/

/-- The target and the slew in force after the guard (R52, R210, R298 indices 5 to 7), mV and mV/ms. -/
def vTarget (s : State) : Nat := guardClamp s 5 (guardClamp s 6 s.cot.vTgt)
def slewNow (s : State) : Nat := guardClamp s 7 s.cot.slew

/-- Shedding is suspended for a string (R208). -/
def shedSuspended (s : State) (x : Str) : Bool :=
  (conv s x).st != .run || (conv s x).noShed != 0 || (conv s x).fold || (conv s x).fold2 ||
    (s.cot.vNow != vTarget s * 1000 && decide (5000 < slewNow s)) || !s.cot.shedEn || s.cot.ovLatch

/-- The conditions of a shed (R54, R207): the dwell time has passed below the shed threshold, and more than the minimum switch. -/
def shedDue (s : State) (x : Str) : Bool :=
  !shedSuspended s x && decide (dnow s 0x5010 3 < popcount (stayOf s x) 24) && decide (dnow s 0x5010 2 ≤ 4 * (conv s x).dwell)

/-- The meaning of PHASE_SHED (R207): the highest-numbered switching phase stops at the end of its cycle and the dwell count
restarts; an add that is due in the same sample is made instead. -/
def execPhaseShed (x : Str) (s : State) : Out :=
  if !shedDue s x then .next s
  else if addDue s x then .next (phaseAdd s x)
  else
    match firstIn (stayOf s x) (phasesOf x).reverse with
    | none => .next s
    | some p =>
      .next (setConv (bump s 0x5021 5) x { conv s x with shed := setBit (conv s x).shed (p % 12) true, dwell := 0 })

/-- The state a string rests in with its contactors open (R225, R291): isolated while a cause of isolation stands. -/
def restState (s : State) (x : Str) : SState := if s.strs.isoCause.get x = 0 then .off else .isolated

/-! ## Soft start (R212) -/

/-- Both bus-sense channels read at least 700 V (R212). -/
def prebiased (s : State) : Bool := decide (700000 ≤ s.cot.bus1) && decide (700000 ≤ s.cot.bus2)

/-- Steps 1 and 2 of R212: refused with cause 0x08 and the string left ready, or started with V_ss 10 V below the bus. The
ramp V_now follows V_ss unless the other string regulates the bus or started first. -/
def softStart (s : State) (x : Str) : State :=
  if prebiased s then
    let vss := (busSel s - 10000) * 1000
    let other := (conv s x.other).st
    let follows :=
      other != .run && other != .zeroing &&
        (other != .softStart || (x == .A && s.cot.vFollow == some .B && s.cot.followAt == s.epo.samples))
    let s := if follows then
      { s with cot.vNow := vss, cot.vFollow := some x, cot.followAt := s.epo.samples } else s
    let s := setConv s x { conv s x with
      st := .softStart, charge := false, vss := vss, crossed := false, tried := true, shed := 0
      blank := false, waiting := none, dwell := 0 }
    setActive s x (enabledOf s x)
  else
    let s := phasesOff s x
    convRec (setConv s x { conv s x with st := .ready, vss := 0, tried := true }) 0 0x08

/-- Release the ramp from a string's start reference (R212). -/
def unfollow (s : State) (x : Str) : State := if s.cot.vFollow = some x then { s with cot.vFollow := none } else s

/-- The meaning of COT_START (R212, R232): a write of START by the RT pair with the string ready. -/
def execCotStart (core : Core5) (x : Str) (s : State) : Out :=
  if core ≠ .rt then .next (foreignCot s core)
  else if (conv s x).st = .ready then .next (softStart s x)
  else .next s

/-- The meaning of SOFT_START_CROSSING (R212): V_ss has reached the measured bus voltage. The string runs and follows V_now;
shedding stays suspended for 1 ms. -/
def execSoftStartCrossing (x : Str) (s : State) : Out :=
  if (conv s x).st = .softStart ∧ 1000 * busSel s ≤ (conv s x).vss then
    .next (setConv (unfollow s x) x { conv s x with st := .run, vss := 0, crossed := true, noShed := 250, dwell := 0 })
  else .next s

/-- The meaning of SOFT_START_TIMEOUT (R212): no crossing within 100 ms; cause 0x09 and the string returns to ready. -/
def execSoftStartTimeout (x : Str) (s : State) : Out :=
  if (conv s x).st = .softStart then
    let s := phasesOff (unfollow s x) x
    .next (convRec (setConv s x { conv s x with st := .ready, vss := 0 }) 2 0x09)
  else .next s

/-! ## Contactors (R221 to R224, R305) -/

/-- The contactor's bit of COT_CONT: PRE_A 0, MAIN_A 1, PRE_B 2, MAIN_B 3 (R237). -/
def kIdx (x : Str) (k : Contactor) : Nat := 2 * x.idx + (match k with | .pre => 0 | .main => 1)

/-- The string holds a latch of its own (R215, R219, R223). -/
def strLatched (s : State) (x : Str) : Bool := (conv s x).ownLatch

/-- The hardware gate of R222: the link within 10 V of the string, and no latch. -/
def gateOpen (s : State) (x : Str) : Bool :=
  let v := s.cot.strV.get x
  let l := s.cot.linkV.get x
  decide (l ≤ v + 10000) && decide (v ≤ l + 10000) && !s.cot.ovLatch && !strLatched s x

/-- The ticks of the last closes of a contactor. -/
def closesOf (s : State) (i : Nat) : List Nat := (s.grd.closeTicks.filter (fun p => p.1 == i)).map (·.2)

/-- A close less than 1 s ago (R305). -/
def closedRecently (s : State) (i : Nat) : Bool := (closesOf s i).any (fun t => decide (s.epo.ticks < t + 1000))

/-- 12 main closes in the last 60 min (R305). -/
def closesSpent (s : State) (i : Nat) : Bool :=
  decide (12 ≤ ((closesOf s i).filter (fun t => decide (s.epo.ticks < t + 3600000))).length)

/-- Pass a contactor command on (R237, R305); closes older than 60 min are forgotten. -/
def passCommand (s : State) (i : Nat) (close : Bool) : State :=
  { s with
    cot.cmd := setBit s.cot.cmd i close
    grd.heldCmd := s.grd.heldCmd.filter (fun p => p.1 != i)
    grd.closeTicks :=
      if close then (i, s.epo.ticks) :: s.grd.closeTicks.filter (fun p => decide (s.epo.ticks < p.2 + 3600000))
      else s.grd.closeTicks }

/-- Hold a contactor command back; it is counted once, when it is first held (R305). -/
def holdCommand (s : State) (i : Nat) (close : Bool) : State :=
  if s.grd.heldCmd.contains (i, close) then s
  else { bump s 0x5083 68 with grd.heldCmd := (i, close) :: s.grd.heldCmd.filter (fun p => p.1 != i) }

/-- Refuse a contactor command: counted, with guard cause 0x06 (R305). -/
def refuseCommand (s : State) (i : Nat) : State :=
  writeRecB (bump s 0x5083 67) 4 2 0x06 (guardBody s 255 5 255 i 0)

/-- Close a main contactor through the gate and the guard's rules (R222, R305). -/
def closeMain (s : State) (x : Str) : State :=
  let i := kIdx x .main
  if bit s.cot.cmd i then s
  else if !gateOpen s x then refuseCommand (bump s 0x5021 9) i
  else if closesSpent s i then refuseCommand s i
  else if closedRecently s i then holdCommand s i true
  else passCommand s i true

/-- Close a precharge contactor under the guard's rules (R305). -/
def closePre (s : State) (x : Str) : State :=
  let i := kIdx x .pre
  if bit s.cot.cmd i then s
  else if closedRecently s i then holdCommand s i true
  else passCommand s i true

/-- Zero the references of a string's phases (R224). -/
def zeroRefs (s : State) (x : Str) : State :=
  { s with
    cot.iref := (upTo 24).map (fun p => if bit (strMask x) p then 0 else atI s.cot.iref p)
    cot.irefBuf := (upTo 24).map (fun p => if bit (strMask x) p then 0 else atI s.cot.irefBuf p) }

/-- Start zeroing (R224): references to zero, phases keep switching, shed phases rejoin (R208); `after` is the state that
follows. -/
def zeroing (s : State) (x : Str) (after : SState) : State :=
  let s := zeroRefs (unfollow s x) x
  let s := rejoin s x
  setConv s x { conv s x with st := .zeroing, after := after, vss := 0, waiting := none }

/-- Open a main contactor (R305): while a phase of the string switches, the command is held and the guard starts zeroing. -/
def openMain (s : State) (x : Str) : State :=
  let i := kIdx x .main
  if nActive s x != 0 && !s.cot.ovLatch then
    let s := holdCommand s i false
    if (conv s x).st = .zeroing then s else zeroing s x .off
  else passCommand s i false

/-- The meaning of CONTACTOR_MAIN_COMMAND (R222, R237, R305). -/
def execContactorMainCommand (core : Core5) (x : Str) (close : Bool) (s : State) : Out :=
  if core ≠ .rt then .next (foreignCot s core)
  else if close then .next (closeMain s x)
  else .next (openMain s x)

/-- The meaning of CONTACTOR_PRECHARGE_COMMAND (R237, R305). -/
def execContactorPrechargeCommand (core : Core5) (x : Str) (close : Bool) (s : State) : Out :=
  if core ≠ .rt then .next (foreignCot s core)
  else if close then .next (closePre s x)
  else .next (passCommand s (kIdx x .pre) false)

/-- The meaning of CONTACTOR_HOLD_RELEASE (R305): a held close passes once 1 s has passed since the last close and, for a
main contactor, the gate and the 60 min window allow it; a held open passes once no phase of the string switches. -/
def execContactorHoldRelease (x : Str) (k : Contactor) (s : State) : Out :=
  let i := kIdx x k
  if s.grd.heldCmd.contains (i, true) then
    if closedRecently s i then .next s
    else
      let s := { s with grd.heldCmd := s.grd.heldCmd.filter (fun p => p.1 != i) }
      .next (match k with | .main => closeMain s x | .pre => closePre s x)
  else if s.grd.heldCmd.contains (i, false) && nActive s x == 0 then .next (passCommand s i false)
  else .next s

/-- Open both contactors of a string without further checks (R217, R224 after zeroing). -/
def openBoth (s : State) (x : Str) : State := passCommand (passCommand s (kIdx x .main) false) (kIdx x .pre) false

/-- The string goes to a state in which its phases are off and its contactors open (R225). -/
def toOpen (s : State) (x : Str) (st : SState) : State :=
  let s := openBoth (phasesOff s x) x
  setConv s x { conv s x with st := st, vss := 0, waiting := none, equal := false }

/-- The meaning of PRECHARGE_GUARD_OPEN (R305): the precharge contactor closed for 1 s without the main closing; the guard
opens it and the string goes to off. -/
def execPrechargeGuardOpen (x : Str) (s : State) : Out :=
  if bit s.cot.cmd (kIdx x .pre) && !bit s.cot.cmd (kIdx x .main) then
    let s := passCommand s (kIdx x .pre) false
    .next (if (conv s x).st = .precharge then toOpen s x .off else s)
  else .next s

/-- The meaning of PRECHARGE_OVERLAP_OPEN (R305): both contactors closed for more than 50 ms. -/
def execPrechargeOverlapOpen (x : Str) (s : State) : Out :=
  if bit s.cot.cmd (kIdx x .pre) && bit s.cot.cmd (kIdx x .main) then .next (passCommand s (kIdx x .pre) false)
  else .next s

/-- The phases of a string that equalises its link (R221): in buck mode while the bus is pre-biased, else off. -/
def equalise (s : State) (x : Str) : State :=
  if (conv s x).st = .precharge ∧ (conv s x).equal = true then
    setActive (setConv s x { conv s x with charge := false }) x (if prebiased s then enabledOf s x else 0)
  else s

/-- Enter precharge (R221): the link is discharged first when it lies more than 10 V above the string. -/
def enterPrecharge (s : State) (x : Str) : State :=
  if decide (s.cot.strV.get x + 10000 < s.cot.linkV.get x) then
    equalise (setConv s x { conv s x with st := .precharge, equal := true, tried := false }) x
  else closePre (setConv s x { conv s x with st := .precharge, equal := false, tried := false }) x

/-- The meaning of LINK_DISCHARGE_DONE (R221): the difference is at most 10 V; the precharge contactor closes. -/
def execLinkDischargeDone (x : Str) (s : State) : Out :=
  if (conv s x).st = .precharge ∧ (conv s x).equal = true ∧ s.cot.linkV.get x ≤ s.cot.strV.get x + 10000 then
    .next (closePre (setConv (phasesOff s x) x { conv s x with equal := false }) x)
  else .next s

/-- The meaning of PRECHARGE_COMPLETE (R221): the main contactor closes, through its gate. -/
def execPrechargeComplete (x : Str) (s : State) : Out :=
  if (conv s x).st = .precharge ∧ (conv s x).equal = false then .next (closeMain s x) else .next s

/-- The meaning of PRECHARGE_TIMEOUT (R223, R222): cause 0x06, PRETO set, and the string returns to off. -/
def execPrechargeTimeout (x : Str) (s : State) : Out :=
  if (conv s x).st = .precharge then .next (convRec (cotFlagStr (toOpen s x .off) 7 x) 2 0x06) else .next s

/-- The meaning of CONTACTOR_CONFIRMED (R221, R223): the auxiliary contact reads; a confirmed main close in precharge opens
the precharge contactor and makes the string ready. -/
def execContactorConfirmed (x : Str) (k : Contactor) (closed : Bool) (s : State) : Out :=
  let s := { s with cot.fb := setBit s.cot.fb (kIdx x k) closed }
  if k = .main ∧ closed = true ∧ (conv s x).st = .precharge then
    .next (setConv (passCommand s (kIdx x .pre) false) x { conv s x with st := .ready })
  else .next s

/-- Latch a string (R215, R219, R223): its current is zeroed first where its phases switch; STRING_ISOLATED is set. -/
def latchString (s : State) (x : Str) : State :=
  let s := minuteFlag (bump s 0x5021 2) 11
  let s := setConv s x { conv s x with ownLatch := true }
  if (conv s x).st = .ovLatch then s
  else if nActive s x != 0 then zeroing s x .latched
  else toOpen s x .latched

/-- The meaning of CONTACTOR_DISAGREE (R223, R236): command and auxiliary contact disagree for t_AUX; the string latches with
cause 0x07. -/
def execContactorDisagree (x : Str) (k : Contactor) (s : State) : Out :=
  if bit s.cot.cmd (kIdx x k) != bit s.cot.fb (kIdx x k) then
    .next (convRec (cotFlagStr (latchString s x) 9 x) 3 0x07)
  else .next s

/-- The meaning of ZEROING_COMPLETE (R224): each phase turns off, the open command follows, and the string takes the state
zeroing led to. -/
def execZeroingComplete (x : Str) (s : State) : Out :=
  if (conv s x).st = .zeroing then .next (toOpen s x (conv s x).after) else .next s

/-- The meaning of ZEROING_TIMEOUT (R305): the guard turns every phase of the string off; the open command passes when the
current has decayed (ZEROING_COMPLETE). -/
def execZeroingTimeout (x : Str) (s : State) : Out :=
  if (conv s x).st = .zeroing then .next (phasesOff s x) else .next s

/-- The meaning of COT_ENA (R225, R232): setting ENA starts precharge from off; clearing it in states 2 to 5 starts
zeroing. -/
def execCotEna (core : Core5) (x : Str) (on : Bool) (s : State) : Out :=
  if core ≠ .rt then .next (foreignCot s core)
  else
    let s := setConv s x { conv s x with ena := on }
    let st := (conv s x).st
    if on then .next (if st = .off then enterPrecharge s x else s)
    else if st = .ready ∨ st = .softStart ∨ st = .run ∨ st = .hiccup then .next (zeroing s x .off)
    else .next s

/-! ## Current limits (R215, R216) -/

/-- A phase of the string has reached 20 consecutive limited cycles (R215). -/
def hiccupDue (s : State) (x : Str) : Bool := (phasesOf x).any (fun p => decide (20 ≤ at0 s.cot.limitedRun p))

/-- Forget the limited cycles of a string. -/
def clearRuns (s : State) (x : Str) : State :=
  { s with cot.limitedRun := (upTo 24).map (fun p => if bit (strMask x) p then 0 else at0 s.cot.limitedRun p) }

/-- The meaning of HICCUP (R215, R229): every phase off for 10 ms; the hiccup that follows the third retry latches. -/
def execHiccup (x : Str) (s : State) : Out :=
  if hiccupDue s x ∧ ((conv s x).st = .softStart ∨ (conv s x).st = .run) then
    let s := cotFlagStr (bump s 0x5021 1) 1 x
    let s := clearRuns (phasesOff (unfollow s x) x) x
    if 3 ≤ (conv s x).retries then .next (convRec (latchString s x) 3 0x02)
    else .next (convRec (setConv s x { conv s x with st := .hiccup, hicLeft := 2000000, vss := 0, waiting := none }) 1 0x01)
  else .next s

/-- The meaning of HICCUP_RETRY (R215): 10 ms on, the string restarts from step 1 of R212, counted as a retry. -/
def execHiccupRetry (x : Str) (s : State) : Out :=
  if (conv s x).st = .hiccup ∧ (conv s x).hicLeft = 0 then
    .next (softStart (setConv s x { conv s x with retries := (conv s x).retries + 1 }) x)
  else .next s

/-- The meaning of RETRY_COUNT_RESET (R215): 1 s without a limited cycle after a retry. -/
def execRetryCountReset (x : Str) (s : State) : Out :=
  if (conv s x).st = .run then .next (setConv s x { conv s x with retries := 0 }) else .next s

/-- I_s: the 100 ms mean of |Σ i_p|, mA (R216). -/
def iMean (c : Conv) : Nat := if c.isHist.length = 0 then 0 else sumN c.isHist / c.isHist.length

/-- I_r = I_ph × enabled phases, mA (R216). -/
def iRating (s : State) (x : Str) : Nat := 15625 * nEnabled s x

/-- One epoch's update of the overload budget, ns (R216): it falls by (I_s / I_r − 1) ms or recovers at a tenth of the
margin, within 0 to 15 s; the limit at twice the rating ends with its cause. -/
def budgetUpdate (s : State) (x : Str) (mean : Nat) : State :=
  let c := conv s x
  let c := { c with isHist := (mean :: c.isHist).take 100 }
  let i := iMean c
  let r := iRating s x
  let b :=
    if r = 0 then c.budget
    else if r < i then c.budget - (i - r) * 1000000 / r
    else min (c.budget + (r - i) * 100000 / r) 15000000000
  setConv s x { c with budget := b, fold2 := c.fold2 && decide (2 * r < i) }

/-- The meaning of FOLD_BACK (R216, R229): the budget is at 0 (limit I_ph) or I_s above 2 × I_r (limit 2 × I_ph); FOLD is set,
a warning is written on entry and counted, and shed phases rejoin (R208). -/
def execFoldBack (x : Str) (s : State) : Out :=
  let c := conv s x
  let empty := c.budget == 0
  let twice := decide (2 * iRating s x < iMean c)
  if empty || twice then
    let entered := !c.fold && !c.fold2
    let s := setConv s x { c with fold := c.fold || empty, fold2 := c.fold2 || twice }
    let s := rejoin s x
    .next (if entered then convRec (cotFlagStr (bump s 0x5021 7) 3 x) 1 0x03 else s)
  else .next s

/-- The meaning of FOLD_BACK_END (R216): the budget has recovered to 7.5 s. -/
def execFoldBackEnd (x : Str) (s : State) : Out :=
  if (conv s x).fold && decide (7500000000 ≤ (conv s x).budget) then
    .next (setConv s x { conv s x with fold := false })
  else .next s

/-! ## Bus overvoltage (R217 to R220) -/

/-- One string under the overvoltage latch (R217, R226): contactors opened without the current check, hiccup timer and
retries discarded. -/
def ovString (s : State) (x : Str) : State :=
  let s := openBoth (unfollow (phasesOff s x) x) x
  setConv s x { conv s x with st := .ovLatch, retries := 0, vss := 0, waiting := none, equal := false }

/-- A string's link reads at least 1,200 V (R219). -/
def linkHigh (s : State) (x : Str) : Bool := decide (1200000 ≤ s.cot.linkV.get x)

/-- The phases held off for a link already at 1,200 V (R219). -/
def highLinks (s : State) : Nat := (if linkHigh s .A then strMask .A else 0) ||| (if linkHigh s .B then strMask .B else 0)

/-- The meaning of BUS_OVERVOLTAGE_LATCH (R217, R229): the latch sets, low sides on, FAULT_L asserted, contactors opened. A
standby asserts FAULT_L on its own detection and drives no phase. -/
def execBusOvervoltageLatch (s : State) : Out :=
  if s.cot.ovLatch then .next s
  else
    let s := cotFlag (bump { s with cot.ovLatch := true, cot.ovOff := 0, cot.linkOff := highLinks s } 0x5021 8) 13
    if isActive s then .next (minuteFlag (convRec (ovString (ovString s .A) .B) 3 0x04) 11)
    else .next (convRec s 3 0x04)

/-- The meaning of OV_PHASE_RELEASE (R218): under the latch a phase at −60 A turns its low side off, and on again at the
zero crossing. -/
def execOvPhaseRelease (p : Nat) (crossing : Bool) (s : State) : Out :=
  if s.cot.ovLatch then .next { s with cot.ovOff := setBit s.cot.ovOff p (!crossing) } else .next s

/-- The meaning of LINK_OVERVOLTAGE (R219, R229, R236): the phases of the link hold off; outside the overvoltage latch the
string latches with cause 0x05. -/
def execLinkOvervoltage (x : Str) (s : State) : Out :=
  let s := cotFlagStr s 11 x
  if s.cot.ovLatch then .next { s with cot.linkOff := s.cot.linkOff ||| strMask x }
  else .next (convRec (latchString (phasesOff s x) x) 3 0x05)

/-- The meaning of LINK_BELOW_1150_V (R219): under the latch, the phase resumes the cycle of R218. -/
def execLinkBelow1150 (p : Nat) (s : State) : Out :=
  if s.cot.ovLatch then .next { s with cot.linkOff := setBit s.cot.linkOff p false } else .next s

/-- One string at the clear of the overvoltage latch (R220). -/
def ovClearString (s : State) (x : Str) : State :=
  if (conv s x).st = .ovLatch then
    setConv s x { conv s x with st := if (conv s x).ownLatch then .latched else restState s x, retries := 0 }
  else s

/-- A string whose link reads 1,200 V or more outside the overvoltage latch latches with cause 0x05 (R219). -/
def linkCheck (s : State) (x : Str) : State :=
  if linkHigh s x && !strLatched s x then convRec (latchString (phasesOff (cotFlagStr s 11 x) x) x) 3 0x05 else s

/-- Clear the overvoltage latch (R220): every phase off, FAULT_L released, each string off or in its own latch. -/
def clearOvLatch (s : State) : State :=
  if s.cot.ovLatch then
    let s := { s with cot.ovLatch := false, cot.ovOff := 0, cot.linkOff := 0 }
    linkCheck (linkCheck (convRec (ovClearString (ovClearString s .A) .B) 0 0x0D) .A) .B
  else s

/-- Both channels below 820 V (R220). -/
def below820 (s : State) : Bool := decide (s.cot.bus1 < 820000) && decide (s.cot.bus2 < 820000)

/-- Clear a string's own latch (R215, R220): a latched string returns to off. -/
def clearStrLatch (s : State) (x : Str) : State :=
  if (conv s x).ownLatch then
    let c := conv s x
    let c := { c with ownLatch := false, retries := 0, after := if c.after = SState.latched then SState.off else c.after }
    convRec (setConv s x { c with st := if c.st = SState.latched then restState s x else c.st }) 0 0x0D
  else s

/-- The meaning of COT_OVCLR (R232, R308): acts while the guard holds the Owner's clear; otherwise ignored and counted. -/
def execCotOvclr (core : Core5) (s : State) : Out :=
  if core ≠ .rt then .next (foreignCot s core)
  else if bit s.grd.auth 5 then .next (clearOvLatch (useAuth s 5))
  else .next (ignoredCot s)

/-- The meaning of COT_LATCLR (R232, R308). -/
def execCotLatclr (core : Core5) (x : Str) (s : State) : Out :=
  if core ≠ .rt then .next (foreignCot s core)
  else if bit s.grd.auth (3 + x.idx) then .next (clearStrLatch (useAuth s (3 + x.idx)) x)
  else .next (ignoredCot s)

/-! ## Other registers and events -/

/-- The meaning of COT_SHED_EN (R208, R232). -/
def execCotShedEn (core : Core5) (on : Bool) (s : State) : Out :=
  if core ≠ .rt then .next (foreignCot s core) else .next { s with cot.shedEn := on }

/-- The switching set after a change of the enabled phases (R209, R235): a disabled phase stops; an enabled phase of a
switching string that is not shed joins. -/
def refreshActive (s : State) : State :=
  let one := fun (s : State) (x : Str) =>
    if switching s x then setActive s x (clearBits (enabledOf s x) (widen x (conv s x).shed) 24) else s
  one (one s .A) .B

/-- The meaning of COT_PHEN_WRITE (R235): ignored and counted when fewer than 2 enabled phases would remain in a string. -/
def execCotPhenWrite (core : Core5) (value : Word) (s : State) : Out :=
  if core ≠ .rt then .next (foreignCot s core)
  else
    let t := { s with cot.phen := value.toNat % 2 ^ 24 }
    if nEnabled t .A < 2 ∨ nEnabled t .B < 2 then .next (ignoredCot s) else .next (refreshActive t)

/-- One phase of a reread identity record (R203): outside 20 to 200 µH, or unread, it is refused, counted and recorded. -/
def inductOne (s : State) (p : Nat) (l : Nat) : State :=
  let s := { s with cot.induct := setAt s.cot.induct p l }
  if 200 ≤ l ∧ l ≤ 2000 then { s with cot.refused := setBit s.cot.refused p false }
  else if bit s.cot.refused p then s
  else convRec (bump { s with cot.refused := setBit s.cot.refused p true } 0x5021 10) 2 0x0C

/-- The identity records of the power boards, read at cold start and after a presence change (R203). -/
def readInductances (s : State) (l : List Nat) : State :=
  refreshActive ((upTo 24).foldl (fun s p => inductOne s p (at0 l p)) s)

/-- The meaning of POWER_BOARD_PRESENCE_CHANGE (R203). -/
def execPowerBoardPresenceChange (inductances : List Nat) (s : State) : Out := .next (readInductances s inductances)

/-- Loss of DRIVE_EN (R226): the gate drivers turn every switch off at once. -/
def dropDrive (s : State) : State := { s with red.driveEn := false, cot.onTime := 0, cot.active := 0 }

/-- The meaning of DRIVE_EN_LOSS (R226). -/
def execDriveEnLoss (s : State) : Out := .next (dropDrive s)

/-- FAULT_L is asserted (R217, R220, R273, R293, R541): the overvoltage latch or a trip latch of an island, unless no valid
firmware bank runs. -/
def faultLine (s : State) : Bool :=
  s.power.mstate != .recovery && (s.cot.ovLatch || !s.strs.tripOv.isEmpty || !s.strs.tripUv.isEmpty)

end Sys2Proof.Machine
end

