-- ==== Sys2Proof/Machine/Interrupts.lean ====
section
/-! DEFINITION. The interrupt controller (18_cores_interrupts.md): sources, levels, claims, completions and routes. -/
namespace Sys2Proof.Machine

/-- A private source that exists (R501): source 1 at T0 only. -/
def privHas (t : Core5) (s : Nat) : Bool :=
  (s == 1 && t == .rt) || (2 ≤ s && s ≤ 5) || s == 7 || s == 8 || (16 ≤ s && s ≤ 31)

/-- A shared source that exists (R502). -/
def sharedHas (s : Nat) : Bool := (32 ≤ s && s ≤ 43) || (64 ≤ s && s ≤ 82)

/-- A shared source whose route is fixed to T0 (R498). -/
def routeFixed (s : Nat) : Bool := 32 ≤ s && s ≤ 63

/-- The route of a shared source at reset (R502). -/
def routeReset (s : Nat) : Nat :=
  if 64 ≤ s && s ≤ 67 then 1
  else if s == 68 || (71 ≤ s && s ≤ 76) then 2
  else if 77 ≤ s && s ≤ 79 then 3
  else if s == 69 || s == 70 || s == 80 || s == 81 then 4
  else 0

/-- The route in force (R506). -/
def routeOf (s : State) (i : Nat) : Nat :=
  let v := mget s.icu.route i
  if v = 0 then routeReset i else v - 1

/-- The levels that other state gives (R502): ICU_FAULT, the guard, COT_FLT, LPE_STAT, the trip latches, the power-fail
warning, AON_XLOST and AON_XDROP, TRC_STAT DONE. None where the level is a status of a block of its own. -/
def derivedLevel (s : State) (i : Nat) : Option Bool :=
  if i = 32 then some s.icu.fault.isSome
  else if i = 33 then some (!s.grd.warn.isEmpty || !s.grd.fault.isEmpty)
  else if i = 34 then some (s.cot.flt != 0)
  else if i = 35 then some (s.lpe.ovrFlag || s.lpe.satFlag || s.lpe.src != 0)
  else if i = 37 then some (!s.strs.tripOv.isEmpty || !s.strs.tripUv.isEmpty)
  else if i = 39 then some s.power.pfw
  else if i = 41 then some (s.power.xlost != 0 || !s.power.xdrop.isEmpty)
  else if i = 80 then some s.trc.done
  else none

/-- The level of a source (R492). -/
def levelOf (s : State) (t : Core5) (i : Nat) : Bool :=
  if i < 32 then bit (mget s.icu.plvl (coreNum t)) i
  else match derivedLevel s i with
    | some b => b
    | none => bit (mget s.icu.lvl (i / 32)) (i % 32)

/-- The software pending bit of a source (R496). -/
def swPending (s : State) (t : Core5) (i : Nat) : Bool :=
  if i < 32 then bit (mget s.icu.pswp (coreNum t)) i else bit (mget s.icu.swp (i / 32)) (i % 32)

/-- The enable bit of a source (R506, R507). -/
def isEnabled (s : State) (t : Core5) (i : Nat) : Bool :=
  if i < 32 then bit (mget s.icu.pen (coreNum t)) i else bit (mget s.icu.en (i / 32)) (i % 32)

/-- The source belongs to the target: its private bank, or its route (R493). -/
def ownedBy (s : State) (t : Core5) (i : Nat) : Bool :=
  if i < 32 then privHas t i else sharedHas i && routeOf s i == coreNum t

/-- The active source of a target, 0 for none (R505). -/
def activeSrc (s : State) (t : Core5) : Nat := mget s.icu.active (coreNum t)

/-- A source is eligible for a target (R493). -/
def eligible (s : State) (t : Core5) (i : Nat) : Bool :=
  ownedBy s t i && isEnabled s t i && (levelOf s t i || swPending s t i) && activeSrc s t == 0

/-- The winning eligible source: the lowest number (R494). -/
def winner (s : State) (t : Core5) : Option Nat := (upTo 83).find? (eligible s t)

/-- The line of a target is up (R493). -/
def lineUp (s : State) (t : Core5) : Bool := (winner s t).isSome

/-- Set or clear the software pending bit of a source. -/
def setPending (s : State) (t : Core5) (i : Nat) (b : Bool) : State :=
  if i < 32 then
    { s with icu.pswp := mset s.icu.pswp (coreNum t) (setBit (mget s.icu.pswp (coreNum t)) i b) }
  else { s with icu.swp := mset s.icu.swp (i / 32) (setBit (mget s.icu.swp (i / 32)) (i % 32) b) }

/-- The target of a number (R488). -/
def coreOf (n : Nat) : Option Core5 :=
  if n = 0 then some .rt else if n = 1 then some .s0 else if n = 2 then some .s1
  else if n = 3 then some .s2 else if n = 4 then some .s3 else none

/-- The meaning of INTERRUPT_SOURCE (R492, R493): the level of an existing source rises or falls in its block; the line of
the target follows. -/
def execInterruptSource (t : Core5) (i : Nat) (level : Bool) (s : State) : Out :=
  if i < 32 then
    if privHas t i && i < 9 then
      .next { s with icu.plvl := mset s.icu.plvl (coreNum t) (setBit (mget s.icu.plvl (coreNum t)) i level) }
    else .next s
  else if sharedHas i then
    .next { s with icu.lvl := mset s.icu.lvl (i / 32) (setBit (mget s.icu.lvl (i / 32)) (i % 32) level) }
  else .next s

/-- The meaning of ICU_CLAIM (R495): the winning source becomes active and its software pending bit clears; with none, or
with a source active, the read returns 0 and counts as spurious. -/
def execIcuClaim (t : Core5) (s : State) : Out :=
  let s := accessOk s
  match winner s t with
  | some i =>
    let s := setPending s t i false
    .next { s with icu.active := mset s.icu.active (coreNum t) i, dic.reg := BitVec.ofNat 32 i }
  | none =>
    .next { s with
      icu.spur := mset s.icu.spur (coreNum t) (satInc (mget s.icu.spur (coreNum t)) 65535)
      dic.reg := 0#32 }

/-- Record a wrong completion (R497, R504): ICU_FAULT holds the first, later ones count up to 127. -/
def icuFault (s : State) (t : Core5) (cause i : Nat) : State :=
  match s.icu.fault with
  | none => { s with icu.fault := some { count := 0, target := coreNum t, cause := cause, source := i } }
  | some f => { s with icu.fault := some { f with count := satInc f.count 127 } }

/-- The meaning of ICU_COMPLETE (R497). -/
def execIcuComplete (t : Core5) (source : Nat) (s : State) : Out :=
  let s := accessOk s
  if activeSrc s t = 0 then .next (icuFault s t 2 (source % 512))
  else if activeSrc s t = source % 512 then .next { s with icu.active := mset s.icu.active (coreNum t) 0 }
  else .next (icuFault s t 1 (source % 512))

/-- Set the software pending bits of a word that are allowed. -/
def setPendings (s : State) (t : Core5) (base v : Nat) (ok : Nat → Bool) : State :=
  (upTo 32).foldl (fun s k => if bit v k && ok (base + k) then setPending s t (base + k) true else s) s

/-- The meaning of ICU_PSWP (R496): own private sources 1 to 31; reserved ones are ignored. -/
def execIcuPswp (t : Core5) (value : Word) (s : State) : Out :=
  .next (setPendings (accessOk s) t 0 value.toNat (privHas t))

/-- The meaning of ICU_SSWP (R496): a shared source routed to the writer. -/
def execIcuSswp (t : Core5) (source : Nat) (s : State) : Out :=
  let s := accessOk s
  if 32 ≤ source % 512 && ownedBy s t (source % 512) then .next (setPending s t (source % 512) true) else .next s

/-- The meaning of ICU_XSIG (R496): a software source, 16 to 31, of another target. -/
def execIcuXsig (t : Core5) (target source : Nat) (s : State) : Out :=
  let s := accessOk s
  match coreOf (target % 8) with
  | none => .next s
  | some u =>
    if u ≠ t ∧ 16 ≤ source % 32 then .next (setPending s u (source % 32) true) else .next s

/-- The meaning of ICU_SWP (R496, R503): the RT pair sets any shared source; word w covers sources 32w to 32w + 31. -/
def execIcuSwp (core : Core5) (w : Nat) (value : Word) (s : State) : Out :=
  if core ≠ .rt then .next (busError s core 0)
  else if 1 ≤ w && w ≤ 15 then .next (setPendings (accessOk s) .rt (32 * w) value.toNat sharedHas)
  else .next (accessOk s)

/-- The source is active at some target. -/
def activeAnywhere (s : State) (i : Nat) : Bool := s.icu.active.any (fun p => p.2 == i)

/-- The meaning of ICU_ROUTE_WRITE (R498, R506): takes effect only for a disabled, inactive, unfixed source and a target of 0
to 4; otherwise ignored and counted in ROUTEREJ. A reserved source ignores the write (R502). -/
def execIcuRouteWrite (core : Core5) (i target : Nat) (s : State) : Out :=
  if core ≠ .rt then .next (busError s core 0)
  else
    let s := accessOk s
    if !sharedHas i && !routeFixed i then .next s
    else if routeFixed i || 4 < target % 8 || isEnabled s .rt i || activeAnywhere s i then
      .next { s with icu.routeRej := satInc s.icu.routeRej 65535 }
    else .next { s with
      icu.route := mset s.icu.route i (if target % 8 = routeReset i then 0 else target % 8 + 1) }

/-- The meaning of ICU_FAULT_CLEAR (R497, R504): the RT pair writes the record of block 10, cause 0x20, and clears the
register; source 32 drops. -/
def execIcuFaultClear (core : Core5) (s : State) : Out :=
  if core ≠ .rt then .next (busError s core 0)
  else
    let s := accessOk s
    match s.icu.fault with
    | none => .next s
    | some f =>
      .next { writeRecB s 10 1 0x20 (packAt [(0, 1, f.target), (2, 2, f.source)]) with icu.fault := none }

end Sys2Proof.Machine
end

