-- ==== Sys2Proof/Machine/LoopEngine.lean ====
section
/-! DEFINITION. The loop engine (08_loop_engine.md): the instructions of a pass, the end and the abort of a pass, the fixed
law, the Parallax check and the channel selection. -/
namespace Sys2Proof.Machine

/-! ## Contexts and passes (R240, R242) -/

/-- A context of the loop engine. -/
def lctx (s : State) : Ctx → LoopCtx
  | .program => s.lpe.prog
  | .shadow => s.lpe.shad

/-- Replace a context. -/
def setLctx (s : State) (c : Ctx) (x : LoopCtx) : State :=
  match c with
  | .program => { s with lpe.prog := x }
  | .shadow => { s with lpe.shad := x }

/-- A context runs its pass (R240, R254). -/
def passRuns (s : State) (c : Ctx) : Bool :=
  s.lpe.run && !(lctx s c).ended && (c == .program || s.lpe.shadowEn)

/-- The pass of a context starts at clock 40 (R240): its working data memory is the committed one. -/
def startPass (c : LoopCtx) : LoopCtx :=
  { c with pc := 0, clk := 40, ended := false, dirty := false, out := [], memNew := c.mem }

/-- Q16.48 volts as mV. -/
def q48mv (v : Int) : Int := tdiv (v * 1000) q48

/-- A program slot as it stands (R244, R265): slot 0 holds the reference program of the running image, of which the spec gives no
value. -/
def progNow (s : State) (k : Nat) : ProgSlot :=
  if k = 1 then s.lpe.slot1
  else
    let f := Config.loopReference (runBank s).version
    { s.lpe.slot0 with ident := f 0, version := f 1, hash := f 2 }

/-- The loop-engine body (R256). -/
def lpeBody (s : State) : Nat :=
  packAt [(0, 4, s.cot.bus1), (4, 4, s.cot.bus2), (8, 4, toTwos (q48mv s.lpe.vhat) 32),
    (12, 4, toTwos (q48mv s.lpe.resid.1) 32), (16, 4, toTwos (q48mv s.lpe.resid.2) 32), (20, 1, b2n s.lpe.sel),
    (21, 1, s.lpe.src), (22, 1, s.lpe.ovrCnt), (24, 2, s.lpe.lastCyc), (26, 2, s.lpe.maxCyc), (28, 1, s.lpe.slotNow),
    (32, 4, toTwos (tdiv (strRef s .A * 100) q24) 32), (36, 4, toTwos (tdiv (strRef s .B * 100) q24) 32),
    (40, 4, toTwos s.epo.blendFf.a 32), (44, 4, toTwos s.epo.blendFf.b 32),
    (48, 4, (progNow s s.lpe.slotNow).ident), (52, 2, s.lpe.abortPc)]

/-- A loop-engine record (R256, R257). -/
def lpeRec (s : State) (severity cause : Nat) : State := writeRecB s 2 severity cause (lpeBody s)

/-- A saturation sets SAT, is counted and recorded (R241, R255, R257, R265). -/
def noteSat (s : State) : State := lpeRec (bump { s with lpe.satFlag := true } 0x5055 3) 1 0x07

/-- One instruction of `cost` clocks of a running pass that completes by the deadline (R242): `f` gives the new context and
whether it saturated, which makes the pass unclean (R249). -/
def lstep (s : State) (c : Ctx) (cost : Nat) (f : LoopCtx → LoopCtx × Bool) : State :=
  let x := lctx s c
  if passRuns s c && decide (x.clk + cost ≤ 720) then
    let r := f x
    let y := { r.1 with pc := (r.1.pc + 1) % 4096, clk := x.clk + cost, dirty := r.1.dirty || r.2 }
    if r.2 then noteSat (setLctx s c y) else setLctx s c y
  else s

/-- The meaning of MOVE (R242). -/
def execLpMove (c : Ctx) (d a : LOp) (s : State) : Out :=
  .next (lstep s c 1 (fun x => (lwrite x d (lread x a).1, (lread x a).2)))

/-- A two-operand instruction of 1 clock whose exact result is given by `g`. -/
def lbin (x : LoopCtx) (d a b : LOp) (g : Int → Int → Int × Bool) : LoopCtx × Bool :=
  let u := lread x a
  let v := lread x b
  let r := g u.1 v.1
  (lwrite x d r.1, u.2 || v.2 || r.2)

/-- The meaning of ADD (R242). -/
def execLpAdd (c : Ctx) (d a b : LOp) (s : State) : Out :=
  .next (lstep s c 1 (fun x => lbin x d a b (fun u v => lexact 0 (u + v))))

/-- The meaning of SUBTRACT (R242). -/
def execLpSubtract (c : Ctx) (d a b : LOp) (s : State) : Out :=
  .next (lstep s c 1 (fun x => lbin x d a b (fun u v => lexact 1 (u - v))))

/-- The meaning of COMPARE (R242): the flag that a branch tests tells whether the first operand is less. -/
def execLpCompare (c : Ctx) (a b : LOp) (s : State) : Out :=
  .next (lstep s c 1 (fun x =>
    ({ x with less := decide ((lread x a).1 < (lread x b).1) }, (lread x a).2 || (lread x b).2)))

/-- The meaning of SHIFT (R242): left by `n`, or right by `−n` with the sign kept. -/
def execLpShift (c : Ctx) (d a : LOp) (n : Int) (s : State) : Out :=
  .next (lstep s c 1 (fun x =>
    let u := lread x a
    let r := if 0 ≤ n then lexact 2 (u.1 * 2 ^ n.toNat) else (u.1 / 2 ^ (-n).toNat, false)
    (lwrite x d r.1, u.2 || r.2)))

/-- The meaning of MIN (R242). -/
def execLpMin (c : Ctx) (d a b : LOp) (s : State) : Out :=
  .next (lstep s c 1 (fun x => lbin x d a b (fun u v => (min u v, false))))

/-- The meaning of MAX (R242). -/
def execLpMax (c : Ctx) (d a b : LOp) (s : State) : Out :=
  .next (lstep s c 1 (fun x => lbin x d a b (fun u v => (max u v, false))))

/-- The meaning of CLAMP (R242). -/
def execLpClamp (c : Ctx) (d a lo hi : LOp) (s : State) : Out :=
  .next (lstep s c 1 (fun x =>
    let u := lread x a
    let l := lread x lo
    let h := lread x hi
    (lwrite x d (clampI u.1 l.1 h.1), u.2 || l.2 || h.2)))

/-- The meaning of MULTIPLY_ACCUMULATE (R241): the exact product, aligned to Q16.48, is added to an accumulator, which
saturates. -/
def execLpMac (c : Ctx) (acc : Nat) (a : LOp) (fa : QFmt) (b : LOp) (fb : QFmt) (s : State) : Out :=
  .next (lstep s c 1 (fun x =>
    let u := lread x a
    let v := lread x b
    let t := atI x.accs acc + lproduct u.1 fa v.1 fb
    ({ x with accs := setAt x.accs acc (sat64 t) }, u.2 || v.2 || decide (sat64 t ≠ t))))

/-- The meaning of DIVIDE (R242): 20 clocks. -/
def execLpDivide (c : Ctx) (d a b : LOp) (s : State) : Out :=
  .next (lstep s c 20 (fun x => lbin x d a b ldivide))

/-- The meaning of BRANCH (R242): 2 clocks when taken, 1 when not. -/
def execLpBranch (c : Ctx) (onLess : Bool) (target : Nat) (s : State) : Out :=
  let taken := (lctx s c).less == onLess
  .next (lstep s c (if taken then 2 else 1) (fun x => (if taken then { x with pc := (target + 4095) % 4096 } else x, false)))

/-- The guard's limit of a phase reference, Q8.24 A (R243, R298 index 0). -/
def limitQ24 (s : State) : Int := tdiv ((effLimit s 0 : Int) * q24) 100

/-- The blended feedforward of a string as a bus-side current, mA (R240, R248). -/
def ffMA (s : State) (x : Str) : Int :=
  if busSel s = 0 then 0 else tdiv (s.epo.blendFf.get x * 1000000) (busSel s)

/-- The value of an input of R243. -/
def linput (s : State) : LIn → Int
  | .busSel => mvQ24 (busSel s)
  | .bus1 => mvQ24 s.lpe.latched.bus1
  | .bus2 => mvQ24 s.lpe.latched.bus2
  | .strV x => mvQ24 (s.lpe.latched.strV.get x)
  | .linkV x => mvQ24 (s.lpe.latched.linkV.get x)
  | .vnow => sat32 (tdiv ((s.cot.vNow : Int) * q24) 10000000)
  | .iPhase p => maQ24 (atI s.lpe.latched.iPhase p)
  | .iStr x => maQ24x4 (s.lpe.latched.iStr.get x)
  | .ff x => maQ24x4 (ffMA s x)
  | .mask => s.cot.active
  | .dirs => b2n (conv s .A).charge + 2 * b2n (conv s .B).charge
  | .states => (conv s .A).st.code + 16 * (conv s .B).st.code
  | .limit _ => limitQ24 s
  | .sample => (s.epo.sample - 1 : Nat)

/-- The meaning of INPUT_LOAD (R243). -/
def execLpInputLoad (c : Ctx) (d : LOp) (inp : LIn) (s : State) : Out :=
  .next (lstep s c 1 (fun x => (lwrite x d (linput s inp), false)))

/-- The meaning of OUTPUT_STORE (R243, R241): a phase reference of the pass. -/
def execLpOutputStore (c : Ctx) (phase : Nat) (a : LOp) (s : State) : Out :=
  .next (lstep s c 1 (fun x =>
    ({ x with out := (phase, (lread x a).1) :: x.out.filter (fun p => p.1 != phase) }, (lread x a).2)))

/-- Write a pass's outputs to the output buffer: a phase not written keeps its reference (R243). -/
def putOutputs (buf : List Int) : List (Nat × Int) → List Int
  | [] => buf
  | (p, v) :: rest => putOutputs (setAt buf p v) rest

/-- The meaning of END (R240, R242, R247): the pass ends by the deadline; its data memory is committed, and a pass of the
program in service also commits its outputs and sets the consecutive-overrun count back to zero. -/
def execLpEnd (c : Ctx) (s : State) : Out :=
  let x := lctx s c
  if passRuns s c && decide (x.clk + 1 ≤ 720) then
    let s := setLctx s c { x with ended := true, clk := x.clk + 1, mem := x.memNew }
    match c with
    | .shadow => .next s
    | .program => .next { s with
        cot.irefBuf := putOutputs s.cot.irefBuf x.out
        lpe.ovrCnt := 0
        lpe.lastCyc := x.clk + 1
        lpe.maxCyc := max s.lpe.maxCyc (x.clk + 1) }
  else .next s

/-! ## The record body (R256) -/

/-! ## Overrun, fixed law and return (R247 to R249) -/

/-- The abort at clock 720 of a pass of the program in service that has not executed END (R247). -/
def abortPass (s : State) : State :=
  if s.lpe.run && !s.lpe.prog.ended then
    let s := bump { s with
      lpe.ovrFlag := true
      lpe.ovrCnt := satInc s.lpe.ovrCnt 255
      lpe.abortPc := s.lpe.prog.pc
      lpe.prog := { s.lpe.prog with dirty := true, out := [], memNew := s.lpe.prog.mem } } 0x5055 0
    let s := lpeRec s 1 0x01
    if 3 ≤ s.lpe.ovrCnt && s.lpe.src == 0 then { s with lpe.takeover := true }
    else if 3 ≤ s.lpe.ovrCnt then { s with lpe.cleanBg := 0 }
    else s
  else s

/-- The shadow pass at the deadline: one that has not executed END commits nothing and is not clean (R247, R249). -/
def abortShadow (s : State) : State :=
  if s.lpe.run && s.lpe.shadowEn && !s.lpe.shad.ended then
    { s with lpe.shad := { s.lpe.shad with dirty := true, out := [], memNew := s.lpe.shad.mem } }
  else s

/-- The meaning of FIXED_LAW_TAKEOVER (R247, R257, R265): after the third consecutive overrun the fixed law is in charge. Where it
is in charge already, both channels having become implausible, it keeps its open-loop limit (R253). -/
def execFixedLawTakeover (s : State) : Out :=
  if s.lpe.takeover && s.lpe.src != 0 then .next { s with lpe.takeover := false }
  else if s.lpe.takeover then
    .next (lpeRec (bump { s with lpe.takeover := false, lpe.src := 1, lpe.cleanBg := 0 } 0x5055 1) 2 0x02)
  else .next s

/-- The program returns from the fixed law (R249). -/
def returnProgram (s : State) : State :=
  if s.lpe.src = 1 then
    lpeRec (bump { s with lpe.src := 0, lpe.progReturn := false, lpe.cleanBg := 0, lpe.ovrCnt := 0 } 0x5055 2) 0 0x03
  else { s with lpe.progReturn := false }

/-- The meaning of PROGRAM_RETURN (R249): at sample 0 of an epoch, after 1,000 consecutive clean background passes under the fixed
law. -/
def execProgramReturn (s : State) : Out :=
  if s.lpe.src = 1 ∧ 1000 ≤ s.lpe.cleanBg ∧ s.epo.sample ≤ 1 then .next (returnProgram s) else .next s

/-- The Owner's return, made at the next clock 0 (R249). -/
def askReturn (s : State) : State := if s.lpe.src = 1 then { s with lpe.progReturn := true } else s

/-- A write to an LPE register by another core: ignored and counted, with a bus error (R231, R254, R463). -/
def foreignLpe (s : State) (core : Core5) : State := busError (bump s 0x5055 6) core 2

/-- The meaning of LPE_FIXRST (R254, R308). -/
def execLpeFixrst (core : Core5) (s : State) : Out :=
  if core ≠ .rt then .next (foreignLpe s core)
  else if bit s.grd.auth 2 then .next (askReturn (useAuth s 2))
  else .next s

/-- A channel is plausible (R251): `true` is channel 2. -/
def plausible (s : State) (second : Bool) : Bool := if second then !s.lpe.impl.2 else !s.lpe.impl.1

/-- Select a plausible channel (R251). -/
def selectChannel (s : State) (second : Bool) : State :=
  if plausible s second then { s with lpe.sel := second } else s

/-- The meaning of LPE_SELREQ (R254, R308). -/
def execLpeSelreq (core : Core5) (s : State) : Out :=
  if core ≠ .rt then .next (foreignLpe s core)
  else if bit s.grd.auth 1 then .next (selectChannel (useAuth s 1) s.lpe.selCh)
  else .next s

/-- The meaning of LPE_RUN (R254): while RUN is 0, all references are 0. -/
def execLpeRun (core : Core5) (run : Bool) (s : State) : Out :=
  if core ≠ .rt then .next (foreignLpe s core)
  else if run then .next { s with lpe.run := true }
  else .next { s with
    lpe.run := false, cot.iref := List.replicate 24 0, cot.irefBuf := List.replicate 24 0 }

/-- The negative and positive limit of a string's reference, Q16.48 A (R248): the guard's string current limits with the
narrowings of R287 and R292, or the open-loop limit of object 0x5063 (R251). -/
def strLimits (s : State) (x : Str) : Int × Int :=
  if s.lpe.src = 2 then
    let l := tdiv ((dnow s 0x5063 0 : Int) * q48) 10
    (-l, l)
  else (-(tdiv ((chgLimit s x : Int) * q48) 100), tdiv ((disLimit s x : Int) * q48) 100)

/-- The control error of a string, µV (R248): 0 while both channels are implausible (R251). -/
def errUV (s : State) (x : Str) : Int :=
  if s.lpe.src = 2 then 0
  else (s.cot.vNow : Int) - 16 * s.lpe.latched.iStr.get x - 1000 * (busSel s : Int)

/-- The fixed law of one string (R248): integrator and string reference, Q16.48 A. While the program is in charge the
integrator is preset to ref_prev − ff − 4·e; open-loop it holds (R251). -/
def fixedLaw (s : State) (x : Str) : Int × Int :=
  let e := errUV s x
  let lim := strLimits s x
  let ff := tdiv (ffMA s x * q48) 1000
  let prop := tdiv (e * 4 * q48) 1000000
  let xi :=
    if s.lpe.src = 0 then strRef s x * q24 - ff - prop
    else if s.lpe.src = 2 then s.lpe.xs.get x
    else clampI (s.lpe.xs.get x + tdiv (e * 8 * q48) 1000000000) lim.1 lim.2
  (xi, clampI (ff + prop + xi) lim.1 lim.2)

/-- The phase references of the fixed law, Q8.24 A (R248). -/
def lawRefs (s : State) : List Int :=
  let one := fun (x : Str) =>
    if nActive s x = 0 then 0 else sat32 (tdiv (fixedLaw s x).2 (q24 * (nActive s x : Int)))
  (upTo 24).map (fun p => if bit s.cot.active p then one (phaseStr p) else 0)

/-- FIXED_LAW (R248): it computes in every sample, in charge or not. -/
def runFixedLaw (s : State) : State :=
  { s with lpe.law := lawRefs s, lpe.xs := ⟨(fixedLaw s .A).1, (fixedLaw s .B).1⟩ }

/-! ## The Parallax check (R250, R251) -/

/-- PARALLAX_UPDATE (R250): residuals of both channels, then the model's next value and the disturbance. -/
def parallax (s : State) : State :=
  let v := s.lpe.vhat
  let v1 := tdiv ((s.lpe.latched.bus1 : Int) * q48) 1000
  let v2 := tdiv ((s.lpe.latched.bus2 : Int) * q48) 1000
  let d := (if s.lpe.sel then v2 else v1) - v
  let iOut := tdiv (sumI s.lpe.latched.iPhase * q48) 1000
  let c := max 1 (dnow s 0x5060 2)
  let l := dnow s 0x5060 3
  { s with
    lpe.resid := (v1 - v, v2 - v)
    lpe.vhat := v + tdiv ((iOut - s.lpe.idist) * 4) (c : Int) + tdiv (d * (l : Int)) 65536
    lpe.idist := s.lpe.idist - tdiv d 2 }

/-- The band of R251, Q16.48 V. -/
def band (s : State) : Int := tdiv ((dnow s 0x5060 0 : Int) * q48) 1000

/-- Count the samples of a residual beyond or within the band (R251). -/
def bandCounts (s : State) : State :=
  let out := fun (r : Int) => decide (band s < r) || decide (r < -(band s))
  let o1 := out s.lpe.resid.1
  let o2 := out s.lpe.resid.2
  { s with
    lpe.overBand := (if o1 then satInc s.lpe.overBand.1 255 else 0, if o2 then satInc s.lpe.overBand.2 255 else 0)
    lpe.inBand := (if o1 then 0 else satInc s.lpe.inBand.1 1000, if o2 then 0 else satInc s.lpe.inBand.2 1000)
    lpe.chFault := (s.lpe.latched.fault1 || decide (1000000 < s.lpe.latched.bus1),
      s.lpe.latched.fault2 || decide (1000000 < s.lpe.latched.bus2)) }

/-- A channel is to be judged implausible (R251). -/
def implausibleDue (s : State) (second : Bool) : Bool :=
  if second then s.lpe.chFault.2 || decide (dnow s 0x5060 1 ≤ s.lpe.overBand.2)
  else s.lpe.chFault.1 || decide (dnow s 0x5060 1 ≤ s.lpe.overBand.1)

/-- Mark a channel implausible or plausible. -/
def markChannel (s : State) (second v : Bool) : State :=
  if second then { s with lpe.impl := (s.lpe.impl.1, v) } else { s with lpe.impl := (v, s.lpe.impl.2) }

/-- Switch to a channel: the model takes its reading and the disturbance is zero (R251). -/
def switchTo (s : State) (second : Bool) : State :=
  let mv := if second then s.lpe.latched.bus2 else s.lpe.latched.bus1
  { s with lpe.sel := second, lpe.vhat := tdiv ((mv : Int) * q48) 1000, lpe.idist := 0 }

/-- The meaning of CHANNEL_IMPLAUSIBLE (R251, R257, R265). -/
def execChannelImplausible (second : Bool) (s : State) : Out :=
  if implausibleDue s second && plausible s second then
    let s := markChannel s second true
    if plausible s (!second) then
      if s.lpe.sel = second then .next (lpeRec (bump (switchTo s (!second)) 0x5055 4) 1 0x04) else .next s
    else
      .next (lpeRec (bump (bump { s with lpe.src := 2, lpe.cleanBg := 0 } 0x5055 5) 0x5055 1) 2 0x05)
  else .next s

/-- The meaning of CHANNEL_PLAUSIBLE (R251, R257): 1,000 consecutive samples within the band; when both were implausible the
channel is selected and the fixed law goes on closed-loop. -/
def execChannelPlausible (second : Bool) (s : State) : Out :=
  let n := if second then s.lpe.inBand.2 else s.lpe.inBand.1
  let flt := if second then s.lpe.chFault.2 else s.lpe.chFault.1
  if !plausible s second && !flt && decide (1000 ≤ n) then
    let s := lpeRec (markChannel s second false) 0 0x06
    .next (if s.lpe.src = 2 then { s with lpe.sel := second, lpe.src := 1 } else s)
  else .next s

/-! ## Loop programs (R244 to R246) -/

/-- LOOP_PROGRAM_LOAD (R245): the checked load of slot 1 starts, from an offset of the Owner staging area. -/
def startLoopLoad (s : State) (off len : Nat) : State :=
  { s with
    lpe.slot1 := { ProgSlot.empty with state := 1 }, lpe.loadFor := true, lpe.loadAt := (off, len), lpe.clean := 0 }

/-- A loop program image (R244). -/
structure LoopImage where
  magic : Nat
  head : Nat
  ident : Nat
  version : Nat
  nInstr : Nat
  nData : Nat
  signed : Nat
  resv : Nat
  sigLen : Nat
  deriving DecidableEq, Repr

/-- Read the header of a loop program image (R244). -/
def readLoopImage (r : Reader) : LoopImage :=
  { magic := r 0 4, head := r 4 1, ident := r 8 4, version := r 12 4, nInstr := r 16 2, nData := r 18 2, signed := r 20 4
    resv := r 5 3 + r 24 40, sigLen := r (r 20 4) 4 }

/-- The instructions of an image (R244). -/
def imageInstrs (r : Reader) (p : LoopImage) : List Nat := (upTo (min p.nInstr 4096)).map (fun i => r (64 + 8 * i) 8)

/-- The initial data words of an image (R244). -/
def imageData (r : Reader) (p : LoopImage) : List Nat :=
  (upTo (min p.nData 1024)).map (fun i => r (64 + 8 * p.nInstr + 4 * i) 4)

/-- The counts and lengths of an image (R244): `len` is the length that the load command names. -/
def imageSizesOk (p : LoopImage) (len : Nat) : Bool :=
  p.head % 16 == 15 && p.ident != 0 && decide (1 ≤ p.nInstr) && decide (p.nInstr ≤ 4096) && decide (p.nData ≤ 1024) &&
    p.signed == 64 + 8 * p.nInstr + 4 * p.nData && decide (p.signed + 4 + p.sigLen ≤ len)

/-- The result of the checks of a loop program image, in the order of R180 (R245): the code of the first that fails. -/
def loopImageCode (s : State) (p : LoopImage) (len : Nat) (sig : Sig) (ownerKeys : List Nat) : Nat :=
  if p.magic ≠ 0x01504C56 ∨ p.head / 16 ≠ 1 then 0x08
  else if !(sig.covers && ownerKeys.contains sig.key) then 0x07
  else if p.resv ≠ 0 then 0x04
  else if !imageSizesOk p len then 0x03
  else if s.lpe.slotNow = 1 then 0x09
  else 0

/-- The start of the Owner staging area in the stack (R197). -/
abbrev ownerStaging : Nat := 263 * 2 ^ 28

/-- The image that is loading, in the Owner staging area (R245). -/
def loopReader (s : State) : Reader := fun off len => dramN s (ownerStaging + s.lpe.loadAt.1 + off) len

end Sys2Proof.Machine
end

