-- ==== Sys2Proof/Machine/Strings.lean ====
section
/-! DEFINITION. The storage strings (09_storage_strings.md): readings, checks, trips, balancing, surveys, open-wire tests,
estimation, drawers, isolation, temperature and AFE links. -/
namespace Sys2Proof.Machine

/-! ## Positions, wires, drawers (R266) -/

/-- The global number of a position: string A first (R297). -/
def posG (x : Str) (k : Nat) : Nat := 288 * x.idx + k

/-- The global number of a wire: string A first (R297). -/
def wireG (x : Str) (j : Nat) : Nat := 289 * x.idx + j

/-- The string of a global position. -/
def posStr (g : Nat) : Str := if g < 288 then .A else .B

/-- The drawer of a position (R266). -/
def drawerOf (k : Nat) : Nat := k / 48

/-- The drawer a wire runs through (R266). -/
def wireDrawer (j : Nat) : Nat := if j = 288 then 5 else j / 48

/-- A drawer is present (R288). -/
def present (s : State) (x : Str) (d : Nat) : Bool := bit (s.strs.drawers.get x) d

/-- The state of a position, object 0x6051 (R297). -/
def pst (s : State) (g : Nat) : Nat :=
  let v := mget s.strs.pstate g
  if v = 0 then 1 else v - 1

/-- Set the state of a position. -/
def setPst (s : State) (g v : Nat) : State :=
  { s with strs.pstate := mset s.strs.pstate g (if v = 1 then 0 else v + 1) }

/-- The state of a wire, object 0x6032 (R297). -/
def wst (s : State) (w : Nat) : Nat :=
  let v := mget s.strs.wires w
  if v = 0 then 3 else v - 1

/-- Set the state of a wire. -/
def setWst (s : State) (w v : Nat) : State :=
  { s with strs.wires := mset s.strs.wires w (if v = 3 then 0 else v + 1) }

/-- A position counts as measured: its reading is its own (R283, R293). -/
def measured (s : State) (g : Nat) : Bool := pst s g == 0 || pst s g == 5

/-- The published mean of a position, µV (R270). -/
def uv (s : State) (g : Nat) : Nat := mget s.strs.readUv g - 1

/-- The partner of a position in a wire-open pair (R283): the neighbour across the open wire. -/
def pairPartner (s : State) (g : Nat) : Nat :=
  let x := posStr g
  let k := g % 288
  if wst s (wireG x (k + 1)) = 1 ∧ k + 1 < 288 then g + 1 else if k = 0 then g else g - 1

/-- The published reading of a position, object 0x6050 (R270, R283, R297): 0xFFFF unmeasured, 0xFFFE drawer absent; a position
of a wire-open pair reads half the pair sum. -/
def readingMv (s : State) (g : Nat) : Nat :=
  if pst s g = 2 then 0xFFFE
  else if pst s g = 1 ∨ pst s g = 3 then 0xFFFF
  else if pst s g = 4 then (uv s g + uv s (pairPartner s g)) / 2000
  else uv s g / 1000

/-- A string is out of service (R131, R289): isolated, latched, or off with a trip latch held for the Owner. -/
def outOfService (s : State) (x : Str) : Bool :=
  let st := (conv s x).st
  st == .isolated || st == .latched || st == .ovLatch ||
    (st == .off && s.strs.tripHeld.any (fun p => posStr (p.1 % 576) == x))

/-! ## Open-circuit voltages and energy (R284, R286) -/

/-- ESR_k × I_s of a position, µV (R284). -/
def esrDrop (s : State) (g : Nat) : Int := tdiv ((dget s 0x6053 g : Int) * s.strs.lastI.get (posStr g)) 1000

/-- v_oc of a position read on its own, µV (R284). -/
def vocOwn (s : State) (g : Nat) : Int := (uv s g : Int) + esrDrop s g

/-- v_oc of a measured or wire-open position, µV (R283, R284, R286): a pair takes half its summed v_oc. -/
def vocOf (s : State) (g : Nat) : Int :=
  if pst s g = 4 then tdiv (vocOwn s g + vocOwn s (pairPartner s g)) 2 else vocOwn s g

/-- The positions of a string that carry a value of their own: measured, or in a wire-open pair (R286). -/
def valued (s : State) (x : Str) : List Nat :=
  ((upTo 288).map (posG x)).filter (fun g => measured s g || pst s g == 4)

/-- The common v_oc, µV, of the positions of a string without a value (R286): corrected so that the string sum equals the
string voltage. -/
def vocRest (s : State) (x : Str) : Int :=
  let l := valued s x
  let n := 288 - l.length
  if n = 0 then 0
  else tdiv ((s.strs.indep.get x : Int) * 1000 - sumI (l.map (fun g => (uv s g : Int)))) (n : Int)

/-- v_oc of every position of a string, µV (R286). -/
def vocs (s : State) (x : Str) : List (Nat × Int) :=
  let rest := vocRest s x
  (upTo 288).map (fun k =>
    let g := posG x k
    (g, if measured s g || pst s g == 4 then vocOf s g else rest + esrDrop s g))

/-- STRING_ENERGY (R286, R17): the sums of a string in J and its state of charge in 0.01 %. DESIGN CHOICE (log entry 91): below
E_min it reads 0; the spec gives no saturation. -/
def stringSums (s : State) (x : Str) : Sums :=
  let l := vocs s x
  let e := (sumI (l.map (fun p => (dget s 0x6052 p.1 : Int) * p.2 * p.2)) / 2000000000000).toNat
  let c := sumN (l.map (fun p => dget s 0x6052 p.1))
  let lo := c * 99225 / 20000
  let hi := c * 1444 / 200
  { e := e, emin := lo, emax := hi, soc := if hi - lo = 0 then 0 else (e - lo) * 10000 / (hi - lo) }

/-- The window of R287 for one string: each block starts when a measured position reaches the bound and ends when every
position is back inside by 10 mV. -/
def windowBlocks (s : State) (x : Str) : State :=
  let v := (((upTo 288).map (posG x)).filter (measured s)).map (vocOf s)
  let dis := v.any (fun u => decide (u ≤ 3150000)) ||
    (s.strs.blockDis.get x && v.any (fun u => decide (u < 3160000)))
  let chg := v.any (fun u => decide (3800000 ≤ u)) ||
    (s.strs.blockChg.get x && v.any (fun u => decide (3790000 < u)))
  { s with strs.blockDis := s.strs.blockDis.set x dis, strs.blockChg := s.strs.blockChg.set x chg }

/-- STRING_ENERGY and R287, once per epoch for each string. -/
def energyEpoch (s : State) : State :=
  let s := { s with strs.energy := ⟨stringSums s .A, stringSums s .B⟩ }
  windowBlocks (windowBlocks s .A) .B

/-! ## Records (R295, R296) -/

/-- The comparator thresholds in force, mV (R52, R272, R298 indices 10 and 11): objects 0x6000 and 0x6001 within the guard. -/
def ovThreshold (s : State) : Nat := guardClamp s 10 (dget s 0x6000 0)
def uvThreshold (s : State) : Nat := guardClamp s 11 (dget s 0x6001 0)

/-- A reading of the record body: 0xFFFF where there is none. -/
def bodyReading (s : State) (x : Str) (k : Int) : Nat :=
  if k < 0 ∨ 287 < k then 0xFFFF
  else let r := readingMv s (posG x k.toNat); if r = 0xFFFE then 0xFFFF else r

/-- Automatic clears of a position in the last 60 min (R274). -/
def clearsOf (s : State) (g : Nat) : Nat :=
  (s.strs.clearTicks.filter (fun p => p.1 == g && decide (s.epo.ticks < p.2 + 3600000))).length

/-- The body of R295; `d`, `k` and `j` are 0xFF, 0xFFFF and 0xFFFF where they name none. -/
def strBody (s : State) (x : Str) (d k j : Nat) : Nat :=
  packAt ([(0, 1, x.idx), (1, 1, d), (2, 2, k), (4, 2, j)] ++
    arrAt 8 2 ([-2, -1, 0, 1, 2].map (fun i : Int => if k = 0xFFFF then 0xFFFF else bodyReading s x ((k : Int) + i))) ++
    [(20, 4, s.strs.indep.get x), (24, 4, s.strs.sumMv.get x), (28, 4, toTwos (tdiv (s.strs.lastI.get x) 10) 32)] ++
    arrAt 32 2 ((upTo 4).map (fun t => toTwos (atI s.strs.temps (24 * x.idx + 4 * (d % 6) + t)) 16)) ++
    [(40, 2, ovThreshold s), (42, 2, uvThreshold s), (44, 2, s.strs.injected.a), (46, 2, s.strs.injected.b),
     (48, 1, if k = 0xFFFF then 0 else clearsOf s (posG x k)), (52, 2, (s.strs.energy.get x).soc)])

/-- A record of the strings (R295, R296). -/
def strRec (s : State) (severity cause : Nat) (x : Str) (d k j : Nat) : State :=
  writeRecB s 3 severity cause (strBody s x d k j)

/-! ## Bleeds (R276, R277) -/

/-- Stop every bleed of a string; a stop that catches a bleeding position counts one suspension (R297). -/
def stopBleeds (s : State) (x : Str) : State :=
  let mine := s.strs.bleed.filter (fun p => posStr p.1 == x)
  if mine.isEmpty then s
  else { bump s 0x6056 7 with strs.bleed := s.strs.bleed.filter (fun p => posStr p.1 != x) }

/-- Stop the bleeds of a drawer. -/
def stopDrawerBleeds (s : State) (x : Str) (d : Nat) : State :=
  let here := fun (p : Nat × Nat) => posStr p.1 == x && drawerOf (p.1 % 288) == d
  if s.strs.bleed.any here then { bump s 0x6056 7 with strs.bleed := s.strs.bleed.filter (fun p => !here p) } else s

/-- A position may bleed (R277, R281): measured, its drawer below 60 °C, no survey and no whole-string test of its string. -/
def mayBleed (s : State) (g : Nat) : Bool :=
  let x := posStr g
  measured s g && !bit s.strs.hot (6 * x.idx + drawerOf (g % 288)) &&
    (match s.strs.survey with | some (y, _) => y != x | none => true) &&
    !(s.strs.owtWhole.get x && s.strs.owt.any (fun p => p.1 == x))

/-- The host bleed masks govern (R66, R277): BAL set, masks in force, the expiry not reached. -/
def hostBleeds (s : State) : Bool :=
  bit (dget s 0x4003 0) 3 && s.strs.hostMask && decide (s.epo.count < fieldAt (dget s 0x6022 0) 0 8)

/-- The bit of the host masks of object 0x6022 for a position. -/
def hostMaskBit (s : State) (g : Nat) : Bool :=
  bit (fieldAt (dget s 0x6022 0) (8 + 36 * (g / 288)) 36) (g % 288)

/-- The lowest measured open-circuit voltage of a string, µV. -/
def lowestVoc (s : State) (x : Str) : Int :=
  ((((upTo 288).map (posG x)).filter (measured s)).map (vocOf s)).foldl min 5000000

/-- The hardware decision for one position (R277): it starts above the start threshold, stops below the stop threshold. -/
def wantsBleed (s : State) (low : Int) (g : Nat) : Bool :=
  let ex := vocOf s g - low
  decide (((dget s 0x6023 0 : Int)) * 1000 < ex) ||
    (mget s.strs.bleed g == 1 && decide (((dget s 0x6023 1 : Int)) * 1000 ≤ ex))

/-- The parity rule of continuous mode (R276): even positions bleed only in even epochs. -/
def parityOk (s : State) (g : Nat) : Bool := dget s 0x6020 0 != 1 || (g % 288 + s.epo.count) % 2 == 0

/-- BALANCING_DECISION (R276, R277), once per epoch. A position that the parity rule holds back keeps its hardware
decision for its own epochs. -/
def balance (s : State) : State :=
  if dget s 0x6020 0 = 2 then { s with strs.bleed := [] }
  else
    let lowA := lowestVoc s .A
    let lowB := lowestVoc s .B
    let want := fun g =>
      mayBleed s g && parityOk s g &&
        (if hostBleeds s then hostMaskBit s g else wantsBleed s (if g < 288 then lowA else lowB) g)
    { s with strs.bleed := ((upTo 576).filter want).map (fun g => (g, 1)) }

/-- The meaning of BLEED_MASK_EXPIRY (R277, R64, R66): the RT pair resumes its own decisions; bit 3 of object 0x4004
reports the fall-back while BAL is set. -/
def execBleedMaskExpiry (s : State) : Out :=
  if s.strs.hostMask && decide (fieldAt (dget s 0x6022 0) 0 8 ≤ s.epo.count) then
    .next { s with
      strs.hostMask := false
      epo.fallback := if bit (dget s 0x4003 0) 3 then setBit s.epo.fallback 3 true else s.epo.fallback }
  else .next s

/-! ## Strobe (R268 to R270, R279, R280, R284, R285) -/

/-- Continuous-mode correction of a sample, µV (R279): the bleed current, µA, across the wires of object 0x6021 (0.1 mΩ). -/
def bleedFix (s : State) (g ua : Nat) (v : Int) : Int :=
  if dget s 0x6020 0 ≠ 1 then v
  else
    let x := posStr g
    let k := g % 288
    let r := fun j => ((ua * dget s 0x6021 (wireG x j) / 10000 : Nat) : Int)
    let on := fun (h : Nat) => mget s.strs.bleed h == 1
    let v := if on g then v + r k + r (k + 1) else v
    let v := if k < 287 && on (g + 1) then v - r (k + 1) else v
    if 0 < k && on (g - 1) then v - r k else v

/-- ESR_ESTIMATE for one position (R284): ΔV / ΔI in µΩ, filtered with weight 1/16, rejected outside 50 to 5,000. -/
def esrStep (s : State) (g : Nat) (dv di : Int) : State :=
  let r := tdiv (-dv * 1000) di
  if 50 ≤ r ∧ r ≤ 5000 then
    dset s 0x6053 g ((dget s 0x6053 g : Int) + tdiv (r - (dget s 0x6053 g : Int)) 16).toNat
  else s

/-- The strobe period, µs (R269, R278): 25 loop samples, or the host schedule's while no survey runs. -/
def strobePeriod (s : State) : Nat :=
  if bit (dget s 0x4003 0) 2 && s.strs.survey.isNone then 4 * max 25 (fieldAt (dget s 0x6010 0) 0 2) else 100

/-- The charge a position's own bleed of `ua` µA takes between strobes, µC (R276, R285): for the whole period or, when blanked,
for all but 45 µs of it. -/
def bleedCharge (s : State) (g ua : Nat) : Int :=
  if mget s.strs.bleed g = 1 then
    ((if dget s 0x6020 0 = 1 then strobePeriod s else strobePeriod s - 45) * ua / 1000000 : Nat)
  else 0

/-- One position at a strobe: calibration (R513), correction, ESR, and the running sum. -/
def strobeOne (i : StrobeIn) (s : State) (g : Nat) : State :=
  let x := posStr g
  let q := toTwos (ofTwos (mget s.strs.anchorQ g) 64 + i.charge.get x + bleedCharge s g (i.bleedUA.get x)) 64
  let s := { s with strs.anchorQ := mset s.strs.anchorQ g q }
  match i.volts.getD g none with
  | none => { s with strs.lastUv := mset s.strs.lastUv g 0 }
  | some raw =>
    if pst s g = 2 then s
    else
      let y := (bleedFix s g (i.bleedUA.get x) (calibrated s g (i.islandC.get x) (raw : Int))).toNat
      let di := i.current.get x - s.strs.lastI.get x
      let s := if mget s.strs.lastUv g ≠ 0 ∧ 50000 ≤ di.natAbs then
        esrStep s g ((y : Int) - ((mget s.strs.lastUv g - 1 : Nat) : Int)) di else s
      { s with
        strs.acc := madd s.strs.acc g y
        strs.accN := madd s.strs.accN g 1
        strs.lastUv := mset s.strs.lastUv g (y + 1) }

/-- CAPACITANCE_ESTIMATE for one position at a published update (R285). -/
def capStep (s : State) (g : Nat) : State :=
  let v := (vocOf s g).toNat
  let q := ofTwos (mget s.strs.anchorQ g) 64
  let a := mget s.strs.anchors g
  let anchor := fun (s : State) => { s with
    strs.anchors := mset s.strs.anchors g (v + 1), strs.anchorQ := mset s.strs.anchorQ g 0 }
  if a = 0 then anchor s
  else
    let dv : Int := ((a - 1 : Nat) : Int) - (v : Int)
    if 300000000 ≤ q.natAbs ∧ 50000 ≤ dv.natAbs then
      let c := tdiv q dv
      if 4000 ≤ c ∧ c ≤ 8000 then
        let s := dset s 0x6052 g ((dget s 0x6052 g : Int) + tdiv (c - (dget s 0x6052 g : Int)) 16).toNat
        anchor { s with strs.rejects := mset s.strs.rejects g 0 }
      else
        let n := mget s.strs.rejects g + 1
        let s := bump { s with strs.rejects := mset s.strs.rejects g n } 0x6056 5
        let s := if n = 3 then strRec s 1 0x0D (posStr g) (drawerOf (g % 288)) (g % 288) 0xFFFF else s
        anchor s
    else s

/-- READING_PUBLISHED for one position (R270, R293): the mean of the window, kept back when more than half is missing; an
unmeasured position is measured again from a complete window. -/
def publishOne (n : Nat) (s : State) (g : Nat) : State :=
  let c := mget s.strs.accN g
  if 2 * (n - c) ≤ n ∧ c ≠ 0 then
    let u := mget s.strs.acc g / c
    let s := { s with
      strs.readUv := mset s.strs.readUv g (u + 1), strs.readings := mset s.strs.readings g (u / 1000 + 1) }
    if pst s g = 1 ∧ c = n then setPst s g 0 else s
  else s

/-- Insert into a rising list. -/
def insertUp (v : Int) : List Int → List Int
  | [] => [v]
  | w :: rest => if v ≤ w then v :: w :: rest else w :: insertUp v rest

/-- Sort by insertion. -/
def sortUp (l : List Int) : List Int := l.foldr insertUp []

/-- The median of a list: the middle value, or the mean of the two middle values. -/
def median (l : List Int) : Int :=
  let s := sortUp l
  let n := l.length
  if n = 0 then 0
  else if n % 2 = 1 then atI s (n / 2) else tdiv (atI s (n / 2 - 1) + atI s (n / 2)) 2

/-- Wires `lo` to `hi` of a string, those that exist and whose drawer is present. -/
def wiresFrom (s : State) (x : Str) (lo hi : Nat) : List (Str × Nat) :=
  ((upTo 289).filter (fun j => lo ≤ j && j ≤ hi && present s x (wireDrawer j))).map (fun j => (x, j))

/-- Queue wires for the open-wire test at the next epoch boundary (R281). -/
def dueWires (s : State) (l : List (Str × Nat)) : State :=
  { s with strs.owtDue := s.strs.owtDue ++ l.filter (fun p => !s.strs.owtDue.contains p) }

/-- The pair test of wire j (R280): adjacent deviations of opposite sign, each at least 30 mV, their sum at most 10 mV. -/
def pairFails (s : State) (x : Str) (med : Int) (j : Nat) : Bool :=
  let a := vocOwn s (posG x (j - 1)) - med
  let b := vocOwn s (posG x j) - med
  measured s (posG x (j - 1)) && measured s (posG x j) && decide (a * b < 0) && decide (30000 ≤ a.natAbs) &&
    decide (30000 ≤ b.natAbs) && decide ((a + b).natAbs ≤ 10000)

/-- One pair test (R280, R281): the third consecutive failure makes the wire suspect. -/
def pairStep (x : Str) (med : Int) (s : State) (j : Nat) : State :=
  let w := wireG x j
  if pairFails s x med j then
    let n := satInc (mget s.strs.pairRun w) 3
    let first := mget s.strs.pairRun w == 2
    let s := { s with strs.pairRun := mset s.strs.pairRun w n }
    if first then dueWires (setWst s w 4) (wiresFrom s x (j - 1) (j + 1)) else s
  else { s with strs.pairRun := mset s.strs.pairRun w 0 }

/-- One single test (R280, R281, R283): the third consecutive failure marks the position deviating and starts the test of its
wires; a deviating position that passes again, outside a deviating pair, is measured. -/
def singleStep (x : Str) (med : Int) (s : State) (k : Nat) : State :=
  let g := posG x k
  let inPair := (0 < k && pairFails s x med k) || (k < 287 && pairFails s x med (k + 1))
  if measured s g then
    if decide (30000 ≤ (vocOwn s g - med).natAbs) && !inPair then
      let n := satInc (mget s.strs.singleRun g) 3
      let first := mget s.strs.singleRun g == 2
      let s := { s with strs.singleRun := mset s.strs.singleRun g n }
      if first then dueWires (setPst s g 5) (wiresFrom s x k (k + 1)) else s
    else
      let s := { s with strs.singleRun := mset s.strs.singleRun g 0 }
      if pst s g = 5 ∧ inPair = false then setPst s g 0 else s
  else { s with strs.singleRun := mset s.strs.singleRun g 0 }

/-- The sum test (R280, R281): all positions measured; the third consecutive failure starts a whole-string test. -/
def sumStep (s : State) (x : Str) : State :=
  let l := (upTo 288).map (posG x)
  let sum := sumN (l.map (fun g => uv s g)) / 1000
  let s := { s with strs.sumMv := s.strs.sumMv.set x sum }
  let v := s.strs.indep.get x
  let bad := l.all (measured s) && (decide (v + 1200 < sum) || decide (sum + 1200 < v))
  if bad then
    let first := s.strs.sumRun.get x == 2
    let s := { s with strs.sumRun := s.strs.sumRun.set x (satInc (s.strs.sumRun.get x) 3) }
    if first then dueWires s (wiresFrom s x 0 288) else s
  else { s with strs.sumRun := s.strs.sumRun.set x 0 }

/-- STRING_CHECKS of one string (R280). -/
def stringChecks (s : State) (x : Str) : State :=
  let s := sumStep s x
  let med := median ((((upTo 288).map (posG x)).filter (measured s)).map (vocOwn s))
  let s := ((upTo 287).map (· + 1)).foldl (pairStep x med) s
  (upTo 288).foldl (singleStep x med) s

/-- Every position at a strobe (R268 to R270). -/
def strobeAll (i : StrobeIn) (s : State) : State := (upTo 576).foldl (strobeOne i) s

/-- Every position's published value at the end of an averaging window (R270). -/
def publishAll (n : Nat) (s : State) : State := (upTo 576).foldl (publishOne n) s

/-- The capacitance step of every position that measures or is derived (R285). -/
def capAll (s : State) : State := ((upTo 576).filter (fun g => measured s g || pst s g == 4)).foldl capStep s

/-- A new averaging window starts (R270). -/
def clearWindow (s : State) : State := { s with strs.acc := [], strs.accN := [], strs.window := 0 }

/-- The end of an averaging window: values published, the accumulators cleared, capacitances and string checks. -/
def windowEnd (n : Nat) (s : State) : State :=
  let s := capAll (clearWindow (publishAll n s))
  stringChecks (stringChecks s .A) .B

/-- A strobe taken: it is counted, with the current and the string voltages measured beside it. -/
def countStrobe (i : StrobeIn) (s : State) : State :=
  { s with
    strs.strobes := s.strs.strobes + 1, strs.window := s.strs.window + 1, strs.lastI := i.current
    strs.indep := ⟨calibratedN s 0x302 s.power.dieC i.strV.a, calibratedN s 0x303 s.power.dieC i.strV.b⟩
    strs.islandC := i.islandC, strs.bleedUA := i.bleedUA }

/-- The meaning of STROBE (R268 to R270, R279, R280, R284, R285): samples are corrected and summed; at the end of the window
the means are published and the checks run. A strobe that coincides with a test slot is skipped and counted (R281). -/
def execStrobe (i : StrobeIn) (s : State) : Out :=
  if !s.strs.owt.isEmpty then .next (bump s 0x6056 1)
  else
    let s := countStrobe i (strobeAll i (if i.edge then bump s 0x6056 0 else s))
    let n := max 1 (dget s 0x6011 0)
    if n ≤ s.strs.window then .next (windowEnd n s) else .next s

/-! ## Trips (R272 to R275) -/

/-- The key of a trip latch held for the Owner: undervoltage latches stand 576 above overvoltage latches. -/
def heldKey (g : Nat) (ov : Bool) : Nat := if ov then g else 576 + g

/-- A position's comparators are masked (R288): its drawer, or the drawer of its upper wire, is absent. -/
def masked (s : State) (x : Str) (k : Nat) : Bool :=
  !present s x (drawerOf k) || !present s x (wireDrawer (k + 1))

/-- Set a trip latch (R273, R274). -/
def setTrip (s : State) (g : Nat) (ov : Bool) : State :=
  let s := { s with strs.tripTicks := mset s.strs.tripTicks g (s.epo.ticks + 1) }
  if ov then { s with strs.tripOv := mset s.strs.tripOv g 1 } else { s with strs.tripUv := mset s.strs.tripUv g 1 }

/-- A position's trip latch is set. -/
def tripped (s : State) (g : Nat) : Bool := mget s.strs.tripOv g == 1 || mget s.strs.tripUv g == 1

/-- The string leaves service for a cause (R273, R288, R291, R292): zeroing where its phases switch, otherwise opened at
once; a string in a latch, or zeroing on its way to its own latch, keeps it. -/
def takeOut (s : State) (x : Str) (after : SState) : State :=
  let st := (conv s x).st
  if st = .latched ∨ st = .ovLatch then s
  else
    let after := if (conv s x).ownLatch then SState.latched else after
    let s := setConv s x { conv s x with retries := 0 }
    let s := { s with grd.heldCmd := s.grd.heldCmd.filter (fun p => p.1 / 2 != x.idx) }
    if nActive s x != 0 then zeroing s x after else toOpen (unfollow s x) x after

/-- Abandon the wire survey of a string (R294). -/
def dropSurvey (s : State) (x : Str) : State :=
  match s.strs.survey with
  | some (y, _) => if y = x then { s with strs.survey := none, strs.steps := [] } else s
  | none => s

/-- The meaning of POSITION_TRIP (R273, R274, R296): latch and FAULT_L, zeroing, the string to off, and a record; a further
trip after three clears in 60 min is held for the Owner, with cause 0x03. -/
def execPositionTrip (x : Str) (k : Nat) (ov : Bool) (s : State) : Out :=
  if masked s x k then .next s
  else
    let g := posG x k
    let s := bump (setTrip s g ov) 0x6056 2
    let s := takeOut (dropSurvey s x) x (restState s x)
    let s := strRec s 2 (if ov then 0x01 else 0x02) x (drawerOf k) k 0xFFFF
    if 3 ≤ clearsOf s g then
      .next (strRec { s with strs.tripHeld := mset s.strs.tripHeld (heldKey g ov) 1 } 3 0x03 x (drawerOf k) k 0xFFFF)
    else .next s

/-- A tripped position reads inside its thresholds by 30 mV (R274). -/
def insideBy30 (s : State) (g : Nat) : Bool :=
  measured s g &&
    (mget s.strs.tripOv g == 0 || decide (uv s g + 30000 ≤ ovThreshold s * 1000)) &&
    (mget s.strs.tripUv g == 0 || decide (uvThreshold s * 1000 + 30000 ≤ uv s g))

/-- The meaning of TRIP_AUTO_CLEAR (R274): inside its threshold by 30 mV for 1 s, at most three times in 60 min. -/
def execTripAutoClear (x : Str) (k : Nat) (s : State) : Out :=
  let g := posG x k
  let held := mget s.strs.tripHeld (heldKey g true) == 1 || mget s.strs.tripHeld (heldKey g false) == 1
  let due := decide (mget s.strs.tripTicks g + 999 ≤ s.epo.ticks)
  if tripped s g && insideBy30 s g && due && !held && decide (clearsOf s g < 3) then
    .next (bump { s with
      strs.tripOv := mdel s.strs.tripOv g
      strs.tripUv := mdel s.strs.tripUv g
      strs.clearTicks := (g, s.epo.ticks) :: s.strs.clearTicks.filter (fun p => decide (s.epo.ticks < p.2 + 3600000)) }
      0x6056 3)
  else .next s

/-- The Owner's clear of a position's trip latches (R274). -/
def ownerTripClear (s : State) (g : Nat) : State :=
  { s with
    strs.tripOv := mdel s.strs.tripOv g
    strs.tripUv := mdel s.strs.tripUv g
    strs.tripHeld := mdel (mdel s.strs.tripHeld (heldKey g true)) (heldKey g false) }

/-- The meaning of UMBRA_SURVEY (R275, R474): in Umbra a single sample beyond a threshold sets the latch; no wake. -/
def execUmbraSurvey (crossings : List (Str × Nat × Bool)) (s : State) : Out :=
  if s.power.mstate = .umbra then
    .next (crossings.foldl (fun s c => if masked s c.1 c.2.1 then s else setTrip s (posG c.1 c.2.1) c.2.2) s)
  else .next s

/-! ## Wire survey (R278) -/

/-- Start a survey of slots `lo` to `hi` of a string: no bleed runs. -/
def startSurvey (s : State) (x : Str) (lo hi : Nat) : State :=
  { stopBleeds s x with strs.survey := some (x, lo), strs.surveyEnd := hi, strs.steps := [] }

/-- Store a wire resistance (R278, R279): step in µV over the island's bleed current, at 0.1 mΩ; above 500 mΩ the wire is suspect
and tested. -/
def storeWire (s : State) (x : Str) (j : Nat) (step : Nat) : State :=
  let r := min (step * 10000 / max 1 (s.strs.bleedUA.get x)) 65535
  let s := dset s 0x6021 (wireG x j) r
  if 5000 < r then dueWires (setWst s (wireG x j) 4) [(x, j)] else s

/-- One of the two measurements of an inner wire: the first is kept, the second completes the mean (R278). -/
def surveyWire (s : State) (x : Str) (j step : Nat) : State :=
  let w := wireG x j
  let a := mget s.strs.steps w
  if a = 0 then { s with strs.steps := mset s.strs.steps w (step + 1) }
  else storeWire { s with strs.steps := mset s.strs.steps w 0 } x j ((a - 1 + step) / 2)

/-- The meaning of WIRE_SURVEY_SLOT (R278): the steps, in µV, of positions k − 1 and k + 1 and the fall of position k give the
wires next to position k. -/
def execWireSurveySlot (x : Str) (k : Nat) (below above own : Int) (s : State) : Out :=
  if s.strs.survey = some (x, k) then
    let s := if 0 < k then surveyWire s x k below.toNat else s
    let s := if k < 287 then surveyWire s x (k + 1) above.toNat else s
    let s := if k = 0 then storeWire s x 0 (own - above).toNat else s
    let s := if k = 287 then storeWire s x 288 (own - below).toNat else s
    if k < s.strs.surveyEnd then .next { s with strs.survey := some (x, k + 1) }
    else .next { s with strs.survey := none, strs.steps := [] }
  else .next s

/-! ## Open-wire test (R281, R283) -/

/-- Start the test of wires of a string: wires of absent drawers are left out; a whole-string test stops the bleeds. -/
def startOwt (s : State) (x : Str) (wires : List Nat) : State :=
  let l := (wires.filter (fun j => j ≤ 288 && present s x (wireDrawer j))).map (fun j => (x, j))
  let s := if 289 ≤ wires.length then stopBleeds s x else s
  bump { s with
    strs.owt := s.strs.owt ++ l
    strs.owtFound := s.strs.owtFound.set x false
    strs.owtWhole := s.strs.owtWhole.set x
      (decide (289 ≤ wires.length) || (s.strs.owtWhole.get x && s.strs.owt.any (fun p => p.1 == x)))
    strs.owtDue := s.strs.owtDue.filter (fun p => !l.contains p) } 0x6056 4

/-- The meaning of OPEN_WIRE_TEST (R281). -/
def execOpenWireTest (x : Str) (wires : List Nat) (s : State) : Out := .next (startOwt s x wires)

/-- A broken wire (R283): the adjacent positions are marked wire open and do not bleed; at an end the position is unmeasured. -/
def wireOpen (s : State) (x : Str) (j : Nat) : State :=
  let s := { setWst s (wireG x j) 1 with strs.owtFound := s.strs.owtFound.set x true }
  let nobleed := fun (s : State) (g : Nat) => { s with strs.bleed := mdel s.strs.bleed g }
  let s :=
    if j = 0 then nobleed (setPst s (posG x 0) 1) (posG x 0)
    else if j = 288 then nobleed (setPst s (posG x 287) 1) (posG x 287)
    else nobleed (nobleed (setPst (setPst s (posG x (j - 1)) 4) (posG x j) 4) (posG x (j - 1))) (posG x j)
  strRec s 2 0x04 x (wireDrawer j) (min j 287) j

/-- An intact wire (R283): a suspect pair becomes a deviating pair; a deviating position whose two wires are intact is a cell
fault. -/
def wireIntact (s : State) (x : Str) (j : Nat) : State :=
  let suspect := wst s (wireG x j) == 4 && mget s.strs.pairRun (wireG x j) == 3
  let s := setWst s (wireG x j) 0
  if suspect then
    strRec (setPst (setPst s (posG x (j - 1)) 5) (posG x j) 5) 1 0x05 x (wireDrawer j) j j
  else
    let cell := fun (s : State) (k : Nat) =>
      let g := posG x k
      if pst s g == 5 && mget s.strs.singleRun g == 3 && wst s (wireG x k) == 0 && wst s (wireG x (k + 1)) == 0 &&
          !s.strs.owt.contains (x, k) && !s.strs.owt.contains (x, k + 1) then
        strRec s 1 0x05 x (drawerOf k) k 0xFFFF
      else s
    let s := if 0 < j then cell s (j - 1) else s
    if j < 288 then cell s j else s

/-- The meaning of OPEN_WIRE_RESULT (R281, R283): at least 100 mV at an adjacent reading is open, less than 5 mV at both is
intact, otherwise suspect and tested again. A whole-string test that follows a sum failure and finds every wire intact is a
measurement fault. -/
def execOpenWireResult (x : Str) (j dBelow dAbove : Nat) (s : State) : Out :=
  if s.strs.owt.contains (x, j) then
    let s := { s with strs.owt := s.strs.owt.filter (fun p => p != (x, j)), strs.injected := ⟨dBelow, dAbove⟩ }
    let s :=
      if !present s x (wireDrawer j) then s
      else if 100 ≤ dBelow ∨ 100 ≤ dAbove then wireOpen s x j
      else if dBelow < 5 ∧ dAbove < 5 then wireIntact s x j
      else setWst s (wireG x j) 4
    let suspects := (upTo 289).any (fun k => wst s (wireG x k) == 4)
    if s.strs.sumRun.get x == 3 && !s.strs.owtFound.get x && !suspects && !(s.strs.owt.any (fun p => p.1 == x)) then
      .next (strRec s 2 0x06 x 0xFF 0xFFFF 0xFFFF)
    else .next s
  else .next s

/-! ## Drawers (R288 to R290) -/

/-- The positions masked with a drawer: 48d − 1 to 48d + 47 (R288). -/
def drawerMask (d k : Nat) : Bool := 48 * d ≤ k + 1 && k ≤ 48 * d + 47

/-- The meaning of DRAWER_RELEASE (R288, R289, R294): the island masks latches and bleeds; the control die zeroes the string,
opens its contactors and isolates it, with causes 0x0B (converter) and 0x09 (strings). -/
def execDrawerRelease (x : Str) (d : Nat) (s : State) : Out :=
  let here := fun (p : Nat × Nat) => posStr (p.1 % 576) == x && drawerMask d (p.1 % 288)
  let out := fun (m : SMap) => m.filter (fun p => !here p)
  let s := { s with
    strs.drawers := s.strs.drawers.set x (setBit (s.strs.drawers.get x) d false)
    strs.tripOv := out s.strs.tripOv
    strs.tripUv := out s.strs.tripUv
    strs.tripHeld := out s.strs.tripHeld
    strs.bleed := out s.strs.bleed
    strs.owt := s.strs.owt.filter (fun p => p.1 != x)
    strs.owtDue := s.strs.owtDue.filter (fun p => p.1 != x)
    strs.isoCause := s.strs.isoCause.set x (setBit (s.strs.isoCause.get x) 1 true) }
  let s := ((upTo 48).map (· + 48 * d)).foldl (fun s k => setPst s (posG x k) 2) s
  let s := if 0 < d && present s x (d - 1) then setPst s (posG x (48 * d - 1)) 3 else s
  let s := ((upTo 289).filter (fun j => wireDrawer j == d)).foldl (fun s j => setWst s (wireG x j) 2) s
  let s := takeOut (dropSurvey s x) x .isolated
  .next (strRec (convRec s 0 0x0B) 0 0x09 x d 0xFFFF 0xFFFF)

/-- The meaning of DRAWER_INSERT (R290, R278, R281, R285): its positions are measured from the next complete window, its wires
are surveyed and tested, its capacitances restart at 6,000 F, and cause 0x0A is written. -/
def execDrawerInsert (x : Str) (d : Nat) (s : State) : Out :=
  let s := { s with strs.drawers := s.strs.drawers.set x (setBit (s.strs.drawers.get x) d true) }
  let fresh := fun (s : State) (k : Nat) =>
    let g := posG x k
    let s := dset (setPst s g 1) 0x6052 g 6000
    { s with
      strs.anchors := mset s.strs.anchors g 0, strs.anchorQ := mset s.strs.anchorQ g 0
      strs.rejects := mset s.strs.rejects g 0 }
  let s := ((upTo 48).map (· + 48 * d)).foldl fresh s
  let s := if 0 < d && pst s (posG x (48 * d - 1)) == 3 then setPst s (posG x (48 * d - 1)) 1 else s
  let s := if d < 5 && !present s x (d + 1) then setPst s (posG x (48 * d + 47)) 3 else s
  let s := ((upTo 289).filter (fun j => wireDrawer j == d)).foldl (fun s j => setWst s (wireG x j) 3) s
  let s := startSurvey s x (48 * d - 1) (48 * d + 47)
  let s := dueWires s ((wiresFrom s x 0 288).filter (fun p => wireDrawer p.2 == d))
  .next (strRec s 0 0x0A x d 0xFFFF 0xFFFF)

/-! ## Isolation (R291) -/

/-- A string counts as isolated (R291): for maintenance, withdrawal or temperature. -/
def isolatedStr (s : State) (x : Str) : Bool := s.strs.isoCause.get x != 0

/-- The Owner isolates a string (R291, R296). -/
def isolateString (s : State) (x : Str) : State :=
  let s := { s with strs.isoCause := s.strs.isoCause.set x (setBit (s.strs.isoCause.get x) 0 true) }
  strRec (takeOut s x .isolated) 0 0x0F x 0xFF 0xFFFF 0xFFFF

/-- The preconditions of ending isolation (R291). -/
def isolationMayEnd (s : State) (x : Str) : Bool :=
  let l := (upTo 288).map (posG x)
  let v := l.map (uv s)
  s.strs.drawers.get x == 0x3F && !s.strs.owtFound.get x && l.all (fun g => !tripped s g) &&
    l.all (fun g => measured s g && decide (3150000 ≤ uv s g) && decide (uv s g ≤ 3800000)) &&
    decide (v.foldl max 0 ≤ v.foldl min 5000000 + 200000)

/-- The Owner ends isolation: the string moves to off (R291). -/
def endIsolation (s : State) (x : Str) : State :=
  let s := { s with strs.isoCause := s.strs.isoCause.set x 0 }
  let s := if (conv s x).st = .isolated then setConv s x { conv s x with st := .off } else s
  strRec s 0 0x0F x 0xFF 0xFFFF 0xFFFF

/-! ## Temperature (R292) -/

/-- Set or clear a flag with hysteresis. -/
def hyst (flag on off : Bool) : Bool := on || (flag && !off)

/-- The response of one drawer to its thermistors (R292). -/
def drawerTemp (s : State) (x : Str) (d : Nat) : State :=
  let i := 6 * x.idx + d
  let ts := (upTo 4).map (fun t => 4 * i + t)
  let good := ts.filter (fun t => !bit s.strs.thermBad t)
  let hv := (good.map (atI s.strs.temps)).foldl max (-10000)
  let bad2 := decide (good.length ≤ 2)
  let hv65 := if bad2 then max hv 650 else hv
  let hot := hyst (bit s.strs.hot i) (decide (600 ≤ hv65)) (decide (hv65 < 550))
  let hot65 := hyst (bit s.strs.hot65 i) (decide (650 ≤ hv65)) (decide (hv65 < 600))
  let cold := good.length != 0 && hyst (bit s.strs.cold i) (decide (hv ≤ -200)) (decide (-150 < hv))
  let newHot := hot && !bit s.strs.hot i
  let s := { s with
    strs.hot := setBit s.strs.hot i hot, strs.hot65 := setBit s.strs.hot65 i hot65, strs.cold := setBit s.strs.cold i cold }
  let s := if newHot then strRec (stopDrawerBleeds s x d) 1 0x0B x d 0xFFFF 0xFFFF else s
  if decide (700 ≤ hv65) && !bit (s.strs.isoCause.get x) 2 then
    let s := { s with strs.isoCause := s.strs.isoCause.set x (setBit (s.strs.isoCause.get x) 2 true) }
    strRec (takeOut s x .isolated) 2 0x0C x d 0xFFFF 0xFFFF
  else s

/-- One thermistor, 0.1 °C (R292, R508, R513): a reading outside −40 to 125 °C makes it invalid, with a warning. -/
def thermOne (s : State) (t : Nat) (raw : Int) : State :=
  let x : Str := if t < 24 then .A else .B
  let v := tdiv (calibrated s (0x400 + t) (s.strs.islandC.get x) (10 * raw)) 10
  let bad := decide (v < -400) || decide (1250 < v)
  let s' := { s with strs.temps := setAt s.strs.temps t v, strs.thermBad := setBit s.strs.thermBad t bad }
  if bad && !bit s.strs.thermBad t then
    strRec s' 1 0x0E x (t % 24 / 4) 0xFFFF 0xFFFF
  else s'

/-- The meaning of THERMISTOR_READ (R292). -/
def execThermistorRead (temps : List Int) (s : State) : Out :=
  let s := (upTo 48).foldl (fun s t => thermOne s t (atI temps t)) s
  let s := (upTo 6).foldl (fun s d => drawerTemp s .A d) s
  .next ((upTo 6).foldl (fun s d => drawerTemp s .B d) s)

/-! ## Limits the RT pair derives from the strings (R287, R292) -/

/-! ## AFE links (R293) -/

/-- The key of an AFE device. -/
def afeKey (x : Str) (dev : Nat) : Nat := 18 * x.idx + dev

/-- The meaning of AFE_LINK_LOSS (R293, R294): the 16 positions become unmeasured, with cause 0x07; a suspicion of their
wires is dropped. -/
def execAfeLinkLoss (x : Str) (dev : Nat) (s : State) : Out :=
  if 18 ≤ dev ∨ mget s.strs.afeMiss (afeKey x dev) = 1 then .next s
  else
    let s := { s with
      strs.afeMiss := mset s.strs.afeMiss (afeKey x dev) 1
      strs.pairRun := s.strs.pairRun.filter
        (fun p => !(p.1 / 289 == x.idx && 16 * dev ≤ p.1 % 289 && p.1 % 289 ≤ 16 * dev + 16))
      strs.owtDue := s.strs.owtDue.filter (fun p => !(p.1 == x && 16 * dev ≤ p.2 && p.2 ≤ 16 * dev + 16)) }
    let lose := fun (s : State) (k : Nat) =>
      let g := posG x k
      if pst s g = 2 ∨ pst s g = 3 then s else { setPst s g 1 with strs.bleed := mdel s.strs.bleed g }
    let s := ((upTo 17).map (· + 16 * dev)).foldl
      (fun s j => if wst s (wireG x j) = 4 then setWst s (wireG x j) 3 else s) s
    let s := ((upTo 16).map (· + 16 * dev)).foldl lose s
    .next (strRec s 1 0x07 x (dev / 3) (16 * dev) 0xFFFF)

/-- The meaning of AFE_REPORT (R293): reports that resume bring cause 0x08; the positions are measured again from the first
complete window. -/
def execAfeReport (x : Str) (dev : Nat) (s : State) : Out :=
  if mget s.strs.afeMiss (afeKey x dev) = 1 then
    .next (strRec { s with strs.afeMiss := mset s.strs.afeMiss (afeKey x dev) 0 } 0 0x08 x (dev / 3) (16 * dev) 0xFFFF)
  else .next s

end Sys2Proof.Machine
end

