-- ==== Sys2Proof/Machine/Flags.lean ====
section
/-! DEFINITION. The registers of the control die as values: what a read of each register of the blocks ICU, COT, LPE, GRD,
AON and TRC gives, flag by flag (R232 to R238, R254, R255, R261, R312, R313, R484 to R486, R504 to R507), and who may
access what (R463, R464). -/
namespace Sys2Proof.Machine

/-- Flags given as (bit, flag) pairs, as a register value. -/
def flagsAt : List (Nat × Bool) → Nat
  | [] => 0
  | (i, b) :: rest => b2n b * 2 ^ i + flagsAt rest

/-- COT_CTRL (R232): the clear and start bits read 0. -/
def cotCtrl (s : State) : Nat := flagsAt [(0, (conv s .A).ena), (1, (conv s .B).ena), (4, s.cot.shedEn)]

/-- COT_STAT (R233). -/
def cotStat (s : State) : Nat :=
  flagsAt [(1, s.cot.vNow != 1000 * vTarget s), (2, (conv s .A).charge), (3, (conv s .B).charge),
    (4, (foldLimit s .A).isSome), (5, (foldLimit s .B).isSome), (8, s.red.driveEn), (9, s.cot.ovLatch)] +
  (conv s .A).st.code * 2 ^ 16 + (conv s .B).st.code * 2 ^ 20

/-- COT_CONT (R237). -/
def cotCont (s : State) : Nat :=
  s.cot.cmd % 16 + s.cot.fb % 16 * 16 + flagsAt [(8, gateOpen s .A && gateOpen s .B)]

/-- The registers of COT (R231). -/
def cotRead (s : State) (off : Nat) : Nat :=
  if off = 0x000 then cotCtrl s
  else if off = 0x004 then cotStat s
  else if off = 0x010 then s.cot.vTgt
  else if off = 0x014 then s.cot.vNow / 1000
  else if off = 0x018 then s.cot.slew
  else if off = 0x020 then s.cot.phen
  else if off = 0x024 then s.cot.active
  else if off = 0x030 then s.cot.flt
  else if off = 0x040 then cotCont s
  else if 0x100 ≤ off && off < 0x160 then toTwos (atI s.cot.iref ((off - 0x100) / 4)) 32
  else if 0x180 ≤ off && off < 0x1E0 then toTwos (maQ24 (atI s.cot.imeas ((off - 0x180) / 4))) 32
  else 0

/-- LPE_STAT (R255). -/
def lpeStat (s : State) : Nat :=
  flagsAt [(7, s.lpe.ovrFlag), (8, s.lpe.satFlag), (9, s.lpe.impl.1), (10, s.lpe.impl.2), (11, s.lpe.sel)] +
  s.lpe.src * 2 ^ 12 + s.lpe.ovrCnt * 2 ^ 16

/-- CLEAN of LPE_SHD (R255): the count of R249 while the fixed law is in charge, otherwise that of R246. -/
def cleanCount (s : State) : Nat := if s.lpe.src = 0 then s.lpe.clean else s.lpe.cleanBg

/-- The registers of LPE (R254, R255). Its banks and data memories lie beyond the block's 64 KiB, where R464 puts other blocks
(log entry 62). -/
def lpeRead (s : State) (off : Nat) : Nat :=
  if off = 0x000 then flagsAt [(0, s.lpe.run), (2, s.lpe.shadowEn), (3, s.lpe.selCh)]
  else if off = 0x004 then lpeStat s
  else if off = 0x008 then s.lpe.lastCyc + s.lpe.maxCyc * 2 ^ 16
  else if off = 0x00C then cleanCount s
  else 0

/-- The registers of GRD (R312, R313). -/
def grdRead (s : State) (off : Nat) : Nat :=
  if off = 0x000 then
    flagsAt [(0, !s.grd.warn.isEmpty), (1, !s.grd.fault.isEmpty), (14, s.grd.intBlank), (15, s.grd.layerErr)] +
    s.grd.cutFlag % 4 * 2 ^ 8 + s.grd.silent % 4 * 2 ^ 10
  else if off = 0x004 then s.grd.auth
  else if 0x100 ≤ off && off < 0x200 then narrowing s ((off - 0x100) / 4)
  else if 0x200 ≤ off && off < 0x300 then effLimit s ((off - 0x200) / 4)
  else if 0x300 ≤ off && off < 0x400 then mget s.grd.vcnt ((off - 0x300) / 4)
  else 0

/-- The registers of AON (R484 to R486). -/
def aonRead (s : State) (off : Nat) : Nat :=
  if off = 0x000 then
    (if inLive s then 2 else 1) + s.power.wake * 2 ^ 12 +
    flagsAt [(3, s.power.liveReq), (4, s.power.mstate == .holdup), (5, s.power.sup54), (6, s.power.supStr),
      (7, s.power.pfw)]
  else if off = 0x008 then s.power.sidereal % 2 ^ 32
  else if off = 0x00C then s.power.sidh
  else if off = 0x010 then
    flagsAt [(0, s.power.cplLock), (1, s.power.yplLock), (2, s.power.eplEn), (3, s.power.eplLock),
      (4, s.power.holdover), (5, s.power.sidHold), (6, s.power.refLoss), (7, s.power.crysLoss)]
  else if off = 0x020 then flagsAt [(1, s.red.timerOk), (2, s.power.lsmm)] + s.red.remain * 2 ^ 16
  else if off = 0x100 then s.power.xlost
  else if 0x140 ≤ off && off < 0x194 then mget s.power.xdrop ((off - 0x140) / 4)
  else 0

/-- TRC_CTRL (R261): ARM and SWTRIG read 0. -/
def trcCtrl (s : State) : Nat :=
  flagsAt [(0, s.trc.en), (3, s.trc.rearm)] + s.trc.decim * 2 ^ 4 + s.trc.pre * 2 ^ 16

/-- The registers of TRC (R261). -/
def trcRead (s : State) (off : Nat) : Nat :=
  if off = 0x000 then trcCtrl s
  else if off = 0x004 then
    flagsAt [(0, s.trc.armed), (1, s.trc.triggered), (2, s.trc.done)] + s.trc.tpos * 2 ^ 16
  else if off = 0x008 then s.trc.trig.toNat
  else if off = 0x00C then s.trc.thr.toNat
  else if 0x100 ≤ off && off < 0x140 then at0 s.trc.src ((off - 0x100) / 4)
  else 0

/-- A word of bits, one per source, of a word of ICU (R506). -/
def icuWord (w : Nat) (f : Nat → Bool) : Nat := sumN ((upTo 32).map (fun k => b2n (f (32 * w + k)) * 2 ^ k))

/-- ICU_FAULT (R504). -/
def icuFaultReg (s : State) : Nat :=
  match s.icu.fault with
  | none => 0
  | some f => f.source + f.cause * 2 ^ 9 + f.target * 2 ^ 16 + f.count * 2 ^ 24

/-- The registers of ICU (R503 to R506). A reserved source reads 0 (R502). -/
def icuRead (s : State) (off : Nat) : Nat :=
  if off = 0x000 then icuFaultReg s
  else if off = 0x004 then
    sumN ([Core5.rt, .s0, .s1, .s2, .s3].map (fun t => b2n (lineUp s t) * 2 ^ coreNum t)) + s.icu.routeRej * 2 ^ 16
  else if 0x010 ≤ off && off < 0x024 then
    mget s.icu.active ((off - 0x010) / 4) + mget s.icu.spur ((off - 0x010) / 4) * 2 ^ 16
  else if 0x044 ≤ off && off < 0x080 then icuWord ((off - 0x040) / 4) (fun i => sharedHas i && isEnabled s .rt i)
  else if 0x084 ≤ off && off < 0x0C0 then
    icuWord ((off - 0x080) / 4) (fun i => sharedHas i && (levelOf s .rt i || swPending s .rt i))
  else if 0x0C4 ≤ off && off < 0x100 then icuWord ((off - 0x0C0) / 4) (fun i => sharedHas i && swPending s .rt i)
  else if 0x480 ≤ off && off < 0xC00 then
    let i := (off - 0x400) / 4
    if routeFixed i then 2 ^ 31 else if sharedHas i then routeOf s i else 0
  else 0

/-! ## Who may access what (R463, R464, R490) -/

/-- The 64 KiB block of the control die at an address. -/
def blockOf (addr : Nat) : Nat := addr / 65536 - 0x4000

/-- The address lies in the blocks of R464 or the two mailboxes. -/
def inBlocks (addr : Nat) : Bool := 0x40000000 ≤ addr && addr < 0x400E0000 && blockOf addr != 11

/-- A read is permitted (R463). -/
def mayRead (core : Core5) (addr : Nat) : Bool :=
  if addr < 0x00040000 then core == .rt
  else if 0x10000000 ≤ addr && addr < 0x10080000 then core == .rt
  else if 0x20000000 ≤ addr && addr < 0x20800000 then core != .rt
  else if 0x30000000 ≤ addr && addr < 0x40000000 then true
  else if inBlocks addr then (blockOf addr < 11 || core != .rt)
  else if 0x48000000 ≤ addr && addr < 0x48400000 then true
  else if 0x50000000 ≤ addr && addr < 0x50200000 then true
  else if 0x60000000 ≤ addr && addr < 0x70000000 then core != .rt
  else 0x80000000 ≤ addr && addr < 0x100000000 && core != .rt

/-- A write is permitted (R463, R464). -/
def mayWrite (core : Core5) (addr : Nat) : Bool :=
  if 0x10000000 ≤ addr && addr < 0x10080000 then core == .rt
  else if 0x20000000 ≤ addr && addr < 0x20800000 then core != .rt
  else if inBlocks addr then
    (if blockOf addr = 5 then core == .s0
     else if blockOf addr = 6 then core == .rt || core == .s1 || core == .s3
     else if blockOf addr < 11 then core == .rt else core != .rt)
  else if 0x48000000 ≤ addr && addr < 0x48400000 then core == .rt
  else if 0x50000000 ≤ addr && addr < 0x50200000 then core == .rt
  else if 0x60000000 ≤ addr && addr < 0x70000000 then core != .rt
  else 0x80000000 ≤ addr && addr < 0x100000000 && core != .rt

/-- Where a bus error is counted (R463): the block, or the 64 KiB page of another region. -/
def errKey (addr : Nat) : Nat := if inBlocks addr then blockOf addr else 65536 + addr / 65536

end Sys2Proof.Machine
end

