-- ==== Sys2Proof/Machine/Trace.lean ====
section
/-! DEFINITION. The trace buffer, the fault snapshot and the flight recorder (08_loop_engine.md). -/
namespace Sys2Proof.Machine

/-! ## Nodes (R260) -/

/-- A node code of R260 that exists. -/
def nodeHas (c : Nat) : Bool :=
  c < 0x018 || (0x020 ≤ c && c < 0x038) || (0x040 ≤ c && c ≤ 0x04F) || (0x100 ≤ c && c < 0x500)

/-- The value of a node as a 32-bit word, in the unit of the register that shows it (R260; log entry 29). -/
def nodeVal (s : State) (c : Nat) : Nat :=
  if c < 0x018 then toTwos (maQ24 (atI s.cot.imeas c)) 32
  else if 0x020 ≤ c && c < 0x038 then toTwos (atI s.cot.iref (c - 0x020)) 32
  else if c = 0x040 then s.cot.bus1
  else if c = 0x041 then s.cot.bus2
  else if c = 0x042 then toTwos (q48mv s.lpe.vhat) 32
  else if c = 0x043 then toTwos (q48mv s.lpe.resid.1) 32
  else if c = 0x044 then toTwos (q48mv s.lpe.resid.2) 32
  else if c = 0x045 then s.cot.strV.a
  else if c = 0x046 then s.cot.strV.b
  else if c = 0x047 then s.cot.linkV.a
  else if c = 0x048 then s.cot.linkV.b
  else if c = 0x049 then s.cot.vNow / 1000
  else if c = 0x04A then toTwos s.epo.blendFf.a 32
  else if c = 0x04B then toTwos s.epo.blendFf.b 32
  else if c = 0x04C then s.fac.rectWord.toNat
  else if c = 0x04D then s.epo.m
  else if c = 0x04E then lpeStat s
  else if c = 0x04F then cotStat s
  else if 0x100 ≤ c && c < 0x500 then mget s.lpe.prog.mem (c - 0x100)
  else 0

/-! ## Trace buffer (R258, R261) -/

/-- The fault snapshot owns channels 12 to 15 (R259, R542). -/
def snapOwns (s : State) (c : Nat) : Bool := s.trc.snapOn && 12 ≤ c

/-- Arm the trace (R261). -/
def traceArm (s : State) : State :=
  { s with trc.armed := true, trc.triggered := false, trc.done := false }

/-- A trigger of an armed, enabled trace (R258): the sample index is kept and the fill of the remaining samples starts. -/
def traceTrig (s : State) : State :=
  if s.trc.armed && s.trc.en then
    { s with trc.armed := false, trc.triggered := true, trc.tpos := s.trc.pos, trc.left := 32768 - s.trc.pre }
  else s

/-- The meaning of TRACE_ARM (R261). -/
def execTraceArm (core : Core5) (s : State) : Out :=
  if core ≠ .rt then .next (busError s core 9) else .next (traceArm (accessOk s))

/-- The meaning of TRACE_SWTRIG (R261). -/
def execTraceSwtrig (core : Core5) (s : State) : Out :=
  if core ≠ .rt then .next (busError s core 9) else .next (traceTrig (accessOk s))

/-- A trigger condition is enabled (R261, R542): a threshold mode, FAULT, LOOP, or EXT while AUX_SYNC is a trigger input. -/
def trigEnabled (s : State) : Bool :=
  let t := s.trc.trig.toNat
  field t 18 2 != 0 || bit t 17 || bit t 16 || (bit t 15 && dget s 0xA105 0 == 1)

/-- The meaning of TRACE_TRIGGER (R258): an enabled condition has come true. -/
def execTraceTrigger (s : State) : Out := .next (if trigEnabled s then traceTrig s else s)

/-- The meaning of TRACE_DONE (R258): the 32,768 − PRE samples after the trigger are filled. -/
def execTraceDone (s : State) : Out :=
  if s.trc.triggered && !s.trc.done then .next { s with trc.done := true } else .next s

/-- `n` samples of a value in a channel, from a sample index on. -/
def fillRun (m : SMap) (c pos n v : Nat) : SMap :=
  (upTo n).foldl (fun m i => mset m (32768 * c + (pos + i) % 32768) v) m

/-- `n` samples of every channel (R258): as many as are still to be filled after a trigger. -/
def traceTake (s : State) (n : Nat) : State :=
  if s.trc.en && (s.trc.armed || s.trc.triggered) && !s.trc.done then
    let n := if s.trc.triggered then min n s.trc.left else n
    { s with
      trc.buf := (upTo 16).foldl (fun m c =>
        if snapOwns s c then m else fillRun m c s.trc.pos n (nodeVal s (at0 s.trc.src c))) s.trc.buf
      trc.pos := (s.trc.pos + n) % 32768
      trc.left := if s.trc.triggered then s.trc.left - n else s.trc.left }
  else s

/-- The sample at clock 720, when DECIM is 15 (R258). -/
def traceSample (s : State) : State := if s.trc.decim = 15 then traceTake s 1 else s

/-- The multiples of 2^d among the 800 clocks of the sample that starts at a clock. -/
def ticksOf (clk d : Nat) : Nat := (clk + 799) / 2 ^ d + 1 - (clk + 2 ^ d - 1) / 2 ^ d

/-- The samples of the trace in the 800 clocks of a loop sample, every 2^DECIM clocks, when DECIM is not 15 (R258). A node holds
the value that its source had at clock 0 (log entry 29). -/
def traceClocks (s : State) : State := if s.trc.decim = 15 then s else traceTake s (ticksOf s.epo.clk s.trc.decim)

/-- The samples of the fault snapshot in a loop sample, every 16 clocks (R259): bus channels 1 and 2 and string currents A and
B. -/
def snapClocks (s : State) : State :=
  if s.trc.snapOn && !s.trc.snapFrozen then
    let n := if s.trc.snapDue then min 50 s.trc.snapLeft else 50
    let l := [s.cot.bus1, s.cot.bus2, toTwos (s.lpe.latched.iStr.get .A) 32, toTwos (s.lpe.latched.iStr.get .B) 32]
    { s with
      trc.buf := (upTo 4).foldl (fun m c => fillRun m (12 + c) s.trc.snapPos n (at0 l c)) s.trc.buf
      trc.snapPos := (s.trc.snapPos + n) % 32768
      trc.snapLeft := s.trc.snapLeft - n }
  else s

/-- Write TRC_CTRL (R261): the settings, then ARM and SWTRIG. -/
def writeTrcCtrl (s : State) (v : Nat) : State :=
  let s := { s with
    trc.en := bit v 0, trc.rearm := bit v 3, trc.decim := field v 4 4, trc.pre := min (field v 16 16) 32768 }
  let s := if bit v 1 then traceArm s else s
  if bit v 2 then traceTrig s else s

/-- Write TRC_TRIG (R261). -/
def writeTrcTrig (s : State) (v : Nat) : State :=
  { s with trc.trig := BitVec.ofNat 32 (field v 15 9 * 2 ^ 15) }

/-- Write TRC_SRC (R261). -/
def writeTrcSrc (s : State) (c v : Nat) : State := { s with trc.src := setAt s.trc.src c (v % 2 ^ 11) }

/-- The code that answers a trace configuration of one element (R259, R261, R542): 0x04 for reserved bits, 0x03 for a value
out of range, 0x09 for a channel of the fault snapshot or for EXT while AUX_SYNC is an output. -/
def traceCode (s : State) (e v : Nat) : Nat :=
  if e = 0 then (if field v 8 8 != 0 then 0x04 else if 32768 < field v 16 16 then 0x03 else 0)
  else if e = 1 then
    (if field v 0 15 != 0 || field v 24 8 != 0 then 0x04
     else if field v 18 2 != 0 && snapOwns s (field v 20 4) then 0x09
     else if bit v 15 && dget s 0xA105 0 == 2 then 0x09 else 0)
  else if e = 3 then (if v ≠ 0 then 0x04 else 0)
  else if 4 ≤ e then
    (if field v 11 21 != 0 then 0x04 else if !nodeHas v then 0x03
     else if v ≠ 0 && snapOwns s (e - 4) then 0x09 else 0)
  else 0

/-- Put an accepted element of object 0xA100 into force. -/
def traceSet (s : State) (e v : Nat) : State :=
  if e = 0 then writeTrcCtrl s v
  else if e = 1 then writeTrcTrig s v
  else if e = 2 then { s with trc.thr := BitVec.ofNat 32 v }
  else if 4 ≤ e then writeTrcSrc s (e - 4) v
  else s

/-- The trace configuration names channels 12 to 15 (R542). -/
def traceNamesSnap (s : State) : Bool :=
  (upTo 4).any (fun k => at0 s.trc.src (12 + k) != 0) ||
  (field s.trc.trig.toNat 18 2 != 0 && 12 ≤ field s.trc.trig.toNat 20 4)

/-! ## Fault snapshot (R259) -/

/-- The meaning of SNAPSHOT_FREEZE (R259): 8,192 samples after the record, the snapshot freezes. -/
def execSnapshotFreeze (s : State) : Out :=
  if s.trc.snapDue then .next { s with trc.snapDue := false, trc.snapFrozen := true } else .next s

/-- Object 0xA101 (R259, R265): 0 off, 1 enabled and re-armed. -/
def snapWrite (s : State) (v : Nat) : State :=
  { s with trc.snapOn := v == 1, trc.snapDue := false, trc.snapFrozen := false }

/-! ## Flight recorder (R262, R263) -/

/-- One bit of CRC-32C, reflected polynomial 0x82F63B78. -/
def crc32cBit (c : Nat) : Nat := if c % 2 = 1 then (c / 2) ^^^ 0x82F63B78 else c / 2

/-- CRC-32C over a byte string, without the final complement. -/
def crc32cFrom : Nat → List Nat → Nat
  | c, [] => c
  | c, b :: rest =>
    crc32cFrom (crc32cBit (crc32cBit (crc32cBit (crc32cBit (crc32cBit (crc32cBit (crc32cBit (crc32cBit (c ^^^ b)))))))))
      rest

/-- CRC-32C (R262). -/
def crc32c (l : List Nat) : Nat := crc32cFrom 0xFFFFFFFF l ^^^ 0xFFFFFFFF

/-- The recorder writes frames (R262, R263): in Live, by the active module, unless stopped. -/
def recording (s : State) : Bool := inLive s && isActive s && s.trc.recRun

/-- The flags of a frame (R262): SRC, SEL, output held. -/
def frameFlags (s : State) : Nat := s.lpe.src + flagsAt [(2, s.lpe.sel), (3, s.lpe.src == 0 && s.lpe.ovrCnt != 0)]

/-- The 272 bytes of a frame, as a little-endian value (R262). -/
def frameValue (s : State) (vals : List Word) : Nat :=
  let head := packAt [(0, 6, s.epo.count), (6, 1, s.trc.frameNo % 100), (7, 1, frameFlags s), (8, 4, s.trc.recSeq)]
  let body := packAt (arrAt 0 4 ((vals.map (·.toNat)).take 64))
  let crc := crc32c (bytesOf head 12 ++ bytesOf body 256)
  head + crc * 256 ^ 12 + body * 256 ^ 16

/-- The byte offset of a frame in the recorder region: 2,526 segments of 25,000 frames of 272 bytes (R157, R262). -/
def frameOffset (n : Nat) : Nat := n % 63150000 * 272

/-- Stream 6 runs: the sister link is up and bridge B4 joins it to the stack (R331, R462). -/
def mirrorUp (s : State) : Bool := s.red.linkUp && !s.power.bridgeFailed.contains 4

/-- RECORDER_SEGMENT_CLOSE (R262, R331): after 25,000 frames the segment closes and is mirrored where stream 6 runs. -/
def segmentClose (s : State) : State :=
  if s.trc.recInSeg < 25000 then s
  else { s with
    trc.recInSeg := 0
    trc.segDone := s.trc.segDone + 1
    trc.segMirrored := if mirrorUp s then s.trc.segMirrored + 1 else s.trc.segMirrored }

/-- A frame crosses to the engine through FIFO F2 (R262, R478, R480): while the engine is stopped 64 wait, and each one beyond is
dropped. -/
def storeFrame (s : State) (v : Nat) : State :=
  if s.eng.state == .idle || s.eng.state == .running then dramPut s (frameOffset s.trc.recSeq) 272 v
  else if s.trc.recQ.length < 64 then { s with trc.recQ := s.trc.recQ ++ [(s.trc.recSeq, v)] }
  else dropEntries s 2 1

/-- The frames that waited reach the stack. -/
def flushFrames (s : State) : State :=
  { s.trc.recQ.foldl (fun s p => dramPut s (frameOffset p.1) 272 p.2) s with trc.recQ := [] }

/-- The meaning of RECORDER_FRAME (R262). -/
def execRecorderFrame (vals : List Word) (s : State) : Out :=
  if recording s then
    let v := frameValue s vals
    .next (segmentClose { storeFrame s v with
      trc.recFrame := v
      trc.recSeq := (s.trc.recSeq + 1) % 2 ^ 32
      trc.frameNo := s.trc.frameNo + 1
      trc.recInSeg := s.trc.recInSeg + 1 })
  else .next s

/-- The meaning of RECORDER_AUTO_STOP (R263): 60 s after a latch record the recorder stops. -/
def execRecorderAutoStop (s : State) : Out :=
  match s.trc.recStop with
  | some t =>
    if t ≤ s.epo.ticks then .next { s with trc.recRun := false, trc.recStop := none } else .next s
  | none => .next s

/-- The resume field of object 0xA103 (R263). -/
def recResume (s : State) : State := { s with trc.recRun := true, trc.recStop := none }

/-! ## Export (R264) -/

/-- Copy a range of the DRAM stack: the destination takes the source's bytes. -/
def copyRange (m : Memory) (src dst len : Nat) : Memory :=
  let moved := m.filter (fun p => src ≤ p.1 && p.1 < src + len)
  let kept := m.filter (fun p => !(dst ≤ p.1 && p.1 < dst + len))
  moved.foldl (fun a p => memWrite a (p.1 - src + dst) p.2) kept

/-- Write buffer words of the channels from `c0` on into the DRAM stack. -/
def copyTrace (s : State) (c0 n dst : Nat) : Memory :=
  let kept := s.net.dram.filter (fun p => !(dst ≤ p.1 && p.1 < dst + 131072 * n))
  s.trc.buf.foldl (fun a p =>
    if 32768 * c0 ≤ p.1 && p.1 < 32768 * (c0 + n) then
      memWriteAll a (dst + 4 * (p.1 - 32768 * c0)) ((bytesOf p.2 4).map (BitVec.ofNat 8))
    else a) kept

/-- The start of the export area for a role, as a DRAM offset (R157, R264, R443, R445): LD0 for the Owner, LD2 for Service. -/
def exportBase (owner : Bool) : Nat := if owner then 17179869184 + 0x40000000 else 51539607552 + 0x04000000

/-- The size of that area. -/
def exportSize (owner : Bool) : Nat := if owner then 8589934592 else 0x3C000000

/-- The bytes an export copies. -/
def exportLen (content count : Nat) : Nat :=
  if content = 0 then 2097152 else if content = 1 then 524288 else count * 6800000

/-- Segments asked for that have been overwritten: the ring holds the open one and the 2,525 before it (R262, R264). -/
def segmentsLost (s : State) (first count : Nat) : Nat := min count (s.trc.segDone + 1 - 2526 - first)

/-- EXPORT (R264): the content is copied into the window; a trace with REARM set arms again (R258). -/
def exportCopy (s : State) (owner : Bool) (content first count off : Nat) : State :=
  let dst := exportBase owner + off
  if content = 0 then
    let s := { s with net.dram := copyTrace s 0 16 dst, trc.exported := some (0, dst, 0) }
    if s.trc.done && s.trc.rearm then traceArm s else s
  else if content = 1 then { s with net.dram := copyTrace s 12 4 dst, trc.exported := some (1, dst, 0) }
  else { s with
    net.dram := (upTo (min count 2526)).foldl (fun m k =>
      copyRange m ((first + k) % 2526 * 6800000) (dst + k * 6800000) 6800000) s.net.dram
    trc.exported := some (2, dst, segmentsLost s first count) }

end Sys2Proof.Machine
end

