-- ==== Sys2Proof/Machine/Limits.lean ====
section
/-! DEFINITION. Limits of the shelf and the rack: rectifier capacity (R33), shelves in service (R39), the contract and its
ceilings (R121 to R126), allowance (R112), shelf ceilings (R569), ramp shares (R115) and the twilight blend (R53). -/
namespace Sys2Proof.Machine

/-! ## Capacity and service (R33, R39, R533, R551) -/

/-- The rectifier capacity for a number of healthy modules, W (R33). -/
def capOf (n : Nat) : Nat := min 300000 (42000 * n)

/-- The healthy rectifier modules of this shelf: none while the feed is declared lost (R533). -/
def ownRects (s : State) : Nat := if s.fac.feedLost then 0 else popcount s.fac.rectOk 8

/-- This shelf's rectifier capacity, W. -/
def ownCap (s : State) : Nat := capOf (ownRects s)

/-- What another shelf last reported. -/
def shelfView (s : State) (k : Nat) : ShelfView := s.lead.shelves.getD k ShelfView.none

/-- Replace what a shelf last reported. -/
def setShelf (s : State) (k : Nat) (v : ShelfView) : State :=
  { s with lead.shelves := setAt s.lead.shelves k v }

/-- A shelf is in service (R39, R526): this shelf while its active module runs and reports a capacity, another while its
heartbeats say so. A standby goes by the heartbeats of its peer. -/
def shelfIn (s : State) (k : Nat) : Bool :=
  if k = shelfIdx s then inLive s && (isActive s || s.lead.own.inService) && decide (0 < ownCap s)
  else (shelfView s k).inService

/-- The rectifier capacity of a shelf, 0 out of service (R569). -/
def shelfCap (s : State) (k : Nat) : Nat :=
  if k = shelfIdx s then (if shelfIn s k then ownCap s else 0)
  else if (shelfView s k).inService then capOf (shelfView s k).rectifiers else 0

/-- The sum of the capacities of the shelves in service (R112). -/
def sumCaps (s : State) : Nat := sumN ((upTo 4).map (shelfCap s))

/-- The number of shelves in service. -/
def nShelves (s : State) : Nat := ((upTo 4).filter (shelfIn s)).length

/-! ## The contract (R121, R122, R124) -/

/-- A Tenant key is enrolled (R41, R356). -/
def tenantHeld (s : State) : Bool := bit (dget s 0x8001 0) 0

/-- A contract is in force (R41, R124): never without an enrolled Tenant key. -/
def hasContract (s : State) : Bool := dget s 0x2000 0 != 1 && tenantHeld s

/-- Fields of a contract (R121). -/
def cSerial (v : Nat) : Nat := fieldAt v 4 4
def cStart (v : Nat) : Nat := fieldAt v 8 6
def cDays (v : Nat) : Nat := fieldAt v 14 2
def cUp (v : Nat) : Nat := fieldAt v 16 4
def cDown (v : Nat) : Nat := fieldAt v 20 4
def cReserve (v : Nat) : Nat := fieldAt v 24 2
def cDepth (v : Nat) : Nat := fieldAt v 26 2
def cMinutes (v : Nat) : Nat := fieldAt v 28 2
def cNotice (v : Nat) : Nat := fieldAt v 30 2
def cCeil (v m : Nat) : Nat := 100 * fieldAt v (64 + 2 * (m % 1440)) 2

/-- The contract in force. -/
def contract (s : State) : Nat := dget s 0x2000 0

/-- The number of the contract minute of an epoch (R122). -/
def contractMinute (s : State) (e : Nat) : Nat := (e - cStart (contract s)) / Config.minuteEpochs

/-- The contract day of an epoch. -/
def contractDay (s : State) (e : Nat) : Nat := contractMinute s e / 1440

/-- The last day of the contract has passed (R124). -/
def contractExpired (s : State) (e : Nat) : Bool :=
  hasContract s && cDays (contract s) != 0 && decide (cDays (contract s) ≤ contractDay s e)

/-- The minute ceiling of an epoch, W (R122, R124). -/
def minuteCeil (s : State) (e : Nat) : Nat :=
  if hasContract s then cCeil (contract s) (contractMinute s e) else sumCaps s

/-- The fault step allowance of the contract in force, W (R117, R121). -/
def faultStep (s : State) : Nat := fieldAt (contract s) 32 4

/-- The SoC reserve, 0.01 % (R121, R124). -/
def socReserve (s : State) : Nat := if hasContract s then cReserve (contract s) else 0

/-- The breaker cap in force (R119). -/
def breakerCap (s : State) : Nat := dget s 0x2011 0

/-- No breaker cap. -/
abbrev noCap : Nat := 0xFFFFFFFF

/-- The lowest allowance an emergency cap may leave in a minute (R126). -/
def emergencyFloor (s : State) (e : Nat) : Nat := (10000 - cDepth (contract s)) * minuteCeil s e / 10000

/-- What the breaker cap allows in an epoch (R119, R126). -/
def capAllows (s : State) (e : Nat) : Nat :=
  if hasContract s && breakerCap s < minuteCeil s e then max (breakerCap s) (emergencyFloor s e) else breakerCap s

/-- The rack allowance (R112): the lowest of the minute ceiling, the breaker cap and the sum of the capacities. -/
def rackAllowance (s : State) (e : Nat) : Nat := min (min (minuteCeil s e) (capAllows s e)) (sumCaps s)

/-- The ceiling of shelf `k` for an allowance (R569). -/
def ceilingFor (s : State) (a k : Nat) : Nat :=
  if sumCaps s = 0 then 0 else a * shelfCap s k / sumCaps s

/-- The four ceilings for an allowance. -/
def ceilingsFor (s : State) (a : Nat) : List Nat := (upTo 4).map (ceilingFor s a)

/-- The shelf ceiling in force (R84, R569), and at most what the module's own contract gives its shelf: between modules of
different contracts the lower value governs (R123; log entry 66). -/
def shelfCeiling (s : State) : Nat :=
  if hasContract s then min s.fac.ceiling (ceilingFor s (minuteCeil s s.epo.count) (shelfIdx s)) else s.fac.ceiling

/-- The ceiling that bounds this shelf's setpoint (R52, R56, R113): the shelf ceiling, the capacity and the guard. -/
def ownCeiling (s : State) : Nat := min (min (shelfCeiling s) (ownCap s)) (effLimit s 12)

/-! ## Ramp shares (R112, R115) -/

/-- The weight sum of R115. -/
def wtSum (s : State) : Nat := sumN ((upTo 4).map (fun k => dnow s 0x2014 k))

/-- The share of shelf `k` of a rack limit before redistribution. -/
def baseShare (s : State) (rack k : Nat) : Nat := if wtSum s = 0 then 0 else rack * dnow s 0x2014 k / wtSum s

/-- The share of shelf `k` (R115): its own and an equal part of those of the shelves out of service. -/
def rampShare (s : State) (rack k : Nat) : Nat :=
  if nShelves s = 0 then baseShare s rack k
  else if shelfIn s k then
    baseShare s rack k + sumN (((upTo 4).filter (fun j => !shelfIn s j)).map (baseShare s rack)) / nShelves s
  else 0

/-- This shelf's ramp shares, W/s, within guard indices 13 and 14 (R115, R298). -/
def upShare (s : State) : Nat := min (rampShare s (dnow s 0x2012 0) (shelfIdx s)) (effLimit s 13)
def downShare (s : State) : Nat := min (rampShare s (dnow s 0x2013 0) (shelfIdx s)) (effLimit s 14)

/-! ## The twilight blend (R53) -/

/-- The blend q = a + ((b − a) × m) / M, truncating; `b` where M is 0. -/
def blend (a b : Int) (m bigM : Nat) : Int := if bigM = 0 then b else a + tdiv ((b - a) * (m : Int)) (bigM : Int)

/-- A plan quantity as blended now (R53): plan n outside a twilight. -/
def blended (s : State) (a b : Int) : Int :=
  if s.epo.twRunning && s.epo.twPlan then blend a b s.epo.m s.epo.bigM else a

/-- The blended setpoint of a shelf, W. -/
def blendSetW (s : State) (k : Nat) : Int :=
  let a := at0 s.epo.planN.set k
  match s.epo.planNext with
  | none => a
  | some p => blended s a (at0 p.set k)

/-- The blended feedforward of a string, W. -/
def blendFfW (s : State) (x : Str) : Int := blended s (s.epo.ffNow.get x) (s.epo.ffNext.get x)

/-- Count a quantity as clamped once per epoch (R56, object 0x4005). -/
def countClamp (s : State) (q : Nat) : State :=
  if s.epo.clamped.contains q then s else bump { s with epo.clamped := q :: s.epo.clamped } 0x4005 5

end Sys2Proof.Machine
end

