-- ==== Sys2Proof/Machine/Metering.lean ====
section
/-! DEFINITION. Keys and signatures (R346, R354), the signing queue (R351), and the facility contract's records
(04_facility_contract.md): emergency count, metering, minute record, chain and seals. -/
namespace Sys2Proof.Machine

/-! ## Keys (R348, R354, R356) -/

/-- The Owner keys present (object 0x8000). -/
def ownerKeys (s : State) : List Nat :=
  let v := dget s 0x8000 0
  (if bit v 0 then [fieldAt v 8 60] else []) ++ (if bit v 1 then [fieldAt v 68 60] else [])

/-- The Tenant key, if present (object 0x8001). -/
def tenantKeys (s : State) : List Nat :=
  let v := dget s 0x8001 0
  if bit v 0 then [fieldAt v 8 60] else []

/-- A signature verifies against one of the keys (R346, R354; log entry 5). -/
def sigOk (keys : List Nat) (g : Option Sig) : Bool :=
  match g with
  | none => false
  | some g => g.covers && keys.contains g.key

/-- SHA-256 of a value of `n` bytes. -/
def hashOf (v n : Nat) : Nat := Config.sha256 (bytesOf v n)

/-! ## Signing queue (R351, R352) -/

/-- The scopes of the grant in force (R372, R374). -/
def grantScopes (s : State) : Nat :=
  match s.sec.grant with
  | none => 0
  | some g => g.scopes

/-- A security record (R377): role and target as given. -/
def secRec (s : State) (severity cause role target : Nat) : State :=
  writeRecB s 8 severity cause (packAt [(0, 4, (runBank s).version), (4, 4, (runBank s).security), (8, 4, s.sec.q),
    (12, 1, b2n s.sec.bankB), (13, 1, grantScopes s), (14, 1, role), (15, 1, target)])

/-- Leaves left of the 2^25 (R349, R352). -/
def leavesLeft (s : State) : Nat := 33554432 - s.sec.q

/-- A request can be queued: the queue holds at most 1,024 (R351). -/
def queueFree (s : State) : Bool := decide (s.sec.queue.length < 1024)

/-- Queue a signature (R351); a full queue takes none. -/
def queueSign (s : State) (j : SignJob) : State :=
  if queueFree s then { s with sec.queue := s.sec.queue ++ [j] } else s

/-- The hash of the contract in force, 0 with none (R136). -/
def contractHashNow (s : State) : Nat := if hasContract s then s.fac.contractHash else 0

/-- Queue the hour seal of a minute (R136, R351). -/
def queueSeal (s : State) (minute root : Nat) : State :=
  queueSign s { kind := 0, minute := minute, root := root, contract := contractHashNow s, role := 4, nonce := 0 }

/-! ## Emergency (R125, R126) -/

/-- An emergency cap is in force in epoch `e`: a cap below the minute ceiling of a contract (R125). -/
def emergencyCapAt (s : State) (e : Nat) : Bool := hasContract s && decide (breakerCap s < minuteCeil s e)

/-- An emergency cap is in force (R125). -/
def emergencyCap (s : State) : Bool := emergencyCapAt s s.epo.count

/-- An emergency ramp limit is in force (R125). -/
def emergencyRamp (s : State) : Bool :=
  hasContract s && (decide (dget s 0x2012 0 < cUp (contract s)) || decide (dget s 0x2013 0 < cDown (contract s)))

/-- An emergency limit is in force. -/
def emergency (s : State) : Bool := emergencyCap s || emergencyRamp s

/-- The present minute enters the count in the epoch in which an emergency limit first takes effect in it (R126). -/
def countEmergency (s : State) : State :=
  if emergency s && !s.fac.emThis then
    minuteFlag { s with fac.emThis := true, fac.emCount := s.fac.emCount + 1 } 6
  else s

/-- The three conditions of R125 for a cap or ramp limit below the contract's value. -/
def emergencyOk (s : State) (v base : Nat) : Bool :=
  let c := contract s
  let start := dget s 0x2015 0
  decide ((10000 - cDepth c) * base ≤ 10000 * v) &&
  (if s.fac.emThis then decide (s.fac.emCount ≤ cMinutes c) else decide (s.fac.emCount < cMinutes c)) &&
  (cNotice c == 0 ||
    (start != 0 && decide (start ≤ s.epo.count) && decide (s.fac.announcedAt + 1000 * cNotice c ≤ start)))

/-- The code that answers a breaker cap write (R119, R124, R125). -/
def capCode (s : State) (v : Nat) : Nat :=
  if !hasContract s || decide (minuteCeil s s.epo.count ≤ v) then 0
  else if emergencyOk s v (minuteCeil s s.epo.count) then 0 else 0x03

/-- The contract's value of a ramp limit object. -/
def contractRamp (s : State) (o : Nat) : Nat := if o = 0x2012 then cUp (contract s) else cDown (contract s)

/-- The default of an element at present (R137, R401): that of the ramp limits is the contract's value with one in force. -/
def defaultNow (s : State) (o e : Nat) : Nat :=
  if (o = 0x2012 ∨ o = 0x2013) ∧ hasContract s = true then contractRamp s o else objDefault o e

/-- The code that answers a ramp limit write (R125). -/
def rampCode (s : State) (o v : Nat) : Nat :=
  if !hasContract s || decide (contractRamp s o ≤ v) then 0
  else if emergencyOk s v (contractRamp s o) then 0 else 0x03

/-- A breaker cap comes into force (R84, R119): object 0x2011, the CAP_CHANGED flag and the emergency count. -/
def setCap (s : State) (v : Nat) : State :=
  if breakerCap s = v then s else countEmergency (minuteFlag (dset s 0x2011 0 v) 5)

/-- EMERGENCY_LIFTED (R126): object 0x2011 returns to no cap and the ramp limits to the contract values, kind 3 is logged and
the flag set. -/
def liftEmergency (s : State) : State :=
  let old := breakerCap s
  let s := if old = noCap then s else minuteFlag (dset s 0x2011 0 noCap) 5
  let s := dset (dset s 0x2012 0 (max (dget s 0x2012 0) (cUp (contract s)))) 0x2013 0
    (max (dget s 0x2013 0) (cDown (contract s)))
  minuteFlag (logEvent s 3 4 noCap old) 7

/-! ## Contract (R121, R123) -/

/-- The serial of the contract in force or pending, whichever is higher (R123). -/
def topSerial (s : State) : Nat :=
  let f := if hasContract s then cSerial (contract s) else 0
  match pendOf s 0x2000 0 with
  | none => f
  | some p => max f (cSerial p.value)

/-- The first code of a list of conditions that hold, the list being in the order of R25. -/
def firstCode : List (Nat × Bool) → Nat
  | [] => 0
  | (c, b) :: rest => if b then c else firstCode rest

/-- The code that answers a contract write of `len` bytes (R25, R41, R121, R123). DESIGN CHOICE (log entry 74): an emergency depth
above 10,000, more than the whole ceiling, is refused with 0x03 like any value out of range; the spec lists no such condition. -/
def contractCode (s : State) (v : Nat) (len : Nat) (sigs : List Sig) : Nat :=
  firstCode [(0x08, fieldAt v 0 1 / 16 != 1),
    (0x07, !(sigOk (ownerKeys s) sigs[0]? && sigOk (tenantKeys s) sigs[1]?)),
    (0x04, fieldAt v 1 3 != 0 || fieldAt v 36 28 != 0),
    (0x03, fieldAt v 0 1 != 0x17 || decide (len < 2952) || decide (cSerial v ≤ topSerial s) || cStart v % 60000 != 0 ||
      decide (cUp v < 1000) || decide (cDown v < 1000) || decide (dget s 0x4020 0 < cReserve v) ||
      decide (10000 < cDepth v) || decide (1440 < cMinutes v))]

/-- The contract hash (R121). -/
def contractHashOf (v : Nat) : Nat := hashOf v 2944

/-- The flags of the minute that begins follow the contract that takes effect at its start (R124, R126, R131). -/
def contractFlags (s : State) : State :=
  if s.fac.mOpen then
    { s with fac.mFlags := setBit (setBit s.fac.mFlags 4 (contractExpired s s.epo.count)) 6 false }
  else s

/-- CONTRACT_TAKES_EFFECT (R123, R126, R137, R138). -/
def contractInForce (s : State) (v : Nat) : State :=
  let prev := if hasContract s then cSerial (contract s) else 0
  let s := dset (dset (dset s 0x2000 0 v) 0x2012 0 (cUp v)) 0x2013 0 (cDown v)
  let s := { s with fac.emCount := 0, fac.emThis := false, fac.contractHash := contractHashOf v }
  logEvent (minuteFlag (contractFlags s) 2) 6 4 (cSerial v) prev

/-- Contract state (object 0x2001): 0 none, 1 pending, 2 in force, 3 expired. -/
def contractState (s : State) : Nat :=
  if hasContract s then (if contractExpired s s.epo.count then 3 else 2)
  else if (pendOf s 0x2000 0).isSome then 1 else 0

/-! ## Metering (R129, R130, R132) -/

/-- The shelf state of charge: the mean over the strings in service (R61, R132), 0.01 %. -/
def shelfSoc (s : State) : Nat :=
  match outOfService s .A, outOfService s .B with
  | false, false => ((s.strs.energy.get .A).soc + (s.strs.energy.get .B).soc) / 2
  | false, true => (s.strs.energy.get .A).soc
  | true, false => (s.strs.energy.get .B).soc
  | true, true => 0

/-- The rack allowance in force, kW. -/
def allowanceKW (s : State) : Nat := s.lead.allowance / 1000

/-- Judge the second that ends (R132), on the epochs metered in it: µJ over epochs of 1 ms. -/
def closeSecond (s : State) : State :=
  let n := s.fac.secN
  let s :=
    if n = 0 then s
    else { s with
      fac.mPeak := max s.fac.mPeak (s.fac.secE / (1000 * n))
      fac.mOver := if s.fac.secCeil * 1000 * 101 < s.fac.secE * 100 then satInc s.fac.mOver 60 else s.fac.mOver }
  { s with
    fac.mEmSec := if s.fac.secEm then satInc s.fac.mEmSec 60 else s.fac.mEmSec
    fac.secE := 0, fac.secN := 0, fac.secCeil := 0, fac.secEm := false }

/-- I_r of the shelf, mA (R128): 400 A for a DC input, 450 A rms per phase for AC. -/
def ratedCurrent (s : State) : Nat := if s.fac.un = 800 then 400000 else 450000

/-- An input current, mA, lies above 120 % of I_r or between 1 and 5 % of it (R128). DEDUCED (log entry 75): the lower band
takes 1 % and leaves out 5 %, where the tighter row of R128 holds. -/
def currentOut (s : State) (i : Nat) : Bool :=
  let r := ratedCurrent s
  decide (120 * r < 100 * i) || (decide (r ≤ 100 * i) && decide (100 * i < 5 * r))

/-- The flags that the epochs that close give the minute (R117, R128): METRO_RANGE above 1 s out of range, and RAMP_EXCURSION
where protection or a takeover moved the draw by more than the contract's fault step allowance (log entry 76). -/
def meterFlags (s : State) (out : Bool) (n watts : Nat) : Nat :=
  let f := if out && 1000 < s.fac.metroSec + n then setBit s.fac.mFlags 12 true else s.fac.mFlags
  if s.fac.stepDue && hasContract s && decide (faultStep s < ((watts : Int) - s.fac.lastIn).natAbs) then setBit f 8 true
  else f

/-- The energy of the `n` epochs that close (R129, R529), without loss of resolution: counters, second, range condition, lowest
allowance. -/
def meterEpochs (s : State) (e : EpochIn) (n : Nat) : State :=
  let st := e.strUJ.a + e.strUJ.b
  let out := e.amps.any (currentOut s)
  let watts := e.inputUJ / (1000 * n)
  { s with
    fac.cum := (s.fac.cum + (s.fac.cumUJ + e.inputUJ) / 1000) % 2 ^ 64
    fac.cumUJ := (s.fac.cumUJ + e.inputUJ) % 1000
    fac.cumStr := ⟨s.fac.cumStr.a + e.strUJ.a, s.fac.cumStr.b + e.strUJ.b⟩
    fac.mStr := s.fac.mStr + st
    fac.secE := s.fac.secE + e.inputUJ
    fac.secN := s.fac.secN + n
    fac.secCeil := s.fac.secCeil + n * shelfCeiling s
    fac.secEm := s.fac.secEm || emergency s
    fac.metroSec := if out then s.fac.metroSec + n else s.fac.metroSec
    fac.mFlags := meterFlags s out n watts
    fac.stepDue := false
    fac.mMinAllow := min s.fac.mMinAllow (allowanceKW s)
    fac.lastIn := watts
    fac.lastStr := tdiv st (1000 * n)
    fac.lastStr2 := ⟨tdiv e.strUJ.a (1000 * n), tdiv e.strUJ.b (1000 * n)⟩
    lead.winEnergy := s.lead.winEnergy + ((e.inputUJ : Int) + st) }

/-! ## Minute record and chain (R130 to R136) -/

/-- The slot index of the module active at the minute's end: the peer's on a standby, which closes in shadow. -/
def sourceSlot (s : State) : Nat := if isActive s then slotIdx s else slotIdx s ^^^ 1

/-- The 64-byte minute record (R130, R132) as a little-endian value. -/
def minuteRecord (s : State) (socEnd : Nat) : Nat :=
  packAt [(0, 1, 0x18), (1, 1, sourceSlot s), (2, 2, s.fac.mFlags), (4, 4, s.fac.minuteNo),
    (8, 4, s.fac.cum / 1000 - s.fac.mStart / 1000), (12, 4, s.fac.mPeak), (16, 1, s.fac.mOver), (17, 1, s.fac.mEmSec),
    (18, 2, s.fac.mSoc), (20, 2, socEnd), (22, 2, s.fac.mMinAllow), (24, 4, s.fac.mFill / 1000),
    (28, 4, toTwos (tdiv s.fac.mStr 1000000) 32), (32, 8, s.fac.cum), (40, 24, s.fac.chain % 256 ^ 24)]

/-- The event entries of a minute in log order (R134). -/
def minuteEvents (s : State) (no : Nat) : List Nat :=
  (s.fac.events.map (·.2)).filter (fun v => fieldAt v 16 4 == no % 2 ^ 32)

/-- The chain digest of a minute's record (R134). -/
def chainDigest (s : State) (rec : Nat) : Nat :=
  Config.sha256 (bytesOf rec 64 ++ ((minuteEvents s (fieldAt rec 4 4)).map (fun v => bytesOf v 32)).flatten)

/-- The hour seals of the last 168 hours whose minute record is present and whose seal is missing (R353). -/
def missingSeals (s : State) : List SignJob :=
  let done := s.fac.seals.map (fun p => fieldAt p.2 4 4)
  let due := (s.fac.minutes.map (·.2)).filter (fun r =>
    (fieldAt r 4 4 + 1) % 60 == 0 && decide (minuteOf s ≤ fieldAt r 4 4 + 10080) && !done.contains (fieldAt r 4 4) &&
      !s.sec.queue.any (fun j => j.kind == 0 && j.minute == fieldAt r 4 4))
  due.map (fun r => SignJob.mk 0 (fieldAt r 4 4) (chainDigest s r) (mget s.fac.hourHash (fieldAt r 4 4)) 4 0)

/-- MISSING_HOUR_SEALS (R353): queued before any other signature. -/
def queueMissing (s : State) : State := { s with sec.queue := missingSeals s ++ s.sec.queue }

/-- The contract hash at the last minute of each hour (R136), 0 with no contract: the last 168 hours. -/
def keepHash (s : State) : SMap :=
  let no := s.fac.minuteNo
  if (no + 1) % 60 = 0 then
    mset (s.fac.hourHash.filter (fun p => decide (no < p.1 + 10080))) no (contractHashNow s)
  else s.fac.hourHash

/-- Close the open minute (R130, R134, R135): the record enters the ring of 10,080 and the chain. -/
def closeMinute (s : State) (socEnd : Nat) : State :=
  if s.fac.mOpen then
    let s := if hasContract s then s else minuteFlag s 3
    let r := minuteRecord s socEnd
    let d := chainDigest s r
    let m := mset s.fac.minutes s.fac.minuteN r
    { s with
      fac.hourHash := keepHash s
      fac.latest := r
      fac.minutes := if 10080 ≤ s.fac.minuteN then mdel m (s.fac.minuteN - 10080) else m
      fac.minuteN := s.fac.minuteN + 1
      fac.chain := d
      fac.mOpen := false
      fac.mStart := s.fac.cum
      fac.mStr := 0 }
  else s

/-- Open metering minute `no` (R124, R130, R131, R522): what was metered since the last minute closed enters it; it carries
CONTRACT_EXPIRED after the last day of the contract. Its lowest allowance is that of the epochs metered in it. -/
def openMinute (s : State) (no : Nat) : State :=
  { s with
    fac.minuteNo := no, fac.mOpen := true, fac.mPeak := 0, fac.mOver := 0, fac.mEmSec := 0,
    fac.mSoc := shelfSoc s, fac.mMinAllow := 65535, fac.mFill := 0
    fac.mFlags := setBit s.fac.nextFlags 4 (contractExpired s s.epo.count), fac.nextFlags := 0,
    fac.metroSec := 0, fac.emThis := false, fac.secE := 0, fac.secN := 0, fac.secCeil := 0, fac.secEm := false }

/-- HOUR_SEAL_DUE (R136): with the hour's last minute closed, the active module queues its seal. -/
def sealDue (s : State) : State :=
  if isActive s && (s.fac.minuteNo + 1) % 60 == 0 then queueSeal s s.fac.minuteNo s.fac.chain else s

/-- The open minute closes, and where it ends an hour its seal is due (R130, R136). -/
def endMinute (s : State) : State :=
  if s.fac.mOpen then sealDue (closeMinute (closeSecond s) (shelfSoc s)) else s

/-- The contract's part of a minute boundary: the end of an emergency that was in force up to it (R126), the restart of the
count at a contract day (R126). -/
def minuteContract (s : State) (n : Nat) : State :=
  let em := emergency s || emergencyCapAt s (n - 1)
  let s := if hasContract s && em && decide (cMinutes (contract s) ≤ s.fac.emCount) then liftEmergency s else s
  if hasContract s && contractMinute s n % 1440 == 0 then { s with fac.emCount := 0 } else s

/-- The end of the last metering minute that the shelf has closed (R522). -/
def closedEnd (s : State) : Nat := if s.fac.latest = 0 then 0 else 60000 * (fieldAt s.fac.latest 4 4 + 1)

/-- METERING_MINUTE_BOUNDARY (R130) at the opening of epoch `n`, a multiple of 60,000: the open minute closes, its seal is
queued, the next opens. A minute that is not past the last one closed is not opened (R522). -/
def minuteBoundary (s : State) (n : Nat) : State :=
  let s := endMinute s
  if max s.epo.noMinuteUntil (closedEnd s) ≤ n then
    countEmergency (minuteContract (openMinute s (n / 60000)) n)
  else s

/-- A module with a decided role and no minute open opens one once its count has passed the last minute closed (R522,
R532). -/
def ensureMinute (s : State) (n : Nat) : State :=
  if !s.fac.mOpen && s.red.role != .noRole && decide (max s.epo.noMinuteUntil (closedEnd s) ≤ n) then
    openMinute s (n / 60000)
  else s

/-! ## The archive in the LD0 window (R443) -/

/-- The lowest and the highest of a list, 0 for none. -/
def lowHigh (l : List Nat) : Nat × Nat := (l.foldl min (l.headD 0), l.foldl max 0)

/-- The record archive (R443), relative to its start in LD0. -/
abbrev archive : Nat := ld0Base + 0x240000000

/-- ARCHIVE_UPDATE (R443): the minute records, event entries and hour seals of MRAM, then the header. -/
def refreshArchive (s : State) : State :=
  let mins := s.fac.minutes.map (·.2)
  let hours := s.fac.seals.map (·.2)
  let mr := lowHigh (mins.map (fun v => fieldAt v 4 4))
  let hr := lowHigh (hours.map (fun v => (fieldAt v 4 4 + 1) / 60))
  let s := mins.foldl (fun s v => dramPut s (archive + 0x40000000 + 64 * (fieldAt v 4 4 % 2 ^ 24)) 64 v) s
  let s := s.fac.events.foldl (fun s p => dramPut s (archive + 0x80000000 + 32 * (p.1 % 2 ^ 25)) 32 p.2) s
  let s := hours.foldl (fun s v =>
    dramPut s (archive + 0xC0000000 + 8192 * ((fieldAt v 4 4 + 1) / 60 % 2 ^ 19)) (min (varLen 8192 v) 8192) v) s
  let q := s.net.archiveSeq + 2
  dramPut { s with net.archiveSeq := q } archive 48
    (packAt [(0, 8, q), (8, 8, mr.1), (16, 8, mr.2), (24, 8, s.fac.eventN), (32, 8, hr.1), (40, 8, hr.2)])

end Sys2Proof.Machine
end

