-- ==== Sys2Proof/Machine/Lease.lean ====
section
/-! DEFINITION. The shelf lease: lease words (R318), fitness (R333), the role a module takes and gives up (R317 to R322,
R337, R523), and the records of redundancy (R343, R344). -/
namespace Sys2Proof.Machine

/-! ## Fitness (R333) -/

/-- Owner and Tenant keys are present (R333 bit 1). -/
def enrolled (s : State) : Bool := !(ownerKeys s).isEmpty && !(tenantKeys s).isEmpty

/-- The epoch image is complete and at most 10 epochs old (R329). -/
def imageFresh (s : State) : Bool :=
  match s.red.image with
  | none => false
  | some e => decide (s.epo.count ≤ e + 10)

/-- Both lease paths are valid (R333 bit 4). -/
def pathsOk (s : State) : Bool := s.red.linkUp && s.red.lineOk

/-- A standby's slot 1, with slot 1 in service, matches the active module's (R410). -/
def slotMatches (s : State) : Bool :=
  !isStandby s || s.lpe.slotNow == 0 || (2 ≤ s.lpe.slot1.state && s.lpe.slot1.hash == s.lpe.peerHash)

/-- The fitness bits (R333). -/
def fitness (s : State) : Nat :=
  flagsAt [(0, inLive s), (1, enrolled s), (2, s.grd.fault.isEmpty), (3, imageFresh s && s.red.current),
    (4, pathsOk s), (5, decide (1000 ≤ s.red.recordsOk)), (6, decide (1000 ≤ s.red.inAgree)),
    (7, decide (250 ≤ s.red.stAgree) && !s.red.pwmBad && slotMatches s),
    (8, decide (100 ≤ s.red.fcAgree)), (9, s.red.fwSame), (10, !s.red.driveFault)]

/-- ABLE: bits 3 to 0 (R333). -/
def ableIn (f : Nat) : Bool := field f 0 4 == 15

/-- HFIT: ABLE together with bits 5 and 4, and bit 10 (R333). -/
def hfitIn (f : Nat) : Bool := ableIn f && field f 4 2 == 3 && bit f 10

/-- FIT: HFIT together with bits 9 to 6 (R333). -/
def fitIn (f : Nat) : Bool := hfitIn f && field f 6 4 == 15

/-- This module is ABLE. -/
def able (s : State) : Bool := ableIn (fitness s)

/-- The peer reported FIT and HFIT in its last lease word (R318). -/
def peerFit (s : State) : Bool := s.red.peerHere && bit s.red.peerWord.toNat 9
def peerHfit (s : State) : Bool := s.red.peerHere && bit s.red.peerWord.toNat 10

/-! ## Lease words (R317, R318) -/

/-- The slot index of the peer (R35). -/
def peerSlot (s : State) : Nat := slotIdx s ^^^ 1

/-- The lease word of this module (R318). -/
def leaseWord (s : State) (release : Bool) : Nat :=
  withCrc8 (slotIdx s + s.red.seq % 256 * 2 ^ 16 +
    flagsAt [(3, s.red.holding && !release), (4, release), (5, s.red.driveEn), (8, able s), (9, fitIn (fitness s)),
      (10, hfitIn (fitness s))])

/-- Send a lease word (R317, R318): SEQ advances for each word. -/
def sendWord (s : State) (release : Bool) : State :=
  { s with red.wordOut := BitVec.ofNat 32 (leaseWord s release), red.seq := (s.red.seq + 1) % 256 }

/-- A received word is valid: its CRC holds and its SLOT is the peer's (R318). -/
def wordValid (s : State) (w : Nat) : Bool := withCrc8 w == w && w % 8 == peerSlot s

/-! ## The drive gate (R320, R480) -/

/-- Reload the own lease timer to t_SDROP, 15,000 reference clocks (R317, R486). In Watch and Umbra, without the
reference, or after a lockstep mismatch it stays invalid (R320, R471). -/
def loadTimer (s : State) : State :=
  if inLive s && !s.power.refGone && !s.power.lsmm then { s with red.timerOk := true, red.remain := 15000 } else s

/-- Clear the own lease timer: DRIVE_EN falls (R320). -/
def clearTimer (s : State) : State := dropDrive { s with red.timerOk := false, red.remain := 0 }

/-- DRIVE_EN at a sample boundary (R320, R335, R480): the AND of the drive request, the valid timer and Live; it is asserted
at clock 0 of a sample. -/
def updDrive (s : State) : State :=
  let on := s.red.driveReq && s.red.timerOk && inLive s
  if on && !s.red.driveEn then { refreshActive { s with red.driveEn := true } with red.drvTick := s.epo.ticks }
  else if !on && s.red.driveEn then dropDrive s
  else s

/-! ## Records (R343, R344) -/

/-- The redundancy body (R343). -/
def redBody (s : State) (kind before after reason mask : Nat) : Nat :=
  packAt [(0, 1, kind), (1, 1, before), (2, 1, after), (3, 1, reason), (8, 4, s.red.recSeq), (12, 4, s.red.recAge),
    (16, 2, fitness s), (18, 1, flagsAt [(0, s.red.lanes.a.up), (1, s.red.lanes.b.up)]), (20, 4, mask),
    (24, 4, s.red.lanes.a.crcFails + s.red.lanes.b.crcFails), (28, 4, s.red.lanes.a.replays + s.red.lanes.b.replays),
    (32, 4, s.red.digests.1), (36, 4, s.red.digests.2)]

/-- The slot index that drives: this module's where it is active, otherwise the peer's. -/
def drivingSlot (s : State) : Nat := if isActive s then slotIdx s else peerSlot s

/-- A redundancy record that changes no role. -/
def redRec (s : State) (severity cause : Nat) : State :=
  writeRecB s 7 severity cause (redBody s s.red.relKind (drivingSlot s) (drivingSlot s) s.red.relWhy 0)

/-- The body of R487: states before and after, and a clock. -/
def stateBody (before after clock : Nat) : Nat := packAt [(0, 1, before), (1, 1, after), (2, 1, clock)]

/-- A record of block 9 about this module's state (R487, R536). -/
def stateRec (s : State) (severity cause before after clock : Nat) : State :=
  writeRecB s 9 severity cause (stateBody before after clock)

/-! ## Roles (R93, R337, R523) -/

/-- A role decided in negotiation (R523): record block 9, cause 0x09; an active module queues the missing seals (R353). -/
def decideRole (s : State) (r : RedRole) : State :=
  let s := stateRec { s with red.role := r } 0 0x09 (stateCode s) (stateCode s) 0
  if r = .active then queueMissing s else s

/-- Frames that stay queued when the lease is lost: not the pace, periodic cap and key frames of the lead. -/
def keptAfter (f : Frame) : Bool := match f.body with
  | .pace _ => false
  | .cap p => p.urgent
  | .beat _ => true
  | .key _ => false
  | .ask _ => true
  | .reply _ => true
  | .opened _ => true

/-- The lead gives the lease up, or loses it: it stops driving the line, and its pace, periodic cap and key frames leave the
queues (R94, R432, R436). -/
def loseLead (s : State) : State :=
  { s with
    lead.isLead := false, lead.drives := false, lead.newLead := false, lead.releasing := false
    lead.claims := [], lead.claiming := false, lead.elapsed := none, lead.relaxed := false, lead.again := false
    net.txA := s.net.txA.filter keptAfter, net.txB := s.net.txB.filter keptAfter }

/-- The lease lapses for a module when its own count reaches EXPIRY (R89). -/
def expired (s : State) : Bool :=
  match s.lead.expiry with
  | some x => decide ((s.epo.count + 65536 - x) % 65536 < 32768)
  | none => decide (s.lead.entryEpoch + 10 ≤ s.epo.count)

/-- The rack lead lease passes with the active role (R93), unless it has lapsed. -/
def followLead (s : State) : State :=
  if s.lead.holder = some (peerSlot s) ∧ expired s = false then
    { s with lead.holder := some (slotIdx s), lead.isLead := true }
  else s

/-- The serial of a user calibration layer (R511). -/
def calSerial (v : Nat) : Nat := fieldAt v 4 4

/-- SHA-256 over a user layer (R516). -/
def layerHash (v : Nat) : Nat := hashOf v (varLen 5337 v)

/-- SHA-256 over the user layer in force (R516). -/
def userHash (s : State) : Nat := layerHash (calLayer s)

/-- At a takeover the own user layer applies; where its hash differs from that of the previous module's, USER_CAL is set and
kind 11 logged with role 4 (R518). -/
def layerTaken (s : State) : State :=
  match s.red.peerLayer with
  | none => s
  | some v =>
    if userHash s = layerHash v then s
    else logEvent (minuteFlag s 0) 11 4 (calSerial (calLayer s)) (calSerial v)

/-- A takeover by this module (R319, R335, R337), by its cause (1 explicit, 2 silent, 3 planned) and kind (R343): it claims,
loads its timer and sends HOLD; DRIVE_EN follows at the next sample start. TAKEOVER is set, kind 12 logged, the record written,
and the phase check of R336 starts; a drill runs for its duration (R340). The guard's count starts at zero (R310), the step of
its draw is compared with the contract's fault step allowance (R117), staged writes are discarded (R393), a re-shard build ends
(R188), the own user calibration layer applies (R518), and missing seals are queued (R353). The eclipse in the record is a free
value (log entry 104). -/
def takeover (s : State) (cause kind reason : Nat) : State :=
  let s := { s with
    red.role := if s.red.peerHere then .active else .alone
    red.holding := true, red.claimed := true, red.driveReq := true, red.peerHold := false
    red.origB := some (!s.power.strapB), red.relKind := kind, red.relWhy := reason, red.handover := none
    red.checking := true, red.checkLeft := 10, red.failMask := 0, red.fitMin := 0
    red.checkSums := List.replicate 24 PhaseSum.zero, red.checkN := 0
    red.drill := if kind = 4 then some (s.epo.ticks + 60000 * fieldAt (dget s 0x7001 0) 6 2) else none
    fac.stepDue := true
    grd.window := [], grd.violThis := [], grd.warn := [], grd.fault := []
    dic.staged := [], eng.mapNext := none, eng.built := false, eng.switchAt := none }
  let s := sendWord (loadTimer (followLead s)) false
  let s := logEvent (minuteFlag (bump (layerTaken s) 0x7004 (cause - 1)) 9) 12 4 (slotIdx s) (peerSlot s)
  queueMissing (writeRecB (drawn s) 7 (if cause = 2 then 2 else 0) cause
    (redBody s kind (peerSlot s) (slotIdx s) reason 0 + packAt [(4, 4, freeOf s)]))

/-- A module gives the active role up (R322, R335): its timer clears, DRIVE_EN falls, RELEASE is sent, and it is standby. -/
def giveUp (s : State) (kind reason : Nat) : State :=
  let s := { s with
    red.role := .standby, red.holding := false, red.claimed := false, red.driveReq := false, red.relSet := false
    red.relKind := kind, red.relWhy := reason, red.handover := none, red.checking := false, red.forwards := []
    lead.holder := if s.lead.isLead then some (peerSlot s) else s.lead.holder }
  sendWord (clearTimer (loseLead s)) true

end Sys2Proof.Machine
end

