-- ==== Sys2Proof/Machine/Power.lean ====
section
/-! DEFINITION. Power states, start-up, hold-up, clocks and bridges (17_module_internals.md, 20_startup_power_loss.md). -/
namespace Sys2Proof.Machine

/-! ## Commits (R527, R529, R531) -/

/-- The metering commit (R527); `flush` marks that of a complete flush. -/
def commitOf (s : State) (flush : Bool) : Commit :=
  { epoch := s.epo.count, sidereal := s.power.sidereal, cum := s.fac.cum, cumUJ := s.fac.cumUJ,
    cumStr := s.fac.cumStr, minuteNo := s.fac.minuteNo, mOpen := s.fac.mOpen, mStart := s.fac.mStart, mPeak := s.fac.mPeak,
    mOver := s.fac.mOver, mEmSec := s.fac.mEmSec, mSoc := s.fac.mSoc, socNow := shelfSoc s,
    mMinAllow := s.fac.mMinAllow, mFill := s.fac.mFill, mStr := s.fac.mStr, mFlags := s.fac.mFlags,
    emCount := s.fac.emCount, chain := s.fac.chain, flushed := flush }

/-- Commit the metering state (R527). -/
def commitNow (s : State) (flush : Bool) : State := { s with power.commit := some (commitOf s flush) }

/-- The attribution objects among the dictionary values: 0x3100 and 0x3101. -/
def attrKey (k : Nat) : Bool := k / 16777216 == 0x3100 || k / 16777216 == 0x3101

/-- The shelf gross energy metered so far, µJ: the input counter with its part below 1 mJ, and the two strings. -/
def grossUJ (cum cumUJ : Nat) (str : Two Int) : Int := 1000 * cum + cumUJ + str.a + str.b

/-- Commit the attribution table (R527). -/
def commitAttr (s : State) : State :=
  { s with power.attrCommit :=
      { vals := s.dic.vals.filter (fun p => attrKey p.1), carry := s.lead.carry,
        gross := grossUJ s.fac.cum s.fac.cumUJ s.fac.cumStr } }

/-! ## Leaving and entering states (R471 to R473) -/

/-- One string when an active module leaves Live (R473): zeroed, contactors opened; a latch or isolation stays (R225). -/
def outOpen (s : State) (x : Str) : State :=
  match (conv s x).st with
  | .latched => toOpen s x .latched
  | .ovLatch => toOpen s x .ovLatch
  | _ => toOpen (unfollow s x) x (if (conv s x).ownLatch then .latched else restState s x)

/-- The engine's domains reset (R478, R480 to R482): pulses P1 to P3, and what waits in F0 and F2. -/
def resetEngineDomain (s : State) : State :=
  let s := resetPulse (resetPulse (resetPulse s 1) 2) 3
  let s := resetFifo (resetFifo s 0 s.eng.feedQ.length) 2 s.trc.recQ.length
  { s with eng.feedQ := [], trc.recQ := [] }

/-- The engine goes dark (R142, R143, R473): work in progress is abandoned, loads included; the hold forecast serves
(R164). -/
def engineDark (s : State) : State :=
  let s := if s.eng.state = .dark then s else resetEngineDomain s
  { s with
    eng.state := .dark, eng.waking := false, eng.started := none, eng.holdFc := true, eng.returning := false
    eng.validRun := 0, eng.sram := none, eng.mapNext := none, eng.built := false, eng.switchAt := none, eng.rebuild := none
    eng.candidate := none, eng.candAcked := false, eng.swapRun := false, eng.swapAlone := false, eng.adoptDue := false
    eng.revert := false
    eng.loaders := [], eng.slots := s.eng.slots.map (fun k => if k.state = 1 then Slot.empty else k) }

/-- The module state changes, with its record (block 9, cause 0x06). -/
def setMState (s : State) (m : MState) : State :=
  let before := stateCode s
  let s := { s with power.mstate := m }
  stateRec s 0 0x06 before (stateCode s) 0

/-- LEAVE_LIVE (R473): an active module zeroes and opens its strings, releases DRIVE_EN and stops the loop; either module
puts the engine in Dark. In Watch no module holds the lease (R523). -/
def leaveLive (s : State) : State :=
  let s :=
    if isActive s then
      let s := clearTimer { outOpen (outOpen s .A) .B with red.driveReq := false }
      loseLead { s with
        lpe.run := false, cot.iref := List.replicate 24 0, cot.irefBuf := List.replicate 24 0 }
    else clearTimer s
  let s := { engineDark s with red.role := .noRole, red.holding := false, red.claimed := false }
  setMState s .watch

/-- The conditions of Watch to Live (R472). -/
def mayGoLive (s : State) : Bool :=
  s.power.mstate == .watch && s.power.liveReq && s.red.role != .noRole && s.power.sup54 && !s.grd.intBlank &&
    s.power.hold == .none && !s.power.refGone

/-- Watch to Live where the conditions hold (R472, R521): an active module requests its drive; the engine wakes where its
PLL is enabled (R143, R485). A module that has heard no lead since this entry waits ten epochs (R89). -/
def tryLive (s : State) : State :=
  if mayGoLive s then
    let s := { s with
      power.liveTick := s.epo.ticks, power.prebiasRec := false
      lead.entryEpoch := s.epo.count, lead.expiry := none
      red.driveReq := isActive s
      eng.waking := s.power.eplEn && s.eng.state == .dark }
    setMState s .live
  else s

/-- Entry to Umbra, or loss of all supply: the dies but the always-on part lose theirs (R142, R471, R473, R474). -/
def losePower (s : State) (m : MState) : State :=
  let s := { dropDrive (engineDark s) with
    power.mstate := m, power.liveReq := false, power.eplEn := false, power.eplLock := false, power.cplLock := false
    power.yplLock := false
    red.role := .noRole, red.holding := false, red.claimed := false, red.driveReq := false, red.timerOk := false
    red.remain := 0, red.linkUp := false, red.lineOk := false
    red.lanes := ⟨{ s.red.lanes.a with up := false }, { s.red.lanes.b with up := false }⟩
    lead.isLead := false, lead.drives := false, lead.claims := [], lead.claiming := false, lead.elapsed := none
    lead.relaxed := false, lead.again := false
    cot.cmd := 0, cot.fb := 0
    net.dram := [], net.cxl := 0, net.txA := [], net.txB := [], net.onA := none, net.onB := none }
  let off := fun (s : State) (x : Str) =>
    match (conv s x).st with
    | .latched => s
    | .ovLatch => s
    | _ => setConv s x { conv s x with st := if (conv s x).ownLatch then .latched else restState s x }
  off (off s .A) .B

/-- The meaning of AUX_SUPPLY_APPLIED (R472, R521). -/
def execAuxSupplyApplied (s : State) : Out :=
  if s.power.mstate = .noSupply then .next { s with power.mstate := .umbra, power.pfw := false } else .next s

/-! ## Start-up (R360, R401, R402, R521, R522, R531, R532) -/

/-- The nominal input voltage (R567): the rating most records give, ties to the lower; with none read, 415 V for an AC shelf
and 800 V for a DC shelf, by the value held before. -/
def nominalV (before : Nat) (ratings : List Nat) : Nat :=
  let n := fun v => (ratings.filter (· == v)).length
  if n 415 = 0 ∧ n 480 = 0 ∧ n 800 = 0 then (if before = 800 then 800 else 415)
  else if n 480 ≤ n 415 ∧ n 800 ≤ n 415 then 415
  else if n 800 ≤ n 480 then 480
  else 800

/-- The bank that boots (R360): the bank selected where it passes, otherwise the other; none where neither passes. -/
def bootBank (s : State) (b : BootIn) : Option Bool :=
  let want := s.sec.activate.getD s.sec.bankB
  let ok := fun (k : Bool) =>
    let bank := if k then s.sec.banks.b else s.sec.banks.a
    (if k then b.okB else b.okA) && bank.state != 0 && bank.state != 4
  if ok want then some want else if ok (!want) then some (!want) else none

/-- The firmware measurement (R362) of the bank that runs. -/
def measurement (s : State) : Nat :=
  let k := runBank s
  let m := k.comps.foldl (fun m c => Config.sha256 (bytesOf m 32 ++ bytesOf c.1 2 ++ bytesOf c.2 32)) 0
  Config.sha256 (bytesOf m 32 ++ bytesOf k.version 4 ++ bytesOf k.security 4 ++ [b2n s.sec.bankB])

/-- A value written to the object outlives a restart (R382, R402): persistence MRAM or OTP. -/
def persistent (o : Nat) : Bool :=
  match objDesc o with
  | none => false
  | some d => 2 ≤ d.pers && d.pers ≤ 3

/-- What a restart returns to its reset value, group by group; what MRAM, OTP, the flash and the islands hold stays (R402,
R473, R522). -/
def volatile (s : State) : State :=
  { s with
    power := { Power.reset with
      mstate := .watch, sup54 := true, sidereal := s.power.sidereal, cplLock := true, yplLock := true
      pllRecord := s.power.pllRecord, busErrors := []
      ram := s.power.ram.filter (fun p => 0x48000000 ≤ p.1 && p.1 < 0x48400000)
      serial := s.power.serial, ident := s.power.ident, commit := s.power.commit, attrCommit := s.power.attrCommit }
    epo := { Epo.reset with ticks := s.epo.ticks }
    lead := Lead.reset
    fac := { Fac.reset with
      emCount := s.fac.emCount, announcedAt := s.fac.announcedAt, chain := s.fac.chain, events := s.fac.events
      eventN := s.fac.eventN, minutes := s.fac.minutes, minuteN := s.fac.minuteN, latest := s.fac.latest
      seals := s.fac.seals, sealN := s.fac.sealN, un := s.fac.un, rectOk := s.fac.rectOk
      contractHash := s.fac.contractHash, hourHash := s.fac.hourHash }
    eng := Eng.reset
    cot := { Cot.reset with
      ovLatch := s.cot.ovLatch, refused := s.cot.refused, checkedOff := s.cot.checkedOff, induct := s.cot.induct
      str := ⟨{ Conv.reset with ownLatch := s.cot.str.a.ownLatch }, { Conv.reset with ownLatch := s.cot.str.b.ownLatch }⟩
      vTgt := dget s 0x5000 0, slew := dget s 0x5001 0 }
    lpe := Lpe.reset
    trc := Trc.reset
    strs := { Strs.reset with
      tripOv := s.strs.tripOv, tripUv := s.strs.tripUv, tripHeld := s.strs.tripHeld, clearTicks := s.strs.clearTicks
      drawers := s.strs.drawers, isoCause := s.strs.isoCause }
    grd := { Grd.reset with intBlank := s.grd.intBlank, closeTicks := s.grd.closeTicks }
    red := { Red.reset with driveFault := s.red.driveFault, origB := s.red.origB }
    sec := { s.sec with
      q := 64 * s.sec.ctrLeaf, lowerTree := none, queue := [], sessions := [], passWait := false, activate := none
      keyCur := none, keyPrev := none, keyNext := none, keyChunks := [], fresh := [], keyAsked := []
      grant := none, challenge := freeOf s % 2 ^ 256, issued := 0 }
    net := { Net.reset with
      chans := fieldAt (dget s 0x1000 0) 0 1, fast := fieldAt (dget s 0x1000 0) 1 1 == 1, cxl := 1, dram := s.net.dram }
    icu := Icu.reset
    dic := { Dic.reset with
      vals := s.dic.vals.filter (fun p => persistent (p.1 / 16777216))
      pend := (s.dic.pend.filter (fun p => persistent p.object && p.cls != 4)).map (fun p => { p with due := 0 })
      free := s.dic.free + 1 } }

/-- Class-B values come into force at the restart (R21). -/
def applyRestart (s : State) : State :=
  (s.dic.pend.filter (fun p => p.cls == 4)).foldl (fun s p => dset s p.object p.element p.value) s

/-- The counts of R522: sidereal counter and epoch count from the last commit and the time the always-on domain kept. -/
def restoreCounts (s : State) (b : BootIn) : State :=
  let c := s.power.commit
  let ce := (c.map (·.epoch)).getD 0
  let cs := (c.map (·.sidereal)).getD 0
  let sid := if b.sidKept then s.power.sidereal + b.elapsed else cs
  let gone := (sid - cs) * 1000 / 32768
  { s with
    power.sidereal := sid % 2 ^ 48
    epo.count := if b.sidKept then ce + gone else (ce / 60000 + 1) * 60000
    epo.ticks := s.epo.ticks + (if b.sidKept then b.elapsed * 1000 / 32768 else 0) }

/-- The metering state of the last commit (R522, R527). -/
def restoreMetering (s : State) : State :=
  match s.power.commit with
  | none => s
  | some c => { s with
      fac.cum := c.cum, fac.cumUJ := c.cumUJ, fac.cumStr := c.cumStr, fac.minuteNo := c.minuteNo, fac.mOpen := c.mOpen
      fac.mStart := c.mStart, fac.mPeak := c.mPeak, fac.mOver := c.mOver, fac.mEmSec := c.mEmSec, fac.mSoc := c.mSoc
      fac.mMinAllow := c.mMinAllow, fac.mFill := c.mFill, fac.mStr := c.mStr, fac.mFlags := c.mFlags
      fac.emCount := c.emCount, fac.chain := c.chain }

/-- Attribution at start-up (R531): the committed table; the shelf gross energy from its commit up to the last metering
commit is booked to the unreported counter. -/
def restoreAttr (s : State) : State :=
  let a := s.power.attrCommit
  let later := match s.power.commit with
    | none => 0
    | some c => (tdiv (grossUJ c.cum c.cumUJ c.cumStr - a.gross) 1000).toNat
  let s := { s with
    dic.vals := a.vals.foldl (fun m p => mset m p.1 p.2) (s.dic.vals.filter (fun p => !attrKey p.1))
    lead.carry := a.carry }
  dset s 0x3101 0 (dget s 0x3101 0 + later)

/-- The elements of a ring at one ring position, removed: they read as zeros (R401). -/
def ringDrop (m : SMap) (size e : Nat) : SMap := m.filter (fun p => p.1 % size != e)

/-- The first failing element of each object (R401). -/
def firstFails : List (Nat × Nat) → List (Nat × Nat)
  | [] => []
  | f :: rest => f :: (firstFails rest).filter (fun g => g.1 != f.1)

/-- PERSISTENT_CRC_FAILURE (R401, R301): the record of an object, with its first failing element. -/
def crcRecord (s : State) (f : Nat × Nat) : State :=
  if f.1 = 0x5081 then writeRecB s 4 2 0x09 (guardBody s 255 0 255 0 0)
  else writeRecB s 10 1 0x01 (packAt [(0, 2, f.1), (2, 4, f.2)])

/-- PERSISTENT_CRC_FAILURE of one element (R401, R301): the value taken. -/
def crcFailure (s : State) (f : Nat × Nat) : State :=
  let o := f.1
  let e := f.2
  if o = 0x5081 then
    { s with grd.layerErr := true, power.hold := if s.power.hold = .none then .layer else s.power.hold }
  else
    let s := if 0x2020 ≤ o ∧ o ≤ 0x2023 then { s with fac.lost := s.fac.lost ++ [f] } else s
    if o = 0x2020 then { s with fac.latest := 0 }
    else if o = 0x2021 then { s with fac.minutes := ringDrop s.fac.minutes 10080 e }
    else if o = 0x2022 then { s with fac.events := ringDrop s.fac.events 4096 e }
    else if o = 0x2023 then { s with fac.seals := ringDrop s.fac.seals 168 e }
    else if o = 0xA000 then
      { s with recs.ring := match s.recs.ring[e]? with
          | none => s.recs.ring
          | some r => setAt s.recs.ring e { r with blank := true } }
    else if o = 0xA001 then { s with recs.first := s.recs.first.map (fun r => { r with blank := true }) }
    else if o = 0x3100 ∨ o = 0x6021 ∨ o = 0x6052 ∨ o = 0x6053 then dset s o e (objDefault o e)
    else
      let s := { s with dic.vals := s.dic.vals.filter (fun p => p.1 / 16777216 != o) }
      if o = 0x9000 then logEvent { s with fac.nextFlags := setBit s.fac.nextFlags 0 true } 11 4 0 0
      else if o = 0x2000 then { s with fac.contractHash := 0 }
      else if o = 0x2012 ∨ o = 0x2013 then dset s o e (defaultNow s o e)
      else s

/-- INTERRUPTED_MINUTE_CLOSE (R529, R532): the minute open at the loss is closed from the last commit, unless a module of the
shelf metered on; no minute is opened twice (R522). -/
def closeInterrupted (s : State) (b : BootIn) : State :=
  match s.power.commit with
  | none => s
  | some c =>
    if b.peerRan || !c.mOpen then { s with fac.mOpen := false }
    else
      let lost := !(b.marker && c.flushed)
      let s := minuteFlag (minuteFlag s 10) 14
      let s := if lost then stateRec (minuteFlag s 1) 1 0x08 0 0 0 else s
      { closeMinute s c.socNow with epo.noMinuteUntil := (c.minuteNo + 1) * 60000 }

/-- The strings after a start: latched, isolated or off (R220, R225, R522). -/
def startStrings (s : State) : State :=
  let one := fun (s : State) (x : Str) =>
    setConv s x { conv s x with
      st := if s.cot.ovLatch then .ovLatch else if (conv s x).ownLatch then .latched else restState s x }
  one (one s .A) .B

/-- The straps (R35, R36, R549): bits 0 and 1 the shelf index, bit 2 the slot, bit 3 the parity pin; valid with an odd number
of ones. -/
def readStraps (s : State) (v : Nat) : State :=
  let ok := popcount v 4 % 2 == 1
  { s with
    power.strapShelf := field v 0 2, power.strapB := bit v 2, power.strapsOk := ok
    power.hold := if ok then s.power.hold else .position }

/-- An unlock in force ends at a restart (R374, R375, R376): kind 10 is logged at start-up, UNLOCK is carried; the open sessions
are lost, and `was` of them held an unlock by passphrase. -/
def grantLost (s : State) (had : Option Grant) (was : Nat) : State :=
  let ended := fun (s : State) (role scopes : Nat) =>
    secRec (logEvent { s with fac.nextFlags := setBit s.fac.nextFlags 13 true } 10 role 0 scopes) 0 0x08 role 0
  let s := match had with
    | none => s
    | some g => ended s 4 g.scopes
  (upTo was).foldl (fun s _ => ended s 2 8) s

/-- Set the state of a bank (R378). -/
def setBankState (s : State) (k : Bool) (st : Nat) : State :=
  if k then { s with sec.banks := { s.sec.banks with b := { s.sec.banks.b with state := st } } }
  else { s with sec.banks := { s.sec.banks with a := { s.sec.banks.a with state := st } } }

/-- A start of the module through the security die (R360, R443, R521, R522): the archive is filled again from MRAM; `wake` is
AON_PSTATE WAKE. -/
def start (s : State) (b : BootIn) (wake : Nat) : State :=
  let before := stateCode s
  match bootBank s b with
  | none =>
    let s := secRec s 2 0x01 4 0
    setMState { losePower s s.power.mstate with power.cplLock := true, power.yplLock := true } .recovery
  | some bank =>
    let want := s.sec.activate.getD s.sec.bankB
    let had := s.sec.grant
    let was := (s.sec.sessions.filter (·.promoted)).length
    let s := restoreCounts (volatile (applyRestart s)) b
    let s := { s with
      sec.bankB := bank, power.wake := wake, sec.cold := if wake = 0 then some s.epo.ticks else s.sec.cold
      sec.revoked := s.sec.revoked ||| (if bank then s.sec.banks.b else s.sec.banks.a).revoke % 16
      sec.issued := s.epo.count }
    let s := { s with sec.fwMeasure := measurement s }
    let s := restoreAttr (restoreMetering s)
    let s := (firstFails b.crcFail).foldl crcRecord (b.crcFail.foldl crcFailure (readStraps s b.straps))
    let s := if bank = want then s else secRec { setBankState s bank 3 with sec.trial := false } 2 0x01 4 0
    let s := if s.power.pllRecord then stateRec { s with power.pllRecord := false } 2 0x04 before 1 2 else s
    let s := grantLost (closeInterrupted s b) had was
    let s := { s with fac.un := nominalV s.fac.un b.ratings }
    let s := stateRec (startStrings s) 0 0x06 before (stateCode s) 0
    refreshArchive (readInductances s b.inductances)

/-- The meaning of SUPPLY_54V_IN_RANGE (R472, R520, R521): in Umbra a full start; in Watch the string-fed countdown ends; in
hold-up the supply waits for the flush, and the module then restarts with WAKE = 2. -/
def execSupply54vInRange (b : BootIn) (s : State) : Out :=
  match s.power.mstate with
  | .noSupply => .next s
  | .umbra => .next (start s b (if b.sidKept then 1 else 0))
  | .holdup => .next { s with power.sup54 := true, power.wakeNext := some 2 }
  | .watch => .next (tryLive { s with power.sup54 := true, power.supStr := false })
  | .live => .next { s with power.sup54 := true, power.supStr := false }
  | .recovery => .next { s with power.sup54 := true, power.supStr := false }

/-- The meaning of MODULE_RESTART (R360, R520): a powered module restarts; in hold-up once the flush is complete. -/
def execModuleRestart (b : BootIn) (s : State) : Out :=
  match s.power.mstate with
  | .noSupply => .next s
  | .umbra => .next s
  | .holdup =>
    if s.power.flushed && s.power.sup54 then .next (start { s with power.pfw := false } b 2) else .next s
  | .watch => .next (start s b (s.power.wakeNext.getD 2))
  | .live => .next (start s b (s.power.wakeNext.getD 2))
  | .recovery => .next (start s b (s.power.wakeNext.getD 2))

/-! ## Role negotiation and Live (R472, R523) -/

/-- The meaning of ROLE_NEGOTIATION_TIMEOUT (R523): in Watch with no role, no HOLD word and nothing that holds it there, the
module claims the lease and becomes active; a module with a blank integrator layer never claims (R300). -/
def execRoleNegotiationTimeout (s : State) : Out :=
  if s.power.mstate == .watch && s.red.role == .noRole && s.power.hold == .none && !s.grd.intBlank &&
      !s.red.peerHold && !s.power.refGone then
    let s := decideRole { s with red.holding := true, red.claimed := true } .active
    .next (tryLive (sendWord s false))
  else .next s

/-- The meaning of LIVEREQ (R472, R484): setting requests Live, clearing requests Watch. -/
def execLiveReq (core : Core5) (on : Bool) (s : State) : Out :=
  if core ≠ .rt then .next (busError s core 8)
  else
    let s := { accessOk s with power.liveReq := on }
    if on then .next (tryLive s) else if inLive s then .next (leaveLive s) else .next s

/-- The meaning of SUPPLY_54V_OUT_OF_RANGE (R472): Live to Watch, recovery hold to Umbra; the string-fed supply carries the
module. -/
def execSupply54vOutOfRange (s : State) : Out :=
  let s := { s with power.sup54 := false }
  match s.power.mstate with
  | .live => .next (leaveLive { s with power.supStr := true })
  | .watch => .next { s with power.supStr := true }
  | .recovery => .next (losePower s .umbra)
  | .noSupply => .next s
  | .umbra => .next s
  | .holdup => .next s

/-- The meaning of STRING_FED_TIMEOUT (R472): Watch to Umbra after 60 s on the string-fed supply. -/
def execStringFedTimeout (s : State) : Out :=
  if s.power.mstate == .watch && !s.power.sup54 && s.power.supStr then .next (losePower s .umbra) else .next s

/-- The meaning of BUS_PREBIAS_CHECK (R525): every 100 ms in Live. With both channels at 700 V or more, each string that is
off receives ENA and each that is ready from precharge START; 2 s after Live without that, cause 0x0C is written once. -/
def execBusPrebiasCheck (s : State) : Out :=
  if inLive s && isActive s then
    if prebiased s then
      let one := fun (s : State) (x : Str) =>
        let c := conv s x
        if c.st = .off ∧ s.strs.tripHeld.all (fun p => posStr (p.1 % 576) != x) then
          enterPrecharge (setConv s x { c with ena := true }) x
        else if c.st = .ready ∧ c.tried = false ∧ c.ena = true then softStart s x
        else s
      .next (one (one s .A) .B)
    else if !s.power.prebiasRec && decide (s.power.liveTick + 2000 ≤ s.epo.ticks) then
      .next (stateRec { s with power.prebiasRec := true } 2 0x0C (stateCode s) (stateCode s) 0)
    else .next s
  else .next s

/-! ## Hold-up (R528 to R530) -/

/-- The link die loses its supply in hold-up (R471): the CXL link and both sister-link lanes are down. -/
def linkDieOff (s : State) : State :=
  { s with
    net.cxl := 0, red.linkUp := false
    red.lanes := ⟨{ s.red.lanes.a with up := false }, { s.red.lanes.b with up := false }⟩ }

/-- The meaning of POWER_FAIL_WARNING (R520, R528): hold-up at once; renewals stop, staged writes and the signing queue are
discarded, the engine and the link die stop, the learning state since the last mirror is lost (R143), and a planned handover
whose RELEASE has not been sent is cancelled (R342). -/
def execPowerFailWarning (s : State) : Out :=
  if s.power.mstate = .noSupply ∨ s.power.mstate = .holdup then .next s
  else .next { engineDark (linkDieOff s) with
    power.mstate := .holdup, power.pfw := true, power.sup54 := false, power.supStr := false, power.flushed := false
    dic.staged := [], sec.queue := [], eng.learn := s.eng.checkpoint
    red.handover := if s.red.relSet then s.red.handover else none }

/-- The meaning of HOLDUP_FLUSH_COMPLETE (R528): a record with block 9 and cause 0x07, then the marked commit. -/
def execHoldupFlushComplete (s : State) : Out :=
  if s.power.mstate == .holdup && !s.power.flushed then
    let s := stateRec s 2 0x07 (stateCode s) (stateCode s) 0
    .next (commitNow { s with power.flushed := true } true)
  else .next s

/-- The meaning of HOLDUP_COMMIT (R529): every 10 ms after the flush, the metered energy and a marked commit. -/
def execHoldupCommit (e : EpochIn) (s : State) : Out :=
  if s.power.mstate == .holdup && s.power.flushed then .next (commitNow (meterEpochs s e 10) true) else .next s

/-- The meaning of HOLDUP_CUTOFF (R530, R224): the bank is empty; all supply is lost and the contactors open. -/
def execHoldupCutoff (s : State) : Out :=
  if s.power.mstate == .holdup && !s.power.sup54 then .next (losePower s .noSupply) else .next s

/-! ## Clocks (R468 to R470, R485) -/

/-- The meaning of REFERENCE_LOSS (R468): lease timers cleared, holdover, the E, D, Y and K domains stopped; Live is left for
Watch; cause 0x01. -/
def execReferenceLoss (s : State) : Out :=
  if !powered s || s.power.refGone then .next s
  else
    let before := stateCode s
    let s := clearTimer { s with
      power.refGone := true, power.refLoss := true, power.holdover := true, power.eplLock := false
      power.yplLock := false, red.holding := false, red.peerHold := false, red.linkUp := false
      red.lanes := ⟨{ s.red.lanes.a with up := false }, { s.red.lanes.b with up := false }⟩ }
    let s := if inLive s then leaveLive s else engineDark s
    .next (stateRec s 2 0x01 before (stateCode s) 1)

/-- The meaning of REFERENCE_RESTORED (R468): after 1 s of presence, cause 0x02 and a restart with WAKE = 3. -/
def execReferenceRestored (s : State) : Out :=
  if s.power.refGone then
    .next (stateRec { s with power.refGone := false, power.holdover := false, power.wakeNext := some 3 } 0 0x02
      (stateCode s) (stateCode s) 1)
  else .next s

/-- The meaning of CRYSTAL_LOSS (R469). -/
def execCrystalLoss (s : State) : Out :=
  if s.power.sidHold then .next s
  else .next (stateRec { s with power.sidHold := true, power.crysLoss := true } 1 0x03 (stateCode s) (stateCode s) 0)

/-- The meaning of CRYSTAL_RETURN (R469). -/
def execCrystalReturn (s : State) : Out := .next { s with power.sidHold := false }

/-- The engine enters Fault (R142, R164): the hold forecast serves. -/
def engineFault (s : State) : State :=
  let s := if s.eng.state = .fault then s else resetEngineDomain s
  { s with eng.state := .fault, eng.waking := false, eng.started := none, eng.holdFc := true, eng.validRun := 0 }

/-! ## Bridges (R461, R462) -/

/-- Sister link lost (R326, R344): cause 0x0C, where it was up. -/
def linkLost (s : State) : State :=
  if s.red.linkUp then redRec { s with red.linkUp := false } 2 0x0C else s

/-- A bridge failed (R461, R462): cause 0x05, and the effects of its row. -/
def bridgeFails (s : State) (k : Nat) : State :=
  if s.power.bridgeFailed.contains k then s
  else
    let s := writeRecB { s with power.bridgeFailed := k :: s.power.bridgeFailed } 10 2 0x05 (packAt [(0, 1, k), (4, 4, 3)])
    if k = 1 then { engineFault s with trc.recRun := false }
    else if k = 2 then { s with power.wakeNext := some 2 }
    else if k = 3 then
      linkLost { s with
        red.lanes := ⟨{ s.red.lanes.a with up := false }, { s.red.lanes.b with up := false }⟩ }
    else s

/-- Retrains of a bridge in the last second (R461). -/
def trainsIn (s : State) (k : Nat) : Nat :=
  sumN ((s.power.bridgeTrains.filter (fun p => p.1 % 16 == k && decide (s.epo.ticks < p.1 / 16 + 1000))).map (·.2))

/-- The CRC-16 of a flit (R158, R461): its data and its sequence number. -/
def flitCrc (seq : Nat) (data : List Nat) : Nat := crc16 0xFFFF (data ++ bytesOf seq 2)

/-- A retrain of bridge B2 resets the security die's domain (R481). -/
def retrainBridge (s : State) (k : Nat) : State := if k = 2 then resetPulse (resetPulse (resetPulse s 4) 5) 6 else s

/-- The meaning of BRIDGE_CRC_FAIL (R461): a flit whose CRC does not hold is sent again; the eighth failure retrains the bridge
(cause 0x04), and the third retrain within 1 s fails it. `first` tells that this is a flit's first attempt. -/
def execBridgeCrcFail (k seq : Nat) (data : List Nat) (crc : Nat) (first : Bool) (s : State) : Out :=
  if k = 0 ∨ 4 < k ∨ s.power.bridgeFailed.contains k ∨ flitCrc seq data = crc then .next s
  else
    let n := (if first then 0 else mget s.power.bridgeTries k) + 1
    if n < 8 then .next { s with power.bridgeTries := mset s.power.bridgeTries k n }
    else
      let kept := s.power.bridgeTrains.filter (fun p => decide (s.epo.ticks < p.1 / 16 + 1000))
      let s := { s with
        power.bridgeTries := mset s.power.bridgeTries k 0
        power.bridgeTrains := madd kept (16 * s.epo.ticks + k) 1 }
      let s := writeRecB (retrainBridge s k) 10 1 0x04 (packAt [(0, 1, k), (4, 4, trainsIn s k)])
      .next (if 3 ≤ trainsIn s k then bridgeFails s k else s)

/-- The meaning of PLL_LOCK_LOSS (R470): the control PLL restarts the module, with cause 0x04 after the restart; the engine
PLL puts the engine in Fault, cause 0x05; the security PLL is a failure of bridge B2. -/
def execPllLockLoss (p : Pll) (s : State) : Out :=
  match p with
  | .control =>
    if s.power.holdover then .next s
    else .next { s with power.cplLock := false, power.pllRecord := true, power.wakeNext := some 2 }
  | .engine => .next (stateRec (engineFault { s with power.eplLock := false }) 2 0x05 (stateCode s) (stateCode s) 3)
  | .security => .next (bridgeFails { s with power.yplLock := false } 2)

/-- The meaning of ENGINE_PLL_RELOCK (R470): after 1 ms of lock, an engine in Fault wakes, unless held by temperature
(R145) or a failed bridge B1. -/
def execEnginePllRelock (s : State) : Out :=
  let s := { s with power.eplLock := s.power.eplEn }
  if s.eng.state == .fault && s.power.eplEn && !s.eng.hotFault && !s.power.bridgeFailed.contains 1 then
    .next { s with eng.waking := true }
  else .next s

/-- AON_CLK EPLL_EN (R485): the engine leaves Dark only with it set; clearing it turns the engine's PLL off (R142). -/
def setEpll (s : State) (on : Bool) : State :=
  if on then
    { s with
      power.eplEn := true, power.eplLock := true
      eng.waking := s.eng.waking || (inLive s && s.eng.state == .dark) }
  else engineDark { s with power.eplEn := false, power.eplLock := false }

/-- The meaning of ENGINE_PLL_ENABLE (R485). -/
def execEnginePllEnable (core : Core5) (on : Bool) (s : State) : Out :=
  if core ≠ .rt then .next (busError s core 8) else .next (setEpll (accessOk s) on)

/-- The meaning of SIDEREAL_READ (R485): bits 31 to 0 are read, bits 47 to 32 are captured. -/
def execSiderealRead (core : Core5) (s : State) : Out :=
  if mayRead core 0x40080008 then
    .next { accessOk s with
      dic.reg := BitVec.ofNat 32 s.power.sidereal, power.sidh := field s.power.sidereal 32 16 }
  else .next (busError s core 8)

end Sys2Proof.Machine
end

