-- ==== Sys2Proof/Machine/Redundancy.lean ====
section
/-! DEFINITION. The active and standby modules (11_redundancy.md): lease commands, sister link, state records, epoch images,
handovers, drills and the phase check. -/
namespace Sys2Proof.Machine

/-! ## Lease commands (R317 to R322) -/

/-- Blocks sent on a lane and not yet acknowledged (R324, R326). -/
def outstanding (l : Lane) : Nat := (l.txSeq + 65536 - l.acked) % 65536

/-- Blocks of a stream of both lanes are sent (R324 to R326): `n` blocks on each lane that is up, as many as the replay buffer
takes: streams 0 and 1 fill its 64 blocks, the others stop at 62. -/
def sendBlocks (s : State) (stream n : Nat) : State :=
  let room := fun (l : Lane) => (if stream ≤ 1 then 64 else 62) - outstanding l
  let one := fun (l : Lane) => if l.up then { l with txSeq := (l.txSeq + min n (room l)) % 65536 } else l
  { s with red.lanes := ⟨one s.red.lanes.a, one s.red.lanes.b⟩ }

/-- The self-diagnosis of R317 passes: reference and bridge B2 present (R462, R468), no lockstep mismatch, no restart due. -/
def selfDiagnosis (s : State) : Bool :=
  !s.power.refGone && !s.power.bridgeFailed.contains 2 && !s.power.lsmm && s.power.wakeNext.isNone

/-- The renewal of the holder (R317, R476, R486): it crosses to the reference domain, and its timer is reloaded. -/
def renew (s : State) : State :=
  let s := pulse s 0 s.power.refGone
  if s.red.holding && selfDiagnosis s then { loadTimer s with red.claimed := false } else s

/-- The meaning of LEASE_RENEWAL (R317): every 250 µs, in Watch and Live, a lease word on both paths; the holder renews while
its self-diagnosis passes and sends none while it fails. -/
def execLeaseRenewal (s : State) : Out :=
  if (s.power.mstate == .watch || s.power.mstate == .live) && (!s.red.holding || selfDiagnosis s) then
    .next (sendBlocks (sendWord (renew s) false) 0 1)
  else .next s

/-- What stream 0's hello tells (R300, R333, R341, R410): a blank module without an Owner key adopts the peer's integrator layer
and writes it to OTP; an incompatible dictionary version holds the module in Watch. -/
def hearHello (s : State) (h : PeerHello) : State :=
  let s := { s with
    red.peerMajor := h.major, red.fwSame := h.firmware == (runBank s).version
    red.peerIdent := h.ident, red.peerEncap := h.encap, lpe.peerHash := h.slot1 }
  let s :=
    if s.grd.intBlank && s.power.mstate == .watch && (ownerKeys s).isEmpty then
      match h.layer with
      | none => s
      | some v => writeRecB { dset s 0x5080 0 v with grd.intBlank := false } 4 0 0x07 (guardBody s 255 0 255 0 0)
    else s
  if h.major ≠ 1 ∧ s.power.mstate = .watch ∧ s.red.role = .noRole ∧ s.power.hold = .none then
    redRec { s with power.hold := .peerVersion } 2 0x0F
  else s

/-- A valid word is heard (R318, R319, R341). -/
def hearWord (s : State) (onLine : Bool) (w : Word) : State :=
  { s with
    red.peerHere := true, red.peerWord := w, red.peerHold := bit w.toNat 3
    red.lineOk := onLine || s.red.lineOk
    red.role := if s.red.role = .alone then .active else s.red.role }

/-- A RELEASE reaches the standby (R319, R335): it claims only when ABLE. -/
def claimOnRelease (s : State) : State :=
  if isStandby s && able s then
    match s.red.handover with
    | some _ => takeover s 3 s.red.relKind s.red.relWhy
    | none => takeover s 1 1 0
  else s

/-- The meaning of LEASE_WORD_RECEIVED (R318, R319, R523): a bad word is ignored and counted. A HOLD word in negotiation makes
the module standby; after its own claim it is a double claim, which slot B gives up; a RELEASE lets an ABLE standby claim. -/
def execLeaseWordReceived (onLine : Bool) (w : Word) (hello : Option PeerHello) (s : State) : Out :=
  if !wordValid s w.toNat then
    .next { s with red.ignored := s.red.ignored + 1, red.lineOk := s.red.lineOk && !onLine }
  else
    let s := hearWord s onLine w
    let s := match hello with | none => s | some h => hearHello s h
    let inWatch := s.power.mstate == .watch
    if bit w.toNat 4 then .next (claimOnRelease s)
    else if bit w.toNat 3 && inWatch && s.red.role == .noRole && s.power.hold == .none then
      .next (tryLive (decideRole s .standby))
    else if bit w.toNat 3 && inWatch && s.red.claimed && s.power.strapB then
      .next (sendWord (decideRole { s with red.holding := false, red.claimed := false } .standby) true)
    else .next s

/-- The meaning of LEASE_CLAIM (R319, R335, R337): after the peer's lease has lapsed and t_LG has passed, an ABLE standby
takes over silently. -/
def execLeaseClaim (s : State) : Out :=
  if isStandby s && able s then .next (takeover { s with red.peerHold := false } 2 2 0) else .next s

/-- The meaning of DRIVE_EN_TIMEOUT (R320, R319): t_SDROP after the last renewal the timer is invalid and DRIVE_EN falls; a
module whose own lease lapsed restarts and rejoins. -/
def execDriveEnTimeout (s : State) : Out :=
  if s.red.timerOk then
    let s := clearTimer { s with red.holding := false }
    .next (if inLive s then { s with power.wakeNext := some 2 } else s)
  else .next s

/-- The meaning of LOCKSTEP_MISMATCH (R320, R335, R489): the timer is cleared in hardware, a RELEASE word is sent, and the
module restarts. -/
def execLockstepMismatch (s : State) : Out :=
  if powered s then
    let s := sendWord (clearTimer { s with power.lsmm := true }) true
    .next { s with red.holding := false, red.relKind := 1, red.relWhy := 1, power.wakeNext := some 2 }
  else .next s

/-- The meaning of DRIVE_CONFLICT (R322): a module that asserted DRIVE_EN less than 10 ms earlier withdraws; where both did,
slot B does. -/
def execDriveConflict (both : Bool) (s : State) : Out :=
  if s.red.driveEn && decide (s.epo.ticks < s.red.drvTick + 10) && (!both || s.power.strapB) then
    let s := { giveUp s 0 8 with red.driveFault := true }
    .next (redRec (bump s 0x7004 11) 2 0x0A)
  else .next s

/-- The reason code of a release (R343). -/
def relReasonCode : RelReason → Nat
  | .guardFault => 2
  | .island => 3
  | .mram => 4

/-- RELEASE is set in the present record and in a lease word; the role is given up at the next sample start (R335). -/
def release (s : State) (kind reason : Nat) : State :=
  sendWord { s with red.relSet := true, red.relKind := kind, red.relWhy := reason } true

/-- The meaning of EXPLICIT_RELEASE (R335): only when the peer reports FIT. -/
def execExplicitRelease (why : RelReason) (s : State) : Out :=
  if isActive s && peerFit s && (why != .guardFault || !s.grd.fault.isEmpty) then .next (release s 1 (relReasonCode why))
  else .next s

/-! ## Sister link (R324 to R326) -/

/-- A lane of the sister link. -/
def laneOf (s : State) (i : Nat) : Lane := if i = 0 then s.red.lanes.a else s.red.lanes.b

/-- Replace a lane. -/
def setLane (s : State) (i : Nat) (l : Lane) : State :=
  { s with red.lanes := if i = 0 then { s.red.lanes with a := l } else { s.red.lanes with b := l } }

/-- The meaning of SISTER_ACK_TIMEOUT (R326): the ack has not advanced for 2 µs; the oldest unacknowledged block is resent. -/
def execSisterAckTimeout (lane : Nat) (s : State) : Out :=
  let l := laneOf s lane
  if l.up && l.acked != l.txSeq then
    .next (bump (setLane s lane { l with resendFrom := some ((l.acked + 1) % 65536), replays := l.replays + 1 }) 0x7004 7)
  else .next s

/-- The meaning of SISTER_IDLE_BLOCK (R326): an IDLE block carries the ack, or the NAK that is due. -/
def execSisterIdleBlock (lane : Nat) (s : State) : Out :=
  let l := laneOf s lane
  .next (if l.up then setLane s lane { l with nakDue := false, idleDue := false } else s)

/-- The meaning of LANE_DOWN (R326, R344): no valid block for 10 µs; the lane retrains, with cause 0x0B. -/
def execLaneDown (lane : Nat) (s : State) : Out :=
  let l := laneOf s lane
  if l.up then .next (redRec (setLane s lane { l with up := false, training := true }) 1 0x0B) else .next s

/-- The meaning of LANE_RETRAINED (R326, R345): the lane is up again, and the link with it; counted as a retrain. -/
def execLaneRetrained (lane : Nat) (s : State) : Out :=
  if cxlOn s && !s.power.refGone && !s.power.bridgeFailed.contains 3 then
    let l := laneOf s lane
    let s := { setLane s lane { l with up := true, training := false } with red.linkUp := true }
    .next (if l.training then bump s 0x7004 8 else s)
  else .next s

/-- The meaning of SISTER_LINK_LOST (R326, R344): both lanes down for 100 µs. -/
def execSisterLinkLost (s : State) : Out :=
  if s.red.lanes.a.up || s.red.lanes.b.up then .next s else .next (linkLost s)

/-! ## State records (R327, R328, R332) -/

/-- The input digest (R327): CRC-32C over the inputs of R243 as latched, 4 little-endian bytes each, in the order of R243. -/
def inputDigest (s : State) : Nat :=
  let l := [s.lpe.latched.bus1, s.lpe.latched.bus2, s.lpe.latched.strV.a, s.lpe.latched.strV.b,
    s.lpe.latched.linkV.a, s.lpe.latched.linkV.b] ++
    ((upTo 24).map (fun p => toTwos (atI s.lpe.latched.iPhase p) 32)) ++
    [toTwos s.lpe.latched.iStr.a 32, toTwos s.lpe.latched.iStr.b 32]
  crc32c ((l.map (fun v => bytesOf v 4)).flatten)

/-- The output digest (R327): CRC-32C over the 24 references after the guard. -/
def outputDigest (s : State) : Nat :=
  crc32c (((upTo 24).map (fun p => bytesOf (toTwos (atI s.cot.irefBuf p) 32) 4)).flatten)

/-- The data digest (R327): CRC-32C over the 1,024 words of the committed loop data memory. -/
def dataDigest (s : State) : Nat := crc32c (((upTo 1024).map (fun i => bytesOf (mget s.lpe.prog.mem i) 4)).flatten)

/-- The per-sample state record of this module (R327). -/
def ownRecord (s : State) : RecordIn :=
  let a := conv s .A
  let b := conv s .B
  { release := s.red.relSet, held := s.lpe.src == 0 && s.lpe.ovrCnt != 0, twilight := s.epo.twRunning
    sample := s.epo.sample - 1, epoch := s.epo.count, sampleSeq := s.epo.samples
    inputDigest := inputDigest s, outputDigest := outputDigest s, dataDigest := dataDigest s
    vnow := s.cot.vNow, vtgt := s.cot.vTgt, slew := s.cot.slew, dirCnt := ⟨a.dirCnt, b.dirCnt⟩
    states := ⟨a.st.code, b.st.code⟩, dirs := ⟨a.charge, b.charge⟩, ovLatch := s.cot.ovLatch
    latched := ⟨a.ownLatch, b.ownLatch⟩, switching := s.cot.active, rotation := ⟨a.rot, b.rot⟩
    retries := ⟨a.retries, b.retries⟩, hiccup := ⟨a.hicLeft, b.hicLeft⟩, limited := s.cot.limitedRun
    budgets := ⟨a.budget / 1000, b.budget / 1000⟩, dwell := ⟨a.dwell, b.dwell⟩
    src := s.lpe.src, sel := b2n s.lpe.sel, ovrcnt := s.lpe.ovrCnt, clean := cleanCount s
    counts := ⟨s.lpe.overBand.1, s.lpe.overBand.2⟩, vhat := s.lpe.vhat, idist := s.lpe.idist, xs := s.lpe.xs
    refs := s.cot.iref, y := s.fac.y, cu := s.fac.cu, cd := s.fac.cd, m := s.epo.m, bigM := s.epo.bigM
    narrow := (upTo 64).map (narrowing s), vss := ⟨a.vss, b.vss⟩ }

/-- STATE_RECORD_FREEZE (R327): at clock 720 both modules freeze their record; the active module's goes to the link. -/
def freezeRecord (s : State) : State :=
  let s := { s with
    red.frozen := some (ownRecord s), red.digests := (inputDigest s, outputDigest s), red.frozenRec := s.epo.samples }
  if isActive s then sendBlocks s 1 2 else { s with red.recAge := s.red.recAge + 1 }

/-- A record agrees with this module's state of the same sample (R328): every field but RELEASE, the sender's sample sequence
and the input digest, which R332 compares by itself. -/
def recordAgrees (s : State) (k : RecordIn) : Bool :=
  match s.red.frozen with
  | none => false
  | some r => { k with release := r.release, sampleSeq := r.sampleSeq, inputDigest := r.inputDigest } == r

/-- The input digest compared (R332): a disagreement restarts the count and warns with cause 0x07, at most once per minute. -/
def compareInputs (s : State) (k : RecordIn) : State :=
  if k.inputDigest = s.red.digests.1 then { s with red.inAgree := satInc s.red.inAgree 1000 }
  else
    let s := { s with red.inAgree := 0 }
    let due := match s.red.digTick with | none => true | some t => decide (t + 60000 ≤ s.epo.ticks)
    if due then { redRec s 1 0x07 with red.digTick := some s.epo.ticks } else s

/-- The state compared while inputs agree (R328, R332, R345): a difference is counted, warned with cause 0x08, and adopted at
the second sample start. -/
def compareState (s : State) (k : RecordIn) : State :=
  if k.inputDigest ≠ s.red.digests.1 ∨ recordAgrees s k = true then { s with red.stAgree := satInc s.red.stAgree 250 }
  else
    redRec (bump { s with red.stAgree := 0, red.adopt := some k, red.adoptIn := 2 } 0x7004 9) 1 0x08

/-- The meaning of STATE_RECORD (R327, R328, R335): a standby in Live compares the record and adopts on a difference; a record
with RELEASE lets it claim. -/
def execStateRecord (k : RecordIn) (s : State) : Out :=
  if isStandby s && inLive s then
    let s := { s with
      red.recSeq := k.sampleSeq, red.recAge := 0, red.recordsOk := satInc s.red.recordsOk 1000 }
    let s := compareState (compareInputs s k) k
    .next (if k.release then claimOnRelease s else s)
  else .next s

/-- The meaning of STATE_RECORD_DEADLINE_MISS (R327, R333, R345). -/
def execStateRecordDeadlineMiss (s : State) : Out :=
  if isStandby s then .next (bump { s with red.recordsOk := 0 } 0x7004 5) else .next s

/-! ## Epoch images (R329, R330) -/

/-- The meaning of EPOCH_IMAGE_SEND (R329, R330): the active module sends the image; a full image makes the standby current
again. -/
def execEpochImageSend (s : State) : Out :=
  if isActive s && s.red.linkUp then .next { s with red.imageSent := s.epo.count, red.current := true } else .next s

/-- One object value of an image. The user calibration layer stays the module's own; the peer's is kept beside it (R517,
R518). -/
def takeObject (s : State) (p : Nat × Nat) : State :=
  if p.1 / 16777216 = 0x9000 then { s with red.peerLayer := some p.2 }
  else dset s (p.1 / 16777216) (p.1 % 16777216) p.2

/-- Plans n and n+1 of an image of the present epoch (R57, R329): a twilight that started at control clock `ts` runs on from the
clocks passed since. -/
def takePlans (s : State) (k : ImageIn) : State :=
  if k.epoch = s.epo.count then
    let runs := decide (k.ts ≤ s.epo.clk)
    { s with
      epo.planN := k.planN, epo.planNext := k.planNext, epo.ttw := k.bigM / 200
      epo.bigM := if runs then k.bigM else s.epo.bigM
      epo.m := if runs then s.epo.clk - k.ts else s.epo.m
      epo.twRunning := s.epo.twRunning || runs
      epo.twPlan := if runs then k.planNext.isSome else s.epo.twPlan }
  else s

/-- The entries of the active module's event log that this module's does not hold (R133, R134). -/
def takeEvents (s : State) (l : List Nat) : State :=
  (l.filter (fun v => !(s.fac.events.map (·.2)).contains v)).foldl putEvent s

/-- The mapping of an image (R187, R329): the standby builds the same re-shard, and the one in force where it has another; both
switch at the same boundary. The blend weight follows (R195). -/
def takeMapping (s : State) (k : ImageIn) : State :=
  let next := k.mapNext.or (if k.mapping = s.eng.mapping then none else some k.mapping)
  let tick := fun (e : Nat) => s.epo.ticks + (e - s.epo.count)
  { s with
    eng.blendW := k.blendW
    eng.built := s.eng.built && decide (next = s.eng.mapNext)
    eng.mapNext := next
    eng.switchAt := if k.mapNext.isSome then k.switchEpoch.map tick else next.map (fun _ => s.epo.ticks + 1) }

/-- The parts of a complete image that the standby takes (R108, R329). -/
def takeImage (s : State) (k : ImageIn) : State :=
  let s := takeMapping (takeEvents (takePlans (k.objects.foldl takeObject s) k) k.events) k
  { s with
    fac.latest := k.latest
    red.image := some k.epoch, red.current := true
    fac.emCount := k.emergency, fac.chain := k.chainHead
    lead.holder := some k.leadSlot, lead.expiry := some k.expiry, lead.throttle := k.throttle, lead.held := k.held
    lead.restoreDelay := k.restoreDelay, lead.holdOrder := k.holdOrder, lead.carry := k.carry, lead.stepCnt := smapOf k.stepCnt
    lead.tables := smapOf k.tables, strs.tripOv := smapOf k.tripOv, strs.tripUv := smapOf k.tripUv
    strs.tripHeld := smapOf k.tripHeld, strs.wires := smapOf k.wires
    lpe.prog := { s.lpe.prog with mem := smapOf k.loopMem } }

/-- The meaning of EPOCH_IMAGE_RECEIVED (R329, R344): a standby uses a complete image; reaching ABLE writes cause 0x0D. -/
def execEpochImageReceived (k : ImageIn) (s : State) : Out :=
  if isStandby s then
    let t := takeImage s k
    .next (if able t && !able s then redRec t 0 0x0D else t)
  else .next s

/-! ## Handover, return, drills (R336, R338 to R341) -/

/-- Plan a handover at the next boundary whose twilight has not started (R338). -/
def planHandover (s : State) (kind reason : Nat) : State :=
  { s with red.handover := some (dueE s), red.relKind := kind, red.relWhy := reason }

/-- This module is FIT. -/
def selfFit (s : State) : Bool := fitIn (fitness s)

/-- The meaning of REVERT_HANDOVER (R339): under revert, the slot active before the takeover has been FIT for N minutes. -/
def execRevertHandover (s : State) : Out :=
  let p := dget s 0x7000 0
  if fieldAt p 0 1 = 1 ∧ s.red.drill = none ∧
      ((isActive s = true ∧ peerFit s = true ∧ s.red.origB = some (!s.power.strapB) ∧ fieldAt p 2 2 ≤ s.red.fitMin) ∨
       (isStandby s = true ∧ selfFit s = true)) then .next (planHandover s 5 7)
  else .next s

/-- The minute of the open epoch. -/
def minuteNow (s : State) : Nat := s.epo.count / Config.minuteEpochs

/-- A drill is due (R340, R345): it is enabled, the minute of the day is its start, and its interval has passed since the last
one. -/
def drillDue (s : State) : Bool :=
  let p := dget s 0x7001 0
  let far := match s.red.lastDrill with
    | none => true
    | some m => decide (m + 60 * fieldAt p 2 2 ≤ minuteNow s)
  fieldAt p 0 1 == 1 && s.red.drill == none && minuteNow s % 1440 == fieldAt p 4 2 && far

/-- The meaning of SWAP_DRILL (R340): at its time a drill runs when the standby is FIT; otherwise it is skipped with cause 0x05.
-/
def execSwapDrill (s : State) : Out :=
  let due := drillDue s
  let s := if due then { s with red.lastDrill := some (minuteNow s) } else s
  if !due then .next s
  else if isActive s then
    if peerFit s then .next { planHandover s 4 6 with red.drillOrig := true }
    else .next (redRec { s with red.relKind := 4, red.relWhy := 6 } 2 0x05)
  else if isStandby s && selfFit s then .next { planHandover s 4 6 with red.drillOrig := false }
  else .next s

/-- The meaning of DRILL_END (R340, R345): the drill's duration has passed with every phase following; the module hands back
and writes cause 0x04. The original module expects the handover. -/
def execDrillEnd (s : State) : Out :=
  if isActive s then
    match s.red.drill with
    | none => .next s
    | some t =>
      if decide (t ≤ s.epo.ticks) && !s.red.checking then
        .next { planHandover (bump (redRec s 0 0x04) 0x7004 3) 3 6 with red.drill := none }
      else .next s
  else if isStandby s && s.red.drillOrig then .next { planHandover s 3 6 with red.drillOrig := false }
  else .next s

/-- A phase fails the check (R336): over the epochs that count, more than 3.125 A between the means of COT_IMEAS and COT_IREF. -/
def phaseFails (c : PhaseSum) : Bool :=
  decide (3125 * 16777216 * c.n < (c.allMeas * 16777216 - c.allRef * 1000).natAbs)

/-- The switching phases that fail the check of R336. -/
def failingPhases (s : State) : Nat :=
  sumN ((upTo 24).map (fun p => b2n (bit s.cot.active p && phaseFails (s.red.checkSums.getD p PhaseSum.zero)) * 2 ^ p))

/-- The meaning of PHASE_CHECK_COMPLETE (R336, R340): after 10 epochs failing phases leave COT_PHEN, the drive fault is set with
cause 0x06; in a drill the module releases at once, with cause 0x05. -/
def execPhaseCheckComplete (s : State) : Out :=
  if s.red.checking && s.red.checkLeft == 0 then
    let m := failingPhases s
    let s := { s with red.checking := false, red.failMask := m }
    if m = 0 then .next s
    else
      let rec7 := fun (s : State) (cause : Nat) =>
        writeRecB s 7 2 cause (redBody s s.red.relKind (drivingSlot s) (drivingSlot s) s.red.relWhy m)
      let s := refreshActive { s with cot.checkedOff := s.cot.checkedOff ||| m, red.driveFault := true }
      let s := rec7 s 0x06
      if s.red.drill.isSome then .next { release (bump (rec7 s 0x05) 0x7004 4) 1 6 with red.drill := none }
      else .next s
  else .next s

/-- An epoch of the phase check closes (R336): a phase's sums count where its mean |COT_IREF| is at least 25 % of I_ph. -/
def phaseEpoch (s : State) : State :=
  let n := s.red.checkN
  { s with
    red.checkLeft := s.red.checkLeft - 1
    red.checkN := 0
    red.checkSums := s.red.checkSums.map (fun c =>
      if n ≠ 0 ∧ 15625 * 16777216 * n ≤ 4000 * c.abs then
        { PhaseSum.zero with allRef := c.allRef + c.ref, allMeas := c.allMeas + c.meas, n := c.n + n }
      else { c with abs := 0, ref := 0, meas := 0 }) }

/-! ## The PWM comparison (R332) -/

/-- One phase of the active slot agrees with this module's own: on-times within ±1, their sum within 0.5 %. -/
def pwmAgrees (s : State) (l : List (Nat × Nat)) (p : Nat) : Bool :=
  let v := l.getD p (0, 0)
  let n := at0 s.cot.onCnt p
  let t := at0 s.cot.onSum p
  decide (v.1 ≤ n + 1) && decide (n ≤ v.1 + 1) && decide (200 * v.2 ≤ 201 * t) && decide (199 * t ≤ 200 * v.2)

/-- The comparison of a closing epoch in the standby: after 3 consecutive disagreements OUTPUTS = 0 until 10 epochs agree. -/
def comparePwm (s : State) (seen : Option (List (Nat × Nat))) : State :=
  match seen with
  | none => s
  | some l =>
    if !(isStandby s && inLive s) then s
    else if (upTo 24).all (pwmAgrees s l) then
      { s with
        red.pwmMiss := 0, red.pwmGood := satInc s.red.pwmGood 10, red.pwmBad := s.red.pwmBad && decide (s.red.pwmGood < 9) }
    else
      let n := satInc s.red.pwmMiss 3
      let first := n == 3 && s.red.pwmMiss != 3
      let s := { s with red.pwmMiss := n, red.pwmGood := 0, red.pwmBad := s.red.pwmBad || n == 3 }
      if first then redRec s 1 0x08 else s

/-- The epoch that closes is compared, and its on-times are cleared. -/
def pwmEpoch (s : State) (seen : Option (List (Nat × Nat))) : State :=
  { comparePwm s seen with cot.onCnt := List.replicate 24 0, cot.onSum := List.replicate 24 0 }

/-- The meaning of PEER_ABSENT (R341, R344): no word or block for 10 ms; an active module reports active alone, cause 0x0E. -/
def execPeerAbsent (s : State) : Out :=
  let t := { s with red.peerHere := false, red.lineOk := false, red.peerHold := false }
  if s.red.role = .active then .next (redRec { t with red.role := .alone } 1 0x0E) else .next t

end Sys2Proof.Machine
end

