-- ==== Sys2Proof/Machine/Engine.lean ====
section
/-! DEFINITION. The Ephemeris engine: states, features, forecast frames, model slots, mappings and memory errors
(05_forecast_engine.md, 06_models_learning.md). -/
namespace Sys2Proof.Machine

/-! ## Shared -/

/-- The engine serves: Idle or Running (R142). -/
def engOn (s : State) : Bool := s.eng.state == .idle || s.eng.state == .running

/-- The slot in service (object 0x4111). -/
def servingSlot (s : State) : Nat := dget s 0x4111 0

/-- 2.25 GB: the Owner staging area and a slot's area (R197). -/
abbrev slotBytes : Nat := 9 * 2 ^ 28

/-- The area of a slot 1 to 4 in the stack (R197). -/
def slotBase (k : Nat) : Nat := 50 * 2 ^ 30 + (k - 1) * slotBytes

/-- The bytes of a slot's package: those of the reference package of the running image for slot 0 (R173, R198), else those in the
slot's area of the stack (R197). -/
def pkgReader (s : State) (k : Nat) : Reader := fun off len =>
  if k = 0 then leOf ((upTo len).map (fun i => Config.referenceByte (runBank s).version (off + i) % 256))
  else dramN s (slotBase k + off) len

/-- A slot's package. -/
def pkgOf (s : State) (k : Nat) : Package := readPackage (pkgReader s k)

/-- A model slot as State holds it. -/
def rawSlot (s : State) (k : Nat) : Slot := s.eng.slots.getD k Slot.empty

/-- A model slot; slot 0 holds the reference package of the running image (R198, R199). -/
def slotOf (s : State) (k : Nat) : Slot :=
  let v := rawSlot s k
  if k = 0 then
    let r := pkgReader s 0
    { v with flags := r 6 2, ident := r 8 4, version := r 12 4, weights := r 40 8, hash := Config.sha256 (pkgBytes r 0 (r 16 8)) }
  else v

/-- Replace a model slot. -/
def setSlot (s : State) (k : Nat) (v : Slot) : State := { s with eng.slots := setAt s.eng.slots k v }

/-- A slot enters a state. -/
def slotState (s : State) (k st : Nat) : State := setSlot s k { rawSlot s k with state := st }

/-- The bytes of a fault record that say where an error lies (R161): the place of the fields in the record is not stated. DESIGN
CHOICE (log entry 94): kind, tile, bank and channel in bytes 0 to 3, the DRAM offset from byte 8. -/
def errBody : ErrAt → Nat
  | .sram t b => packAt [(0, 1, 1), (1, 1, t), (2, 1, b)]
  | .dram o => packAt [(0, 1, 2), (8, 8, o)]
  | .bond c => packAt [(0, 1, 3), (3, 1, c)]

/-- A fault record of the engine (R160, R161, R187) with its body: its cause and its severity are not stated; free values (log
entry 10). -/
def engRecAt (s : State) (body : Nat) : State :=
  let sev := freeOf s % 4
  let cause := freeOf (drawn s) % 65536
  writeRecB (drawn (drawn s)) 5 sev cause body

/-- A fault record of the engine whose body is not stated: a free value (log entry 10). -/
def engRec (s : State) : State := engRecAt (drawn s) (freeOf s % 256 ^ 96)

/-- The engine is Running while it holds work, Idle otherwise (R142). -/
def settleEng (s : State) : State :=
  if engOn s then
    { s with eng.state := if s.eng.started.isSome || (s.eng.mapNext.isSome && !s.eng.built) then .running else .idle }
  else s

/-- The control clock since power-on. -/
def clockNow (s : State) : Nat := 200000 * s.epo.ticks + s.epo.clk

/-- A model swap is cancelled (R160, R182): object 0x4111 reads the slot in force. -/
def cancelSwap (s : State) : State :=
  { dropPend s 0x4111 0 with
    eng.swapRun := false, eng.swapAlone := false, eng.adoptDue := false, eng.revert := false, eng.swapTo := none
    eng.swapCancels := s.eng.swapCancels + 1 }

/-- A re-shard build ends without a switch (R160, R182, R187, R188). -/
def abandonBuild (s : State) : State :=
  match s.eng.mapNext with
  | none => s
  | some _ => settleEng (bump { s with eng.mapNext := none, eng.built := false, eng.switchAt := none } 0x4106 3)

/-! ## Features (R166 to R168) -/

/-- The figures of shelf `k` in its latest active heartbeat (R38, R422). -/
def shelfFig (s : State) (k : Nat) : ShelfView := if k = shelfIdx s then s.lead.own else shelfView s k

/-- Rack gross power (R97, R166): input power plus string-side power over the shelves in service. -/
def rackGross (s : State) : Int :=
  sumI (((upTo 4).filter (shelfIn s)).map (fun k => ((shelfFig s k).input : Int) + (shelfFig s k).strPower))

/-- An integer as an FP32 word. -/
def fw (i : Int) : Word := BitVec.ofNat 32 (f32OfI i)

/-- A quotient as an FP32 word. -/
def fq (i : Int) (den : Nat) : Word := BitVec.ofNat 32 (f32OfInt (i * 2 ^ 149) den)

/-- The Almanac phase feature (R166): −1 not in use, −2 in use with no phase. -/
def phaseFeat (p : Nat) : Int := if p = 0xFF then -1 else if p = 0xFE then -2 else p

/-- The pending hint feature (R166). -/
def hintFeat (s : State) (c : Nat) : Int :=
  match pendOf s 0x4011 c with
  | none => -1
  | some p => if p.value = 0xFF then -1 else p.value

/-- A filler fraction in 1/256: above 256 it counts as 0 (R81). -/
def fillFrac (w : Nat) : Nat := if 256 < w % 512 then 0 else w % 512

/-- A feature of string `x`: 0.0 out of service (R167). -/
def strFeat (s : State) (x : Str) (w : Word) : Word := if outOfService s x then 0#32 else w

/-! ### Constellations and the Almanac (R58, R71) -/

/-- The member slots of a constellation. -/
def membersOf (s : State) (c : Nat) : List Nat := (s.lead.members.filter (fun p => p.2 == c + 1)).map (·.1)

/-- n_c. -/
def nMembers (s : State) (c : Nat) : Nat := (membersOf s c).length

/-- A constellation with members is in use (R71). -/
def inUse (s : State) (c : Nat) : Bool := !(membersOf s c).isEmpty

/-- An element of the Almanac. -/
def almEl (s : State) (c p : Nat) : Nat := dget s 0x4010 (64 * c + p)

/-- The class of an element. -/
def almClass (s : State) (c p : Nat) : Nat := fieldAt (almEl s c p) 0 1

/-- Anchor power `i` of an element, in units of 2^(-149) W. -/
def anchor (v i : Nat) : Int := f32ToInt (fieldAt v (12 + 4 * i) 4)

/-- Power per chip of a phase at a pace code (R58): linear between anchors, the value at code 31 below it. -/
def chipPow (s : State) (c p code : Nat) : Int :=
  let v := almEl s c p
  if code ≤ 31 then 32 * anchor v 0
  else
    let j := (code - 31) / 32
    let r := (code - 31) % 32
    32 * anchor v j + (anchor v (j + 1) - anchor v j) * r

/-! ### The frame -/

/-- Control clocks since the phase in force of a constellation began (R166). -/
def phaseAge (s : State) (c : Nat) : Nat :=
  match mget s.epo.phaseSince c with
  | 0 => 0
  | t + 1 => 200000 * (s.epo.ticks - t) + s.epo.clk

/-- The power that the template of a phase gives a constellation at a pace code, `age` control clocks into the phase (R58,
R166), in 2^(-303) W: of the 32 equal parts of the duration the one that holds the position. DESIGN CHOICE (log entry 95): the
duration counts as at the reference pace, and beyond its end the last part holds. -/
def templatePow (s : State) (c p code age : Nat) : Int :=
  if p < 64 then
    let v := almEl s c p
    let part := min 31 (32 * age / (200 * max 1 (fieldAt v 4 4)))
    (nMembers s c : Int) * chipPow s c p code * f32ToInt (fieldAt v (44 + 4 * part) 4)
  else 0

/-- Feature 68 + c (R54, R60, R166): the expected power, crossfaded in the twilight towards the template of plan n+1, whose phase
starts afresh where it is another. -/
def expectedPow (s : State) (c : Nat) : Word :=
  let p := at0 s.epo.planN.phase c
  let a := templatePow s c p (at0 s.epo.planN.pace c) (phaseAge s c)
  let (v, den) : Int × Nat := match s.epo.twRunning && s.epo.twPlan, s.epo.planNext with
    | true, some q =>
      let p' := at0 q.phase c
      let b := templatePow s c p' (at0 q.pace c) (if p' = p then phaseAge s c else 0)
      (a * (s.epo.bigM : Int) + (b - a) * (s.epo.m : Int), max 1 s.epo.bigM)
    | _, _ => (a, 1)
  BitVec.ofNat 32 (f32OfInt v (32 * 2 ^ 149 * den))

/-- The feature frame of the active module (R166, R167): what the module's own state gives, and the measured features as handed
over (log entry 1). -/
def featureList (s : State) (inp : List Word) : List Word :=
  let i := fun (k : Nat) => inp.getD k 0#32
  let con := fun (f : Nat → Word) => (upTo 16).map f
  let used := fun (f : Nat → Word) => (upTo 16).map (fun c => if inUse s c then f c else 0#32)
  [fw (rackGross s), i 1, strFeat s .A (i 2), strFeat s .B (i 3), i 4,
    strFeat s .A (fq (s.strs.energy.get .A).soc 10000), strFeat s .B (fq (s.strs.energy.get .B).soc 10000),
    fw s.lead.allowance] ++
  (upTo 4).map (fun k => fw (at0 s.epo.planN.set k)) ++
  (upTo 8).map (fun k => if bit s.fac.rectOk k then i (12 + k) else 0#32) ++
  used (fun c => fw (at0 s.lead.chipPower c)) ++ used (fun c => fw (at0 s.epo.planN.pace c)) ++
  con (fun c => fw (phaseFeat (at0 s.epo.planN.phase c))) ++ used (expectedPow s) ++ con (fun c => fw (hintFeat s c)) ++
  used (fun c => fw (at0 s.lead.stepRate c)) ++ used (fun c => fq (fillFrac (at0 s.epo.planN.fill c)) 256) ++
  con (fun c => fw (at0 s.lead.throttle c)) ++ used (fun c => fw (b2n (bit (at0 s.epo.planN.fill c) 15))) ++
  (upTo 4).map (fun k => fw (shelfCap s k)) ++ [fw (10 * s.eng.frameN)] ++ used (fun c => fq (phaseAge s c) 200000) ++
  List.replicate 71 0#32

/-- The value of a feature of a frame, in 2^(-149). -/
def featI (v : List Word) (f : Nat) : Int := f32ToInt (v.getD f 0#32).toNat

/-- Add to a triple of sums. -/
def addSums (a b : Int × Int × Int) : Int × Int × Int := (a.1 + b.1, a.2.1 + b.2.1, a.2.2 + b.2.2)

/-- The 100 µs means of the lanes (R164): formed with every tenth frame of the epoch, the last 100 ms kept. -/
def laneMeans (s : State) : State :=
  let sum := addSums s.eng.partSum (featI s.eng.feats 1, featI s.eng.feats 2, featI s.eng.feats 3)
  if s.eng.frameN % 10 = 0 then { s with eng.laneSums := (sum :: s.eng.laneSums).take 1000, eng.partSum := (0, 0, 0) }
  else { s with eng.partSum := sum }

/-- A frame reaches the engine (R168): 30 s of frames are kept. -/
def engineFrame (s : State) (v : List Word) : State :=
  { s with
    eng.featHist := (v :: s.eng.featHist).take 3000000
    eng.since := (s.eng.since.1 + 1, s.eng.since.2)
    eng.frameE := s.eng.frameE + 1 }

/-- A frame crosses to the engine through FIFO F0 (R478, R480): while the engine is stopped 8 wait, and each one beyond is
dropped. -/
def feedFrame (s : State) (v : List Word) : State :=
  if engOn s then engineFrame s v
  else if s.eng.feedQ.length < 8 then { s with eng.feedQ := s.eng.feedQ ++ [v] }
  else dropEntries s 0 1

/-- The engine's domain runs again (R476, R478): the events held are released, and what waits in the FIFOs reaches it. -/
def releaseEngine (s : State) : State :=
  let s := { s with power.pulseCount := mdel s.power.pulseCount 1 }
  flushFrames { s.eng.feedQ.foldl engineFrame s with eng.feedQ := [] }

/-- The meaning of FEATURE_FRAME (R166 to R168): on the 10 µs grid of the epoch, 100 frames in it. The active module forms the
frame and sends it over the sister link; the standby takes it from there. -/
def execFeatureFrame (f : FeatIn) (s : State) : Out :=
  if !inLive s || !(isActive s || isStandby s) || decide (100 ≤ s.eng.frameN) || decide (s.epo.clk < 2000 * s.eng.frameN) then
    .next s
  else
    let v := if isActive s then featureList s f.feats else f.feats
    let s := feedFrame (laneMeans { s with eng.feats := v, eng.frameN := s.eng.frameN + 1 }) v
    .next (if isActive s then sendBlocks s 2 2 else s)

/-- The means of the lanes over the epoch that closes (R164). -/
def epochLanes (s : State) : State :=
  let n := s.eng.frameN
  if n = 0 then { s with eng.partSum := (0, 0, 0) }
  else
    let t := (s.eng.laneSums.take (n / 10)).foldl addSums s.eng.partSum
    let word := fun (i : Int) => BitVec.ofNat 32 (f32OfInt i n)
    { s with eng.lastMeans := [word t.1, word t.2.1, word t.2.2], eng.partSum := (0, 0, 0), eng.frameN := 0 }

/-- The 1 ms mean of every feature over the frames of the epoch that closes (R168); 60 s are kept. -/
def epochMeans (s : State) : State :=
  let n := s.eng.frameE
  let one := fun (f : Nat) => BitVec.ofNat 32 (f32OfInt (sumI ((s.eng.featHist.take n).map (featI · f))) n)
  let s := epochLanes s
  if n = 0 then s
  else
    { s with
      eng.frameE := 0
      eng.since := (s.eng.since.1, s.eng.since.2 + 1)
      eng.coarse := ((upTo 256).map one :: s.eng.coarse).take 60000 }

/-! ## The values of a frame (R169) -/

/-- Value (lane l, point i, quantile q) of a forecast. -/
def fVal (f : Forecast) (l i q : Nat) : Word := f.vals.getD (1500 * l + 3 * i + q) 0#32

/-- The grid instant of a forecast in 100 µs units of the epoch grid (R170). -/
def gridOf (epoch start : Nat) : Nat := 10 * epoch + cdiv start 100

/-- The first point of a forecast that lies in epoch `n` (R62, R101, R170). -/
def pointOf (f : Forecast) (n : Nat) : Nat := 10 * n - gridOf f.epoch f.start

/-- The mean p50 of `n` points of a lane from point `i`, as a sum in units of 2^(-149) W (R61, R62). -/
def p50Sum (f : Forecast) (l i n : Nat) : Int :=
  sumI ((upTo n).map (fun k => f32ToInt (fVal f l (min (i + k) 499) 1).toNat))

/-- The lowest p10 point of a lane over `n` points from `i`, W (R101). -/
def p10Low (f : Forecast) (l i n : Nat) : Int :=
  ((upTo n).map (fun k => f32Trunc (fVal f l (min (i + k) 499) 0).toNat)).foldl min
    (f32Trunc (fVal f l (min i 499) 0).toNat)

/-- The forecast the plan uses (R164, R172): the hold forecast while it serves, otherwise the valid refresh with the latest
start among those completed by a control clock. -/
def useAt (s : State) (limit : Nat) : Forecast :=
  if s.eng.holdFc then s.eng.frame
  else match s.eng.recent.find? (fun p => decide (p.1 ≤ limit)) with
    | some p => p.2
    | none => s.eng.frame

/-! ## The host blend (R193, R196) -/

/-- Host value at point `i`, quantile `q` for a refresh with `k` points elapsed since the frame's target epoch (R193). -/
def hostVal (h : List Word) (k i q : Nat) : Word := h.getD (3 * min (i + k) 499 + q) 0#32

/-- fma(w, h − o, o) in FP32 (R148, R196). -/
def fmaBlend (w : Nat) (o h : Word) : Word := BitVec.ofNat 32 (f32Fma w (vecOp .sub h.toNat o.toNat 0) o.toNat)

/-- o + share × (b − o') in FP32, each operation rounded (R148, R196; log entry 17). -/
def shelfBlend (w : Nat) (o b o' : Word) : Word :=
  BitVec.ofNat 32 (f32Add o.toNat (f32Mul w (vecOp .sub b.toNat o'.toNat 0)))

/-- The points of a lane: triples of p10, p50, p90. -/
def points : List Word → List (Word × Word × Word)
  | a :: b :: c :: rest => (a, b, c) :: points rest
  | _ => []

/-- A word below another as FP32 values. -/
def wLt (a b : Word) : Bool := f32Lt a.toNat b.toNat

/-- Sort the three quantiles of a point (R171). -/
def sort3 (p : Word × Word × Word) : Word × Word × Word :=
  let (a, b, c) := p
  let (a, b) := if wLt b a then (b, a) else (a, b)
  let (b, c) := if wLt c b then (c, b) else (b, c)
  let (a, b) := if wLt b a then (b, a) else (a, b)
  (a, b, c)

/-- A list of points as values. -/
def unpoints (l : List (Word × Word × Word)) : List Word := (l.map (fun p => [p.1, p.2.1, p.2.2])).flatten

/-- Sort every point. -/
def sortPoints (l : List Word) : List Word := unpoints ((points l).map sort3)

/-- The shelf's share w_s of R61 as numerator and denominator: one quarter, or its share of the shelves in service. -/
def shareOf (s : State) (k : Nat) : Nat × Nat :=
  if nShelves s = 0 then (1, 4) else if shelfIn s k then (1, nShelves s) else (0, 1)

/-- The host blend of R196 on the four lanes of a forecast, for a refresh of `epoch` started at `start`; points sorted
again. -/
def blendHost (s : State) (own : List Word) (epoch start : Nat) : List Word :=
  if s.eng.blendW = 0 then own
  else
    let w := f32OfInt ((s.eng.blendW : Int) * 2 ^ 149) 10000
    let sh := shareOf s (shelfIdx s)
    let ws := f32OfInt ((sh.1 : Int) * 2 ^ 149) sh.2
    let k := cdiv start 100 + 100 * (epoch - s.eng.hostEpoch)
    let rackO := own.take 1500
    let rackB := (upTo 1500).map (fun j => fmaBlend w (rackO.getD j 0#32) (hostVal s.eng.hostFrame k (j / 3) (j % 3)))
    let shelf := (upTo 1500).map (fun j =>
      shelfBlend ws (own.getD (1500 + j) 0#32) (rackB.getD j 0#32) (rackO.getD j 0#32))
    sortPoints rackB ++ sortPoints shelf ++ own.drop 3000

/-! ## The hold forecast (R164) -/

/-- 500 points of one lane: p10 and p90 are the least and the greatest of the means `l`, each over the denominator `den`, in
2^(-149) W. -/
def holdLane (l : List Int) (den : Nat) (p50 : Word) : List Word :=
  let word := fun (i : Int) => BitVec.ofNat 32 (f32OfInt i den)
  (List.replicate 500 [word (l.foldl min (l.headD 0)), p50, word (l.foldl max (l.headD 0))]).flatten

/-- The values of the hold forecast (R164): p50 the mean over the last epoch, p10 and p90 the extremes over the last
50 ms. -/
def holdVals (s : State) : List Word :=
  let l := s.eng.laneSums.take 500
  let rack := (s.eng.rackMeans.take 50).map (· * 2 ^ 149)
  holdLane rack 1 (fw (atI s.eng.rackMeans 0)) ++ holdLane (l.map (·.1)) 10 (s.eng.lastMeans.getD 0 0#32) ++
    holdLane (l.map (·.2.1)) 10 (s.eng.lastMeans.getD 1 0#32) ++ holdLane (l.map (·.2.2)) 10 (s.eng.lastMeans.getD 2 0#32)

/-- First 16 bytes of SHA-256 over the values (R169). -/
def frameHash (l : List Word) : Nat := Config.sha256 ((l.map (fun w => bytesOf w.toNat 4)).flatten) % 256 ^ 16

/-- The head of a forecast frame (R169). -/
def frameWith (s : State) (epoch start : Nat) (hold swap carried : Bool) (vals : List Word) : Forecast :=
  { valid := true, hold := hold, blended := decide (0 < s.eng.blendW), swap := swap, carried := carried
    slot := servingSlot s, mapping := s.eng.mapping, epoch := epoch, start := start, weight := s.eng.blendW
    learned := s.eng.learnVer % 65536, hash := frameHash vals, vals := vals }

/-- A forecast frame or burst view as bytes (R169, R184). -/
def frameObj (f : Forecast) : Nat :=
  packAt [(0, 1, 0x1B), (1, 1, flagsAt [(0, f.valid), (1, f.hold), (2, f.blended), (3, f.swap), (4, f.carried)]),
    (2, 1, f.slot), (3, 1, f.mapping), (4, 6, f.epoch), (10, 2, f.start), (12, 2, f.weight), (14, 2, f.learned),
    (16, 16, f.hash)] + 256 ^ 32 * leOf ((f.vals.map (fun w => bytesOf w.toNat 4)).flatten)

/-- Publish a frame of the forecast view (R444, R446): the frame's slot, then the count. -/
def viewFrame (s : State) (f : Forecast) : State :=
  let c := s.net.viewCount
  let s := dramPut s (ld1Base + 0x401000 + 24576 * (c % 64)) 24032 (frameObj f)
  { dramPut s (ld1Base + 0x400000) 8 (c + 1) with net.viewCount := c + 1, eng.frame := f }

/-- Publish a frame of the burst view (R444, R446). -/
def burstFrame (s : State) (f : Forecast) : State :=
  let c := s.net.burstCount
  let s := dramPut s (ld1Base + 0x601000 + 8192 * (c % 64)) 4832 (frameObj f)
  { dramPut s (ld1Base + 0x600000) 8 (c + 1) with net.burstCount := c + 1, eng.burst := f }

/-- The hold forecast takes the place of the engine's (R164). -/
def publishHold (s : State) : State :=
  let v := blendHost s (holdVals s) s.epo.count (s.epo.clk / 200)
  viewFrame s (frameWith s s.epo.count (s.epo.clk / 200) true false false v)

/-- The meaning of HOLD_FORECAST (R164): in Live with no valid refresh for 1 ms. -/
def execHoldForecast (s : State) : Out :=
  if inLive s && decide (s.eng.lastValid + 200000 ≤ clockNow s) then
    .next (publishHold { s with eng.holdFc := true, eng.returning := false, eng.validRun := 0 })
  else .next s

/-! ## Refreshes (R163, R170 to R172, R184) -/

/-- The slot whose model a swap twilight brings in: the serving one for an adoption or a revert, else the target (R182, R191,
R192). -/
def swapTarget (s : State) : Option Nat :=
  match pendOf s 0x4111 0 with
  | some p =>
    if p.due ≤ s.epo.ticks + 1 ∧ p.value ≠ servingSlot s then some p.value
    else s.eng.swapTo
  | none => s.eng.swapTo

/-- The slot of the incoming model of a swap twilight. -/
def incomingSlot (s : State) : Nat :=
  if s.eng.adoptDue || s.eng.revert then servingSlot s else (swapTarget s).getD (servingSlot s)

/-- The period a model asks for in a swap twilight (R182): its d where it is streamed, 0 where it is resident. -/
def swapPart (s : State) (k : Nat) : Nat := if (slotOf s k).resident then 0 else max 1 (slotOf s k).divisor

/-- The refresh period of the serve mapping in 100 µs (R170, R179, R182). -/
def refreshPeriod (s : State) : Nat :=
  if s.eng.swapRun then max 1 (swapPart s (servingSlot s) + swapPart s (incomingSlot s))
  else max 1 (slotOf s (servingSlot s)).divisor

/-- A refresh that yields no valid output (R163). -/
def invalidRefresh (s : State) : State := settleEng { s with eng.started := none, eng.validRun := 0 }

/-- A refresh discarded for an error (R160, R165). -/
def discardRefresh (s : State) : State := bump (invalidRefresh s) 0x4182 9

/-- The present 100 µs of the epoch grid (R170). -/
def gridNow (s : State) : Nat := 10 * s.epo.count + s.epo.clk / 20000

/-- A refresh is due (R170): every 20 µs in the burst mapping, in the serve mapping at a grid instant a period after the last. -/
def refreshDue (s : State) : Bool :=
  if s.eng.mapping = 1 then s.epo.clk % 4000 == 0
  else s.epo.clk % 20000 == 0 && (match s.eng.lastGrid with
    | none => true
    | some g => decide (g + refreshPeriod s ≤ gridNow s) || decide (gridNow s < g))

/-- The meaning of REFRESH_START (R142, R170, R183, R480): a refresh that has not completed has missed its deadline (R163); the
stripes turn once per refresh. Into a stopped engine the event crosses no further than pulse P1. -/
def execRefreshStart (s : State) : Out :=
  if inLive s && engOn s && refreshDue s then
    let s := if s.eng.started.isSome then invalidRefresh s else s
    let serve := s.eng.mapping != 1
    .next { s with
      eng.state := .running
      eng.started := some (s.epo.count, s.epo.clk / 200)
      eng.since := (0, 0)
      eng.stripes := (s.eng.stripes + 1) % 4
      eng.lastGrid := if serve then some (gridNow s) else s.eng.lastGrid
      eng.refreshNo := if serve then s.eng.refreshNo + 1 else s.eng.refreshNo }
  else .next (if inLive s && refreshDue s then pulse s 1 true else s)

/-- The meaning of REFRESH_DEADLINE_MISS (R163, R170). -/
def execRefreshDeadlineMiss (s : State) : Out :=
  .next (if s.eng.started.isSome then invalidRefresh s else s)

/-- A refresh started at an epoch and a µs has run beyond its deadline (R170): 100 d − 20 µs, or 18 µs in the burst mapping. -/
def refreshLate (s : State) (epoch start : Nat) : Bool :=
  let limit := if s.eng.mapping = 1 then 18 else 100 * refreshPeriod s - 20
  decide (200000 * epoch + 200 * (start + limit) < 200000 * s.epo.count + s.epo.clk)

/-- How the engine sums in force on a mapping (R155). -/
def arithOn (s : State) (mapping : Nat) : Arith := if dget s 0x4180 0 = 1 then .fast mapping else .exact

/-- Weights with others in the place of those of the same tensor. -/
def overlay (w l : List (Nat × List Exact)) : List (Nat × List Exact) :=
  w.map (fun p => match l.find? (fun q => q.1 == p.1) with | some q => q | none => p)

/-- The weights in service (R191, R197): the learned ones in the place of those signed. -/
def servingWeights (s : State) : List (Nat × List Exact) :=
  let k := servingSlot s
  let w := signedWeights (pkgReader s k) (pkgOf s k)
  if s.eng.learnVer = 0 then w else overlay w s.eng.learnedW

/-- The weights of the incoming model of a swap twilight (R182, R191, R192). -/
def incomingWeights (s : State) : List (Nat × List Exact) :=
  let k := incomingSlot s
  let w := signedWeights (pkgReader s k) (pkgOf s k)
  if s.eng.adoptDue then overlay w s.eng.candW else w

/-- The inputs of the refresh in progress (R168, R176): the frames and means held at its start, newest first. -/
def fineOf (s : State) (p : Package) : List (List Word) := (s.eng.featHist.drop s.eng.since.1).take p.fineN
def coarseOf (s : State) (p : Package) : List (List Word) := (s.eng.coarse.drop s.eng.since.2).take p.coarseN

/-- The STATE tensors of an evaluation, by its number: lanes 0 to 3, and 4 to 7 for an incoming model (R176). -/
def carriedOf (s : State) (n : Nat) : List (Nat × List Exact) :=
  (s.eng.carried.filter (fun p => p.1 == n)).map (·.2)

/-- The four lanes of a model (R183), the evaluations numbered from `base`. -/
def laneRuns (s : State) (m : Arith) (p : Package) (w : List (Nat × List Exact)) (base : Nat) : List Run :=
  (upTo 4).map (fun l =>
    laneRun m p { weights := w, carried := carriedOf s (base + l), fine := fineOf s p, coarse := coarseOf s p, lane := l })

/-- The output values of four lanes, `n` a lane. -/
def runVals (p : Package) (l : List Run) (n : Nat) : List Word := (l.map (fun x => laneVals p x n)).flatten

/-- The STATE tensors that evaluations leave, by their numbers. -/
def runState (p : Package) (l : List Run) (base : Nat) : List (Nat × Nat × List Exact) :=
  ((l.zip (upTo l.length)).map (fun x => (laneState p x.1).map (fun t => (base + x.2, t)))).flatten

/-- The range of a lane, W (R171). -/
def laneLo (l : Nat) : Int := if l < 2 then 0 else -300000
def laneHi (l : Nat) : Int := if l = 0 then 2400000 else if l = 1 then 600000 else 300000

/-- Clamp a value to a lane's range (R171). -/
def clampF (l : Nat) (w : Word) : Word :=
  let v := f32ToInt w.toNat
  if v < laneLo l * 2 ^ 149 then fw (laneLo l) else if laneHi l * 2 ^ 149 < v then fw (laneHi l) else w

/-- The `l`-th lane of an output of `n` values a lane. -/
def laneOut (out : List Word) (n l : Nat) : List Word := (upTo n).map (fun k => out.getD (n * l + k) 0#32)

/-- R171 steps 2 and 3 on an output of `n` values a lane: the four lanes, the clamps and the reorderings. -/
def checkOut (out : List Word) (n : Nat) : List Word × Nat × Nat :=
  let lanes := (upTo 4).map (fun l => (laneOut out n l, (laneOut out n l).map (clampF l)))
  let clamps := sumN (lanes.map (fun p => ((p.1.zip p.2).filter (fun q => q.1 != q.2)).length))
  let vals := (lanes.map (fun p => p.2)).flatten
  let re := ((points vals).filter (fun p => sort3 p != p)).length
  (sortPoints vals, clamps, re)

/-- The crossfade of a model swap (R54): point by point, quantile by quantile, per R53. -/
def crossfade (s : State) (a b : List Word) : List Word :=
  (a.zip b).map (fun p =>
    let x := f32ToInt p.1.toNat
    let y := f32ToInt p.2.toNat
    BitVec.ofNat 32 (f32OfInt (x * (s.epo.bigM : Int) + (y - x) * (s.epo.m : Int)) (max 1 s.epo.bigM)))

/-- What a refresh computes (R54, R160, R182, R183): the output of `n` values a lane, the STATE tensors it leaves, and the
non-finite values and saturations counted. In a swap twilight both models run and their outputs crossfade, or the new model's
stands alone. -/
def refreshRun (s : State) (n : Nat) : List Word × List (Nat × Nat × List Exact) × Nat × Nat :=
  let m := arithOn s s.eng.mapping
  let p := pkgOf s (servingSlot s)
  let old := laneRuns s m p (servingWeights s) 0
  if !s.eng.swapRun then (runVals p old n, runState p old 0, sumN (old.map (·.bad)), sumN (old.map (·.sats)))
  else
    let q := pkgOf s (incomingSlot s)
    let new := laneRuns s m q (incomingWeights s) 4
    let all := if s.eng.swapAlone then new else old ++ new
    (if s.eng.swapAlone then runVals q new n else crossfade s (runVals p old n) (runVals q new n),
      runState p old 0 ++ runState q new 4, sumN (all.map (·.bad)), sumN (all.map (·.sats)))

/-- The main frame of a burst refresh (R184): points 0 to 99 are its own, points 100 to 499 those of the last serve refresh at
the same times; its last point extends beyond its horizon. -/
def carriedVals (s : State) (burst : List Word) (grid : Nat) : List Word :=
  let shift := grid - s.eng.serveAt
  ((upTo 4).map (fun l =>
    laneOut burst 300 l ++
      (upTo 1200).map (fun k =>
        s.eng.serveVals.getD (1500 * l + 3 * min (100 + k / 3 + shift) 499 + k % 3) 0#32))).flatten

/-- The first 100 points of every lane (R184). -/
def burstPart (v : List Word) : List Word := ((upTo 4).map (fun l => (v.drop (1500 * l)).take 300)).flatten

/-- Publish a valid refresh (R164, R169, R172, R184). -/
def publish (s : State) (epoch start : Nat) (own : List Word) (burst : Bool) : State :=
  let v := blendHost s own epoch start
  let fr := frameWith s epoch start false s.eng.swapRun burst v
  let view := if s.eng.returning then
      let b := crossfade s (blendHost s (holdVals s) epoch start) v
      { fr with vals := b, hash := frameHash b }
    else fr
  let main := (!s.eng.holdFc || s.eng.returning) && (!burst || start % 100 == 0)
  let s := { s with
    eng.started := none
    eng.recent := ((clockNow s, fr) :: s.eng.recent).take 8
    eng.validRun := satInc s.eng.validRun 255
    eng.lastValid := clockNow s }
  let s := if main then viewFrame s view else s
  if burst then burstFrame s { fr with vals := burstPart v, hash := frameHash (burstPart v) } else s

/-- The phases the engine infers with a refresh (R60): only elements whose class is not 0 are selected. -/
def inferPhases (s : State) (l : List (Nat × Nat)) : State :=
  l.foldl (fun s p =>
    if p.1 < 16 ∧ p.2 < 64 ∧ fieldAt (dget s 0x4010 (64 * p.1 + p.2)) 0 1 ≠ 0 then
      { s with epo.inferred := mset s.epo.inferred p.1 (p.2 + 1) }
    else s) s

/-- Keep the inputs of a serve refresh for its training pair (R189): those of the last 51 ms and the latest. -/
def noteRef (s : State) (epoch start : Nat) : State :=
  let p := pkgOf s (servingSlot s)
  let at' := clockNow s + 200 * start - (200000 * (s.epo.count - epoch) + s.epo.clk)
  let r : RefPoint := { number := s.eng.refreshNo - 1, clock := at', fine := fineOf s p, coarse := coarseOf s p }
  { s with eng.refs := (r :: s.eng.refs).take 512 }

/-- What a valid output does (R60, R164, R171, R172, R176, R184, R189): clamps and reorderings counted, STATE tensors carried,
published. -/
def refreshOut (s : State) (epoch start : Nat) (out : List Word) (carried : List (Nat × Nat × List Exact)) : State :=
  let burst := s.eng.mapping == 1
  let (vals, clamps, re) := checkOut out (if burst then 300 else 1500)
  let s := bumpN (bumpN { s with eng.carried := carried } 0x4106 4 clamps) 0x4106 5 re
  if burst then publish s epoch start (carriedVals s vals (gridOf epoch start)) true
  else publish (noteRef { s with eng.serveVals := vals, eng.serveAt := gridOf epoch start } epoch start) epoch start vals false

/-- The meaning of REFRESH_DONE (R60, R148, R152, R156, R159, R160, R163, R170, R171, R184, R196): the engine has evaluated the
model. The errors of SRAM and DRAM words that its reads found and corrected, and the phases inferred with it (log entry 79), are
operands. -/
def execRefreshDone (sramFixed dramFixed : Nat) (inferred : List (Nat × Nat)) (s : State) : Out :=
  match s.eng.started with
  | none => .next s
  | some (epoch, start) =>
    let s := bumpN (bumpN s 0x4182 0 sramFixed) 0x4182 2 dramFixed
    if s.eng.corrupt ≠ 0 ∨ s.eng.state ≠ .running then .next (discardRefresh s)
    else if refreshLate s epoch start then .next (invalidRefresh s)
    else
      let (out, carried, bad, sats) := refreshRun s (if s.eng.mapping = 1 then 300 else 1500)
      let s := bumpN (bumpN s 0x4182 7 bad) 0x4182 8 sats
      if out.any (fun w => f32NonFinite w.toNat) then .next (invalidRefresh (bump s 0x4182 7))
      else .next (settleEng (refreshOut (inferPhases s inferred) epoch start out carried))

/-! ## The learning state (R189, R192) -/

/-- No learning state. -/
def LearnState.none : LearnState := { master := [], first := [], second := [], steps := 0 }

/-- Learning runs (R179, R189). -/
def learnOn (s : State) : Bool :=
  let k := slotOf s (servingSlot s)
  isActive s && inLive s && engOn s && bit k.flags 0 && k.resident && dget s 0x4120 0 == 1 &&
    dget s 0x4121 0 == 1 && dget s 0x4180 0 == 0

/-- The learned weights give way to the slot's signed weights, and learning restarts from them (R192). -/
def revertWeights (s : State) : State :=
  { setSlot s (servingSlot s) { rawSlot s (servingSlot s) with learned := 0 } with
    eng.learnVer := 0, eng.learnHash := 0, eng.candidate := none, eng.candAcked := false, eng.adoptDue := false
    eng.learn := LearnState.none, eng.checkpoint := LearnState.none, eng.learnedW := [], eng.candW := [] }

/-! ## Slots and swaps (R173, R180 to R182) -/

/-- The STATE tensors of the incoming model, as those of the serving one (R176, R182). -/
def incomingState (s : State) : List (Nat × Nat × List Exact) :=
  (s.eng.carried.filter (fun p => decide (4 ≤ p.1))).map (fun p => (p.1 - 4, p.2))

/-- A model swap takes effect (R176, R182, R184, R189, R192): the outgoing model's learned version is discarded and counted, the
incoming model goes on with its own STATE tensors, learning starts anew, and a package without BURST serves in the serve
mapping. -/
def swapIn (s : State) (k : Nat) : State :=
  let old := servingSlot s
  if old = k then { s with eng.swapTo := none }
  else
    let had := s.eng.learnVer ≠ 0
    let s := revertWeights { s with
      eng.swapTo := none, eng.discarded := if had then satInc s.eng.discarded 0xFFFFFFFF else s.eng.discarded }
    let s := if (rawSlot s old).state = 3 then slotState s old 2 else s
    let s := dset (slotState s k 3) 0x4111 0 k
    { s with
      eng.carried := incomingState s
      eng.sram := if (slotOf s k).resident then some k else none
      eng.mapping := if bit (slotOf s k).flags 1 && (slotOf s k).resident then s.eng.mapping else 0
      eng.refs := [], eng.train := [], eng.holdout := [] }

/-- The code that answers a selection (R182). -/
def selectCode (s : State) (role : Role) (k : Nat) : Nat :=
  if role = .tenant ∧ dget s 0x4112 0 = 0 then 0x02
  else if (slotOf s k).state = 2 ∨ (slotOf s k).state = 3 then 0 else 0x03

/-- A selection is accepted (R182): a re-shard build that runs is abandoned, to be built again after the swap. -/
def selectAccepted (s : State) : State :=
  match s.eng.mapNext with
  | some m => { abandonBuild s with eng.rebuild := some m }
  | none => s

/-- The code that answers a load command (R10, R180). -/
def loadCode (s : State) (v : Nat) : Nat :=
  let k := fieldAt v 0 1
  if fieldAt v 2 6 ≠ 0 then 0x04
  else if k = 0 ∨ 4 < k ∨ 1 < fieldAt v 1 1 then 0x03
  else if k = servingSlot s then 0x09
  else match pendOf s 0x4111 0 with
    | some p => if p.value = k then 0x09 else 0
    | none => 0

/-- A load command is accepted (R180): the slot enters state loading. -/
def startLoad (s : State) (role : Role) (v : Nat) : State :=
  let k := fieldAt v 0 1
  { setSlot s k { Slot.empty with state := 1 } with eng.loaders := mset s.eng.loaders k (roleBits role + 1) }

/-- The code of a package load (R180), in the order of its checks, on the bytes in the slot's area. -/
def packageCode (s : State) (k : Nat) (sig : Sig) : Nat :=
  let r := pkgReader s k
  let p := readPackage r
  let owner := k = 1 ∨ k = 2
  if p.magic ≠ 0x01504D56 ∨ p.head / 16 ≠ 1 then 0x08
  else if ¬(p.signer = (if owner then 0 else 1) ∧ mget s.eng.loaders k = (if owner then 1 else 2)) then 0x02
  else if !sigOk (if owner then ownerKeys s else tenantKeys s) (some sig) then 0x07
  else if !reservedZero p then 0x04
  else if !structureOk r p then 0x03
  else if !pairsOk p || (p.burst && !rowsSeparable p) then 0x03
  else if 2 ^ 31 < p.weightBytes ∨ slotBytes < p.signed + 4 + p.sigLen ∨ 134217728 < p.learnables then 0x03
  else 0

/-- The slot that a verified package makes (R199). -/
def slotFor (s : State) (k : Nat) : Slot :=
  let r := pkgReader s k
  let p := readPackage r
  { state := 2, signer := p.signer, flags := p.flags, result := 0, divisor := p.divisor, ident := p.ident, version := p.version
    weights := p.weightBytes, learned := 0, hash := packageHash r p, resident := p.resident }

/-- A mirror of the engine's is sent on stream 6 (R331), where it runs and a peer is there. -/
def sendMirror (s : State) : State :=
  if mirrorUp s && s.red.peerHere then sendBlocks { s with red.mirrorsSent := s.red.mirrorsSent + 1 } 6 1 else s

/-- The meaning of MODEL_LOAD_DONE (R173 to R180, R199): the slot is verified and mirrored, or left empty with the code of the
first failure. `sig` is the signature behind the package's last section. -/
def execModelLoadDone (k : Nat) (sig : Sig) (s : State) : Out :=
  if (slotOf s k).state ≠ 1 then .next s
  else
    let c := packageCode s k sig
    let v := if c = 0 then slotFor s k else { Slot.empty with result := c }
    let s := if c = 0x07 then bump s 0x8070 0 else s
    let s := { setSlot s k v with eng.loaders := mdel s.eng.loaders k }
    .next (if c = 0 then sendMirror s else s)

/-- The code that answers a clear (R182). -/
def clearSlotCode (s : State) (k : Nat) : Nat := if k = servingSlot s then 0x09 else 0

/-- A slot named by a pending selection is gone: the swap is cancelled (R182). -/
def slotGone (s : State) (k : Nat) : State :=
  match pendOf s 0x4111 0 with
  | some p => if p.value = k ∧ k ≠ servingSlot s then cancelSwap s else s
  | none => s

/-- A slot is cleared (R182). -/
def clearSlot (s : State) (k : Nat) : State := setSlot (slotGone s k) k Slot.empty

/-- The meaning of DAMAGED_SLOT_FETCH (R181): `mirror` is the package hash of the standby's mirror. -/
def execDamagedSlotFetch (k : Nat) (mirror : Option Nat) (s : State) : Out :=
  let v := slotOf s k
  if v.state ≠ 4 then .next s
  else if s.red.peerHere && mirror == some v.hash then
    .next { slotState s k (if k = servingSlot s then 3 else 2) with eng.swapTo := none }
  else if k = servingSlot s then .next { s with eng.swapTo := some 0 }
  else .next s

/-! ## Errors (R158 to R161) -/

/-- A record of the CXL attachment (R458): block 10, with the logical device (0xFF none) and the window offset. -/
def cxlRec (s : State) (severity cause ld offset : Nat) : State :=
  writeRecB s 10 severity cause (packAt [(0, 1, ld), (4, 8, offset)])

/-- An uncorrectable error in window data that a host reads (R160, R161, R454): listed and recorded. -/
def windowError (s : State) (ld offset : Nat) : State :=
  let s := bump s 0x1012 5
  let s := { s with net.evRecords := s.net.evRecords ++ [(s.net.evHandle, ld, offset)], net.evHandle := s.net.evHandle + 1 }
  cxlRec s 2 0x12 ld offset

/-- The same, counted (R165). -/
def hostReadError (s : State) (ld offset : Nat) : State := windowError (bump s 0x4182 3) ld offset

/-- The mailbox command of a logical device ends with Internal Error, code 3 (R454; log entry 68). -/
def mailInternal (s : State) (ld : Nat) : State :=
  match s.net.mailOut with
  | none => s
  | some m => if m.ld = ld then mailDone s ld m.opcode 3 [] else s

/-- The data that the stack holds at an offset (R157, R197, R441), where its areas tell it. -/
def heldAt (o : Nat) : Option ErrHeld :=
  let g := 2 ^ 30
  if o < 16 * g then none
  else if o < 40 * g then some (.window 0 (o - 16 * g))
  else if o < 48 * g then some (.window 1 (o - 40 * g))
  else if o < 49 * g then some (.window 2 (o - 48 * g))
  else if o < 50 * g then some (.dramWeights 0)
  else if o < 59 * g then some (.dramWeights (1 + (o - 50 * g) / slotBytes))
  else if o < 61 * g then none
  else if o < 263 * 2 ^ 28 then some .learning
  else if o < 68 * g then none
  else if o < 69 * g then some .learning
  else if o < 72 * g then some .refresh
  else none

/-- The data an error concerns: by the place in the stack, else as the engine knows it. -/
def heldBy (held : ErrHeld) : ErrAt → ErrHeld
  | .dram o => (heldAt o).getD held
  | .sram _ _ => held
  | .bond _ => held

/-- What an uncorrectable error does, by the data it held (R160); the learning state goes back to its last mirror, the
checkpoint. -/
def errEffect (s : State) : ErrHeld → State
  | .refresh => if s.eng.started.isSome then discardRefresh s else s
  | .sramWeights => { s with eng.corrupt := 2 }
  | .dramWeights k => slotGone (slotState s k 4) k
  | .learning => { s with eng.learn := s.eng.checkpoint }
  | .layout => abandonBuild s
  | .swapNew => if s.eng.swapRun then cancelSwap s else s
  | .swapOld => if s.eng.swapRun then { s with eng.swapAlone := true } else s
  | .window _ _ => s

/-- An uncorrectable error that was counted: recorded and handled (R160, R161, R454). Window data is that which a mailbox command
reads; CXL_MEM_READ carries its own error. -/
def errorIn (s : State) (held : ErrHeld) (place : ErrAt) : State :=
  match heldBy held place with
  | .window ld offset => mailInternal (windowError s ld offset) ld
  | h => errEffect (engRecAt s (errBody place)) h

/-- The counter of uncorrectable errors of a place (R165). -/
def errCounter : ErrAt → Nat
  | .sram _ _ => 1
  | .dram _ => 3
  | .bond _ => 6

/-- The meaning of UNCORRECTABLE_ERROR (R156, R159 to R161, R454): counted, recorded, and handled by what held the data. -/
def execUncorrectableError (held : ErrHeld) (place : ErrAt) (s : State) : Out :=
  .next (errorIn (bump s 0x4182 (errCounter place)) held place)

/-- 72 GB, where a scrub sweep ends. -/
abbrev stackEnd : Nat := 72 * 2 ^ 30

/-- The meaning of SCRUB_READ (R159): the next word of the sweep; a sweep starts once per scrub period (object 0x4185). A
correction reported by the die is counted. -/
def execScrubRead (corrected : Bool) (s : State) : Out :=
  let done := decide (stackEnd ≤ s.eng.scrubAddr)
  if done && decide (s.epo.ticks < s.eng.scrubTick + 3600000 * dnow s 0x4185 0) then .next s
  else
    let a := if done then 0 else s.eng.scrubAddr
    let s := { s with eng.scrubAddr := a + 8, eng.scrubTick := if a = 0 then s.epo.ticks else s.eng.scrubTick }
    .next (if corrected then bump s 0x4182 2 else s)

/-- Retrains of a bond channel within 1 s (R158): the list's keys are 64 × tick + channel. -/
def bondTrainsIn (s : State) (c : Nat) : Nat :=
  sumN ((s.eng.bondTrains.filter (fun p => p.1 % 64 == c && decide (s.epo.ticks < p.1 / 64 + 1000))).map (·.2))

/-- A channel is retrained after the eighth failure (R158): three within 1 s put the engine in Fault. DESIGN CHOICE (log entry
96): that Fault lasts until a relock of the engine PLL, a leave from Live or a restart; the spec states no way back. -/
def retrain (s : State) (c : Nat) : State :=
  let kept := s.eng.bondTrains.filter (fun p => decide (s.epo.ticks < p.1 / 64 + 1000))
  let s := bump { s with
    eng.bondTries := mset s.eng.bondTries c 8, eng.bondTrains := madd kept (64 * s.epo.ticks + c) 1 } 0x4182 5
  if 3 ≤ bondTrainsIn s c then engineFault s else s

/-- The meaning of BOND_CRC_FAIL (R140, R158): a transfer of a channel whose CRC does not hold. A transfer is attempted eight
times; after the eighth failure the channel is retrained and the transfer issued once more; a ninth failure is uncorrectable.
`first` tells that this is a transfer's first attempt. -/
def execBondCrcFail (c addr : Nat) (data : List Nat) (crc : Nat) (first : Bool) (held : ErrHeld) (s : State) : Out :=
  if 16 ≤ c ∨ bondCrc addr data = crc then .next s
  else
    let n := (if first then 0 else mget s.eng.bondTries c) + 1
    if n < 8 then .next (bump { s with eng.bondTries := mset s.eng.bondTries c n } 0x4182 4)
    else if n = 8 then .next (retrain s c)
    else .next (errorIn (bump { s with eng.bondTries := mdel s.eng.bondTries c } 0x4182 6) held (.bond c))

/-- The meaning of ENGINE_TEMPERATURE (R144, R145): thresholds 100, 110 and 95 °C on the junction temperature, 0.1 °C. -/
def execEngineTemperature (m : EngMeas) (s : State) : Out :=
  let s := { s with eng.temp := m.temp, eng.power := m.power, eng.tiles := m.tiles, eng.dramUse := m.dram }
  if 1100 ≤ m.temp then
    let s := { s with eng.hot := true, eng.hotFault := true }
    .next (if s.eng.state = .dark ∧ s.eng.waking = false then s else engineFault s)
  else if 1000 ≤ m.temp then .next { s with eng.hot := true }
  else if m.temp < 950 then
    .next { s with
      eng.hot := false, eng.hotFault := false
      eng.waking := s.eng.waking ||
        (s.eng.hotFault && s.eng.state == .fault && s.power.eplLock && !s.power.bridgeFailed.contains 1) }
  else .next s

/-- The effective engine power limit, W (R144, R145). -/
def powerLimit (s : State) : Nat := if s.eng.hot then min (dnow s 0x4183 0) 60 else dnow s 0x4183 0

/-- The mean power is within 5 % of the limit (R144). -/
def nearLimit (s : State) : Bool := decide (95 * powerLimit s ≤ 100 * s.eng.power)

/-- The meaning of ENGINE_WAKE_COMPLETE (R143, R145, R473): the weights of a resident package lie in tile SRAM again. A wake
that ends outside Live completes into Dark; at 110 °C, or with bridge B1 failed, the engine is in Fault (R462). -/
def execEngineWakeComplete (s : State) : Out :=
  if !s.eng.waking then .next s
  else if s.power.bridgeFailed.contains 1 || s.eng.hotFault then .next (engineFault s)
  else if inLive s && s.power.eplEn && s.power.eplLock then
    .next (releaseEngine { s with
      eng.waking := false, eng.state := .running, eng.corrupt := 0, eng.carried := []
      eng.sram := if (slotOf s (servingSlot s)).resident then some (servingSlot s) else none })
  else .next { s with eng.waking := false, eng.state := .dark }

/-! ## Arithmetic mode (R155) -/

/-- Fast mode may be in force (R155): no peer on the sister link and no other controller heard for 1 s. -/
def onBench (s : State) : Bool :=
  !s.red.peerHere && (s.net.peerBeat == 0 || decide (s.net.peerBeat + 999 ≤ s.epo.ticks))

/-- The meaning of FAST_MODE_EXIT (R155): exact mode is in force from the next class-E boundary. -/
def execFastModeExit (s : State) : Out :=
  if dget s 0x4180 0 == 1 && !onBench s && !s.eng.fastOut then
    let s := dropPend s 0x4180 0
    .next { s with
      eng.fastOut := true
      dic.pend := s.dic.pend ++ [{ object := 0x4180, element := 0, value := 0, cls := 2, due := dueE s }] }
  else .next s

/-! ## Mappings (R184 to R188) -/

/-- The package in service is resident and has BURST (R179, R184). -/
def mayBurst (s : State) : Bool :=
  let k := slotOf s (servingSlot s)
  bit k.flags 1 && k.resident

/-- The mapping the policy calls for at a boundary (R185): burst until 50 epochs without a trigger have passed. -/
def wantedMap (s : State) : Nat :=
  if dget s 0x4102 0 = 2 then 1
  else if dget s 0x4102 0 = 1 then 0
  else if s.eng.calm < 50 then 1
  else 0

/-- A build starts in the background (R187, R188). -/
def startBuild (s : State) (m : Nat) : State :=
  settleEng { s with eng.mapNext := some m, eng.built := false, eng.switchAt := none, eng.rebuild := none }

/-- RESHARD_DECISION (R182, R185, R187, R188): at an epoch boundary; `trigger` tells whether R185 lists an event of the epoch.
While a selection is pending none starts. -/
def decideReshard (s : State) (trigger : Bool) : State :=
  let s := { s with eng.calm := if trigger then 0 else satInc s.eng.calm 50 }
  let want := wantedMap s
  if !engOn s then s
  else if want = 1 && !mayBurst s then bump { s with eng.rebuild := none } 0x4106 6
  else if (pendOf s 0x4111 0).isSome then s
  else
    let want := s.eng.rebuild.getD want
    if want = s.eng.mapping then
      { s with eng.mapNext := none, eng.built := false, eng.switchAt := none, eng.rebuild := none }
    else if s.eng.mapNext = some want ∨ s.epo.ticks < s.eng.noShardBefore then s
    else startBuild s want

/-- The switch of a scheduled re-shard at its boundary (R54, R187): a layout that is not complete keeps the old one. -/
def switchMap (s : State) : State :=
  match s.eng.switchAt, s.eng.mapNext with
  | some t, some k =>
    if t ≤ s.epo.ticks then
      if s.eng.built then bump { s with eng.mapping := k, eng.mapNext := none, eng.built := false, eng.switchAt := none } 0x4106 2
      else { s with eng.mapNext := none, eng.switchAt := none }
    else s
  | _, _ => s

/-- The meaning of RESHARD_BUILD_DONE (R187). -/
def execReshardBuildDone (s : State) : Out :=
  .next (if s.eng.mapNext.isSome then settleEng { s with eng.built := true } else s)

/-- The new layout and the serving one give the same points 0 to 99 (R154, R187): in exact mode always; in fast mode the sums of
the two mappings decide. -/
def shadowEqual (s : State) (m : Nat) : Bool :=
  let p := pkgOf s (servingSlot s)
  let w := servingWeights s
  dget s 0x4180 0 != 1 ||
    runVals p (laneRuns s (.fast m) p w 0) 300 == runVals p (laneRuns s (.fast s.eng.mapping) p w 0) 300

/-- The meaning of RESHARD_SHADOW_COMPARE (R187): on a match the switch is scheduled at the first boundary whose twilight starts
at least 100 µs later; a mismatch abandons the build, writes a record, and no re-shard starts for 10 s. `upset` tells that an
error changed the shadow's points. -/
def execReshardShadowCompare (upset : Bool) (s : State) : Out :=
  match s.eng.mapNext with
  | none => .next s
  | some m =>
    if !s.eng.built || s.eng.switchAt.isSome || !isActive s then .next s
    else if !upset && shadowEqual s m then
      let t := if s.epo.clk + 20000 + 200 * s.epo.ttw ≤ 200000 then s.epo.ticks + 1 else s.epo.ticks + 2
      .next { s with eng.switchAt := some t }
    else .next { engRec (abandonBuild s) with eng.noShardBefore := s.epo.ticks + 10000 }

end Sys2Proof.Machine
end

