-- ==== Sys2Proof/Machine/Learn.lean ====
section
/-! DEFINITION. Online learning (R189 to R192): training pairs, learning steps, candidates and their adoption, and what the sister
link's mirrors bring (R173, R191, R192, R331). -/
namespace Sys2Proof.Machine

/-! ## Training pairs (R189) -/

/-- The realised 100 µs means of the four lanes over the 500 points of a refresh, lane by lane, W (R164, R189): none while, or
where no longer, the means of all points are held. -/
def realised (s : State) (r : RefPoint) : Option (List Word) :=
  let n := (clockNow s - r.clock) / 20000
  if n < 500 ∨ s.eng.laneSums.length < n then none
  else
    let rack := (upTo 500).map (fun i =>
      let t := (r.clock / 20000 + i) / 10
      if s.epo.ticks ≤ t then s.eng.feats.getD 0 0#32 else fw (atI s.eng.rackMeans (s.epo.ticks - 1 - t)))
    let own := ((s.eng.laneSums.take n).drop (n - 500)).reverse
    let lane := fun (f : Int × Int × Int → Int) => own.map (fun x => BitVec.ofNat 32 (f32OfInt (f x) 10))
    some (rack ++ lane (·.1) ++ lane (·.2.1) ++ lane (·.2.2))

/-- The oldest refresh 50 ms ago or more whose realised means are held (R189). -/
def pairDue (s : State) : Option (RefPoint × List Word) :=
  match s.eng.refs.reverse.find? (fun r => (realised s r).isSome) with
  | none => none
  | some r => (realised s r).map (fun l => (r, l))

/-- The meaning of TRAINING_PAIR (R189): a pair whose refresh number is 9 mod 10 goes to the holdout set; the latest 4,096 of
that set and the latest 65,536 others are kept. -/
def execTrainingPair (s : State) : Out :=
  if !learnOn s then .next s
  else match pairDue s with
    | none => .next s
    | some (r, real) =>
      let s := { s with eng.refs := s.eng.refs.filter (fun x => decide (r.number < x.number)) }
      if r.number % 10 = 9 then .next { s with eng.holdout := (⟨r, real⟩ :: s.eng.holdout).take 4096 }
      else .next { s with eng.train := (⟨r, real⟩ :: s.eng.train).take 65536 }

/-! ## The loss (R190) -/

/-- Points 0 to 499 of a lane of a pair. -/
def realLane (p : TrainPair) (l : Nat) : List Nat := ((p.real.drop (500 * l)).take 500).map (·.toNat)

/-- The pinball loss of an output at a quantile level, FP32: `q` and `q1` are the patterns of the level and of the level − 1. -/
def pinball (q q1 real out : Nat) : Nat :=
  let d := vecOp .sub real out 0
  f32Pick false (f32Mul q d) (f32Mul q1 d)

/-- The levels 0.1, 0.5 and 0.9, and those levels − 1. -/
def levels : List (Nat × Nat) := [(0x3DCCCCCD, 0xBF666666), (0x3F000000, 0xBF000000), (0x3F666666, 0xBDCCCCCD)]

/-- The mean pinball loss of a lane over pairs with their outputs, divided by the lane's mean measured power (R190, R191). DESIGN
CHOICE (log entry 111): the mean is over pairs, points and levels. -/
def laneLoss (l : List (TrainPair × List Word)) (lane : Nat) : Nat :=
  let terms := (l.map (fun p =>
    ((realLane p.1 lane).zip (points p.2)).map (fun x =>
      (levels.zip [x.2.1, x.2.2.1, x.2.2.2]).map (fun y => pinball y.1.1 y.1.2 x.1 y.2.toNat)))).flatten.flatten
  let real := (l.map (fun p => realLane p.1 lane)).flatten
  let mean := fun (v : List Nat) => f32Div (sumOrdered .exact v) (f32OfI v.length)
  f32Div (mean terms) (mean real)

/-- The output of a lane for a pair's inputs (R183, R190). -/
def pairOut (m : Arith) (p : Package) (w : List (Nat × List Exact)) (x : TrainPair) (lane : Nat) : List Word :=
  laneVals p (laneRun m p { weights := w, carried := [], fine := x.inp.fine, coarse := x.inp.coarse, lane := lane }) 1500

/-- The loss of weights over pairs, summed over the lanes (R190, R191). -/
def lossOf (m : Arith) (p : Package) (w : List (Nat × List Exact)) (l : List TrainPair) : Nat :=
  ((upTo 4).map (fun k => laneLoss (l.map (fun x => (x, pairOut m p w x k))) k)).foldl f32Add 0

/-! ## A learning step (R190) -/

/-- The learnable tensors of a package. -/
def learnables (p : Package) : List TensorD := p.tensors.filter (·.learnable)

/-- The values of a tensor in a list by tensor, none held: empty. -/
def tensorIn (l : List (Nat × List Exact)) (i : Nat) : List Exact := ((l.find? (fun p => p.1 == i)).map (·.2)).getD []

/-- The FP32 master weights (R186, R190): those in service before the first step. -/
def masterOf (s : State) (p : Package) : List (Nat × List Word) :=
  if s.eng.learn.master.isEmpty then
    (learnables p).map (fun t => (t.ident, (tensorIn (servingWeights s) t.ident).map (fun x => BitVec.ofNat 32 (Exact.f32 x))))
  else s.eng.learn.master

/-- The batch (R190): the next pairs in the order of their refresh numbers. DESIGN CHOICE (log entry 111): drawing goes on after
the last pair drawn, and starts again with the oldest. -/
def batchOf (s : State) (n : Nat) : List TrainPair :=
  let all := s.eng.train.reverse
  let next := all.filter (fun x => decide (s.eng.drawnTo ≤ x.inp.number))
  ((if next.length < n then next ++ all else next).take n)

/-- FP32 weights as values. -/
def valuesOf (l : List (Nat × List Word)) : List (Nat × List Exact) :=
  l.map (fun p => (p.1, p.2.map (fun w => Fmt.value .fp32 w.toNat)))

/-- A power of an FP32 number by repeated multiplication. -/
def f32Pow (b : Nat) : Nat → Nat
  | 0 => 0x3F800000
  | n + 1 => f32Mul (f32Pow b n) b

/-- One weight's AdamW update (R190), FP32: the weight and its two moments. PRESUMED (log entry 93): the order of the
operations. -/
def adamW (c : LearnCfg) (step g w m v : Nat) : Nat × Nat × Nat :=
  let one := 0x3F800000
  let m := f32Fma c.beta1 m (f32Mul (vecOp .sub one c.beta1 0) g)
  let v := f32Fma c.beta2 v (f32Mul (vecOp .sub one c.beta2 0) (f32Mul g g))
  let mh := f32Div m (vecOp .sub one (f32Pow c.beta1 step) 0)
  let vh := f32Div v (vecOp .sub one (f32Pow c.beta2 step) 0)
  let d := f32Fma c.decay w (f32Div mh (f32Add (f32Sqrt vh) c.eps))
  (vecOp .sub w (f32Mul c.rate d) 0, m, v)

/-- The words of a tensor, zeros where none are held. -/
def tensorWords (l : List (Nat × List Word)) (i : Nat) : List Word := ((l.find? (fun p => p.1 == i)).map (·.2)).getD []

/-- The gradients of a batch (R190; log entry 111): the BF16 forward computation of every lane, its loss against targets divided
by the lanes' mean measured power. -/
def gradientOf (p : Package) (w : List (Nat × List Exact)) (batch : List TrainPair) (tensor element : Nat) : Nat :=
  let outs := (batch.map (fun x => ((upTo 4).map (pairOut .learn p w x)).flatten)).flatten
  let real := (batch.map (·.real)).flatten
  let held := (w.map (fun t => (t.2.map exactNums).flatten)).flatten ++
    (batch.map (fun x => (x.inp.fine ++ x.inp.coarse).flatten.map (·.toNat))).flatten
  Config.gradient (outs.map (·.toNat)) (real.map (·.toNat)) held tensor element % 2 ^ 32

/-- The learning state after a step on a batch (R190). -/
def stepOf (p : Package) (c : LearnCfg) (w : List (Nat × List Exact)) (master : List (Nat × List Word)) (batch : List TrainPair)
    (l : LearnState) : LearnState :=
  let now := overlay w (valuesOf master)
  let upd := (learnables p).map (fun t =>
    let m := tensorWords l.first t.ident
    let v := tensorWords l.second t.ident
    let x := tensorWords master t.ident
    (t.ident, (x.zip (upTo x.length)).map (fun y =>
      adamW c (l.steps + 1) (gradientOf p now batch t.ident y.2) y.1.toNat (m.getD y.2 0#32).toNat (v.getD y.2 0#32).toNat)))
  let part := fun (f : Nat × Nat × Nat → Nat) => upd.map (fun t => (t.1, t.2.map (fun x => BitVec.ofNat 32 (f x))))
  { master := part (·.1), first := part (·.2.1), second := part (·.2.2), steps := l.steps + 1 }

/-- A learning step is deferred (R144, R186): DRAM use above 80 %, power near its limit, a build, a swap twilight or the burst
mapping. -/
def stepDeferred (s : State) : Bool :=
  decide (8000 < s.eng.dramUse) || nearLimit s || (s.eng.mapNext.isSome && !s.eng.built) || s.eng.swapRun || s.eng.mapping == 1

/-- The meaning of LEARNING_STEP (R144, R186, R190): a step whose batch has too few pairs is not taken. -/
def execLearningStep (s : State) : Out :=
  let p := pkgOf s (servingSlot s)
  match learnOn s, p.cfg with
  | true, some c =>
    if s.eng.train.length < c.batch then .next s
    else if stepDeferred s then .next { s with eng.stepsDeferred := satInc s.eng.stepsDeferred 0xFFFFFFFF }
    else
      let b := batchOf s c.batch
      .next { s with
        eng.stepsDone := satInc s.eng.stepsDone 0xFFFFFFFF, eng.mirrored := false
        eng.drawnTo := (match b.getLast? with | some x => x.inp.number + 1 | none => s.eng.drawnTo)
        eng.learn := stepOf p c (servingWeights s) (masterOf s p) b s.eng.learn }
  | _, _ => .next s

/-! ## Candidates (R191, R192) -/

/-- The stored bytes of a tensor in a format (R147): the elements, then the scales. -/
def storedBytes (k : Fmt) (l : List Exact) : List Nat :=
  if k.isMx then
    let q := (rowsOf 32 l).map (mxQuantise k)
    let codes := (q.map (fun b => b.2.1)).flatten
    (if k = .mxfp4 then (rowsOf 2 codes).map (fun x => at0 x 0 + 16 * at0 x 1) else codes) ++ q.map (·.1)
  else (l.map (fun x => bytesOf (k.convert x).1 (k.bits / 8))).flatten

/-- The candidate that master weights make in the package's formats (R148, R149, R191). -/
def candidateOf (p : Package) (master : List (Nat × List Word)) : List (Nat × List Exact) :=
  (learnables p).map (fun t => (t.ident, (emit t.fmt ((tensorWords master t.ident).map (fun w => Fmt.value .fp32 w.toNat))).1))

/-- The hash of learned weights (R199): over the tensors as stored, in table order. -/
def weightsHash (p : Package) (w : List (Nat × List Exact)) : Nat :=
  Config.sha256 ((learnables p).map (fun t =>
    storedBytes t.fmt (tensorIn w t.ident))).flatten

/-- A candidate passes (R191): its error is at most (1 − margin) × the error in service. -/
def candidatePasses (s : State) (cand serve : Word) : Bool :=
  !f32NonFinite cand.toNat && !f32NonFinite serve.toNat &&
    decide (f32ToInt cand.toNat * 10000 ≤ (10000 - (dnow s 0x4122 0 : Int)) * f32ToInt serve.toNat)

/-- The meaning of CANDIDATE_EVALUATION (R191): at most every 10 s; a candidate that passes is mirrored to the standby. -/
def execCandidateEvaluation (s : State) : Out :=
  let early := match s.eng.lastEval with | none => false | some t => decide (s.epo.ticks < t + 10000)
  if !learnOn s || early then .next s
  else
    let p := pkgOf s (servingSlot s)
    let w := servingWeights s
    let c := candidateOf p (masterOf s p)
    let serve := BitVec.ofNat 32 (lossOf .exact p w s.eng.holdout)
    let cand := BitVec.ofNat 32 (lossOf .exact p (overlay w c) s.eng.holdout)
    let s := { s with eng.errServe := serve, eng.errCand := cand, eng.lastEval := some s.epo.ticks }
    if candidatePasses s cand serve then
      .next (sendMirror { s with eng.candidate := some (weightsHash p c), eng.candW := c, eng.candAcked := !s.red.peerHere })
    else .next { s with eng.rejected := satInc s.eng.rejected 0xFFFFFFFF }

/-- A candidate may be adopted at a boundary whose twilight starts now (R191). -/
def adoptReady (s : State) : Bool :=
  s.eng.candidate.isSome && (s.eng.candAcked || !s.red.peerHere) &&
    (s.eng.adoptions == 0 || decide (s.eng.lastAdopt + 10000 ≤ s.epo.ticks + 1))

/-- The learning state is mirrored (R192): what was mirrored is the checkpoint. -/
def mirrorLearning (s : State) : State :=
  if isActive s && mirrorUp s then
    sendBlocks { s with
      eng.mirrored := true, eng.checkpoint := s.eng.learn, eng.mirrorTick := s.epo.ticks
      red.mirrorsSent := s.red.mirrorsSent + 1 } 6 1
  else s

/-- LEARNED_ADOPTION (R191, R199): at the boundary; the state is mirrored with it (R192). -/
def adoptCandidate (s : State) : State :=
  let k := servingSlot s
  let s := { s with
    eng.adoptDue := false
    eng.learnHash := s.eng.candidate.getD 0, eng.learnedW := s.eng.candW
    eng.candidate := none, eng.candAcked := false, eng.candW := []
    eng.learnVer := satInc s.eng.learnVer 0xFFFFFFFF
    eng.adoptions := satInc s.eng.adoptions 0xFFFFFFFF
    eng.lastAdopt := s.epo.ticks }
  mirrorLearning (setSlot s k { rawSlot s k with learned := s.eng.learnVer })

/-- At least every 60 s (R192). -/
def mirrorDue (s : State) : State :=
  if !s.eng.mirrored && s.eng.learn.steps != 0 && decide (s.eng.mirrorTick + 60000 ≤ s.epo.ticks) then mirrorLearning s else s

/-- The meaning of LEARNING_STATE_MIRROR (R192). -/
def execLearningStateMirror (s : State) : Out := .next (mirrorLearning s)

/-! ## What the link's mirrors bring (R173, R191, R192, R331) -/

/-- A verified slot of the peer's: a standby takes every one, an active module those it lacks (R173). -/
def takeSlot (s : State) (p : Nat × Slot) : State :=
  if p.1 = 0 ∨ 5 ≤ p.1 ∨ (!isStandby s && (rawSlot s p.1).state != 0) then s
  else setSlot s p.1 { p.2 with state := if p.1 = servingSlot s then 3 else 2, learned := (rawSlot s p.1).learned }

/-- Bytes of the peer's slot areas, and, at a standby, of its recorder segments (R197, R262, R331). -/
def takeStack (s : State) (p : Nat × List Nat) : State :=
  if (50 * 2 ^ 30 ≤ p.1 ∧ p.1 + p.2.length ≤ 59 * 2 ^ 30) ∨ (isStandby s = true ∧ p.1 + p.2.length ≤ 2 ^ 34) then
    dramBytes s p.1 (p.2.map (BitVec.ofNat 8))
  else s

/-- The learning state of the active module, and the learned version its serving slot shows (R191, R192): the standby quantises
the same weights. -/
def takeLearning (s : State) (l : LearnState) (ver : Nat) : State :=
  if isStandby s then
    let p := pkgOf s (servingSlot s)
    let w := candidateOf p l.master
    let k := servingSlot s
    let s := { s with eng.learn := l, eng.checkpoint := l, eng.mirrorTick := s.epo.ticks, eng.mirrored := true }
    if ver = s.eng.learnVer then s
    else
      let s := setSlot s k { rawSlot s k with learned := ver }
      { s with eng.learnVer := ver, eng.learnedW := w, eng.learnHash := if ver = 0 then 0 else weightsHash p w }
  else s

/-- A minute record, event entry or hour seal of the peer's (R331): a standby takes every one, an active module those of which
its own element failed its CRC (R401). -/
def takeArchive (s : State) (p : Nat × Nat × Nat) : State :=
  let n := p.2.1
  let size := if p.1 = 0x2021 then 10080 else if p.1 = 0x2022 then 4096 else if p.1 = 0x2023 then 168 else 1
  let key := (p.1, n % size)
  let put := fun (m : SMap) => mset (ringDrop m size (n % size)) n p.2.2
  if !isStandby s && !s.fac.lost.contains key then s
  else
    let s := { s with fac.lost := s.fac.lost.filter (· != key) }
    if p.1 = 0x2020 then { s with fac.latest := p.2.2 }
    else if p.1 = 0x2021 then { s with fac.minutes := put s.fac.minutes, fac.minuteN := max s.fac.minuteN (n + 1) }
    else if p.1 = 0x2022 then { s with fac.events := put s.fac.events, fac.eventN := max s.fac.eventN (n + 1) }
    else if p.1 = 0x2023 then { s with fac.seals := put s.fac.seals, fac.sealN := max s.fac.sealN (n + 1) }
    else s

/-- What a stream 6 message brings. -/
def takeMirror (s : State) (k : BlockIn) : State :=
  let ver := match k.slots.find? (fun p => p.1 == servingSlot s) with | some p => p.2.learned | none => s.eng.learnVer
  let s := k.archive.foldl takeArchive (k.stack.foldl takeStack (k.slots.foldl takeSlot s))
  match k.learn with
  | some l => takeLearning s l ver
  | none => s

/-- A message delivered by the link: a standby keeps the active module's forecast hash (R332), an active module takes the
acknowledgement of a candidate's mirror (R191); stream 4 brings the active module's writes (R330), stream 5 the peer's fitness
and its slot-1 hash (R345, R410), stream 6 the mirrors (R331). -/
def deliverHash (s : State) (k : BlockIn) : State :=
  let s := if k.stream = 5 then { s with red.peerFitness := k.fitness, lpe.peerHash := k.slot1 } else s
  let s := if k.stream = 4 ∧ isStandby s = true then k.copy.foldl copyWrite s else s
  let s := if k.stream = 6 then takeMirror s k else s
  if k.digest = 0 then s
  else if isStandby s then { s with red.peerFc := some k.digest }
  else if k.stream = 5 ∧ s.eng.candidate = some k.digest then { s with eng.candAcked := true }
  else s

/-- The meaning of SISTER_BLOCK_RECEIVED (R324, R326): a bad CRC or a gap brings a NAK, a NAK a resend; the next block in
sequence is delivered. -/
def execSisterBlockReceived (lane : Nat) (k : BlockIn) (s : State) : Out :=
  let l := laneOf s lane
  if !l.up then .next s
  else if !k.crcOk then
    .next (bump (setLane s lane { l with crcFails := l.crcFails + 1, nakDue := true }) 0x7004 6)
  else
    let l := if k.nak then { l with resendFrom := some k.ack, replays := l.replays + 1 } else { l with acked := k.ack }
    let s := if k.nak then bump s 0x7004 7 else s
    if k.idle then .next (setLane s lane l)
    else if k.seq = l.expect then
      .next (deliverHash (setLane s lane { l with expect := (l.expect + 1) % 65536, nakDue := false }) k)
    else if (k.seq + 65536 - l.expect) % 65536 < 32768 then .next (setLane s lane { l with nakDue := true })
    else .next (setLane s lane l)

end Sys2Proof.Machine
end

