-- ==== Sys2Proof/Machine/Plan.lean ====
section
/-! DEFINITION. The plan the rack lead forms and the shadow controllers compute (R50, R60, R61, R71 to R79, R95 to R106,
R118): constellations, the Almanac, setpoints, the allocator, filler and holds. Powers are exact: multiples of
2^(-154) W (log entry 51). -/
namespace Sys2Proof.Machine

/-- One watt in the unit of exact powers. -/
abbrev uW : Int := 2 ^ 154

/-! ## Constellations (R71 to R75) -/

/-- The element of object 0x3000. -/
def consEl (s : State) (c : Nat) : Nat := dget s 0x3000 c

/-- Chip slot `k` is listed in an element in use (R72). -/
def listed (v k : Nat) : Bool := fieldAt v 0 1 == 1 && bit v (128 + k)

/-- The constellation that lists a chip slot. -/
def listedIn (s : State) (k : Nat) : Option Nat := (upTo 16).find? (fun c => listed (consEl s c) k)

/-- A chip slot is reported present by its tray, by the snapshot of the boundary (R71, R77). -/
def presentChip (pres : SMap) (k : Nat) : Bool := bit (mget pres (k / 32) - 1) (k % 32) && mget pres (k / 32) != 0

/-- Members (R71): listed, reported present, table accepted. -/
def memberMap (s : State) : SMap :=
  s.lead.tables.foldl (fun m p =>
    match listedIn s p.1 with
    | some c => if presentChip s.lead.presDue p.1 then mset m p.1 (c + 1) else m
    | none => m) []

/-- The frequency ceiling of a table at a code, MHz (R73, object 0x3060). -/
def ceilAt (table code : Nat) : Nat := fieldAt table (4 + 2 * code) 2

/-- The lowest supported code of an accepted table (R74, R75). -/
def lowestCode (table : Nat) : Nat := ((upTo 256).find? (fun p => decide (0 < ceilAt table p))).getD 255

/-- The nadir floor (R75). -/
def nadirFloor (s : State) (c : Nat) : Nat :=
  ((membersOf s c).map (fun k => lowestCode (mget s.lead.tables k))).foldl max 0

/-- The table of the member with the lowest ceiling at code 255 (R96). DESIGN CHOICE (log entry 81): among members with the same
lowest ceiling, the lowest chip slot's; the spec names none. -/
def slowTable (s : State) (c : Nat) : Nat :=
  ((membersOf s c).map (mget s.lead.tables)).foldl
    (fun t u => if t = 0 ∨ ceilAt u 255 < ceilAt t 255 then u else t) 0

/-- The allocation weight w_c (R72). -/
def weightOf (s : State) (c : Nat) : Nat := dget s 0x3001 c * fieldAt (consEl s c) 1 1

/-! ## The Almanac (R58 to R60) -/

/-- The lowest-numbered element whose class is not 0, 0xFE where there is none (R60). -/
def firstPhase (s : State) (c : Nat) : Nat := ((upTo 64).find? (fun p => almClass s c p != 0)).getD 0xFE

/-- The planned power of a constellation at a code (R97, R102); without a phase the chip-reported power of its members in
the last folded window (R60). -/
def consPow (s : State) (c code : Nat) : Int :=
  let p := at0 s.epo.phaseNow c
  if p = 0xFE then (at0 s.lead.chipPower c : Int) * uW
  else (nMembers s c : Int) * chipPow s c p code

/-- The power at the nadir floor. -/
def floorPow (s : State) (c : Nat) : Int := consPow s c (at0 s.lead.nadir c)

/-- The idle-phase power of a constellation (R105 step 5). -/
def heldPow (s : State) (c : Nat) : Int :=
  if at0 s.epo.phaseNow c = 0xFE then 0
  else
    (nMembers s c : Int) *
      match (upTo 64).find? (fun p => almClass s c p == 1) with
      | some p => chipPow s c p (at0 s.lead.nadir c)
      | none =>
        let l := ((upTo 64).filter (fun p => almClass s c p != 0)).map (fun p => 32 * anchor (almEl s c p) 0)
        l.foldl min (l.headD 0)

/-- The inference that may change a phase at this boundary (R60 item 3): made before its twilight started, outside a hint hold, of
an element whose class is not 0. -/
def inferenceNow (s : State) (c : Nat) : Option Nat :=
  let i := mget s.epo.inferredDue c
  if i ≠ 0 ∧ mget s.epo.hintHold c ≤ s.epo.ticks ∧ almClass s c (i - 1) ≠ 0 then some (i - 1) else none

/-- The phases of the plan to be formed (R60): none where every element has class 0; a hint that came into force now, the lowest
element for a constellation coming into use, the engine's inference outside hint holds. DESIGN CHOICE (log entry 82): a hint of
0xFF, or of an element of class 0, selects no phase, and in the boundary at which it comes into force the present phase stays. -/
def almanacNext (s : State) (hints : List (Nat × Nat)) (c : Nat) : Nat :=
  let cur := at0 s.epo.phaseNow c
  let hint := (hints.find? (fun p => p.1 == c)).map (·.2)
  if !inUse s c then 0xFF
  else if firstPhase s c = 0xFE then 0xFE
  else
    match hint with
    | some h => if h < 64 ∧ almClass s c h ≠ 0 then h else if 0xFE ≤ cur then firstPhase s c else cur
    | none => if 0xFE ≤ cur then firstPhase s c else (inferenceNow s c).getD cur

/-- The instants at which the phases of a list begin, where they are not those in force (R166). -/
def notePhases (s : State) (ph : List Nat) : State :=
  let note := fun (m : SMap) (c : Nat) => if at0 ph c = at0 s.epo.planN.phase c then m else mset m c (s.epo.ticks + 1)
  { s with epo.phaseSince := (upTo 16).foldl note s.epo.phaseSince }

/-- The phases in force from this boundary with the inference made before its twilight started (R60 item 3). DEDUCED (log entry
79): an inference acts on the phase in force at once, where a hint acts through the plan (R571 does not name it). -/
def inferPlan (s : State) (hints : List (Nat × Nat)) : State :=
  let ph := (upTo 16).map (fun c =>
    let cur := at0 s.epo.planN.phase c
    if cur < 64 ∧ hints.all (fun p => p.1 != c) then (inferenceNow s c).getD cur else cur)
  { notePhases s ph with epo.planN := { s.epo.planN with phase := ph } }

/-- Take the phases over (R60): hint holds last 100 epochs from the switch of the phase, one epoch later; disagreement of the
inference with a hint is counted. DESIGN CHOICE (log entry 82): a hint of an element of class 0 selects no phase, and its hold
still starts. -/
def stepPhases (s : State) (hints : List (Nat × Nat)) : State :=
  let ph := (upTo 16).map (almanacNext s hints)
  let s := inferPlan s hints
  let hold := hints.foldl (fun m p => if p.2 < 64 then mset m p.1 (s.epo.ticks + 101) else m) s.epo.hintHold
  let bad := fun c =>
    let h := dget s 0x4011 c
    let i := mget s.epo.inferred c
    decide (h < 64) && i != 0 && i != h + 1
  let run := (upTo 16).foldl (fun m c => mset m c (if bad c then mget m c + 1 else 0)) s.epo.mismatchRun
  { s with epo.phaseNow := ph, epo.hintHold := hold, epo.mismatchRun := run }

/-- The meaning of HINT_MISMATCH (R60): more than 50 consecutive epochs of disagreement set the flag in object 0x4004. -/
def execHintMismatch (c : Nat) (s : State) : Out :=
  .next (if 50 < mget s.epo.mismatchRun c then { s with epo.hintBad := setBit s.epo.hintBad c true } else s)

/-! ## Membership at a boundary (R71, R74, R77) -/

/-- Presence per tray as the next boundary takes it: a tray whose chips left by absence has none (R77). -/
def presenceMap (s : State) : SMap := s.lead.present.filter (fun p => mget s.lead.left p.1 == 0)

/-- At the twilight start the tables and the presence for the boundary are settled (R21, R71, R74, R77). -/
def snapMembers (s : State) : State :=
  let t := s.lead.tablesNext.foldl (fun m p => mset m p.1 p.2) s.lead.tables
  let t := t.filter (fun p => mget s.lead.leaving p.1 == 0)
  { s with
    lead.tablesDue := t, lead.presDue := presenceMap s, lead.snap := true
    lead.tablesNext := [], lead.leaving := [] }

/-- The boundary takes them over: members and nadir floors (R71, R75). A constellation that goes out of use loses its
throttle ceiling and its hold. -/
def applyMembers (s : State) : State :=
  let s := if s.lead.snap then { s with lead.tables := s.lead.tablesDue, lead.snap := false } else s
  let s := { s with lead.members := memberMap s }
  { s with
    lead.nadir := (upTo 16).map (nadirFloor s)
    lead.holdOrder := s.lead.holdOrder.filter (inUse s)
    lead.throttle := (upTo 16).map (fun c => if inUse s c then at0 s.lead.throttle c else 255) }

/-! ## Terms of R97 -/

/-- The forecast the lead plans from (R172): completed at or before t(n) − 20 µs. -/
def planForecast (s : State) : Forecast := useAt s (200000 * s.epo.ticks - 4000)

/-- The host state-of-charge target is valid (R67). -/
def hostTarget (s : State) : Bool :=
  bit (dget s 0x4003 0) 4 && fieldAt (dget s 0x4024 0) 4 4 != 0 &&
    decide (s.epo.ticks < s.lead.targetSince + 1000 * fieldAt (dget s 0x4024 0) 4 4)

/-- SoC_target of R61, 0.01 %. -/
def socTarget (s : State) : Nat := if hostTarget s then fieldAt (dget s 0x4024 0) 0 2 else dget s 0x4020 0

/-- The state-of-charge bias of a shelf, W (R61): SoC in 0.01 %, usable energy in kJ, tau in s. -/
def biasOf (s : State) (k : Nat) : Int :=
  let v := shelfFig s k
  clampI (tdiv (((socTarget s : Int) - v.soc) * v.euse) (10 * (dget s 0x4022 0 : Int))) (-(dget s 0x4023 0 : Int))
    (dget s 0x4023 0)

/-- share_s + bias_s (R61). -/
def goalOf (s : State) (f : Forecast) (k : Nat) : Int :=
  let sh := shareOf s k
  tdiv (p50Sum f 0 0 500 * sh.1) (500 * sh.2 * 2 ^ 149) + biasOf s k

/-- The setpoint of a shelf for plan n+1 (R61), before the lookahead; 0 out of service, and from 0 at its return (R39). -/
def setOf (s : State) (f : Forecast) (k : Nat) : Nat :=
  if !shelfIn s k then 0
  else
    let prev : Int := if bit s.lead.fromZero k then 0 else at0 s.epo.planN.set k
    let lo := prev - rampShare s (dget s 0x2013 0) k / 1000
    let hi := prev + rampShare s (dget s 0x2012 0) k / 1000
    let ceil := min (min (ceilingFor s s.lead.allowance k) (shelfCap s k)) (effLimit s 12)
    min (clampI (goalOf s f k) lo hi).toNat ceil

/-- The minute ceiling at a boundary, from the contract in force or one that takes effect by then (R118, R123). -/
def ceilAtMinute (s : State) (b : Nat) : Nat :=
  match pendOf s 0x2000 0 with
  | some p => if cStart p.value ≤ b && tenantHeld s then cCeil p.value ((b - cStart p.value) / 60000) else minuteCeil s b
  | none => minuteCeil s b

/-- MINUTE_CEILING_LOOKAHEAD (R118): the limit that the next minute boundary sets on the rack setpoint of plan n+1. -/
def lookahead (s : State) (n tot : Nat) : Nat :=
  let b := (n / 60000 + 1) * 60000
  let c := ceilAtMinute s b
  if c < tot then min tot (c + dget s 0x2013 0 * (b - (n + 1)) / 1000) else tot

/-- The four setpoints of plan n+1 (R61, R118): a rack limit reduces them in proportion. -/
def setpoints (s : State) (f : Forecast) (n : Nat) : List Nat :=
  let l := (upTo 4).map (setOf s f)
  let tot := sumN l
  let lim := lookahead s n tot
  if tot ≤ lim then l else l.map (fun x => x * lim / tot)

/-- C (R97), W. -/
def convRating (s : State) : Nat :=
  12500 * sumN (((upTo 4).filter (shelfIn s)).map (fun k => (shelfFig s k).phases))

/-- E_av (R97), in units of 0.1 J: state of charge in 0.01 % times kJ. -/
def energyAvail (s : State) : Nat :=
  sumN (((upTo 4).filter (shelfIn s)).map (fun k => ((shelfFig s k).soc - socReserve s) * (shelfFig s k).euse))

/-- Room below the upper band (R101), 0.1 J. -/
def energyRoom (s : State) : Nat :=
  sumN (((upTo 4).filter (shelfIn s)).map (fun k => (dget s 0x4021 0 - (shelfFig s k).soc) * (shelfFig s k).euse))

/-- P_other (R97), W. -/
def otherLoad (s : State) : Int := rackGross s - s.lead.chipAll

/-- The two bounds of R97 on a load `l`: l ≤ A and l − R ≤ min(C, sqrt(2 × u × E_av)). -/
def boundsHold (s : State) (r : Nat) (l : Int) : Bool :=
  let d := l - (r : Int) * uW
  decide (l ≤ (s.lead.allowance : Int) * uW) && decide (d ≤ (convRating s : Int) * uW) &&
    (decide (d ≤ 0) || decide (10 * d * d ≤ 2 * (dget s 0x2012 0 : Int) * (energyAvail s : Int) * uW * uW))

/-! ## The allocator (R96, R97) -/

/-- r_c(P + 1) − r_c(P) as numerator and denominator (R96): f(P) / f(255) until 64 steps have been observed, then the learned
rate, a free value (log entry 16). -/
def rateStep (s : State) (c p : Nat) : Int × Nat :=
  let d := mget s.lead.rates c
  if d ≠ 0 then
    (((Config.learnedRate (d - 1) (p + 1) % 65536 : Nat) : Int) - ((Config.learnedRate (d - 1) p % 65536 : Nat) : Int), 65535)
  else
    let t := slowTable s c
    ((ceilAt t (p + 1) : Int) - ceilAt t p, max 1 (ceilAt t 255))

/-- g_c of R97 as (power step is 0, numerator, positive denominator). -/
def gain (s : State) (c p : Nat) : Bool × Int × Int :=
  let dp := consPow s c (p + 1) - consPow s c p
  let (rn, rd) := rateStep s c p
  let num := (weightOf s c : Int) * (nMembers s c : Int) * rn
  if dp = 0 then (true, 0, 1)
  else if dp < 0 then (false, -num * nMembers s c, -dp * rd)
  else (false, num * nMembers s c, dp * rd)

/-- A gain larger than another. -/
def gainLt (a b : Bool × Int × Int) : Bool :=
  if a.1 then false else if b.1 then true else decide (a.2.1 * b.2.2 < b.2.1 * a.2.2)

/-- The c with the largest gain among those below their top; ties to the lowest c. -/
def bestGain (s : State) (tops codes : List Nat) : Option Nat :=
  ((upTo 16).filter (fun c => inUse s c && decide (at0 codes c < at0 tops c))).foldl
    (fun b c => match b with
      | none => some c
      | some k => if gainLt (gain s k (at0 codes k)) (gain s c (at0 codes c)) then some c else b) none

/-- The loop of R97: raise the best by one until none remains or a bound would break. -/
def greedy (s : State) (r : Nat) (tops : List Nat) : Nat → List Nat → Int → List Nat × Int
  | 0, codes, l => (codes, l)
  | fuel + 1, codes, l =>
    match bestGain s tops codes with
    | none => (codes, l)
    | some c =>
      let p := at0 codes c
      let l' := l + consPow s c (p + 1) - consPow s c p
      if boundsHold s r l' then greedy s r tops fuel (setAt codes c (p + 1)) l' else (codes, l)

/-- The lead holds a constellation whose guard maximum lies below its floor (R298). -/
def forcedHold (s : State) (c : Nat) : Bool := inUse s c && decide (effLimit s (32 + c) < at0 s.lead.nadir c)

/-- A constellation is held in the plan formed now. -/
def heldNow (s : State) (c : Nat) : Bool := s.lead.holdOrder.contains c || forcedHold s c

/-- top_c of R97 (R79, R99, R298). -/
def topOf (s : State) (c : Nat) : Nat :=
  if heldNow s c || at0 s.epo.phaseNow c == 0xFE then at0 s.lead.nadir c
  else min (min (at0 s.epo.planN.pace c + min 16 (effLimit s 16)) (at0 s.lead.throttle c))
    (min (effLimit s (32 + c)) 255)

/-- The load with every constellation in use at its nadir floor (R105 step 4). -/
def floorLoad (s : State) : Int :=
  otherLoad s * uW + sumI (((upTo 16).filter (inUse s)).map (floorPow s))

/-- The load at the floors with the held constellations at their idle power. -/
def baseLoad (s : State) : Int :=
  otherLoad s * uW +
    sumI (((upTo 16).filter (inUse s)).map (fun c => if heldNow s c then heldPow s c else floorPow s c))

/-- The load of a list of codes (R97). -/
def loadAt (s : State) (codes : List Nat) : Int :=
  otherLoad s * uW +
    sumI (((upTo 16).filter (inUse s)).map (fun c => if heldNow s c then heldPow s c else consPow s c (at0 codes c)))

/-- ALLOCATOR (R97): the codes of plan n+1, 0 for a constellation not in use, and the planned load. -/
def allocate (s : State) (r : Nat) : List Nat × Int :=
  let floors := (upTo 16).map (fun c => if inUse s c then at0 s.lead.nadir c else 0)
  greedy s r ((upTo 16).map (topOf s)) 4096 floors (baseLoad s)

/-- One entry of a host table clamped (R65, R98): into the floor and the top, then down while a bound of R97 breaks. -/
def fitCode (s : State) (r c : Nat) (codes : List Nat) : Nat → Nat → Nat
  | 0, p => p
  | fuel + 1, p =>
    if p ≤ at0 s.lead.nadir c then p
    else if boundsHold s r (loadAt s (setAt codes c p)) then p
    else fitCode s r c codes fuel (p - 1)

/-- The codes of a host table, entry by entry in rising order (R98), and the number of entries clamped. -/
def hostCodes (s : State) (r : Nat) (want : List Nat) : List Nat × Nat :=
  let floors := (upTo 16).map (fun c => if inUse s c then at0 s.lead.nadir c else 0)
  ((upTo 16).filter (inUse s)).foldl (fun a c =>
    let p := clampN (at0 want c) (at0 s.lead.nadir c) (max (at0 s.lead.nadir c) (topOf s c))
    let q := fitCode s r c a.1 256 p
    (setAt a.1 c q, if q = at0 want c then a.2 else a.2 + 1)) (floors, 0)

/-! ## Holds (R105, R106) -/

/-- G1 (R105 step 4), formed for an allowance and kept while the fall is handled; in units of exact power. -/
def formG1 (s : State) : State :=
  let a := s.lead.allowance
  let g := floorLoad s - (a : Int) * uW
  if s.lead.g1For = some a then
    (if s.lead.holdOrder.isEmpty && decide (g ≤ 0) then { s with lead.g1For := none, lead.g1 := 0, lead.falling := false }
     else s)
  else if 0 < g then { s with lead.g1For := some a, lead.g1 := g }
  else if s.lead.holdOrder.isEmpty then { s with lead.g1For := none, lead.g1 := 0, lead.falling := false }
  else { s with lead.g1For := some a, lead.g1 := g }

/-- E_av ≤ G1 × H (R105 step 5): E_av in 0.1 J, H in s. -/
def mustHold (s : State) : Bool :=
  decide (0 < s.lead.g1) && decide ((energyAvail s : Int) * uW ≤ 10 * s.lead.g1 * (dget s 0x3031 0 : Int))

/-- The power the holds in force give back. -/
def heldGain (s : State) : Int := sumI (s.lead.holdOrder.map (fun c => floorPow s c - heldPow s c))

/-- The next constellation to hold: the lowest w_c, ties to the highest c (R105 step 5). -/
def nextHold (s : State) : Option Nat :=
  ((upTo 16).filter (fun c => inUse s c && !heldNow s c)).foldl
    (fun b c => match b with
      | none => some c
      | some k => if weightOf s c ≤ weightOf s k then some c else b) none

/-- CONSTELLATION_HOLD (R105 step 5): one constellation per epoch until the held power covers G1. -/
def stepHold (s : State) : State :=
  if mustHold s && decide (heldGain s < s.lead.g1) then
    match nextHold s with
    | some c => { s with lead.holdOrder := c :: s.lead.holdOrder, lead.holdGood := 0 }
    | none => s
  else s

/-- The conditions of R106 for the latest hold, on the planned load: counted over consecutive epochs. -/
def countRelease (s : State) (load : Int) : State :=
  match s.lead.holdOrder with
  | [] => { s with lead.holdGood := 0 }
  | c :: _ =>
    let room := decide (floorPow s c - heldPow s c ≤ (s.lead.allowance : Int) * uW - load)
    let energy := decide (10 * s.lead.g1 * (dget s 0x3031 0 : Int) < (energyAvail s : Int) * uW)
    { s with lead.holdGood := if room && energy then satInc s.lead.holdGood 100 else 0 }

/-- The meaning of HOLD_RELEASE (R106): the latest hold ends after 100 consecutive epochs of its conditions. -/
def execHoldRelease (s : State) : Out :=
  match s.lead.holdOrder with
  | [] => .next s
  | _ :: rest =>
    if 100 ≤ s.lead.holdGood then .next { s with lead.holdOrder := rest, lead.holdGood := 0 }
    else .next s

/-- The lowest allowance that other senders' urgent cap frames of the present epoch carry, which the lead adopts (R84). DEDUCED
(log entry 80): it bounds the allowance until that epoch ends; from then on the breaker cap adopted with it does. -/
def urgentAllowance (s : State) (a : Nat) : Nat :=
  (s.lead.capMarks.filter (fun m => m.epoch == s.epo.count && m.sender != slotIdx s)).foldl (fun a m => min a m.allowance) a

/-- The rack allowance is formed again (R84, R97, R112); a fall below the present load starts the sequence of R105. -/
def setAllowance (s : State) : State :=
  let a := urgentAllowance s (rackAllowance s s.epo.count)
  let fall := decide (a < s.lead.allowance) && decide ((a : Int) < rackGross s)
  { s with
    lead.capSeq := if a = s.lead.allowance then s.lead.capSeq else (s.lead.capSeq + 1) % 65536
    lead.allowance := a
    lead.falling := s.lead.falling || fall
    fac.mMinAllow := min s.fac.mMinAllow (a / 1000) }

/-! ## Filler (R101, R102, R104) -/

/-- The power at which the converters of shelf `k` can charge within their current limits, W (R101, R298 index 9). The own
strings' limits and voltages are known. DESIGN CHOICE (log entry 83): another shelf's heartbeat gives its enabled phases, which
are taken at the guard's limit in force here and the nominal 907.2 V. -/
def chargePower (s : State) (k : Nat) : Nat :=
  if k = shelfIdx s then
    sumN (([Str.A, Str.B].filter (fun x => !outOfService s x)).map (fun x => s.cot.strV.get x * chgLimit s x / 100000))
  else (shelfFig s k).phases * effLimit s 9 * 9072 / 12000

/-- The charging power of the rack within the converters' current limits, W (R101). -/
def chargeRoom (s : State) : Nat := sumN (((upTo 4).filter (shelfIn s)).map (chargePower s))

/-- The excess drop D, W (R101): the part of the planned output above the lowest p10 of epoch n+1 that storage cannot take
within the converters' current limits and the room below the upper band in one epoch; the ramp-down limit is in the planned
output. -/
def excessDrop (s : State) (f : Forecast) (n r : Nat) : Int :=
  max 0 ((r : Int) - p10Low f 0 (pointOf f (n + 1)) 10 - (min (chargeRoom s) (100 * energyRoom s) : Nat))

/-- The effective filler ceiling of a constellation (R102). -/
def fillCeil (s : State) (c : Nat) : Nat :=
  if dget s 0x3032 c = 0 then 0 else min (dget s 0x3030 c) (effLimit s 17)

/-- The hardware fractions (R102): D divided in proportion to planned power. -/
def fillHard (s : State) (d : Int) (codes : List Nat) : List Nat :=
  let pows := (upTo 16).map (fun c => if inUse s c && 0 < fillCeil s c then consPow s c (at0 codes c) else 0)
  let tot := sumI pows
  (upTo 16).map (fun c =>
    if 0 < d ∧ 0 < tot ∧ 0 < atI pows c then
      min (fillCeil s c) ((256 * d * uW + tot - 1) / tot).toNat
    else 0)

/-- The words of an answer or a proposal of an epoch. -/
def wordsOf (l : List (Nat × List Nat)) (p : Nat) : Option (List Nat) := (l.find? (fun q => q.1 == p)).map (·.2)

/-- The answer used for plan `q` (R104 step 2): that of the latest answered proposal from q − 2 to q. -/
def fillAnswer (s : State) (q : Nat) : Option (List Nat) :=
  match wordsOf s.lead.answers q with
  | some w => some w
  | none => match wordsOf s.lead.answers (q - 1) with
    | some w => some w
    | none => wordsOf s.lead.answers (q - 2)

/-- Filler words of plan `q` from the host (R104): limited to the hardware words and the effective ceilings; the number of
words limited. -/
def fillHost (s : State) (hard ans : List Nat) : List Nat × Nat :=
  let one := fun c => min (fillFrac (at0 ans c)) (min (at0 hard c) (fillCeil s c))
  ((upTo 16).map one, ((upTo 16).filter (fun c => one c != fillFrac (at0 ans c))).length)

/-! ## Forming plan n+1 (R571) -/

/-- The 16 pace codes and filler words of a host table (R98). -/
def tableCodes (v : Nat) : List Nat := (upTo 16).map (fun c => fieldAt v (8 + c) 1)
def tableWords (v : Nat) : List Nat := (upTo 16).map (fun c => fieldAt v (24 + 2 * c) 2)

/-- The host table for an epoch is present (R98). -/
def tableFor (s : State) (n : Nat) : Bool := dget s 0x3040 0 % 2 ^ 48 == n && dget s 0x3040 0 != 0

/-- The count of host tables at the twilight start of an epoch, by which the table for the next is complete (R64, R98): out
after 3 consecutive epochs without one, back after 10 with. -/
def countTables (s : State) (n : Nat) : State :=
  if !bit (dget s 0x4003 0) 1 then { s with lead.hostMiss := 0, lead.hostGood := 0, lead.hostOut := false }
  else if tableFor s (n + 1) then
    { s with
      lead.hostMiss := 0, lead.hostGood := satInc s.lead.hostGood 10
      lead.hostOut := s.lead.hostOut && decide (s.lead.hostGood + 1 < 10) }
  else
    { s with
      lead.hostGood := 0, lead.hostMiss := satInc s.lead.hostMiss 3
      lead.hostOut := s.lead.hostOut || decide (3 ≤ s.lead.hostMiss + 1) }

/-- The pace codes of plan n+1, and the entries clamped (R64, R97, R98). DESIGN CHOICE (log entry 84): until the learned
allocator takes over, an epoch without a table for it keeps the codes of plan n, clamped like a table's, with the hardware's
filler words. -/
def planCodes (s : State) (n r : Nat) : List Nat × Nat :=
  if !bit (dget s 0x4003 0) 1 || s.lead.hostOut then ((allocate s r).1, 0)
  else if tableFor s (n + 1) then hostCodes s r (tableCodes (dget s 0x3040 0))
  else ((hostCodes s r s.epo.planN.pace).1, 0)

/-- The allowance has fallen below the load and the sequence of R105 runs. -/
def allowanceFalls (s : State) : Bool := s.lead.falling || decide (0 < s.lead.g1)

/-- The filler fractions of plan n+1, the entries clamped, and whether the host failed to answer (R98, R104); 0 while the
allowance falls (R105 step 2), from a host table as well. -/
def planFill (s : State) (n : Nat) (hard : List Nat) : List Nat × Nat × Bool :=
  if bit (dget s 0x4003 0) 5 then
    match fillAnswer s (n + 1) with
    | some a => let (w, k) := fillHost s hard a; (w, k, false)
    | none => (hard, 0, true)
  else if bit (dget s 0x4003 0) 1 && !s.lead.hostOut && tableFor s (n + 1) then
    let w := (tableWords (dget s 0x3040 0)).map fillFrac
    let v := (upTo 16).map (fun c => if allowanceFalls s then 0 else min (at0 w c) (fillCeil s c))
    (v, ((upTo 16).filter (fun c => at0 v c != at0 w c)).length, false)
  else (hard, 0, false)

/-- The assist status of object 0x4004 (R66, R104): ALLOC and FILL falling back; BAL (R277) and SOCT (R67) stay as their own
events leave them. -/
def assistBits (s : State) (fillOut : Bool) : Nat :=
  let m := dget s 0x4003 0
  flagsAt [(1, bit m 1 && s.lead.hostOut), (3, bit m 3 && bit s.epo.fallback 3), (4, bit s.epo.fallback 4),
    (5, bit m 5 && fillOut)]

/-- PLAN_FORMATION at t(n) (R571): plan n+1 from the values in force and the forecast of R172. -/
def formPlan (s : State) (n : Nat) : State :=
  let f := planForecast s
  let set := setpoints s f n
  let r := sumN set
  let s := stepHold (formG1 s)
  let (codes, clamps) := planCodes s n r
  let load := loadAt s codes
  let s := countRelease s load
  let d := if allowanceFalls s then 0 else excessDrop s f n r
  let hard := fillHard s d codes
  let (fr, k, out) := planFill s n hard
  let words := (upTo 16).map (fun c => at0 fr c + 32768 * b2n (heldNow s c))
  let p : Plan :=
    { epoch := n + 1, set := set, pace := codes, fill := words, phase := s.epo.phaseNow, ttw := dget s 0x4001 0 }
  let hardWords := (upTo 16).map (fun c => at0 hard c + 32768 * b2n (heldNow s c))
  bumpN { s with
    lead.fromZero := sumN (((upTo 4).filter (fun k => bit s.lead.fromZero k && !shelfIn s k)).map (2 ^ ·))
    epo.shadow := some p
    epo.fallback := assistBits s out
    lead.proposals := ((n + 1, hardWords) :: s.lead.proposals).take 3
    lead.held := flagsAt ((upTo 16).map (fun c => (c, heldNow s c)))
    lead.falling := s.lead.falling && decide (0 < s.lead.g1 ∨ !s.lead.holdOrder.isEmpty) } 0x4005 5 (clamps + k)

/-! ## Feedforward (R62, R105) -/

/-- The energy a string offers in a direction, J (R62). -/
def availOf (s : State) (x : Str) (dis : Bool) : Nat :=
  if outOfService s x then 0
  else
    let e := s.strs.energy.get x
    if dis then e.e - e.emin else e.emax - e.e

/-- The strings have reached the contract's reserve (R62, R105 step 6). -/
def atReserve (s : State) (x : Str) : Bool := decide (socReserve s != 0 ∧ (s.strs.energy.get x).soc ≤ socReserve s)

/-- Limit a string's feedforward by the reserve and the guard's current limits (R62, R298), W. -/
def limitFf (s : State) (x : Str) (v : Int) : Int :=
  let v := if 0 < v && atReserve s x then 0 else v
  let w := fun (ma : Nat) => ((s.cot.strV.get x : Int) * ma) / 1000000
  clampI v (-(w (10 * effLimit s 9))) (w (10 * effLimit s 8))

/-- STORAGE_FEEDFORWARD (R62) for a setpoint of this shelf. -/
def feedforward (s : State) (f : Forecast) (n set : Nat) : Two Int :=
  let v := tdiv (p50Sum f 1 (pointOf f (n + 1)) 10) (10 * 2 ^ 149) - (set : Int)
  let dis := decide (0 < v)
  let a := availOf s .A dis
  let b := availOf s .B dis
  if a + b = 0 then ⟨0, 0⟩
  else
    let fa := tdiv (v * a) ((a + b : Nat) : Int)
    ⟨limitFf s .A fa, limitFf s .B (v - fa)⟩

/-- The planned load of the plan just formed exceeds the allowance (R105). -/
def overAllowance (s : State) : Bool :=
  match s.epo.shadow with
  | none => false
  | some p => decide ((s.lead.allowance : Int) * uW < loadAt s p.pace)

/-- Storage at the reserve while the load exceeds the allowance (R105 step 6): recorded in the fault ring once. The record's
cause, severity and body are not stated; free values. -/
def noteReserve (s : State) : State :=
  let hit := overAllowance s && energyAvail s == 0
  if hit && !s.lead.reserveHit then
    let sev := freeOf s % 4
    let cause := freeOf (drawn s) % 65536
    let body := freeOf (drawn (drawn s)) % 256 ^ 96
    writeRecB { drawn (drawn (drawn s)) with lead.reserveHit := true } 10 sev cause body
  else { s with lead.reserveHit := hit }

end Sys2Proof.Machine
end

