-- ==== Sys2Proof/Machine/Field.lean ====
section
/-! DEFINITION. The field network (15_field_network.md): transmission under the schedule and the budget (R306, R307, R415 to
R421), reception, tags and freshness (R424, R425), and the group key (R426 to R428). -/
namespace Sys2Proof.Machine

/-! ## Records (R437, R314) -/

/-- The body of R437: channel, node index, identifier, count, occupancy in 0.1 %, switch epoch. -/
def fnBody (ch node ident count occ e : Nat) : Nat :=
  packAt [(0, 1, ch), (1, 1, node), (2, 2, ident), (4, 4, count), (8, 2, occ), (10, 6, e)]

/-- A field-network record (block 6). -/
def fnRec (s : State) (severity cause body : Nat) : State := writeRecB s 6 severity cause body

/-- A channel as a number: 0 FN-A, 1 FN-B. -/
def chIdx : Chan → Nat
  | .A => 0
  | .B => 1

/-! ## Channels and time -/

/-- A channel carries the module's frames: enabled, not cut and not silenced (R435). -/
def chUp (s : State) (c : Chan) : Bool := bit s.net.chans (chIdx c) && !bit s.grd.cut (chIdx c) && !bit s.grd.silent (chIdx c)

/-- Both channels carry frames. -/
def bothUp (s : State) : Bool := chUp s .A && chUp s .B

/-- An instant of the present epoch, ns since the model's first epoch (log entry 7). -/
def nsAt (s : State) (clock : Nat) : Nat := 1000000 * s.epo.ticks + 5 * clock

/-- The present instant to the resolution of the loop samples, ns. -/
def nsNow (s : State) : Nat := nsAt s s.epo.clk

/-- The wire time of a frame with an `n`-byte payload, ns (R415). -/
def wireNs (s : State) (n : Nat) : Nat :=
  let b := 112 + 8 * n
  19000 + (b + b / 10) * (if s.net.fast then 50 else 100)

/-- Entries of a log of transmissions that still lie in the 10 ms before `t`. -/
def inWindow (l : List (Nat × Nat × Nat)) (t : Nat) : List (Nat × Nat × Nat) :=
  l.filter (fun e => decide (t < e.2.1 + e.2.2 + 10000000))

/-- The part of one transmission that lies in the 10 ms before `t`, ns. -/
def insidePart (t : Nat) (e : Nat × Nat × Nat) : Nat :=
  min (e.2.1 + e.2.2) t - max e.2.1 (t - 10000000)

/-- The transmit-enable time of a channel in the 10 ms before `t`, ns (R306). -/
def occNs (s : State) (c : Chan) (t : Nat) : Nat :=
  sumN ((s.net.txLog.filter (fun e => e.1 == (chIdx c))).map (insidePart t))

/-- Received wire time of a channel in the 10 ms before `t`, ns (R87). -/
def rxNs (s : State) (c : Chan) (t : Nat) : Nat :=
  sumN ((s.net.rxLog.filter (fun e => e.1 == (chIdx c))).map (insidePart t))

/-- Occupancy in 0.1 % of 10 ms. -/
def occTenth (ns : Nat) : Nat := ns / 10000

/-! ## Frames and queues (R416, R418) -/

/-- The transmit queue of a channel. -/
def txQ (s : State) (c : Chan) : List Frame := match c with
  | .A => s.net.txA
  | .B => s.net.txB

def setTxQ (s : State) (c : Chan) (l : List Frame) : State := match c with
  | .A => { s with net.txA := l }
  | .B => { s with net.txB := l }

/-- The frame being sent on a channel. -/
def onCh (s : State) (c : Chan) : Option Frame := match c with
  | .A => s.net.onA
  | .B => s.net.onB

def setOn (s : State) (c : Chan) (f : Option Frame) : State := match c with
  | .A => { s with net.onA := f }
  | .B => { s with net.onB := f }

/-- Pace and cap frames, which alone may start in the control window (R419). -/
def isControl (f : Frame) : Bool := match f.body with
  | .pace _ => true
  | .cap _ => true
  | .beat _ => false
  | .key _ => false
  | .ask _ => false
  | .reply _ => false
  | .opened _ => false

def isBeat (f : Frame) : Bool := match f.body with
  | .beat _ => true
  | .pace _ => false
  | .cap _ => false
  | .key _ => false
  | .ask _ => false
  | .reply _ => false
  | .opened _ => false

/-- A frame goes on a channel (R418 rules 1, 2 and 6, R436): on both, but for large frames on FN-B alone and heartbeats at
10 Mbit/s on FN-B in even epochs; on the one channel left, everything, with heartbeats in even epochs at 10 Mbit/s. -/
def goesOn (s : State) (f : Frame) (c : Chan) : Bool :=
  let even := s.net.fast || s.epo.count % 2 == 0
  chUp s c &&
  (if bothUp s then
    match c with
    | .A => isControl f || decide (f.size ≤ 64)
    | .B => !isBeat f || even
  else !isBeat f || even)

/-- Queue a frame on the channels it goes on (R418). -/
def queueFrame (s : State) (f : Frame) : State :=
  let s := if goesOn s f .A then { s with net.txA := s.net.txA ++ [f] } else s
  if goesOn s f .B then { s with net.txB := s.net.txB ++ [f] } else s

/-- The tag a sender puts on its frames (R426): under the key in force, zero while it holds none. -/
def tagOut (s : State) : Tag := match s.sec.keyCur with
  | none => .zero
  | some k => .under k

/-- Form a frame on an identifier (R425): the sender counter of the identifier advances. -/
def newFrame (s : State) (ident size dest : Nat) (tag : Tag) (body : Body) : State × Frame :=
  let n := (mget s.net.txCtr ident + 1) % 65536
  ({ s with net.txCtr := mset s.net.txCtr ident n },
    { ident := ident, size := size, dest := dest, epoch := s.epo.count, counter := n, tag := tag, body := body })

/-- A frame that answers a request goes on the request's channel, or on the one left (R429, R436). -/
def queueOn (s : State) (c : Chan) (f : Frame) : State :=
  let other : Chan := match c with
    | .A => .B
    | .B => .A
  if chUp s c then setTxQ s c (txQ s c ++ [f])
  else if chUp s other then setTxQ s other (txQ s other ++ [f])
  else s

/-- Form a dictionary response frame, on 0x280 + slot index (R416, R429), and queue it on its channel. -/
def replyFrame (s : State) (c : Chan) (size dest : Nat) (tag : Tag) (body : Body) : State :=
  let r := newFrame s (0x280 + slotIdx s) size dest tag body
  queueOn r.1 c r.2

/-- Form and queue a frame. -/
def sendFrame (s : State) (ident size dest : Nat) (tag : Tag) (body : Body) : State :=
  let r := newFrame s ident size dest tag body
  queueFrame r.1 r.2

/-! ## Transmission (R306, R419) -/

/-- The schedule lets a frame start at a control clock of the epoch (R419, R420): the control window takes pace and cap
frames only, the pace frame on FN-B not before 82 µs while both channels are up; other frames end 5 µs before the next
pulse. -/
def mayStart (s : State) (c : Chan) (clock : Nat) (f : Frame) : Bool :=
  match f.body with
  | .pace _ => c == .A || !bothUp s || decide (16400 ≤ clock)
  | .cap _ => true
  | .beat _ => decide (48000 ≤ clock) && decide (5 * clock + wireNs s f.size ≤ 995000)
  | .key _ => decide (48000 ≤ clock) && decide (5 * clock + wireNs s f.size ≤ 995000)
  | .ask _ => decide (48000 ≤ clock) && decide (5 * clock + wireNs s f.size ≤ 995000)
  | .reply _ => decide (48000 ≤ clock) && decide (5 * clock + wireNs s f.size ≤ 995000)
  | .opened _ => decide (48000 ≤ clock) && decide (5 * clock + wireNs s f.size ≤ 995000)

/-- The first frame of the lowest identifier. -/
def lowestFrame : List Frame → Option Frame
  | [] => none
  | f :: rest => match lowestFrame rest with
    | none => some f
    | some g => if g.ident < f.ident then some g else some f

/-- Remove the first copy of a frame from a queue. -/
def dropFrame : List Frame → Frame → List Frame
  | [], _ => []
  | g :: rest, f => if g = f then rest else g :: dropFrame rest f

/-- A frame waits for the budget (R306): each epoch in which one waited is counted, cause 0x03 at most once a minute. -/
def noteWaited (s : State) (c : Chan) (t : Nat) : State :=
  if s.net.waited then s
  else
    let s := bump { s with net.waited := true } 0x5083 65
    let due := match s.net.waitTick with
      | none => true
      | some w => decide (w + 60000 ≤ s.epo.ticks)
    if due then
      writeRecB { s with net.waitTick := some s.epo.ticks } 4 1 0x03
        (guardBody s 18 4 (chIdx c) 0 (occTenth (occNs s c t)))
    else s

/-- The meaning of FRAME_TRANSMIT (R306, R419): of the frames the schedule lets start on a free channel, the one of the lowest
identifier starts when the sum of the window and its duration stays within index 18; otherwise it waits. -/
def execFrameTransmit (c : Chan) (clock : Nat) (s : State) : Out :=
  if !chUp s c || (onCh s c).isSome then .next s
  else
    match lowestFrame ((txQ s c).filter (mayStart s c clock)) with
    | none => .next s
    | some f =>
      let t := nsAt s clock
      let d := wireNs s f.size
      if occNs s c t + d ≤ 10000 * effLimit s 18 then
        let s := setOn (setTxQ s c (dropFrame (txQ s c) f)) c (some f)
        .next { s with net.txLog := (chIdx c, t, d) :: inWindow s.net.txLog t }
      else .next (noteWaited s c t)

/-! ## Cap frames (R83, R84, R421) -/

/-- The identifier of this module's cap frames (R416). -/
def capIdent (s : State) : Nat :=
  if s.lead.isLead then 0x008
  else match s.lead.holder with
    | none => if shelfIdx s = 3 then 0x008 else 0x005 + shelfIdx s
    | some h => 0x005 + (((upTo 4).filter (fun k => k != h / 2)).findIdx (fun k => k == shelfIdx s))

/-- The rack allowance this module announces, and its ceilings (R569). -/
def capPayload (s : State) (urgent : Bool) (cause : Nat) : Cap :=
  { sender := slotIdx s, urgent := urgent, capSeq := s.lead.capSeq, allowance := s.lead.allowance,
    ceilings := ceilingsFor s s.lead.allowance,
    consAllow := (upTo 16).map (fun c => Config.freeNat (s.dic.free + c) % 65536), cause := cause,
    breakerCap := breakerCap s }

/-- Sixteen free values drawn for the constellation allowances, which no rule forms (log entry 10). -/
def drawn16 (s : State) : State := { s with dic.free := s.dic.free + 16 }

/-- A sender applies the content of its cap frame at the instant it queues the frame (R84). -/
def applyOwnCap (s : State) (p : Cap) : State := { s with fac.ceiling := at0 p.ceilings (shelfIdx s) }

/-- PERIODIC_CAP_FRAME_SEND (R83, t_CQ of R420): at the end of the pace frame on a channel, the lead queues the periodic cap
frame there; both copies carry the same bytes. -/
def periodicCap (s : State) (c : Chan) : State :=
  if !s.lead.isLead || s.net.capGone then s
  else match s.net.capFrame with
    | some f => setTxQ s c (txQ s c ++ [f])
    | none =>
      let p := capPayload s false s.net.capCause
      let r := newFrame (drawn16 s) 0x008 80 0xFF (tagOut s) (.cap p)
      let s := applyOwnCap { r.1 with net.capFrame := some r.2, net.capCause := 0 } p
      setTxQ s c (txQ s c ++ [r.2])

/-- The meaning of FRAME_TRANSMIT_COMPLETE (R418): the last bit has been sent on a channel; the first of a frame's copies
completes and counts it. -/
def execFrameTransmitComplete (c : Chan) (s : State) : Out :=
  match onCh s c with
  | none => .next s
  | some f =>
    let s := setOn s c none
    let s := if s.net.sent.contains f then s else bump { s with net.sent := f :: s.net.sent } 0x1002 1
    match f.body with
    | .pace _ => .next (periodicCap s c)
    | .cap _ => .next s
    | .beat _ => .next s
    | .key _ => .next s
    | .ask _ => .next s
    | .reply _ => .next s
    | .opened _ => .next s

/-- Replace the latest urgent cap frame kept of a sender (R84). -/
def keepMark (l : List CapMark) (m : CapMark) : List CapMark := m :: l.filter (fun k => k.sender != m.sender)

/-- The latest epoch among the urgent cap frames kept. -/
def markEpoch (l : List CapMark) : Nat := l.foldl (fun e m => max e m.epoch) 0

/-- The marks of the latest epoch: the lower allowance and the lower cap of them govern (R84). -/
def lastMarks (l : List CapMark) : List CapMark := l.filter (fun m => m.epoch == markEpoch l)

/-- The mark of the lowest allowance. -/
def lowMark : List CapMark → Option CapMark
  | [] => none
  | m :: rest => match lowMark rest with
    | none => some m
    | some k => if k.allowance < m.allowance then some k else some m

/-- The allowance is formed again; a change gives the next periodic cap frame its cause (R83, R112). -/
def reallow (s : State) (cause : Nat) : State :=
  let t := setAllowance s
  if t.lead.allowance = s.lead.allowance then t else { t with net.capCause := cause }

/-- Apply what governs among the urgent cap frames (R84): the lower allowance's ceilings, the lower breaker cap. -/
def applyMarks (s : State) : State :=
  let l := lastMarks s.lead.capMarks
  match lowMark l with
  | none => s
  | some m =>
    let cap := l.foldl (fun c k => min c k.cap) m.cap
    reallow (setCap { s with fac.ceiling := at0 m.ceilings (shelfIdx s) } cap) 1

/-- URGENT_CAP_FRAME_SEND (R83, R84, R421): an urgent cap frame on both channels, at once; it replaces the periodic frame of
the epoch that is queued and has not started. Its content is applied, unless a frame of another sender in the same epoch governs.
DEDUCED (log entry 80): the frame carries the value accepted, also where a lower value of another sender governs. -/
def urgentCap (s : State) (cause : Nat) : State :=
  let p := capPayload s true cause
  let r := newFrame (drawn16 s) (capIdent s) 80 0xFF (tagOut s) (.cap p)
  let s := r.1
  let s := match s.net.capFrame with
    | none => s
    | some f =>
      if !s.lead.isLead || s.net.onA = some f || s.net.onB = some f || s.net.sent.contains f then s
      else { s with net.txA := dropFrame s.net.txA f, net.txB := dropFrame s.net.txB f, net.capGone := true }
  let m : CapMark := { sender := slotIdx s, epoch := s.epo.count, counter := r.2.counter, allowance := p.allowance,
                       cap := p.breakerCap, ceilings := p.ceilings }
  queueFrame (applyMarks { s with lead.capMarks := keepMark s.lead.capMarks m }) r.2

/-! ## Babble cut-off (R307) -/

/-- The channel's bit in the cut flags. -/
def cutBits (s : State) (c : Chan) : State :=
  { s with
    grd.cut := setBit s.grd.cut (chIdx c) true
    grd.cutFlag := setBit s.grd.cutFlag (chIdx c) true
    grd.cutTicks := (chIdx c, s.epo.ticks) :: s.grd.cutTicks.filter (fun p => decide (s.epo.ticks < p.2 + 10000)) }

/-- The meaning of BABBLE_CUT (R307): the transmit path of the channel is removed; the third cut within 10 s silences it. -/
def execBabbleCut (c : Chan) (s : State) : Out :=
  let t := nsNow s
  let occ := occTenth (occNs s c t)
  let s := cutBits (bump s 0x5083 66) c
  let s := writeRecB (setOn s c none) 4 2 0x04 (guardBody s 18 4 (chIdx c) 0 occ)
  if 3 ≤ (s.grd.cutTicks.filter (fun p => p.1 == (chIdx c))).length then
    .next (writeRecB { s with grd.silent := setBit s.grd.silent (chIdx c) true } 4 3 0x05 (guardBody s 18 4 (chIdx c) 0 occ))
  else .next s

/-- The meaning of CUT_END (R307): after t_CUT the transmit path returns; a silenced channel stays silent. -/
def execCutEnd (c : Chan) (s : State) : Out := .next { s with grd.cut := setBit s.grd.cut (chIdx c) false }

/-- The meaning of BUS_OFF_RECOVERY (R435): the frame in progress ends, the event counts as a bus error of the channel. -/
def execBusOffRecovery (c : Chan) (s : State) : Out :=
  let s := bump (setOn s c none) 0x1002 (6 + (chIdx c))
  .next (fnRec s 1 0x01 (fnBody (chIdx c) 0xFF 0 (dget s 0x1002 (6 + (chIdx c))) (occTenth (occNs s c (nsNow s))) 0))

/-- The meaning of EXTRA_MERIDIAN_EDGE (R432): an edge within t_MBL of an accepted pulse is ignored and recorded. -/
def execExtraMeridianEdge (s : State) : Out :=
  if s.epo.lastEdge then .next (fnRec s 1 0x04 (fnBody 0xFF 0xFF 0 0 0 0)) else .next s

/-! ## The node table (R359, R417) -/

/-- The element of object 0x8020. -/
def nodeEl (s : State) (i : Nat) : Nat := dget s 0x8020 i

/-- An element is used: its encapsulation key is not all zero. -/
def nodeUsed (v : Nat) : Bool := fieldAt v 4 1184 != 0

/-- Node index, kind and tray index of an element. -/
def nodeIdx (v : Nat) : Nat := fieldAt v 0 1
def nodeKind (v : Nat) : Nat := fieldAt v 1 1
def nodeTray (v : Nat) : Nat := fieldAt v 2 1

/-- A node index is enrolled (R359). -/
def enrolledNode (s : State) (n : Nat) : Bool := (upTo 128).any (fun i => nodeUsed (nodeEl s i) && nodeIdx (nodeEl s i) == n)

/-! ## Reception (R424, R425) -/

/-- The identifiers assigned, with the type of the header that each carries (R416). -/
def assigned (ident typ : Nat) : Bool :=
  if ident = 0x004 then typ == 1
  else if 0x005 ≤ ident && ident ≤ 0x008 then typ == 2
  else if (0x010 ≤ ident && ident ≤ 0x017) || ident = 0x020 then typ == 0
  else if 0x200 ≤ ident && ident ≤ 0x287 then true
  else if 0x300 ≤ ident && ident ≤ 0x37E then typ == 0
  else if 0x400 ≤ ident && ident ≤ 0x47F then typ == 4
  else if 0x480 ≤ ident && ident ≤ 0x4FF then typ == 5
  else false

/-- The first check of R424: format, identifier, type and generation; of CAN FD frames tray reports alone (R414). -/
def frameKnown (h : Hdr) : Bool :=
  h.formatOk && assigned h.ident h.typ && h.gen == 1 && (!h.fd || (decide (0x400 ≤ h.ident) && decide (h.ident ≤ 0x47F)))

/-- Suppression of acknowledgements by received occupancy (R87): above 40 % on, below 25 % off. -/
def ackUpdate (s : State) : State :=
  let o := max (rxNs s .A (nsNow s)) (rxNs s .B (nsNow s))
  if 4000000 < o then { s with lead.ackOff := true }
  else if o < 2500000 then { s with lead.ackOff := false }
  else s

/-- Note a frame of an `n`-byte payload received on a channel (R87, R408). -/
def rxNote (s : State) (c : Chan) (n : Nat) : State :=
  let d := wireNs s n
  ackUpdate { s with net.rxLog := (chIdx c, nsNow s - d, d) :: inWindow s.net.rxLog (nsNow s) }

/-- The count of bad frames of a kind (0 bad tag, 1 stranger) in the last second (R437). -/
def badCount (s : State) (kind : Nat) : Nat :=
  sumN ((s.net.badLog.filter (fun p => p.1 % 2 == kind && decide (s.epo.ticks < p.1 / 2 + 1000))).map (·.2))

/-- Note a bad frame (R424, R437): cause 0x03 or 0x06 above 100 in 1 s, at most once a minute. -/
def badFrame (s : State) (h : Hdr) (kind : Nat) : State :=
  let s := bump s 0x1002 (2 + kind)
  let l := s.net.badLog.filter (fun p => decide (s.epo.ticks < p.1 / 2 + 1000))
  let s := { s with net.badLog := madd l (2 * s.epo.ticks + kind) 1 }
  let last := if kind = 0 then s.net.badTick.1 else s.net.badTick.2
  let due := match last with
    | none => true
    | some t => decide (t + 60000 ≤ s.epo.ticks)
  if 100 < badCount s kind && due then
    let s := { s with
      net.badTick := if kind = 0 then (some s.epo.ticks, s.net.badTick.2) else (s.net.badTick.1, some s.epo.ticks) }
    fnRec s 1 (if kind = 0 then 0x03 else 0x06) (fnBody (chIdx h.chan) h.src h.ident (badCount s kind)
      (occTenth (rxNs s h.chan (nsNow s))) 0)
  else s

/-- The epoch of a frame that carries its low 32 bits (R368): the upper 16 bits are the receiver's own. -/
def extendEpoch (s : State) (e : Nat) : Nat := s.epo.count / 2 ^ 32 * 2 ^ 32 + e % 2 ^ 32

/-- A tag verifies for a frame of epoch `e` (R426): under the previous key below e_k, under the new key from e_k, and under
the previous key still for 1,000 epochs; a first key from the moment it is held. -/
def tagOk (s : State) (e : Nat) : Tag → Bool
  | .zero => false
  | .bad => false
  | .under k =>
    match s.sec.keyNext with
    | some n => if s.sec.keySwitch ≤ e then n == k || (s.sec.keyCur == some k && decide (e < s.sec.keySwitch + 1000))
                else s.sec.keyCur == some k
    | none => match s.sec.keyPrev with
      | some p => if e < s.sec.keySwitch then p == k
                  else s.sec.keyCur == some k || (p == k && decide (e < s.sec.keySwitch + 1000))
      | none => s.sec.keyCur == some k

/-- A zero tag is accepted only while no key is held, from a controller (R428). -/
def zeroOk (s : State) (h : Hdr) : Bool := h.tag == .zero && s.sec.keyCur.isNone && decide (h.src ≤ 7)

/-- The key of the pair kept for a source and an identifier (R425). -/
def pairKey (h : Hdr) : Nat := 4096 * h.src + h.ident

/-- The pair of a frame, as a number above 0 that rises with it. -/
def pairOf (h : Hdr) (e : Nat) : Nat := 65536 * e + h.counter % 65536 + 1

/-- The epoch window of R425; pace, cap and heartbeat frames are exempt until the first pace frame accepted. -/
def inEpochs (s : State) (e : Nat) (exempt : Bool) : Bool :=
  (exempt && s.epo.lastPace.isNone) || (decide (s.epo.count ≤ e + 2) && decide (e ≤ s.epo.count + 1))

/-- The node index that object 0x8020 gives to the tray agent of a tray (R359, R414): 0xFF where no element names it. -/
def trayNode (s : State) (tray : Nat) : Nat :=
  match ((upTo 128).map (nodeEl s)).find? (fun v => nodeUsed v && nodeKind v == 1 && nodeTray v == tray) with
  | some v => nodeIdx v
  | none => 0xFF

/-- A header with the source it stands for (R414): that of a CAN FD frame is the tray agent of its identifier's tray. -/
def sourced (s : State) (h : Hdr) : Hdr := if h.fd then { h with src := trayNode s (h.ident - 0x400) } else h

/-- Reception in the order of R424: format and identifier, source, tag, freshness. An accepted frame runs `f` with its epoch; a
second copy is discarded uncounted (R418). `known` tells whether the identifier and type are the row's, `full` whether the
frame carries 48 bits of its epoch. -/
def receive (s : State) (h : Hdr) (size : Nat) (known full zero exempt : Bool) (f : State → Nat → State) : State :=
  let h := sourced s h
  let s := rxNote s h.chan size
  let n := bump s 0x1002 0
  let e := if full then h.epoch else extendEpoch s h.epoch
  if !frameKnown h || !known then bump n 0x1002 5
  else if !enrolledNode s h.src then badFrame n h 1
  else if !(tagOk s e h.tag || (zero && zeroOk s h)) then badFrame n h 0
  else if mget s.sec.fresh (pairKey h) = pairOf h e then s
  else if mget s.sec.fresh (pairKey h) < pairOf h e && inEpochs s e exempt then
    f { n with
        sec.fresh := mset n.sec.fresh (pairKey h) (pairOf h e)
        net.heard := mset n.net.heard h.src (n.epo.ticks + 1) } e
  else bump n 0x1002 4

/-- A dictionary frame of `size` bytes that arrives over the field network (R414, R424, R425, R429): the state it leaves, and
whether its message is taken. Of a plain frame, one with a group tag is checked for tag and freshness; a stranger's is taken. -/
def dictIn (s : State) (can : Option Hdr) (size : Nat) (plain : Bool) : State × Bool :=
  match can with
  | none => (s, true)
  | some h =>
    let s := rxNote s h.chan size
    let n := bump s 0x1002 0
    let e := extendEpoch s h.epoch
    let heard := { n with net.heard := mset n.net.heard h.src (n.epo.ticks + 1) }
    if !h.formatOk || h.fd || decide (h.ident < 0x200) || decide (0x27F < h.ident) then (bump n 0x1002 5, false)
    else if !plain || h.tag == .zero then (heard, true)
    else if !tagOk s e h.tag then (badFrame n h 0, false)
    else if mget s.sec.fresh (pairKey h) = pairOf h e then (s, false)
    else if mget s.sec.fresh (pairKey h) < pairOf h e && inEpochs s e false then
      ({ heard with sec.fresh := mset n.sec.fresh (pairKey h) (pairOf h e) }, true)
    else (bump n 0x1002 4, false)

/-- The node to which a response goes (R429): the request's identifier − 0x200. -/
def replyDest (can : Option Hdr) : Nat :=
  match can with
  | some h => h.ident - 0x200
  | none => 0xFF

/-- The meaning of UNKNOWN_FRAME (R424): a frame that fails the first check is ignored and counted as unknown; one that passes
it is a frame of another row and changes nothing here. -/
def execUnknownFrame (h : Hdr) (s : State) : Out :=
  if frameKnown h then .next s else .next (bump (bump s 0x1002 0) 0x1002 5)

/-! ## Group key (R426 to R428) -/

/-- The elements to which the lead delivers the key, in ascending node index (R426). -/
def keyNodes (s : State) : List Nat :=
  (upTo 127).filter (fun n => n != slotIdx s && enrolledNode s n)

/-- The 24 key frames to one node (R427). -/
def keyFramesTo (s : State) (key switch node : Nat) : State :=
  (upTo 24).foldl (fun s i =>
    sendFrame s 0x020 72 node (match s.sec.keyPrev, s.sec.keyNext with
        | none, none => .zero
        | _, _ => tagOut s)
      (.key { switchEpoch := switch, target := node, chunk := i, key := some key })) s

/-- A record that a new group key is in force (R437). -/
def keyInForce (s : State) (e : Nat) : State := fnRec s 0 0x02 (fnBody 0xFF 0xFF 0 0 0 e)

/-- Start of distribution (R426, R428, R369): e_k lies 60,000 epochs ahead; in a rack without a key it is the epoch at which
node 7's frames are complete plus 100, a free value here, and the key is in force at once. -/
def startKeys (s : State) (key : Nat) : State :=
  let s :=
    if s.sec.keyCur.isNone then
      keyInForce (drawn { s with
        sec.keyCur := some key, sec.keySince := s.epo.count, sec.keySwitch := s.epo.count + 100 + freeOf s })
        (s.epo.count + 100 + freeOf s)
    else { s with sec.keyNext := some key, sec.keySwitch := s.epo.count + 60000 }
  (keyNodes s).foldl (fun s n => keyFramesTo s key s.sec.keySwitch n) { s with sec.keyBlocks := (keyNodes s).length }

/-- The meaning of GROUP_KEY_DISTRIBUTION (R426): the lead starts when it holds no key, or when the key in force has been in
force for 3,600,000 epochs. -/
def execGroupKeyDistribution (newKey : Nat) (s : State) : Out :=
  if s.lead.isLead && s.sec.keyNext.isNone &&
      (s.sec.keyCur.isNone || decide (s.sec.keySince + 3600000 ≤ s.epo.count)) then .next (startKeys s newKey)
  else .next s

/-- GROUP_KEY_SWITCH (R426): at e_k the pending key comes into force. -/
def switchKey (s : State) : State :=
  match s.sec.keyNext with
  | none => s
  | some k =>
    if s.sec.keySwitch ≤ s.epo.count then
      keyInForce { s with
        sec.keyPrev := s.sec.keyCur, sec.keyCur := some k, sec.keyNext := none, sec.keySince := s.epo.count }
        s.sec.keySwitch
    else s

/-- A node that lacks the key 1,000 epochs after e_k records it (R437). -/
def keyMissing (s : State) : State :=
  if s.sec.keyChunkEpoch != 0 && s.epo.count == s.sec.keyChunkEpoch + 1000 then
    fnRec s 2 0x05 (fnBody 0xFF 0xFF 0 0 0 s.sec.keyChunkEpoch)
  else s

/-- A whole group key is accepted (R426, R427): pending until e_k, or in force at once where none is held. -/
def acceptKey (s : State) (key switch : Nat) : State :=
  let s := bump { s with sec.keyChunks := [], sec.keyChunkEpoch := 0, sec.keySwitch := switch } 0x1002 9
  if s.sec.keyCur.isNone then
    keyInForce { s with sec.keyCur := some key, sec.keySince := s.epo.count } switch
  else if switch ≤ s.epo.count then
    keyInForce { s with
      sec.keyPrev := s.sec.keyCur, sec.keyCur := some key, sec.keyNext := none, sec.keySince := s.epo.count } switch
  else { s with sec.keyNext := some key }

/-- A chunk for this node from the lead it follows (R427): the key is accepted once 24 chunks carry the same e_k and the wrap
opens. Chunks of a key already held are not collected again. -/
def takeChunk (s : State) (p : KeyChunk) : State :=
  if p.target ≠ slotIdx s ∨ 24 ≤ p.chunk ∨ (s.sec.keyCur.isSome ∧ p.switchEpoch = s.sec.keySwitch) then s
  else
    let l := if s.sec.keyChunkEpoch = p.switchEpoch then s.sec.keyChunks else []
    let l := if l.contains p.chunk then l else p.chunk :: l
    if l.length = 24 then
      match p.key with
      | some k => acceptKey s k p.switchEpoch
      | none => { s with sec.keyChunks := [], sec.keyChunkEpoch := p.switchEpoch }
    else { s with sec.keyChunks := l, sec.keyChunkEpoch := p.switchEpoch }

/-- The meaning of KEY_FRAME (R424, R427): chunks of the lead this module follows. -/
def execKeyFrame (h : Hdr) (p : KeyChunk) (s : State) : Out :=
  .next (receive s h 72 (h.ident == 0x020) false true false (fun s _ =>
    if s.lead.holder == some h.src then takeChunk s p else s))

/-- The meaning of KEY_REQUEST (R428): no tag and no freshness; the lead answers an enrolled node at most once per 1 s, with
each key the node lacks. -/
def execKeyRequest (h : Hdr) (node : Nat) (s : State) : Out :=
  let s := bump (rxNote s h.chan 16) 0x1002 0
  if !frameKnown h || h.ident ≠ 0x300 + node then .next (bump s 0x1002 5)
  else
    let last := mget s.sec.keyAsked node
    if s.lead.isLead && enrolledNode s node && (last == 0 || decide (last + 999 ≤ s.epo.ticks)) then
      let s := { s with sec.keyAsked := mset s.sec.keyAsked node (s.epo.ticks + 1) }
      let s := match s.sec.keyCur with
        | none => s
        | some k => keyFramesTo s k (if s.sec.keyNext.isSome then s.sec.keySince else s.sec.keySwitch) node
      match s.sec.keyNext with
      | none => .next s
      | some k => .next (keyFramesTo s k s.sec.keySwitch node)
    else .next s

end Sys2Proof.Machine
end

