-- ==== Sys2Proof/Machine/Lead.lean ====
section
/-! DEFINITION. The rack lead and the frames that carry its work (03_rack_allocation.md, 15_field_network.md): heartbeats
(R422), the lease and its election (R88 to R94), pace and cap frames (R45, R82, R84), tray reports and joins (R73 to R77,
R86, R99, R100), and shelves entering and leaving service (R33, R39, R533, R534). -/
namespace Sys2Proof.Machine

/-! ## Heartbeats (R422) -/

/-- The strings in service. -/
def inService (s : State) : List Str := [Str.A, Str.B].filter (fun x => !outOfService s x)

/-- Usable energy of the strings in service, kJ (R422). -/
def useEnergy (s : State) : Nat :=
  sumN ((inService s).map (fun x => (s.strs.energy.get x).emax - (s.strs.energy.get x).emin)) / 1000

/-- This shelf's figures, as its active module measures them (R38, R422). -/
def ownFigures (s : State) : ShelfView :=
  { inService := decide (0 < ownRects s), rectifiers := ownRects s, input := s.fac.lastIn, strPower := s.fac.lastStr,
    soc := shelfSoc s, euse := useEnergy s, phases := sumN ((inService s).map (nEnabled s)), missed := 0, heard := true,
    slot := slotIdx s }

/-- The role a heartbeat carries (R422): none outside Live. -/
def beatRole (s : State) : Nat := if inLive s then s.red.role.code else 3

/-- A heartbeat of role 0 or 2 is an active heartbeat (R422). -/
def activeRole (r : Nat) : Bool := r == 0 || r == 2

/-- The store word (R422). -/
def storeWord (s : State) : Nat :=
  let i := s.epo.count / 2 % 4
  let v := ownFigures s
  (if i = 0 then v.soc else if i = 1 then v.euse else if i = 2 then v.phases % 32 else 0) % 65536

/-- Eligible (R90): the shelf in service, a complete shadow plan for the next epoch, no mismatch in the last 100 epochs. -/
def eligible90 (s : State) : Bool :=
  isActive s && inLive s && shelfIn s (shelfIdx s) &&
    (match s.epo.shadow with
      | some p => p.epoch == s.epo.count + 1
      | none => false) &&
    (s.epo.mismatchTick == 0 || decide (s.epo.mismatchTick + 100 < s.epo.ticks + 1))

/-- EXPIRY of the heartbeat (R88, R89): the epoch at which the lease lapses unless renewed. The lead renews it in even epochs; any
module gives the latest it holds, and one that has heard none ten epochs after its entry to Live. -/
def expiryOut (s : State) : Nat :=
  if s.lead.isLead && s.epo.count % 2 == 0 then (s.epo.count + 10) % 65536
  else s.lead.expiry.getD ((s.lead.entryEpoch + 10) % 65536)

/-- The lease word of the heartbeat (R88). -/
def leadWord (s : State) : Nat :=
  65536 * expiryOut s +
    flagsAt [(0, s.lead.isLead), (1, s.lead.claiming), (2, s.lead.isLead && s.lead.releasing), (3, eligible90 s)]

/-- The acknowledgement field (R87, R422): the earliest event report not yet acknowledged, by the lead alone. -/
def ackField (s : State) : Option (Nat × Nat) :=
  if s.lead.isLead && !s.lead.ackOff then s.lead.acks.head? else none

/-- The heartbeat of this epoch. -/
def beatOf (s : State) : Beat :=
  { lease := BitVec.ofNat 32 (leadWord s), slot := slotIdx s, role := beatRole s, rectifiers := ownRects s,
    ack := (match ackField s with
      | some a => a.1 % 128 + 128 + a.2 % 256 * 256
      | none => 0),
    input := s.fac.lastIn, strPower := s.fac.lastStr, store := storeWord s }

/-- What sending the heartbeat leaves behind: EXPIRY written, the own claim heard, the acknowledgement spent, and the lease given
up where RELEASE was carried (R89, R91, R94). -/
def afterBeat (s : State) : State :=
  let s := { s with
    lead.expiry := if s.lead.isLead then some (expiryOut s) else s.lead.expiry
    lead.claims := if s.lead.claiming && !s.lead.claims.contains (slotIdx s) then slotIdx s :: s.lead.claims
                   else s.lead.claims
    lead.ackSent := ackField s
    lead.acks := if (ackField s).isSome then s.lead.acks.drop 1 else s.lead.acks
    net.beatAt := s.epo.ticks + 1 }
  if s.lead.isLead && s.lead.releasing then
    loseLead { s with lead.releasing := false, lead.expiry := some ((s.epo.count + 1) % 65536) }
  else s

/-- A node without the key in force, or without the pending key after e_k, asks for it (R428), at most once per 1 s (log entry
58). -/
def askKey (s : State) : State :=
  let lacks := s.sec.keyCur.isNone || (s.sec.keyChunkEpoch != 0 && decide (s.sec.keyChunkEpoch ≤ s.epo.count))
  if lacks && !s.lead.isLead && (s.net.askTick == 0 || decide (s.net.askTick + 999 ≤ s.epo.ticks)) then
    let s := { s with net.askTick := s.epo.ticks + 1 }
    sendFrame s (0x300 + slotIdx s) 16 0xFF .zero (.ask (slotIdx s))
  else s

/-- The meaning of HEARTBEAT_SEND (R422): every controller in Watch or Live queues one heartbeat per epoch, but for a module in
position conflict (R36). -/
def execHeartbeatSend (s : State) : Out :=
  if (s.power.mstate == .watch || s.power.mstate == .live) && s.power.hold != .position && s.power.strapsOk &&
      s.net.beatAt ≠ s.epo.ticks + 1 then
    let s := ackUpdate s
    let t := sendFrame s (0x010 + slotIdx s) 32 0xFF (tagOut s) (.beat (beatOf s))
    .next (askKey (afterBeat t))
  else .next s

/-- A shelf's figures from an active heartbeat of epoch `e` (R38, R422). -/
def viewOf (v : ShelfView) (p : Beat) (e : Nat) : ShelfView :=
  let i := e / 2 % 4
  { inService := v.inService || decide (0 < p.rectifiers), rectifiers := p.rectifiers, input := p.input,
    strPower := p.strPower, soc := if i = 0 then p.store else v.soc, euse := if i = 1 then p.store else v.euse,
    phases := if i = 2 then p.store % 32 else v.phases, missed := 0, heard := true, slot := p.slot }

/-- The figures of a heartbeat (R38): another shelf's, or this shelf's where the active module is the peer. -/
def takeFigures (s : State) (p : Beat) (e : Nat) : State :=
  if !activeRole p.role then s
  else if p.slot / 2 = shelfIdx s then
    (if isActive s then s else { s with lead.own := viewOf s.lead.own p e })
  else
    let old := shelfView s (p.slot / 2)
    let s := setShelf s (p.slot / 2) (viewOf old p e)
    if p.rectifiers = old.rectifiers && old.inService then s else reallow s 3

/-- Follow the holder of a lease heard (R82, R89, R93): the claims of an election end. -/
def follow (s : State) (slot expiry : Nat) : State :=
  { s with
    lead.holder := some slot, lead.expiry := some expiry, lead.elapsed := none, lead.relaxed := false, lead.again := false
    lead.claims := [], lead.claiming := false }

/-- An EXPIRY, 16 bits, has lapsed by the own count (R89). -/
def lapsed16 (s : State) (x : Nat) : Bool := decide ((s.epo.count + 65536 - x) % 65536 < 32768)

/-- A heartbeat with LEAD (R89, R93, R94): of two leads of different shelves, the higher index gives way and counts it; every
module follows the lower. The other slot of the lead's shelf continues the lease while its EXPIRY has not lapsed. -/
def hearLead (s : State) (slot expiry : Nat) : State :=
  if s.lead.isLead then
    if slot / 2 = shelfIdx s && lapsed16 s expiry then s
    else if slot / 2 = shelfIdx s || decide (slot < slotIdx s) then
      let s := if slot / 2 = shelfIdx s then s else bump s 0x3050 3
      follow (loseLead s) slot expiry
    else s
  else match s.lead.holder with
    | none => follow s slot expiry
    | some h =>
      if (h / 2 = slot / 2 && !lapsed16 s expiry) || (h / 2 != slot / 2 && decide (slot < h)) || expired s then
        follow s slot expiry
      else s

/-- The lease word of a heartbeat of epoch `e` (R88 to R94). -/
def hearLease (s : State) (p : Beat) (e : Nat) : State :=
  let w := p.lease.toNat
  let s :=
    if bit w 2 then
      (if s.lead.holder = some p.slot then { s with lead.expiry := some ((e + 1) % 65536) } else s)
    else if bit w 0 then hearLead s p.slot (w / 65536)
    else s
  if bit w 1 && !s.lead.claims.contains p.slot then { s with lead.claims := p.slot :: s.lead.claims } else s

/-- A heartbeat accepted (R422). One that carries this module's own slot index is a position conflict (R36). -/
def takeBeat (s : State) (p : Beat) (e : Nat) : State :=
  if p.slot = slotIdx s then
    (if s.power.mstate == .watch then { s with power.hold := .position } else s)
  else
    let s := { s with net.peerBeat := s.epo.ticks + 1, lead.roles := mset s.lead.roles p.slot (p.role + 1) }
    hearLease (takeFigures s p e) p e

/-- The meaning of HEARTBEAT (R422, R424, R428). -/
def execHeartbeat (h : Hdr) (p : Beat) (s : State) : Out :=
  .next (receive s h 32 (h.ident == 0x010 + p.slot) false true true (fun s e => takeBeat s p e))

/-! ## Shelves (R33, R39, R533, R534) -/

/-- The meaning of SHELF_LEAVES_SERVICE (R39, R94): after a third missed heartbeat or a capacity of 0; the lead of that shelf
releases its lease. The shelf rejoins with a setpoint of 0 kW. -/
def execShelfLeavesService (k : Nat) (s : State) : Out :=
  let t := { s with lead.fromZero := setBit s.lead.fromZero k true }
  if k = shelfIdx s then
    if ownRects s = 0 then .next (reallow { t with lead.releasing := s.lead.releasing || s.lead.isLead } 4) else .next s
  else
    let v := shelfView s k
    if v.inService && (decide (3 ≤ v.missed) || v.rectifiers == 0) then
      .next (reallow (setShelf t k { v with inService := false }) 4)
    else .next s

/-- The meaning of RECTIFIER_HEALTH_CHANGE (R33, R127, R551, R567): the healthy modules, their ratings and the allowance. -/
def execRectifierHealthChange (mask : Nat) (ratings : List Nat) (s : State) : Out :=
  .next (reallow { s with fac.rectOk := mask % 256, fac.un := nominalV s.fac.un ratings } 3)

/-- The quantities compared with U_n (R567), mV: line 1 of a DC input, the three line-to-line voltages of an AC input. -/
def comparedV (s : State) (volts : List Nat) : List Nat := if s.fac.un = 800 then volts.take 1 else volts.take 3

/-- A quantity below 80 % of U_n (R533), and every quantity from 80 to 120 % of it (R567). -/
def feedLow (s : State) (volts : List Nat) : Bool := (comparedV s volts).any (fun v => decide (v < 800 * s.fac.un))
def feedGood (s : State) (volts : List Nat) : Bool :=
  (comparedV s volts).all (fun v => decide (800 * s.fac.un ≤ v) && decide (v ≤ 1200 * s.fac.un))

/-- The meaning of FEED_LOST (R533, R567), on the quantities of the last 20 ms. -/
def execFeedLost (volts : List Nat) (s : State) : Out :=
  if isActive s && !s.fac.feedLost && feedLow s volts then
    .next (reallow (stateRec { s with fac.feedLost := true } 1 0x0A (stateCode s) (stateCode s) 0) 3)
  else .next s

/-- The meaning of FEED_RESTORED (R534, R567), on the quantities of the last 2 s: the setpoint rises from 0 W under the ramp
limiter. -/
def execFeedRestored (volts : List Nat) (s : State) : Out :=
  if s.fac.feedLost && feedGood s volts then
    .next (reallow (stateRec { s with fac.feedLost := false } 0 0x0B (stateCode s) (stateCode s) 0) 3)
  else .next s

/-! ## Pace frames (R45, R48, R50, R81, R82) -/

/-- PACE_FRAME_SEND (R81, R420): the lead queues the pace frame of the plan it has formed, which is its own plan n+1. -/
def sendPace (s : State) : State :=
  match s.lead.isLead, s.epo.ownPlan with
  | true, some p =>
    let q : Pace :=
      { lead := slotIdx s, newLead := s.lead.newLead, twilight := p.ttw, setpoints := p.set, codes := p.pace,
        filler := p.fill, phases := p.phase }
    let s := { s with
      epo.planNext := some p, epo.ttw := p.ttw, epo.lastPace := some s.epo.count, lead.newLead := false }
    sendFrame s 0x004 96 0xFF (tagOut s) (.pace q)
  | _, _ => s

/-- A filler word as received (R81): a fraction above 256 is treated as 0. -/
def cleanWord (w : Nat) : Nat := if 256 < w % 512 then w / 512 * 512 else w

/-- The plan a pace frame of epoch `e` announces (R50, R81). -/
def planOf (p : Pace) (e : Nat) : Plan :=
  { epoch := e + 1, set := p.setpoints, pace := p.codes, fill := p.filler.map cleanWord, phase := p.phases,
    ttw := p.twilight }

/-- The frame differs from the shadow plan of its epoch (R50, R95). -/
def differs (s : State) (p : Pace) (e : Nat) : Bool :=
  match s.epo.shadow with
  | none => false
  | some q => q.epoch == e + 1 &&
      !(q.set == p.setpoints && q.pace == p.codes && q.fill == p.filler && q.phase == p.phases)

/-- SHADOW_MISMATCH (R50): counted once per epoch by a shadow controller. -/
def noteMismatch (s : State) (p : Pace) (e : Nat) : State :=
  if isActive s && !s.lead.isLead && differs s p e && !s.epo.mismatchThis then
    bump { s with epo.mismatchThis := true, epo.mismatchTick := s.epo.ticks + 1 } 0x4005 4
  else s

/-- The minute record after an epoch number is adopted (R131, R132, R522): EPOCH_GAP; a minute whose number has passed closes, and
no number is used twice. -/
def gapMinute (s : State) : State :=
  if s.fac.mOpen then
    let s := minuteFlag (closeSecond s) 10
    if s.fac.minuteNo = minuteOf s then s
    else
      let no := s.fac.minuteNo
      let s := endMinute s
      ensureMinute { s with epo.noMinuteUntil := 60000 * (no + 1), fac.nextFlags := setBit s.fac.nextFlags 10 true }
        s.epo.count
  else
    { s with
      fac.nextFlags := setBit s.fac.nextFlags 10 true
      epo.noMinuteUntil :=
        if s.fac.minuteN = 0 then s.epo.noMinuteUntil else 60000 * (fieldAt s.fac.latest 4 4 + 1) }

/-- A window of the attribution ends (R109, R110): its energy waits for its fold, and the filler in force in it is that of the
last complete window. -/
def endWindow (s : State) : State :=
  let now := s.lead.fillNow.map (fun w => decide (fillFrac w ≠ 0))
  { s with
    lead.winPrev := s.lead.winPrev + s.lead.winEnergy, lead.winEnergy := 0
    lead.fillPrev := s.lead.lastFill, lead.lastFill := now }

/-- EPOCH_ADOPTION (R48): the frame's epoch number becomes the own count; block 9, cause 0x0D. DESIGN CHOICE (log entry 85): a
window that the adoption leaves ends there, and its energy enters the next window folded. -/
def adoptEpoch (s : State) (e : Nat) : State :=
  if s.epo.count = e then s
  else
    let s := if s.epo.count / 10 = e / 10 then s else endWindow s
    let b := stateBody (stateCode s) (stateCode s) 0 + packAt [(4, 6, s.epo.count), (10, 6, e)]
    gapMinute { writeRecB s 9 0 0x0D b with epo.count := e }

/-- The sender is the lease holder known, or with NEWLEAD the winner of an election (R82): the lease known has lapsed, and no
lower slot has claimed. -/
def paceFrom (s : State) (p : Pace) : Bool :=
  s.lead.holder == some p.lead ||
    (p.newLead && !s.lead.isLead && (s.lead.elapsed.isSome || s.lead.holder.isNone || expired s) &&
      s.lead.claims.all (fun c => decide (p.lead ≤ c)))

/-- What NEWLEAD = 1 brings (R82, R426): the new holder is followed, a pending key is discarded. -/
def newLeadIn (s : State) (p : Pace) : State :=
  if p.newLead then
    { s with
      lead.holder := some p.lead, lead.expiry := some ((s.epo.count + 10) % 65536), lead.elapsed := none
      lead.relaxed := false, lead.again := false, lead.claims := [], lead.claiming := false
      sec.keyNext := none }
  else s

/-- A pace frame accepted (R45, R48, R50, R55, R81). -/
def takePace (s : State) (p : Pace) (e : Nat) : State :=
  let s := newLeadIn (adoptEpoch s e) p
  let s := if p.filler.any (fun w => decide (256 < w % 512)) then countClamp s 1000 else s
  let s := noteMismatch s p e
  { s with epo.planNext := some (planOf p e), epo.ttw := p.twilight, epo.lastPace := some e }

/-- The meaning of PACE_FRAME (R45, R48, R82, R424). -/
def execPaceFrame (h : Hdr) (p : Pace) (s : State) : Out :=
  .next (receive s h 96 (h.ident == 0x004) true false true (fun s e =>
    if !paceFrom s p then bump s 0x3050 4
    else match s.epo.lastPace with
      | some l => if e ≤ l then bump s 0x4005 3 else takePace s p e
      | none => takePace s p e))

/-! ## Cap frames (R82, R84) -/

/-- An urgent cap frame accepted (R84): the later frame of one sender governs. -/
def takeUrgent (s : State) (h : Hdr) (p : Cap) (e : Nat) : State :=
  let m : CapMark := { sender := p.sender, epoch := e, counter := h.counter, allowance := p.allowance,
                       cap := p.breakerCap, ceilings := p.ceilings }
  let older := s.lead.capMarks.any (fun k => k.sender == p.sender &&
    decide (65536 * e + h.counter < 65536 * k.epoch + k.counter))
  if older then s else applyMarks { s with lead.capMarks := keepMark s.lead.capMarks m }

/-- A periodic cap frame accepted (R84): its ceilings at once; its breaker cap unless an urgent frame of its epoch or later
governs. -/
def takePeriodic (s : State) (p : Cap) (e : Nat) : State :=
  let s := { s with fac.ceiling := at0 p.ceilings (shelfIdx s) }
  if s.lead.capMarks.any (fun m => decide (e ≤ m.epoch)) then s else reallow (setCap s p.breakerCap) 0

/-- A role of 0 or 2 in the latest heartbeat of a slot (R82). -/
def heardActive (s : State) (slot : Nat) : Bool :=
  let r := mget s.lead.roles slot
  r == 1 || r == 3

/-- The meaning of CAP_FRAME (R82, R84, R424). -/
def execCapFrame (h : Hdr) (p : Cap) (s : State) : Out :=
  .next (receive s h 80 (decide (0x005 ≤ h.ident) && decide (h.ident ≤ 0x008)) true false true (fun s e =>
    if p.urgent then (if heardActive s p.sender then takeUrgent s h p e else s)
    else if s.lead.holder = some p.sender then takePeriodic s p e
    else bump s 0x3050 4))

/-! ## Lapse and election (R89 to R92) -/

/-- The meaning of LEAD_LEASE_LAPSE (R89, R91): an active module that is not the lead, at EXPIRY or after RELEASE; eligible
modules claim, and the claims counted are those heard from then on. -/
def execLeadLeaseLapse (s : State) : Out :=
  if isActive s && inLive s && !s.lead.isLead && s.lead.elapsed.isNone && expired s then
    .next (bump { s with
      lead.holder := none, lead.elapsed := some s.epo.count, lead.relaxed := false, lead.again := false
      lead.claiming := eligible90 s, lead.claims := [] } 0x3050 1)
  else .next s

/-- The lowest slot index that claims. -/
def lowestClaim : List Nat → Option Nat
  | [] => none
  | c :: rest => match lowestClaim rest with
    | none => some c
    | some d => some (min c d)

/-- This module wins (R91, R426): LEAD and EXPIRY, the first pace frame with NEWLEAD, the meridian line, a new group key. -/
def winLead (s : State) (newKey : Nat) : State :=
  let s := bump { s with
    lead.isLead := true, lead.newLead := true, lead.drives := true, lead.holder := some (slotIdx s)
    lead.expiry := some ((s.epo.count + 10) % 65536), lead.elapsed := none, lead.relaxed := false, lead.again := false
    lead.claims := [], lead.claiming := false, sec.keyNext := none
    epo.ownPlan := s.epo.shadow } 0x3050 2
  startKeys (sendPace s) newKey

/-- The meaning of LEAD_ELECTION (R37, R91, R92) of an active module: two epochs after the lapse the lowest claim takes the lease;
without a claim the relaxed round runs, and after an empty relaxed round both repeat, each repeated round counted. -/
def execLeadElection (newKey : Nat) (s : State) : Out :=
  match s.lead.elapsed with
  | none => .next s
  | some e =>
    if !isActive s || !inLive s || decide (s.epo.count < e + (if s.lead.relaxed then 4 else 2)) then .next s
    else match lowestClaim s.lead.claims with
      | some w =>
        if w = slotIdx s then .next (winLead s newKey)
        else .next { s with
          lead.elapsed := none, lead.relaxed := false, lead.again := false, lead.claiming := false
          lead.expiry := some ((s.epo.count + 10) % 65536) }
      | none =>
        if s.lead.relaxed then
          .next (bump { s with
            lead.elapsed := some (e + 4), lead.relaxed := false, lead.again := true, lead.claiming := eligible90 s }
            0x3050 1)
        else
          let t := { s with lead.relaxed := true, lead.claiming := true }
          .next (if s.lead.again then bump t 0x3050 1 else t)

/-- The meaning of LEAD_MERIDIAN_DRIVE (R432): only the lead drives the line. -/
def execLeadMeridianDrive (s : State) : Out :=
  if s.lead.isLead then .next { s with lead.drives := true, lead.pulseOut := s.lead.pulseOut + 1 } else .next s

/-! ## Tray reports and throttling (R86, R87, R99, R100) -/

/-- The chip slots of a mask of a tray (R70). -/
def maskSlots (tray m : Nat) : List Nat := ((upTo 32).filter (bit m)).map (32 * tray + ·)

/-- The effective code of a limited chip (R99): as listed, otherwise the highest code listed. -/
def codeOf (p : Report) (i : Nat) : Nat :=
  match p.chips.find? (fun c => c.slot == i) with
  | some c => c.code
  | none => p.chips.foldl (fun m c => max m c.code) 0

/-- The limited chips of a tray, as its latest report gives them (code + 1 by chip slot). -/
def limitsOf (s : State) (p : Report) : SMap :=
  let old := s.lead.limChips.filter (fun q => q.1 / 32 != p.tray)
  (maskSlots p.tray p.limitMask).foldl (fun m k => mset m k (codeOf p (k % 32) + 1)) old

/-- The lowest effective code of a constellation's limited members. -/
def lowestLimit (s : State) (c : Nat) : Option Nat :=
  (s.lead.limChips.filter (fun q => mget s.lead.members q.1 == c + 1)).foldl (fun a q =>
    match a with
    | none => some (q.2 - 1)
    | some b => some (min b (q.2 - 1))) none

/-- The restore delay when a flag sets (R100): doubled within 1,000 epochs of a removal, 200 again after 60,000 epochs without a
flag. -/
def delayAt (s : State) (c : Nat) : Nat :=
  let clear := mget s.lead.clearSince c
  let base := if clear != 0 && decide (clear + 59999 ≤ s.epo.ticks) then 200 else at0 s.lead.restoreDelay c
  let gone := mget s.lead.removedAt c
  if gone != 0 && decide (s.epo.ticks + 1 ≤ gone + 1000) then min 60000 (2 * base) else base

/-- THROTTLE_CEILING of one constellation (R99, R100). -/
def throttleOne (s : State) (c : Nat) : State :=
  match lowestLimit s c with
  | none =>
    if at0 s.lead.throttle c ≠ 255 ∧ mget s.lead.clearSince c = 0 then
      { s with lead.clearSince := mset s.lead.clearSince c (s.epo.ticks + 1) } else s
  | some p =>
    let n := at0 s.lead.nadir c
    let fresh := mget s.lead.flaggedAt c = 0 ∨ mget s.lead.clearSince c ≠ 0
    let s := if p < n && at0 s.lead.throttle c != n then bump s 0x3050 6 else s
    { s with
      lead.restoreDelay := if fresh then setAt s.lead.restoreDelay c (delayAt s c) else s.lead.restoreDelay
      lead.removedAt := if fresh then mset s.lead.removedAt c 0 else s.lead.removedAt
      lead.clearSince := mset s.lead.clearSince c 0
      lead.flaggedAt := mset s.lead.flaggedAt c (s.epo.ticks + 1)
      lead.throttle := setAt s.lead.throttle c (max p n) }

/-- A tray report accepted (R86, R87, R99). -/
def takeReport (s : State) (h : Hdr) (p : Report) : State :=
  let s := { s with
    lead.present := mset s.lead.present p.tray (p.present % 2 ^ 32 + 1)
    lead.limited := mset s.lead.limited p.tray p.limitMask
    lead.limChips := limitsOf s p
    lead.acks := if s.lead.isLead && p.event && !s.lead.acks.contains (p.tray, h.counter) then
        s.lead.acks ++ [(p.tray, h.counter)] else s.lead.acks }
  (upTo 16).foldl throttleOne s

/-- The meaning of TRAY_REPORT (R86, R424). -/
def execTrayReport (h : Hdr) (p : Report) (s : State) : Out :=
  .next (receive s h 64 (h.ident == 0x400 + p.tray) false false false (fun s _ => takeReport s h p))

/-- The meaning of THROTTLE_RESTORE (R100): the ceiling is removed after the restore delay with every flag clear. -/
def execThrottleRestore (c : Nat) (s : State) : Out :=
  let t := mget s.lead.clearSince c
  if at0 s.lead.throttle c ≠ 255 ∧ t ≠ 0 ∧ t + at0 s.lead.restoreDelay c ≤ s.epo.ticks + 1 then
    .next { s with
      lead.throttle := setAt s.lead.throttle c 255, lead.removedAt := mset s.lead.removedAt c (s.epo.ticks + 1) }
  else .next s

/-! ## Joins (R73 to R77) -/

/-- Non-decreasing. -/
def rises : List Nat → Bool
  | a :: b :: rest => decide (a ≤ b) && rises (b :: rest)
  | _ => true

/-- A pace table passes R74: a non-zero identifier, code 255 supported, one run of supported codes ending there, ceilings
non-decreasing over it. -/
def tableOk (p : Join) : Bool :=
  let run := p.ceilings.dropWhile (· == 0)
  p.table != 0 && p.ceilings.length == 256 && !run.isEmpty && run.all (fun f => f != 0) && rises run

/-- The value object 0x3060 holds for a table (R111). -/
def tableVal (p : Join) : Nat := packAt ((0, 4, p.table) :: arrAt 4 2 p.ceilings)

/-- A join frame accepted (R73, R74, R77). -/
def takeJoin (s : State) (p : Join) : State :=
  let l := maskSlots p.tray p.mask
  if p.leave then
    { s with
      lead.leaving := l.foldl (fun m k => mset m k 1) s.lead.leaving
      lead.tablesNext := l.foldl mdel s.lead.tablesNext }
  else if tableOk p then
    { s with
      lead.leaving := l.foldl mdel s.lead.leaving
      lead.tablesNext := l.foldl (fun m k => mset m k (tableVal p)) s.lead.tablesNext }
  else bump s 0x3050 5

/-- The meaning of JOIN_FRAME (R74, R424). -/
def execJoinFrame (h : Hdr) (p : Join) (s : State) : Out :=
  .next (receive s h 540 (h.ident == 0x480 + p.tray) false false false (fun s _ => takeJoin s p))

/-- The meaning of TRAY_ABSENCE_LEAVE (R77): after 200 epochs frozen, the tray's chips leave at the next class-E boundary. -/
def execTrayAbsenceLeave (tray : Nat) (s : State) : Out :=
  if 201 ≤ mget s.lead.frozenFor tray then .next { s with lead.left := mset s.lead.left tray 1 } else .next s

end Sys2Proof.Machine
end

