-- ==== Sys2Proof/Machine/Sample.lean ====
section
/-! DEFINITION. The loop sample (R240): what happens at clock 0 and in the prologue (R53, R116, R202, R206 to R210, R243, R247 to
R251, R303, R550), and the deadline at clock 720 (R240, R247, R327). -/
namespace Sys2Proof.Machine

/-! ## The standby's adoption of a record (R328) -/

/-- The string state of a code (R225). -/
def SState.ofCode (n : Nat) : SState :=
  if n = 1 then .precharge else if n = 2 then .ready else if n = 3 then .softStart else if n = 4 then .run
  else if n = 5 then .hiccup else if n = 6 then .latched else if n = 7 then .ovLatch else if n = 8 then .zeroing
  else if n = 9 then .isolated else .off

/-- One string's part of a record. -/
def adoptConv (s : State) (x : Str) (k : RecordIn) : State :=
  setConv s x { conv s x with
    st := SState.ofCode (k.states.get x), charge := k.dirs.get x, ownLatch := k.latched.get x, rot := k.rotation.get x
    retries := k.retries.get x, budget := 1000 * k.budgets.get x, vss := k.vss.get x, dirCnt := k.dirCnt.get x
    hicLeft := k.hiccup.get x, dwell := k.dwell.get x }

/-- The narrowings of a record (R302, R327). -/
def narOf (l : List Nat) : SMap :=
  (upTo 64).foldl (fun m q => if at0 l q = guardFactory q then m else mset m q (at0 l q + 1)) []

/-- Take the values of a record (R328). -/
def adoptRecord (s : State) (k : RecordIn) : State :=
  let s := adoptConv (adoptConv s .A k) .B k
  { s with
    cot.vNow := k.vnow, cot.vTgt := k.vtgt, cot.slew := k.slew, cot.ovLatch := k.ovLatch, cot.active := k.switching
    cot.limitedRun := k.limited, cot.iref := k.refs, cot.irefBuf := k.refs
    lpe.src := k.src, lpe.sel := k.sel == 1, lpe.ovrCnt := k.ovrcnt
    lpe.clean := if k.src = 0 then k.clean else s.lpe.clean
    lpe.cleanBg := if k.src = 0 then s.lpe.cleanBg else k.clean
    lpe.overBand := (k.counts.a, k.counts.b), lpe.vhat := k.vhat, lpe.idist := k.idist, lpe.xs := k.xs
    fac.y := k.y, fac.cu := k.cu, fac.cd := k.cd, epo.m := k.m, epo.bigM := k.bigM
    epo.twRunning := k.twilight, grd.nar := narOf k.narrow }

/-- At clock 0 of the second sample after the arrival of a differing record, its values are taken (R328). -/
def adoptDueRecord (s : State) : State :=
  match s.red.adopt with
  | none => s
  | some k =>
    if s.red.adoptIn ≤ 1 then adoptRecord { s with red.adopt := none, red.adoptIn := 0 } k
    else { s with red.adoptIn := s.red.adoptIn - 1 }

/-! ## Release (R335, R338) -/

/-- The clock of the twilight start of the boundary that ends this epoch (R53). -/
def twStart (s : State) : Nat := 200000 - 200 * s.epo.ttw

/-- PLANNED_HANDOVER_RELEASE (R338): RELEASE is set in the sample that contains the twilight start of the chosen boundary. -/
def handoverRelease (s : State) (k : Nat) : State :=
  match s.red.handover with
  | none => s
  | some t =>
    if isActive s && t == s.epo.ticks + 1 && decide (twStart s < 800 * (k + 1)) && decide (800 * k ≤ twStart s) then
      release s s.red.relKind s.red.relWhy
    else s

/-- The start of the sample after one that carried RELEASE: the lease timer clears and DRIVE_EN falls (R335). -/
def finishRelease (s : State) : State :=
  if isActive s && s.red.relSet then giveUp s s.red.relKind s.red.relWhy else s

/-! ## The guard on phase references (R298 indices 0, 8 and 9, R303) -/

/-- Q8.24 A as a magnitude in 10 mA. -/
def tenMA (v : Int) : Nat := v.natAbs * 100 / 16777216

/-- Clamp each reference to index 0; each clamp is a command violation (R303). -/
def clampPhases (s : State) (refs : List Int) : State × List Int × Bool :=
  let lim := limitQ24 s
  refs.foldl (fun a v =>
    let w := clampI v (-lim) lim
    (if w = v then a.1 else violation a.1 1 0 (tenMA v), a.2.1 ++ [w], a.2.2 || decide (w ≠ v))) (s, [], false)

/-- The sum of a string's references over its switching phases. -/
def sumOf (s : State) (x : Str) (refs : List Int) : Int :=
  sumI ((phasesOf x).map (fun p => if bit s.cot.active p then atI refs p else 0))

/-- Bound a string's sum by its current limits (R287, R292, R298): the references are lowered in proportion (log entry 20). -/
def clampSum (a : State × List Int × Bool) (x : Str) : State × List Int × Bool :=
  let s := a.1
  let t := sumOf s x a.2.1
  let hi := tdiv ((disLimit s x : Int) * q24) 100
  let lo := -(tdiv ((chgLimit s x : Int) * q24) 100)
  let lim := clampI t lo hi
  if lim = t then a
  else
    let l := (upTo 24).map (fun p =>
      if bit (strMask x) p && bit s.cot.active p then tdiv (atI a.2.1 p * lim) t else atI a.2.1 p)
    (violation s 1 (if 0 < t then 8 else 9) (tenMA t), l, true)

/-- GUARD_CLAMP of the 24 references (R240, R303): the state with its violations counted, the values, whether any was
clamped. -/
def guardRefs (s : State) (refs : List Int) : State × List Int × Bool :=
  clampSum (clampSum (clampPhases s refs) .A) .B

/-! ## Clean passes (R246, R249) -/

/-- The shadow program is a verified one (R245). -/
def shadowVerified (s : State) : Bool := if s.lpe.slotNow = 0 then s.lpe.slot1.state == 2 else true

/-- Count the passes of the sample that ends: the program's in the background of the fixed law, the shadow's always; `clamped`
tells whether the guard clamped an output of the program. -/
def countClean (s : State) (clamped : Bool) : State :=
  let p := s.lpe.prog
  let c := s.lpe.shad
  let pOk := s.lpe.run && p.ended && !p.dirty && !clamped
  let lim := limitQ24 s
  let cOk := s.lpe.run && s.lpe.shadowEn && c.ended && !c.dirty && shadowVerified s &&
    c.out.all (fun q => decide (-lim ≤ q.2) && decide (q.2 ≤ lim))
  { s with
    lpe.cleanBg := if s.lpe.src = 0 then 0 else if pOk then satInc s.lpe.cleanBg 2047 else 0
    lpe.clean := if cOk then satInc s.lpe.clean 2047 else 0 }

/-- The reference a phase latches: 2 A while its string equalises its link (R221), 0 while RUN is 0 (R254) and outside soft
start and run; no negative value in soft start (R212); limited while fold-back is in force (R216). -/
def latchVal (s : State) (p : Nat) (v : Int) : Int :=
  let st := (conv s (phaseStr p)).st
  let v := match foldLimit s (phaseStr p) with
    | some l => clampI v (-l) l
    | none => v
  if st == .precharge && (conv s (phaseStr p)).equal then 2 * q24
  else if !s.lpe.run then 0
  else if st == .run then v
  else if st == .softStart then max 0 v
  else 0

/-- COT_IREF at clock 0 (R240, R238, R247, R253): the outputs of the last completed pass, or those of the fixed law in charge,
after the guard; ignored under the overvoltage latch. -/
def latchRefs (s : State) : State :=
  let prog := guardRefs s s.cot.irefBuf
  let s := if s.lpe.src = 0 then { prog.1 with cot.irefBuf := prog.2.1 } else s
  let s := countClean s prog.2.2
  let law := guardRefs s s.lpe.law
  let s := if s.lpe.src = 0 then s else law.1
  let l := if s.lpe.src = 0 then prog.2.1 else law.2.1
  if s.cot.ovLatch then s
  else { s with cot.iref := (upTo 24).map (fun p => latchVal s p (atI l p)) }

/-! ## The reference ramp (R210 to R212) -/

/-- One step of `slew × 4 µs` toward a target, µV (R210). -/
def rampStep (v tgt slew : Nat) : Nat :=
  let d := 4 * slew
  if v ≤ tgt then (if tgt ≤ v + d then tgt else v + d) else (if v ≤ tgt + d then tgt else v - d)

/-- The start reference of a string rises at the slew in force (R212). -/
def riseVss (s : State) (x : Str) : State :=
  if (conv s x).st = .softStart then setConv s x { conv s x with vss := (conv s x).vss + 4 * slewNow s } else s

/-- REFERENCE_RAMP_STEP (R52, R210, R212): V_now follows a start reference or moves toward its target. -/
def rampVnow (s : State) : State :=
  let s := riseVss (riseVss s .A) .B
  match s.cot.vFollow with
  | some x => { s with cot.vNow := (conv s x).vss }
  | none => { s with cot.vNow := rampStep s.cot.vNow (1000 * vTarget s) (slewNow s) }

/-! ## Inputs and prologue (R240, R243, R53) -/

/-- Latch the inputs, corrected by both calibration layers (R513). -/
def latchInputs (s : State) (i : SampleIn) : State :=
  let j : SampleIn :=
    { i with
      bus1 := calibratedN s 0x300 i.dieC i.bus1, bus2 := calibratedN s 0x301 i.dieC i.bus2
      strV := ⟨calibratedN s 0x302 i.dieC i.strV.a, calibratedN s 0x303 i.dieC i.strV.b⟩
      linkV := ⟨calibratedN s 0x304 i.dieC i.linkV.a, calibratedN s 0x305 i.dieC i.linkV.b⟩
      iPhase := (upTo 24).map (fun p => calibrated s (0x306 + p) i.dieC (atI i.iPhase p)) }
  { s with
    power.dieC := i.dieC, lpe.latched := j, cot.bus1 := j.bus1, cot.bus2 := j.bus2, cot.strV := j.strV, cot.linkV := j.linkV
    cot.imeas := j.iPhase }

/-- BLEND_SAMPLE (R53): the twilight weight of a sample that starts at `800 × k`, the setpoint and the feedforward. -/
def blendSample (s : State) (k : Nat) : State :=
  let s := if s.epo.twRunning then
    { s with epo.m := min (800 * k - (200000 - s.epo.bigM)) s.epo.bigM } else s
  { s with
    epo.blendSet := 1000000 * (blendSetW s (shelfIdx s)).toNat
    epo.blendFf := ⟨blendFfW s .A, blendFfW s .B⟩ }

/-! ## The ramp limiter and RECT_SET (R116, R117, R550) -/

/-- RAMP_LIMITER_UPDATE (R116): credits, the step, the ceiling. -/
def rampLimiter (s : State) : State :=
  let up := upShare s
  let down := downShare s
  let cu := min (s.fac.cu + 4 * up) (1000 * up)
  let cd := min (s.fac.cd + 4 * down) (1000 * down)
  let x := s.epo.blendSet
  let y := s.fac.y
  let u := min (x - y) cu
  let d := min (y - x) cd
  let y' := y + u - d
  let cu' := cu - u
  let cd' := cd - d
  let ceil := 1000000 * ownCeiling s
  let ovr := decide (ceil < y')
  let s := if (decide (y < x) && decide (u < x - y)) || ovr then countClamp s 12 else s
  let s := if ovr && decide (cd < y - ceil) then minuteFlag s 8 else s
  { s with
    fac.y := if ovr then ceil else y'
    fac.cu := cu'
    fac.cd := if ovr then 0 else cd' }

/-- RECT_SET_WORD (R514, R550): one word per sample. -/
def rectWord (s : State) : State :=
  let w := (calInverse s 0x500 s.power.dieC (s.fac.y / 1000000 : Nat)).toNat
  let v := if s.red.driveEn then min w 300000 else 0
  { s with
    fac.rectWord := BitVec.ofNat 32 (withCrc8 (v + 524288 * b2n s.red.driveEn + 1048576 * (s.fac.rectSeq % 16)))
    fac.rectSeq := (s.fac.rectSeq + 1) % 16 }

/-! ## Strings (R202, R206 to R208) -/

/-- DIRECTION_CHANGE, its count (R202): samples the string reference has held the opposite sign. -/
def countDir (s : State) (x : Str) : State :=
  let r := strRef s x
  let opp := if (conv s x).charge then decide (0 < r) else decide (r < 0)
  setConv s x { conv s x with dirCnt := if opp then satInc (conv s x).dirCnt 2 else 0 }

/-- The mean magnitude of the switching phases' currents lies below the shed threshold (R207). -/
def belowShed (s : State) (x : Str) : Bool :=
  let l := (phasesOf x).filter (fun p => bit s.cot.active p)
  decide (sumN (l.map (fun p => (atI s.cot.imeas p).natAbs)) * 1000 < l.length * dnow s 0x5010 0 * 15625)

/-- The cases of R208 in which shed phases rejoin at once. -/
def mustRejoin (s : State) (x : Str) : Bool :=
  let c := conv s x
  c.st == .softStart || c.st == .zeroing || (c.st == .run && (c.noShed != 0 || c.fold || c.fold2 ||
    (s.cot.vNow != vTarget s * 1000 && decide (5000 < slewNow s))))

/-- Dwell and suspension of shedding in a sample (R207, R208), and the clocks of a hiccup (R215). -/
def shedSample (s : State) (x : Str) : State :=
  let s := if mustRejoin s x && (conv s x).shed != 0 then rejoin s x else s
  let c := conv s x
  let dwell := if c.st == .run && !shedSuspended s x && belowShed s x then satInc c.dwell 65535 else 0
  setConv s x { c with dwell := dwell, noShed := c.noShed - 1, hicLeft := c.hicLeft - 800 }

/-- A sharing warning of one phase, at most once per minute (R206). -/
def shareWarn (s : State) (x : Str) (p : Nat) : State :=
  let s := cotFlagStr s 5 x
  let last := (conv s x).shareTicks.find? (fun q => q.1 == p)
  let due := match last with
    | none => true
    | some q => decide (q.2 + 60000 ≤ s.epo.ticks)
  if due then
    convRec (setConv s x { conv s x with
      shareTicks := (p, s.epo.ticks) :: (conv s x).shareTicks.filter (fun q => q.1 != p) }) 1 0x0A
  else s

/-- SHARE_DEVIATION (R206): the 100 ms means of a string's switching phases against their mean. -/
def shareString (s : State) (x : Str) : State :=
  let l := (phasesOf x).filter (fun p => bit s.cot.active p)
  let sum := sumI (l.map (fun p => atI s.cot.shareSum p))
  l.foldl (fun s p =>
    if 3125 * 25000 * (l.length : Int) < (atI s.cot.shareSum p * (l.length : Int) - sum).natAbs then shareWarn s x p else s) s

/-- The 100 ms window of R206: 25,000 samples. -/
def shareSample (s : State) : State :=
  let s := { s with
    cot.shareSum := (upTo 24).map (fun p => atI s.cot.shareSum p + atI s.cot.imeas p)
    cot.shareN := s.cot.shareN + 1 }
  if s.cot.shareN < 25000 then s
  else
    let s := shareString (shareString s .A) .B
    { s with cot.shareSum := List.replicate 24 0, cot.shareN := 0 }

/-! ## The phase check (R336) -/

/-- The sums of the phase check take a sample's references and measured currents. -/
def phaseSample (s : State) : State :=
  if s.red.checking && s.red.checkLeft != 0 then
    { s with
      red.checkN := s.red.checkN + 1
      red.checkSums := (upTo 24).map (fun p =>
        let c := s.red.checkSums.getD p PhaseSum.zero
        { c with
          abs := c.abs + (atI s.cot.iref p).natAbs, ref := c.ref + atI s.cot.iref p, meas := c.meas + atI s.cot.imeas p }) }
  else s

/-! ## The sample (R240) -/

/-- Both contexts start their passes at clock 40. -/
def startPasses (s : State) : State :=
  { s with lpe.prog := startPass s.lpe.prog, lpe.shad := startPass s.lpe.shad }

/-- The work of sample `k` in Live. -/
def sampleWork (s : State) (i : SampleIn) (k : Nat) : State :=
  let s := adoptDueRecord (updDrive (finishRelease (runTo s 800)))
  let s := handoverRelease s k
  let s := latchRefs (if s.lpe.progReturn then returnProgram s else s)
  let s := blendSample (reanchor (latchInputs (rampVnow s) i)) k
  let s := runFixedLaw (bandCounts (parallax s))
  let s := rectWord (rampLimiter s)
  let s := countDir (countDir s .A) .B
  let s := shareSample (shedSample (shedSample (equalise (equalise s .A) .B) .A) .B)
  startPasses (snapClocks (traceClocks (phaseSample s)))

/-- The meaning of LOOP_SAMPLE (R240, R46): sample k of the epoch starts; an epoch holds samples 0 to 249. Outside Live only the
grid advances (R471). -/
def execLoopSample (i : SampleIn) (s : State) : Out :=
  let k := s.epo.sample
  if 250 ≤ k then .next s
  else
    let s := { s with
      epo.sample := k + 1, epo.samples := s.epo.samples + 1, epo.clk := 800 * k
      epo.lastEdge := s.epo.lastEdge && decide (k < 5) }
    .next (if inLive s then sampleWork s i k else s)

/-- The meaning of PASS_DEADLINE (R240, R247, R327): at clock 720 a pass without END is aborted and the state record frozen. -/
def execPassDeadline (s : State) : Out :=
  if inLive s then .next (freezeRecord (traceSample (abortShadow (abortPass s)))) else .next s

end Sys2Proof.Machine
end

