-- ==== Sys2Proof/Machine/Epoch.lean ====
section
/-! DEFINITION. Epoch boundaries (02_energy_plan.md, R44 to R57, R568): pulses accepted and missed, the boundary actions of a new
epoch in their order, class-E and class-M values (R21), and the start of a twilight. -/
namespace Sys2Proof.Machine

/-! ## Values that come into force (R21) -/

/-- PROGRAM_EXCHANGE (R246, R257): the contexts exchange roles; the incoming program goes on from its shadow memory; cause 0x08.
-/
def exchangePrograms (s : State) (k : Nat) : State :=
  if s.lpe.slotNow = k then s
  else
    lpeRec { dset s 0x5052 0 k with
      lpe.slotNow := k, lpe.prog := s.lpe.shad, lpe.shad := s.lpe.prog
      lpe.clean := 0, lpe.cleanBg := 0
      lpe.slot0 := { s.lpe.slot0 with state := if k = 0 then 3 else 2 }
      lpe.slot1 := { s.lpe.slot1 with
        state := if k = 1 then 3 else if s.lpe.slot1.state = 3 then 2 else s.lpe.slot1.state } } 0 0x08

/-- A pending selection of slot 1 waits for 1,000 clean shadow passes (R246). -/
def waits (s : State) (p : Pend) : Bool :=
  p.object == 0x5052 && p.value == 1 && s.lpe.slotNow != 1 && decide (s.lpe.clean < 1000)

/-- One class-E value comes into force, with what its object brings. An Almanac element keeps the observations of the engine: the
Tenant seeds its other fields (R59). -/
def applyE (s : State) (p : Pend) : State :=
  let t := dset s p.object p.element p.value
  if p.object = 0x4010 then
    dset s 0x4010 p.element (p.value - fieldAt p.value 2 2 * 256 ^ 2 + fieldAt (dget s 0x4010 p.element) 2 2 * 256 ^ 2)
  else if p.object = 0x4111 then swapIn s p.value
  else if p.object = 0x4124 then revertWeights s
  else if p.object = 0x5052 then exchangePrograms s p.value
  else if p.object = 0x5011 then refreshActive t
  else if p.object = 0x2012 ∨ p.object = 0x2013 then logEvent t 7 0 p.value (dget s p.object 0)
  else if p.object = 0xA103 then
    (let t := dset s 0xA103 0 (p.value % 256 ^ 129)
     if fieldAt p.value 129 1 = 1 then recResume t else t)
  else if p.object = 0x4024 then { t with lead.targetSince := s.epo.ticks }
  else if p.object = 0x4100 then
    (if p.value = 1 ∧ dget s 0x4100 0 = 0 then
      { t with eng.blendW := 0, eng.missRun := 0, eng.goodRun := 0, eng.hostOk := false, eng.hostFrom := s.epo.count } else t)
  else if p.object = 0x4180 then
    (if s.eng.fastOut then bump { t with eng.fastOut := false } 0x4182 11 else t)
  else t

/-- The class-E values due at this boundary. -/
def dueNow (s : State) : List Pend := s.dic.pend.filter (fun p => p.cls == 2 && decide (p.due ≤ s.epo.ticks) && !waits s p)

/-- The four ramp share weights as one number: byte k the weight of shelf k. -/
def sharesVal (s : State) : Nat := packAt (arrAt 0 1 (dgets s 0x2014 4))

/-- CLASS_E_APPLY (R21, R22, R51): every element with a value due takes it; new ramp shares are logged once (R138). -/
def classE (s : State) : State :=
  let l := dueNow s
  let old := sharesVal s
  let gone := fun (p : Pend) => l.contains p
  let t := l.foldl applyE { s with dic.pend := s.dic.pend.filter (fun p => !gone p) }
  if l.any (fun p => p.object == 0x2014) then logEvent t 8 0 (sharesVal t) old else t

/-- One class-M value comes into force (R21, R123, R516). -/
def applyM (s : State) (p : Pend) : State :=
  if p.object = 0x2000 then contractInForce s p.value
  else if p.object = 0x9000 then
    let t := dset s 0x9000 0 p.value
    minuteFlag (logEvent t 11 2 (calSerial p.value) (calSerial (calLayer s))) 0
  else dset s p.object p.element p.value

/-- A class-M value takes effect at a minute boundary; a contract at the first one at or after its start epoch (R123), with a
Tenant key enrolled (R41). -/
def dueMinute (s : State) (p : Pend) : Bool :=
  p.cls == 3 && (p.object != 0x2000 || (decide (cStart p.value ≤ s.epo.count) && tenantHeld s))

/-- CLASS_M_APPLY (R21). -/
def classM (s : State) : State :=
  let l := s.dic.pend.filter (dueMinute s)
  l.foldl applyM { s with dic.pend := s.dic.pend.filter (fun p => !dueMinute s p) }

/-! ## The plan switch (R50, R51, R54) -/

/-- The hints that come into force at this boundary (R60). -/
def hintsNow (s : State) : List (Nat × Nat) :=
  ((dueNow s).filter (fun p => p.object == 0x4011)).map (fun p => (p.element, p.value))

/-- PLAN_SWITCH (R54): plan n+1 is in force, with its codes, words and phases; a held plan stays (R51). -/
def switchPlan (s : State) : State :=
  let s := match s.epo.twRunning && s.epo.twPlan, s.epo.planNext with
    | true, some p => { notePhases s p.phase with
        epo.planN := p, epo.ffNow := s.epo.ffNext, epo.phaseNow := p.phase, lead.paceNow := p.pace, lead.fillNow := p.fill }
    | _, _ => s
  { s with epo.planNext := none, epo.twRunning := false, epo.twPlan := false, epo.m := 0 }

/-- What the engine does at the boundary of a complete twilight (R164, R182, R187, R191): the replacement of a damaged slot, an
adoption, the end of the hold forecast, a scheduled switch of the mapping, and a mirror that is due (R192). -/
def engineBoundary (s : State) (tw : Bool) : State :=
  let s := if tw then
      let s := match s.eng.swapTo with
        | some k => if s.eng.swapRun then swapIn s k else s
        | none => s
      let s := if s.eng.adoptDue || s.eng.revert then { s with eng.carried := incomingState s } else s
      let s := if s.eng.adoptDue then adoptCandidate s else s
      if s.eng.returning then { s with eng.holdFc := false } else s
    else s
  mirrorDue (switchMap { s with
    eng.swapRun := false, eng.swapAlone := false, eng.adoptDue := false, eng.revert := false, eng.returning := false
    eng.carried := s.eng.carried.filter (fun p => decide (p.1 < 4))
    eng.corrupt := s.eng.corrupt - 1 })

/-! ## Re-sharding triggers (R185) -/

/-- An element of class 6 is in force or pending for a constellation. -/
def burstPhase (s : State) (c : Nat) : Bool :=
  let of6 := fun p => decide (p < 64) && almClass s c p == 6
  of6 (at0 s.epo.planN.phase c) || (match pendOf s 0x4011 c with
    | some p => of6 p.value
    | none => false)

/-- A constellation came into use, a HOLD was cleared, or the plan raises a pace by more than 64 codes (R185). -/
def burstTrigger (s old : State) : Bool :=
  (upTo 16).any (fun c =>
    (inUse s c && burstPhase s c) || (inUse s c && !inUse old c) || (bit old.lead.held c && !bit s.lead.held c) ||
    (match s.epo.shadow with
      | some p => decide (at0 s.epo.planN.pace c + 64 < at0 p.pace c)
      | none => false))

/-! ## The host frame (R193 to R195, R449) -/

/-- The slot of the host frame for an epoch (R449). -/
def hostSlot (e : Nat) : Nat := ld1Base + 0xFC400000 + 8192 * (e % 16)

/-- One value of the frame; without QUANTILES p10 and p90 equal p50 (R193). -/
def hostWord (s : State) (a : Nat) (quant : Bool) (j : Nat) : Word :=
  BitVec.ofNat 32 (dramN s (a + 16 + 4 * (if quant then j else 3 * (j / 3) + 1)) 4)

/-- HOST_FRAME_READ (R449): valid with byte 0 = 0x1C and the target epoch of this epoch. -/
def readHost (s : State) : State :=
  let e := s.epo.count
  let a := hostSlot e
  if dget s 0x4100 0 = 1 ∧ isActive s = true then
    if dramN s a 1 = 0x1C ∧ dramN s (a + 4) 6 = e then
      { s with
        eng.hostFrame := (upTo 1500).map (hostWord s a (dramN s (a + 1) 1 % 2 == 1))
        eng.hostEpoch := e, eng.hostOk := true }
    else { s with eng.hostOk := false }
  else s

/-- The sum of the absolute differences of the p50 points 0 to 9 from the measured means of the epoch that closes, in 2^(-149) W
(R164, R194). -/
def hostDiff (s : State) : Nat :=
  let m := atI s.eng.rackMeans 0
  sumN ((upTo 10).map (fun i => (f32ToInt (hostVal s.eng.hostFrame 0 i 1).toNat - m * 2 ^ 149).natAbs))

/-- The frame used for the epoch that closes is consistent (R194). -/
def hostGood (s : State) : Bool :=
  decide ((10000 * hostDiff s : Nat) ≤ (dget s 0x4105 0 : Int) * max (atI s.eng.rackMeans 0) 100000 * 10 * 2 ^ 149)

/-- HOST_FRAME_CHECK (R194, R195) at t(e+1) for epoch `e`: byte 0 of its slot is cleared, the counts and the weight follow. -/
def checkHost (s : State) (e : Nat) : State :=
  if dget s 0x4100 0 = 1 ∧ isActive s = true then
    if e < s.eng.hostFrom then s
    else
      let top := dnow s 0x4104 0
      let s := { s with eng.lastDiff := if s.eng.hostFrame.isEmpty then s.eng.lastDiff else hostDiff s / (10 * 2 ^ 149) }
      let ok := s.eng.hostOk && hostGood s
      let s := dramBytes s (hostSlot e) [0#8]
      if ok then
        { s with
          eng.missRun := 0, eng.goodRun := s.eng.goodRun + 1
          eng.blendW := if 5 ≤ s.eng.goodRun + 1 then min (s.eng.blendW + top / 10) top else min s.eng.blendW top }
      else
        { s with
          eng.missRun := s.eng.missRun + 1, eng.goodRun := 0, eng.blendMiss := satInc s.eng.blendMiss 0xFFFFFFFF
          eng.blendW := if 2 ≤ s.eng.missRun + 1 then 0 else min s.eng.blendW top }
  else if dget s 0x4100 0 = 1 then s
  else { s with eng.blendW := 0, eng.hostOk := false }

/-! ## Telemetry (R443) -/

/-- TELEMETRY_RECORD of epoch `e`: the epoch, the sequence and the 1 ms means of features 0 to 51. -/
def telemetry (s : State) (e : Nat) : State :=
  if isActive s && inLive s then
    let a := ld0Base + 0x04000000 + 256 * (e % 3932160)
    let means := (s.eng.coarse.headD []).map (·.toNat)
    let v := packAt ([(0, 6, e), (8, 4, s.net.telemetry)] ++ arrAt 16 4 ((upTo 52).map (at0 means)))
    { dramPut s a 256 v with net.telemetry := s.net.telemetry + 1 }
  else s

/-! ## Counts that run per epoch -/

/-- The sidereal counter advances 32,768 per second (R14, R485): by the crystal, or without it by the reference (R469). -/
def stepSidereal (s : State) : State :=
  if s.power.sidHold && s.power.refGone then s
  else
    let t := s.epo.ticks
    { s with power.sidereal := (s.power.sidereal + 32768 * (t + 1) / 1000 - 32768 * t / 1000) % 2 ^ 48 }

/-- A heartbeat of epoch `n` is due (R422): in every epoch while FN-A is available, and otherwise, at 10 Mbit/s, in the even
ones only (R418 rule 6). -/
def beatDue (s : State) (n : Nat) : Bool := chUp s .A || s.net.fast || n % 2 == 0

/-- MISSED_HEARTBEATS (R39, R422): consecutive due heartbeats of another shelf in service not received; epoch `n` closes. -/
def missBeats (s : State) (n : Nat) : State :=
  (upTo 4).foldl (fun s k =>
    let v := shelfView s k
    let missed := if v.heard then 0 else if beatDue s n then satInc v.missed 255 else v.missed
    if k = shelfIdx s || !v.inService then s else setShelf s k { v with heard := false, missed := missed }) s

/-- Frozen trays age by one epoch (R77). -/
def ageFrozen (s : State) : State :=
  { s with lead.frozenFor := s.lead.frozenFor.map (fun p => (p.1, p.2 + 1)) }

/-- The window of the attribution turns over at a multiple of 10: its energy and the filler in force in it are those of the last
complete window (R109, R110). -/
def turnWindow (s : State) : State :=
  let now := s.lead.fillNow.map (fun w => decide (fillFrac w ≠ 0))
  if s.epo.count % 10 = 0 then endWindow s
  else { s with lead.lastFill := (s.lead.lastFill.zip now).map (fun p => p.1 || p.2) }

/-- STRING_ISOLATED of the minute record (R131). -/
def isolatedFlag (s : State) : State := if outOfService s .A || outOfService s .B then minuteFlag s 11 else s

/-- The open-wire tests due at an epoch boundary start (R281). -/
def dueTests (s : State) : State :=
  let one := fun (s : State) (x : Str) =>
    let l := (s.strs.owtDue.filter (fun p => p.1 == x)).map (·.2)
    if l.isEmpty then s else startOwt s x l
  one (one s .A) .B

/-- Minutes the peer has been FIT (R339): restarted by an epoch without, counted at minute boundaries. -/
def fitMinutes (s : State) (minute : Bool) : State :=
  if !peerFit s then { s with red.fitMin := 0 }
  else if minute then { s with red.fitMin := s.red.fitMin + 1 }
  else s

/-- The transmit side of the epoch that opens (R418, R420, R421). -/
def freshEpoch (s : State) : State :=
  { s with
    net.sent := [], net.capFrame := none, net.capGone := false, net.waited := false
    epo.clamped := [], epo.mismatchThis := false, epo.sample := 0, epo.clk := 0, trc.frameNo := 0 }

/-! ## Metering at a boundary (R129, R130, R527) -/

/-- The energy of the epoch that closes, metered under its own ceiling by a module with a role; a second that ends is judged. -/
def meterBoundary (s : State) (e : EpochIn) : State :=
  if s.red.role == .noRole then s
  else
    let n := s.epo.count + 1
    let s := meterEpochs s e 1
    if n % 1000 = 0 && n % 60000 != 0 then closeSecond s else s

/-- METERING_MINUTE_BOUNDARY and class M (R21, R130), at a multiple of 60,000. -/
def minuteStep (s : State) : State :=
  if s.epo.count % 60000 = 0 then
    let s := if s.red.role == .noRole then s else minuteBoundary s s.epo.count
    classM s
  else ensureMinute s s.epo.count

/-- PERIODIC_COMMIT (R527): at every multiple of 100. -/
def periodicCommit (s : State) : State :=
  if s.epo.count % 100 = 0 && s.red.role != .noRole then commitAttr (commitNow s false) else s

/-- The overload budgets (R216). -/
def budgets (s : State) (e : EpochIn) : State := budgetUpdate (budgetUpdate s .A e.isMean.a) .B e.isMean.b

/-! ## Forming plan n+1 (R571) -/

/-- PLAN_FORMATION by an active module in Live: the phases, the plan, the reserve, and whether the mapping is to change. The
lead's plan is the one it sends. -/
def formBoundary (s old : State) (hints : List (Nat × Nat)) : State :=
  if isActive s && inLive s then
    let s := noteReserve (formPlan (stepPhases s hints) s.epo.count)
    let s := if s.lead.isLead then { s with epo.ownPlan := s.epo.shadow } else { s with epo.ownPlan := none }
    decideReshard s (burstTrigger s old)
  else { s with epo.shadow := none, epo.ownPlan := none }

/-- The hold forecast of an epoch it serves (R164), published and counted. -/
def holdEpoch (s : State) : State :=
  if inLive s && s.eng.holdFc then publishHold (bump s 0x4182 10) else s

/-! ## Opening an epoch (R46) -/

/-- The count, the model's millisecond count and the sidereal counter advance; with object 0xA105 at 2, AUX_SYNC reproduces t(n)
(R434). -/
def advance (s : State) : State :=
  let s := stepSidereal s
  { s with
    trc.auxPulses := if dget s 0xA105 0 = 2 then s.trc.auxPulses + 1 else s.trc.auxPulses
    epo.count := (s.epo.count + 1) % 2 ^ 48, epo.ticks := s.epo.ticks + 1 }

/-- What the closing epoch leaves: feature means (R168) and the rack power held over it (R164). -/
def closeEpoch (s : State) (seen : Option (List (Nat × Nat))) : State :=
  let s := telemetry (epochMeans (pwmEpoch s seen)) s.epo.count
  { s with eng.rackMeans := (rackGross s :: s.eng.rackMeans).take 100 }

/-- An epoch opens in hold-up (R528, R529): the counts, minutes and class M go on; the energy is metered by HOLDUP_COMMIT. -/
def openHoldup (s : State) : State :=
  let s := freshEpoch (switchPlan (advance s))
  if s.epo.count % 60000 = 0 && s.red.role != .noRole then countEmergency (minuteStep s) else s

/-- An epoch opens (R46): the boundary actions in order. -/
def openEpoch (s : State) (e : EpochIn) : State :=
  if s.power.mstate == .holdup then openHoldup s
  else
    let old := s
    let closed := s.epo.count
    let tw := s.epo.twRunning && s.epo.twPlan
    let s := advance (meterBoundary (closeEpoch s e.pwm) e)
    let hints := if tw then hintsNow s else []
    let s := turnWindow (switchPlan s)
    let s := engineBoundary (if tw then classE s else s) tw
    let s := isolatedFlag (countEmergency (minuteStep (isolatedFlag s)))
    let s := fitMinutes s (s.epo.count % 60000 == 0)
    let s := freshEpoch s
    let s := missBeats (ageFrozen (if tw then applyMembers s else s)) closed
    let s := if isActive s then { s with lead.own := ownFigures s } else s
    let s := reallow s (if s.epo.count % 60000 = 0 then 2 else 3)
    let s := dueTests (balance (energyEpoch (budgets s e)))
    let s := rollWindow s
    let s := readHost (checkHost s closed)
    let s := holdEpoch s
    let s := formBoundary s old hints
    let s := keyMissing (switchKey s)
    let s := sendPace s
    periodicCommit (phaseEpoch s)

/-! ## Pulses (R46 to R48, R431, R568) -/

/-- The epoch timebase runs: the module is in Watch, Live or hold-up, with its reference (R468, R471). -/
def timebase (s : State) : Bool :=
  (s.power.mstate == .watch || s.power.mstate == .live || s.power.mstate == .holdup) && !s.power.refGone

/-- The residual grid error after a correction of at most 40 control clocks (R47). -/
def gridStep (g : Int) : Int := g - clampI g (-40) 40

/-- The grid is corrected; an epoch that leaves a residual counts one slip (R47). -/
def correctGrid (s : State) (err : Int) : State :=
  let r := gridStep (s.epo.gridErr + err)
  let s := { s with epo.gridErr := r }
  if r = 0 then s else bump s 0x4005 2

/-- FIRST_PULSE_ACCEPTED (R568): the pulse re-aligns the open epoch or opens the next; the grid restarts; no slip. -/
def firstPulse (s : State) (p : PulseIn) : State :=
  let s := { s with epo.firstPulse := true, epo.gridErr := 0 }
  let s := if p.pos ≤ 100000 then { s with epo.sample := 0, epo.clk := 0 } else openEpoch s p.epoch
  { s with epo.lastEdge := true }

/-- The meaning of MERIDIAN_PULSE (R46, R47, R431, R568): a pulse with a high time within 0.5 to 5.0 µs and within 2 µs of the
prediction opens the epoch; any other is not accepted. -/
def execMeridianPulse (p : PulseIn) (s : State) : Out :=
  if !timebase s || p.high < 500 || 5000 < p.high then .next s
  else if !s.epo.firstPulse then .next (firstPulse s p)
  else if 400 < p.err.natAbs then .next s
  else .next { openEpoch (correctGrid s p.err) p.epoch with epo.lastEdge := true }

/-- The meaning of MISSED_PULSE (R48): the epoch opens at the predicted instant. -/
def execMissedPulse (e : EpochIn) (s : State) : Out :=
  if !timebase s || !s.epo.firstPulse then .next s
  else .next (openEpoch (correctGrid (bump s 0x4005 1) 0) e)

/-- The meaning of EPOCH_OWN_GRID_OPEN (R568): before the first accepted pulse. -/
def execEpochOwnGridOpen (e : EpochIn) (s : State) : Out :=
  if !timebase s || s.epo.firstPulse then .next s else .next (openEpoch s e)

/-! ## The twilight (R51, R53, R62) -/

/-- Plan n+1 is complete (R51). -/
def planReady (s : State) : Bool :=
  match s.epo.planNext with
  | some p => p.epoch == s.epo.count + 1
  | none => false

/-- STORAGE_FEEDFORWARD at the twilight start (R62, R172): from the refresh completed 50 µs before it. -/
def nextFf (s : State) (bigM : Nat) : Two Int :=
  match s.epo.planNext with
  | none => ⟨0, 0⟩
  | some p =>
    feedforward s (useAt s (200000 * s.epo.ticks + 200000 - bigM - 10000)) s.epo.count (at0 p.set (shelfIdx s))

/-- What the engine begins with the twilight (R54, R164, R182, R191): a swap, an adoption, or the return from the hold
forecast. -/
def engineTwilight (s : State) : State :=
  let run := match swapTarget s with
    | some k => k != servingSlot s && (slotOf s k).state == 2
    | none => false
  let adopt := !run && adoptReady s
  let revert := match pendOf s 0x4124 0 with
    | some p => decide (p.due ≤ s.epo.ticks + 1)
    | none => false
  { s with
    eng.swapRun := run || adopt || revert, eng.swapAlone := false, eng.adoptDue := adopt && !revert, eng.revert := revert && !run
    eng.returning := s.eng.holdFc && decide (5 ≤ s.eng.validRun) }

/-- What is settled by the twilight start: the host tables received (R64, R98) and the inferences made (R60). -/
def settle (s : State) : State :=
  let s := { s with epo.inferredDue := s.epo.inferred }
  if isActive s && inLive s then countTables s s.epo.count else s

/-- The meaning of TWILIGHT_START (R51, R53): plan n+1 begins to blend, or plan n is held and counted. -/
def execTwilightStart (s : State) : Out :=
  if !timebase s || s.epo.twRunning then .next s
  else
    let bigM := 200 * s.epo.ttw
    let s := settle s
    let s := { s with epo.twRunning := true, epo.twPlan := planReady s, epo.m := 0, epo.bigM := bigM }
    if s.epo.twPlan then .next (engineTwilight (snapMembers { s with epo.ffNext := nextFf s bigM }))
    else .next (bump s 0x4005 0)

end Sys2Proof.Machine
end

