-- ==== Sys2Proof/Machine/Attribution.lean ====
section
/-! DEFINITION. The attribution table (03_rack_allocation.md, 16_cxl_attachment.md): the chip-counter records of the inbox, the
fold of a window, the learned step rates and Almanac fields that follow from the records, and the attribution view. -/
namespace Sys2Proof.Machine

/-! ## The inbox (R447, R448) -/

/-- Where the record of tray `t` for window `w` lies in the stack (R447). -/
def inboxSlot (t w : Nat) : Nat := ld1Base + 0xFC000000 + 8192 * (4 * t + w % 4)

/-- A record of tray `t` for window `w` lies in its slot (R448 step 1). -/
def recordThere (s : State) (t w : Nat) : Bool :=
  let a := inboxSlot t w
  dramN s a 1 == 0x16 && dramN s (a + 1) 1 == t && dramN s (a + 4) 4 == (10 * w + 10) % 2 ^ 32

/-- Count in object 0x3101. -/
def addCounter (s : State) (k n : Nat) : State := dset s 0x3101 k ((dget s 0x3101 k + n) % 2 ^ 64)

/-- One of the three other slots of a tray (R448 step 3): a non-zero byte 0 is a late record, counted and cleared. -/
def lateSlot (s : State) (t k : Nat) : State :=
  if dramN s (inboxSlot t k) 1 = 0 then s
  else addCounter (dramBytes s (inboxSlot t k) [0#8]) 2 1

/-- Clear the slots of a tray and count its late records (R448 steps 2 and 3). -/
def clearTray (s : State) (t w : Nat) : State :=
  [w + 1, w + 2, w + 3].foldl (fun s k => lateSlot s t k) (dramBytes s (inboxSlot t w) [0#8])

/-! ## Weights (R109, R110) -/

/-- A tray of which the module knows chips or records. -/
def trayKnown (s : State) (t : Nat) : Bool :=
  s.lead.stepCnt.any (fun p => p.1 / 32 == t) || s.lead.members.any (fun p => p.1 / 32 == t) ||
    mget s.lead.present t != 0

/-- Constellation + 1 of a chip slot. -/
def slotCons (s : State) (slot : Nat) : Nat := mget s.lead.members slot

/-- The slots of a tray that its record carries: reported present, or with a weight. -/
def carriedSlots (s : State) (a : Nat) : List Nat :=
  (upTo 32).filter (fun j => bit (dramN s (a + 8) 4) j || decide (dramN s (a + 144 + 128 * j) 128 ≠ 0))

/-- Steps by which a slot's counter moved, none at its first record (R109). -/
def stepsOf (s : State) (slot now : Nat) : Nat :=
  let was := mget s.lead.stepCnt slot
  if was = 0 then 0 else (now + 2 ^ 32 - (was - 1)) % 2 ^ 32

/-- A record's weights and counters replace those held for its tray; its slots thaw (R77, R110). The steps per
constellation of the window are the most of any of its slots (log entry 61). -/
def takeRecord (s : State) (t w : Nat) : State :=
  let a := inboxSlot t w
  let sots := carriedSlots s a
  let rate := sots.foldl (fun l j =>
    let c := slotCons s (32 * t + j)
    if c = 0 then l else setAt l (c - 1) (max (at0 l (c - 1)) (stepsOf s (32 * t + j) (dramN s (a + 16 + 4 * j) 4))))
    s.lead.stepRate
  { s with
    lead.stepRate := rate
    lead.stepCnt := sots.foldl (fun m j => mset m (32 * t + j) (dramN s (a + 16 + 4 * j) 4 + 1)) s.lead.stepCnt
    lead.inbox := (upTo 1024).foldl (fun m j => mset m (1024 * t + j) (dramN s (a + 144 + 4 * j) 4)) s.lead.inbox
    lead.absent := mdel s.lead.absent t, lead.frozenFor := mdel s.lead.frozenFor t, lead.left := mdel s.lead.left t }

/-- A window without a record of a tray (R77, R110): its last weights serve for at most 3 windows, then its slots freeze. -/
def missRecord (s : State) (t : Nat) : State :=
  let n := satInc (mget s.lead.absent t) 4
  { s with
    lead.absent := mset s.lead.absent t n
    lead.frozenFor := if n = 4 ∧ mget s.lead.frozenFor t = 0 then mset s.lead.frozenFor t 1 else s.lead.frozenFor }

/-- The weights of the fold (R110): those held of every tray whose slots are not frozen. -/
def foldWeights (s : State) : SMap := s.lead.inbox.filter (fun p => decide (mget s.lead.absent (p.1 / 1024) < 4))

/-- The filler weights to be moved (R110): of slots whose constellation had filler 0 in all ten epochs of the window. DESIGN
CHOICE (log entry 87): the constellation is that of the slot at the fold, and a slot in none keeps its filler weight; the rule
is silent on both. -/
def movedOf (s : State) (m : SMap) : SMap :=
  m.filter (fun p =>
    p.1 % 32 == 31 && slotCons s (p.1 / 32) != 0 && !(s.lead.fillPrev.getD (slotCons s (p.1 / 32) - 1) false))

/-- FILLER_MOVED (R110): the weight of partition 31 is added to that of partition 0. -/
def moveFiller (m moved : SMap) : SMap := moved.foldl (fun m p => madd (mdel m p.1) (p.1 - 31) p.2) m

/-! ## Table entries (R108) -/

/-- Set the flags of an entry, and its last report where the fold carries it. -/
def setEntry (s : State) (i flags : Nat) (report : Option Nat) : State :=
  let v := dget s 0x3100 i
  dset s 0x3100 i (packAt [(0, 8, fieldAt v 0 8), (8, 4, report.getD (fieldAt v 8 4)), (12, 2, flags)])

/-- The 32 entries of a slot. -/
def flagSlot (s : State) (slot flags : Nat) (report : Option Nat) : State :=
  (upTo 32).foldl (fun s p => setEntry s (32 * slot + p) flags report) s

/-- The slot has reported (R108 VALID). -/
def slotValid (s : State) (slot : Nat) : Bool := bit (fieldAt (dget s 0x3100 (32 * slot)) 12 2) 0

/-- The flags of a tray's slots after a fold (R108, R110): VALID; FROZEN; ESTIMATED; FILLER_MOVED; the last report of the slots
that the record of this window carries. -/
def flagTray (s : State) (moved : SMap) (t w : Nat) : State :=
  let n := mget s.lead.absent t
  let sots := carriedSlots s (inboxSlot t w)
  (upTo 32).foldl (fun s j =>
    let slot := 32 * t + j
    let carried := n == 0 && sots.contains j
    if carried || slotValid s slot then
      flagSlot s slot
        (flagsAt [(0, true), (1, n == 4), (2, 1 ≤ n && n ≤ 3), (3, mget moved (32 * slot + 31) != 0)])
        (if carried then some ((10 * w + 10) % 2 ^ 32) else none)
    else s) s

/-- Add energy to an entry (R108, R110), mJ. -/
def addEntry (s : State) (i e : Nat) : State :=
  let v := dget s 0x3100 i
  dset s 0x3100 i (v - fieldAt v 0 8 + (fieldAt v 0 8 + e) % 2 ^ 64)

/-! ## Distribution (R110) -/

/-- Insert an (entry, remainder) pair: largest remainder first, ties to the lowest entry. -/
def insRem : List (Nat × Nat) → Nat × Nat → List (Nat × Nat)
  | [], x => [x]
  | y :: rest, x => if x.2 > y.2 then x :: y :: rest else y :: insRem rest x

/-- The entries that take one mJ of the rest. -/
def restOf (m : SMap) (e total n : Nat) : List Nat :=
  (((m.map (fun p => (p.1, e * p.2 % total))).foldl insRem []).take n).map (·.1)

/-- The energy each entry receives, mJ. -/
def sharesOf (m : SMap) (e : Nat) : SMap :=
  let total := sumN (m.map (·.2))
  let base := m.map (fun p => (p.1, e * p.2 / total))
  let top := restOf m e total (e - sumN (base.map (·.2)))
  base.map (fun p => (p.1, p.2 + b2n (top.contains p.1)))

/-- A signed counter of object 0x3101. -/
def setCounter (s : State) (k : Nat) (v : Int) : State := dset s 0x3101 k (toTwos v 64)

/-- The distribution of the window's energy over the weights (R110); filler energy enters the open minute (R132). -/
def distribute (s : State) (m : SMap) : State :=
  let e := s.lead.winPrev + s.lead.carry
  if e < 0 then setCounter { s with lead.carry := e, lead.winPrev := 0 } 1 e
  else
    let mj := (e / 1000).toNat
    let s := setCounter { s with lead.carry := e - 1000 * mj, lead.winPrev := 0 } 1 0
    if sumN (m.map (·.2)) = 0 then addCounter s 0 mj
    else
      let sh := sharesOf m mj
      let s := sh.foldl (fun s p => addEntry s p.1 p.2) s
      { s with fac.mFill := s.fac.mFill + sumN ((sh.filter (fun p => p.1 % 32 == 31)).map (·.2)) }

/-! ## What the records teach (R58, R59, R96, R97) -/

/-- Chip-reported power of the window, W: a weight of 1 µJ over 10 ms is 100 µW. -/
def chipPowers (s : State) (m : SMap) : State :=
  let of := fun (c : Nat) => sumN ((m.filter (fun p => slotCons s (p.1 / 32) == c + 1)).map (·.2)) / 10000
  { s with lead.chipPower := (upTo 16).map of, lead.chipAll := sumN (m.map (·.2)) / 10000 }

/-- The Almanac element of the phase in force observes `n` steps; from 64 on its duration, anchor powers and shape are the
engine's (R58, R59): free values. DESIGN CHOICE (log entry 86): all steps of a folded window count for the phase of the plan last
formed, also where the phase changed in the window. -/
def observe (s : State) (c n : Nat) : State :=
  let p := at0 s.epo.phaseNow c
  if 64 ≤ p then s
  else
    let v := dget s 0x4010 (64 * c + p)
    let obs := min (fieldAt v 2 2 + n) 65535
    let d := s.dic.free
    if obs < 64 then dset s 0x4010 (64 * c + p) (v - fieldAt v 2 2 * 256 ^ 2 + obs * 256 ^ 2)
    else
      dset (drawn s) 0x4010 (64 * c + p)
        (packAt [(0, 1, fieldAt v 0 1), (1, 1, setBit (fieldAt v 1 1) 1 true), (2, 2, obs),
          (4, 4, Config.learnedAlm d 0), (8, 4, fieldAt v 8 4), (12, 160, Config.learnedAlm d 1)])

/-- The steps of a constellation in the window (R59, R96): observed, and from 64 on its step rates are learned. -/
def learnSteps (s : State) (c : Nat) : State :=
  let n := at0 s.lead.stepRate c
  if n = 0 then s
  else
    let s := { s with lead.steps := madd s.lead.steps c n }
    let s := if 64 ≤ mget s.lead.steps c then
        { drawn s with lead.rates := mset s.lead.rates c (s.dic.free + 1) } else s
    observe s c n

/-- The step rates in steps per second (R166 features 100 to 115): ten milliseconds a window. -/
def ratesPerSecond (s : State) : State := { s with lead.stepRate := s.lead.stepRate.map (· * 100) }

/-! ## The view (R444, R446) -/

/-- The attribution view: its sequence even again, the window, objects 0x3101 and 0x3100. -/
def attrView (s : State) (stop : Nat) : State :=
  let q := dramN s ld1Base 8
  let s := dramPut (dramPut s ld1Base 8 (q + 2)) (ld1Base + 8) 4 (stop % 2 ^ 32)
  let s := (upTo 4).foldl (fun s k => dramPut s (ld1Base + 64 + 8 * k) 8 (dget s 0x3101 k)) s
  (s.dic.vals.filter (fun p => p.1 / 16777216 == 0x3100)).foldl
    (fun s p => dramPut s (ld1Base + 0x10000 + 16 * (p.1 % 16777216)) 16 (p.2 - 1)) s

/-! ## The fold -/

/-- Read, clear and take the record of one tray, or count its absence (R110, R448). -/
def foldTray (s : State) (w t : Nat) : State :=
  let s' := if recordThere s t w then takeRecord s t w
    else if trayKnown s t then missRecord s t else s
  clearTray s' t w

/-- The records of the window, tray by tray (R110, R448). -/
def foldTrays (s : State) (w : Nat) : State :=
  (upTo 128).foldl (fun s t => foldTray s w t) { s with lead.stepRate := List.replicate 16 0 }

/-- The flags of the slots of every known tray (R109). -/
def flagTrays (s : State) (moved : SMap) (w : Nat) : State :=
  ((upTo 128).filter (trayKnown s)).foldl (fun s t => flagTray s moved t w) s

/-- The steps of every constellation (R59, R96), then the rates of the features. -/
def learnAll (s : State) : State := ratesPerSecond ((upTo 16).foldl learnSteps s)

/-- The window is folded. -/
def foldedTo (s : State) (stop : Nat) : State := attrView { s with lead.foldEnd := stop } stop

/-- The fold of window `w` (R110, R448). -/
def foldWindow (s : State) (w : Nat) : State :=
  let s := foldTrays s w
  let held := foldWeights s
  let moved := movedOf s held
  let m := moveFiller held moved
  let s := addCounter (flagTrays s moved w) 3 moved.length
  let s := distribute (chipPowers s m) m
  foldedTo (learnAll s) (10 * w + 10)

/-- The meaning of ATTRIBUTION_FOLD (R107, R110, R448): at t(10w + 15) an active module in Live folds window w, once. -/
def execAttributionFold (s : State) : Out :=
  let n := s.epo.count
  if isActive s && inLive s && n % 10 == 5 && decide (15 ≤ n) && s.lead.foldEnd != n - 5 then
    .next (foldWindow s ((n - 15) / 10))
  else .next s

end Sys2Proof.Machine
end

