-- ==== Sys2Proof/Machine/Security.lean ====
section
/-! DEFINITION. The security die (12_trust_keys.md): leaves and signatures (R349 to R353), enrolment (R356 to R358), firmware
banks (R360 to R364), sessions (R365 to R367), evidence (R370 to R372), unlock grants and the passphrase (R373 to R375),
and the entropy source (R347). Codes answer a write; the operations beside them are its effect. -/
namespace Sys2Proof.Machine

/-! ## Signatures (R346, R354) -/

/-- The vendor keys that verify grants and session opens: slots 0 to 3 not revoked in OTP (R354). -/
def vendorKeys (s : State) : List Nat := ((upTo 4).filter (fun k => !bit s.sec.revoked k)).map Config.vendorKey


/-- A verification failure is counted (R378, object 0x8070). -/
def countVerify (s : State) (code : Nat) : State := if code = 0x07 then bump s 0x8070 0 else s

/-! ## The signing queue (R349 to R353) -/

/-- The leaf reserve is reached: only hour seals are signed (R352). -/
def inReserve (s : State) : Bool := decide (leavesLeft s < 1048576)

/-- The next signature: hour seals first, first in first out within a class (R351). -/
def nextJob (s : State) : Option SignJob :=
  match s.sec.queue.find? (fun j => j.kind == 0) with
  | some j => some j
  | none => if inReserve s then none else s.sec.queue.head?

/-- Remove the first occurrence of a job. -/
def dropJob (j : SignJob) : List SignJob → List SignJob
  | [] => []
  | k :: rest => if k = j then rest else k :: dropJob j rest

/-- Bytes 0 to 111 of a seal (R136); on demand, type 0xA. -/
def sealBytes (s : State) (j : SignJob) : Nat :=
  packAt [(0, 1, if j.kind = 0 then 0x19 else 0x1A), (1, 1, slotIdx s), (4, 4, j.minute), (8, 32, j.root),
    (40, 32, j.contract), (72, 32, userHash s)]

/-- A length and a signature of 5,236 bytes behind `n` signed bytes, with the length mark (R346, R371). -/
def signed (s : State) (v n : Nat) : Nat :=
  v + 256 ^ n * 5236 + 256 ^ (n + 4) * (Config.hssSignature s.sec.q (bytesOf v n) % 256 ^ 5236) + 256 ^ (n + 5240)

/-- SHA-256 over the two Owner keys (R371). -/
def ownerHash (s : State) : Nat := hashOf (fieldAt (dget s 0x8000 0) 8 120) 120

/-- SHA-256 over the Tenant key, zero with none (R371). -/
def tenantHash (s : State) : Nat := if (tenantKeys s).isEmpty then 0 else hashOf (fieldAt (dget s 0x8001 0) 8 60) 60

/-- The value of one element as bytes: variable values carry their length mark. -/
def elemBytes (d : Desc) (v : Nat) : List Nat := bytesOf v (if d.size = 0 then varLen 65537 v else d.size)

/-- The configuration hash (R372): every persistent writable object in 0x1000 to 0x7FFF and 0x8013 to 0x8020. -/
def configHash (s : State) : Nat :=
  let objs := objTable.filter (fun p => p.2.wr != 0 && 2 ≤ p.2.pers && p.2.pers ≤ 3 &&
    ((0x1000 ≤ p.1 && p.1 ≤ 0x7FFF) || (0x8013 ≤ p.1 && p.1 ≤ 0x8020)))
  let one := fun (o : Nat) (d : Desc) (e : Nat) =>
    let b := elemBytes d (dget s o e)
    bytesOf o 2 ++ bytesOf e 2 ++ bytesOf b.length 4 ++ b
  Config.sha256 ((objs.map (fun p => ((upTo p.2.elems).map (one p.1 p.2)).flatten)).flatten)

/-- The hash of the loop program in service (R371). -/
def loopHash (s : State) : Nat := (progNow s s.lpe.slotNow).hash

/-- Bytes 0 to 399 of evidence (R371). -/
def evidenceBytes (s : State) (j : SignJob) : Nat :=
  packAt [(0, 1, 0x10), (1, 1, 0x01), (2, 1, slotIdx s + 8 * b2n (isActive s)), (3, 1, j.role), (4, 6, s.epo.count),
    (10, 6, s.power.sidereal), (16, 4, (runBank s).version), (20, 4, (runBank s).security), (24, 4, s.sec.q),
    (28, 1, grantScopes s), (32, 32, j.nonce), (64, 32, s.power.ident), (96, 32, s.sec.fwMeasure), (128, 32, configHash s),
    (160, 32, contractHashNow s), (192, 32, userHash s), (224, 32, ownerHash s),
    (256, 32, tenantHash s), (288, 32, hashOf (dget s 0x5080 0) 264), (320, 32, (slotOf s (servingSlot s)).hash),
    (352, 32, loopHash s)]

/-- LEAF_BLOCK_RESERVE (R349): at q = Q the counter is incremented before the leaf is used. -/
def reserveBlock (s : State) : State :=
  if s.sec.q = 64 * s.sec.ctrLeaf then { s with sec.ctrLeaf := s.sec.ctrLeaf + 1 } else s

/-- Each 10 % of the leaves used, and the reserve, are recorded (R352). -/
def leafRecords (s : State) : State :=
  let t := s.sec.q * 10 / 33554432
  let s := if s.sec.usedWarn < t then secRec { s with sec.usedWarn := t } 1 0x04 4 0 else s
  if inReserve s && !s.sec.reserveRec then secRec { s with sec.reserveRec := true } 3 0x05 4 0 else s

/-- The product of a signature is published (R135, R136, R370, R378). -/
def publishSigned (s : State) (j : SignJob) : State :=
  if j.kind = 0 then
    let m := mset s.fac.seals s.fac.sealN (signed s (sealBytes s j) 112)
    { s with
      fac.seals := if 168 ≤ s.fac.sealN then mdel m (s.fac.sealN - 168) else m
      fac.sealN := s.fac.sealN + 1 }
  else if j.kind = 1 then dset s 0x8043 j.role (signed s (sealBytes s j) 112)
  else dset s 0x8051 j.role (signed s (evidenceBytes s j) 400)

/-- The meaning of SIGNATURE_COMPLETE (R349, R351, R352): with the lower tree of q built, the next request is signed with leaf
q. -/
def execSignatureComplete (s : State) : Out :=
  match nextJob s with
  | none => .next s
  | some j =>
    if !powered s || 33554432 ≤ s.sec.q || s.sec.lowerTree != some (s.sec.q / 1024) then .next s
    else
      let s := reserveBlock { s with sec.queue := dropJob j s.sec.queue }
      let s := publishSigned s j
      .next (leafRecords { s with sec.q := s.sec.q + 1 })

/-- The meaning of LOWER_TREE_BUILD (R350): the lower tree of q / 1,024 is built; top leaf q / 1,024 signs its key with the same
bytes at every build. -/
def execLowerTreeBuild (s : State) : Out := .next { s with sec.lowerTree := some (s.sec.q / 1024) }

/-! ## The daily budget (R352) -/

/-- The metering day. -/
def meterDay (s : State) : Nat := minuteOf s / 1440

/-- The counts of the present metering day. -/
def dayCounts (s : State) : Two Nat := if s.sec.dayNo = meterDay s then s.sec.day else ⟨0, 0⟩

/-- The budget of a role allows one more signature today; the leaf reserve and a full queue refuse it (R351, R352). -/
def budgetCode (s : State) (role : Role) : Nat :=
  let k := roleBits role
  let used := if k = 0 then (dayCounts s).a else (dayCounts s).b
  if dget s 0x8041 k ≤ used || !queueFree s || inReserve s then 0x03 else 0

/-- Count one budgeted request. -/
def countDay (s : State) (role : Role) : State :=
  let c := dayCounts s
  { s with
    sec.dayNo := meterDay s
    sec.day := if roleBits role = 0 then ⟨c.a + 1, c.b⟩ else ⟨c.a, c.b + 1⟩ }

/-- A request for evidence (R370). -/
def requestEvidence (s : State) (role : Role) (nonce : Nat) : State :=
  queueSign (countDay s role) { kind := 2, minute := 0, root := 0, contract := 0, role := roleBits role, nonce := nonce }

/-- The code of an on-demand seal request (R136, R352, R66): SIGN permits it; a kind beyond 1 is reserved. -/
def sealCode (s : State) (role : Role) (v : Nat) : Nat :=
  if fieldAt v 1 3 ≠ 0 then 0x04
  else if 1 < fieldAt v 0 1 ∨ bit (dget s 0x4003 0) 6 = false then 0x03
  else budgetCode s role

/-- An on-demand seal (R136): the chain head at the latest closed minute, or the digest given. -/
def requestSeal (s : State) (role : Role) (v : Nat) : State :=
  queueSign (countDay s role)
    { kind := 1, minute := fieldAt s.fac.latest 4 4, root := if fieldAt v 0 1 = 1 then fieldAt v 4 32 else s.fac.chain,
      contract := contractHashNow s, role := roleBits role, nonce := 0 }

/-! ## Enrolment (R356 to R358) -/

/-- The signature parts of an enrolment record: proof, Owner and Tenant authorisation, none where the length is 0. -/
def enrolSigs (v : Nat) (l : List Sig) : Option Sig × Option Sig × Option Sig :=
  let n1 := fieldAt v 104 4
  let n2 := fieldAt v (108 + n1) 4
  let n3 := fieldAt v (112 + n1 + n2) 4
  let a := if n1 = 0 then (none, l) else (l.head?, l.drop 1)
  let b := if n2 = 0 then (none, a.2) else (a.2.head?, a.2.drop 1)
  (a.1, b.1, if n3 = 0 then none else b.2.head?)

/-- The length of an enrolment record. -/
def enrolLen (v : Nat) : Nat :=
  let n1 := fieldAt v 104 4
  let n2 := fieldAt v (108 + n1) 4
  116 + n1 + n2 + fieldAt v (112 + n1 + n2) 4

/-- The module was started cold less than 600 s ago (R357). -/
def coldNow (s : State) : Bool :=
  match s.sec.cold with
  | none => false
  | some t => decide (s.epo.ticks < t + 600000)

/-- No contract stands in the way of a Tenant change without the Tenant (R357): none or expired. -/
def noContractNow (s : State) : Bool := contractState s == 0 || contractState s == 3

/-- The code that answers an enrolment record of `len` bytes, in the order of R25; `session` tells whether it came in a session
on J7 or the LD0 mailbox. -/
def enrolCode (s : State) (o v len : Nat) (sigs : List Sig) (session : Bool) : Nat :=
  let tgt := fieldAt v 2 1
  let key := fieldAt v 40 60
  let (proof, own, ten) := enrolSigs v sigs
  let firstOwner := (ownerKeys s).isEmpty
  let ownerOk := sigOk (ownerKeys s) own
  let removal := tgt == 2 && key == 0
  let proofOk := if removal then true else sigOk [key] proof
  let tenantOld := !(tenantKeys s).isEmpty
  let cond := if tgt < 2 then !firstOwner || (!s.grd.intBlank && coldNow s && session)
    else !firstOwner && (!removal || tenantOld) &&
      (!tenantOld || ten.isSome || noContractNow s)
  let sigs := proofOk && (tgt < 2 && firstOwner || ownerOk) &&
    (ten.isNone || tgt < 2 || !tenantOld || noContractNow s || sigOk (tenantKeys s) ten)
  firstCode [(0x08, fieldAt v 0 1 / 16 != 1), (0x02, tgt ≤ 2 && !cond), (0x07, tgt ≤ 2 && !sigs),
    (0x04, fieldAt v 3 1 != 0 || fieldAt v 100 4 != 0),
    (0x03, fieldAt v 0 1 != 0x10 || fieldAt v 1 1 != 0x07 || decide (2 < tgt) || (o == 0x8000) != decide (tgt < 2) ||
      len != enrolLen v || (tgt < 2 && key == 0) || fieldAt v 4 32 != s.power.ident ||
      decide (fieldAt v 36 4 ≤ fieldAt (dget s o 0) 4 4))]

/-- The unlock by a passphrase ends (R42, R133, R375): kind 10, UNLOCK, cause 0x08. DEDUCED (log entry 78): a passphrase speaks
for role Service, code 2. -/
def passEnd (s : State) : State := secRec (minuteFlag (logEvent s 10 2 0 8) 13) 0 0x08 2 0

/-- Close the open sessions that satisfy a test; the unlock a passphrase gave one of them ends with it (R42, R375). -/
def closeSessions (s : State) (f : Session → Bool) : State :=
  let gone := s.sec.sessions.filter (fun k => f k && k.promoted)
  gone.foldl (fun s _ => passEnd s) { s with sec.sessions := s.sec.sessions.filter (fun k => !f k) }

/-- The Tenant key is removed (R357): no contract signed by it stays in force or pending, and R124's rules without a contract
hold. DEDUCED (log entry 77). -/
def contractEnds (s : State) : State :=
  { s with
    dic.vals := s.dic.vals.filter (fun p => p.1 / 16777216 != 0x2000)
    dic.pend := s.dic.pend.filter (fun p => p.object != 0x2000)
    fac.contractHash := 0 }

/-- An accepted enrolment (R357, R358): the key is replaced, the sessions opened with the replaced key close, the first Owner
enrolment records the expected key hashes; without a Tenant key there is no contract (R41). -/
def enrolKey (s : State) (v : Nat) : State :=
  let tgt := fieldAt v 2 1
  let key := fieldAt v 40 60
  let first := (ownerKeys s).isEmpty
  let old := dget s 0x8000 0
  let s :=
    if tgt < 2 then
      dset s 0x8000 0 (packAt [(0, 1, setBit (fieldAt old 0 1) tgt true), (4, 4, fieldAt v 36 4),
        (8, 60, if tgt = 0 then key else fieldAt old 8 60), (68, 60, if tgt = 1 then key else fieldAt old 68 60)])
    else dset s 0x8001 0 (packAt [(0, 1, if key = 0 then 0 else 1), (4, 4, fieldAt v 36 4), (8, 60, key)])
  let s := if first then { s with sec.expected := some (ownerHash s, tenantHash s) } else s
  let s := closeSessions s (fun k => if tgt < 2 then k.role == .owner && k.key == tgt else k.role == .tenant)
  let s := if tgt = 2 ∧ key = 0 then contractEnds s else s
  secRec s 0 0x09 (if tgt < 2 then 0 else 1) tgt

/-- The code of a replacement adoption of `len` bytes (R341, R358). -/
def adoptCode (s : State) (v len : Nat) (sigs : List Sig) : Nat :=
  firstCode [(0x07, !sigOk (ownerKeys s) sigs.head?),
    (0x03, len != 44 + fieldAt v 40 4 || !s.red.peerHere || fieldAt v 0 32 != s.red.peerIdent ||
      decide (fieldAt v 32 8 ≤ s.epo.count))]

/-- The replacement is adopted: the active module copies keys and contract to it (R341, R358). -/
def adoptPeer (s : State) (v : Nat) : State := { s with red.adoptedPeer := some (fieldAt v 0 32) }

/-! ## Firmware banks (R360 to R364) -/

/-- A bank. -/
def bankOf (s : State) (b : Bool) : Bank := if b then s.sec.banks.b else s.sec.banks.a

/-- Replace a bank. -/
def setBank (s : State) (b : Bool) (k : Bank) : State :=
  if b then { s with sec.banks := { s.sec.banks with b := k } } else { s with sec.banks := { s.sec.banks with a := k } }

/-- A component of a firmware image (R361). -/
structure FwPart where
  kind : Nat
  resv : Nat
  offset : Nat
  length : Nat
  hash : Nat
  deriving DecidableEq, Repr

/-- A firmware image (R361). -/
structure FwImage where
  magic : Nat
  head : Nat
  ext : Nat
  slot : Nat
  version : Nat
  security : Nat
  signed : Nat
  count : Nat
  resv : Nat
  sigLen : Nat
  parts : List FwPart
  deriving DecidableEq, Repr

/-- Read the header and the component table of a firmware image (R361). -/
def readFwImage (r : Reader) : FwImage :=
  { magic := r 0 4, head := r 4 1, ext := r 5 1, slot := r 6 1, version := r 8 4, security := r 12 4, signed := r 16 8
    count := r 24 2, resv := r 7 1 + r 26 38, sigLen := r (r 16 8) 4
    parts := (upTo (min (r 24 2) 16)).map (fun i =>
      { kind := r (64 + 56 * i) 2, resv := r (66 + 56 * i) 6, offset := r (72 + 56 * i) 8, length := r (80 + 56 * i) 8
        hash := r (88 + 56 * i) 32 }) }

/-- The components of an image (R360, R361): kinds 1 to 8, each at most once, 1 to 3 among them; each lies within the signed
bytes and has its hash. -/
def fwPartsOk (r : Reader) (p : FwImage) : Bool :=
  let kinds := p.parts.map (·.kind)
  decide (1 ≤ p.count) && decide (p.count ≤ 16) && kinds.all (fun k => 1 ≤ k && k ≤ 8) && decide kinds.Nodup &&
    [1, 2, 3].all kinds.contains &&
    p.parts.all (fun c => decide (c.offset + c.length ≤ p.signed) && Config.sha256 (pkgBytes r c.offset c.length) == c.hash)

/-- The vendor signature of an image verifies (R360): its key is that of the slot it names, which is not revoked. -/
def fwSigOk (s : State) (p : FwImage) (g : Sig) : Bool :=
  decide (p.slot < 4) && !bit s.sec.revoked p.slot && g.covers && g.key == Config.vendorKey p.slot

/-- The code of an image of `len` bytes (R180, R360, R363). -/
def fwLoadCode (s : State) (r : Reader) (len : Nat) (g : Sig) : Nat :=
  let p := readFwImage r
  firstCode [(0x08, p.magic != 0x01504656 || p.head / 16 != 1), (0x07, !fwSigOk s p g),
    (0x04, p.resv != 0 || p.parts.any (fun c => c.resv != 0)),
    (0x03, p.head != 0x10 || p.ext != 0x06 || decide (len < p.signed + 4 + p.sigLen) || !fwPartsOk r p ||
      decide (p.security < s.sec.rollback))]

/-- Insert a component by its kind. -/
def insertPart (c : Nat × Nat) : List (Nat × Nat) → List (Nat × Nat)
  | [] => [c]
  | d :: rest => if c.1 ≤ d.1 then c :: d :: rest else d :: insertPart c rest

/-- The bank that an image makes (R361, R363). -/
def bankOfImage (r : Reader) (len : Nat) : Bank :=
  let p := readFwImage r
  { state := 1, version := p.version, security := p.security
    revoke := setBit (Config.imageRevokes (Config.sha256 (pkgBytes r 0 len)) % 16) p.slot false
    comps := (p.parts.map (fun c => (c.kind, c.hash))).foldr insertPart [] }

/-- The image that object 0x8060 names, in the Owner staging area of LD0's mailbox (R363, R451). -/
def stagedImage (s : State) (v : Nat) : Reader := fun off len => dramN s (ownerStaging + fieldAt v 8 8 + off) len

/-- The image fills the inactive bank (R363). -/
def loadBank (s : State) (r : Reader) (len : Nat) : State := setBank s (!s.sec.bankB) (bankOfImage r len)

/-- The code of an activation (R363, R376): a bank with a valid image that does not run; 0x09 with a peer beside an active module,
or in a drill. -/
def activateCode (s : State) (v : Nat) : Nat :=
  let b := v == 1
  firstCode [(0x03, decide (1 < v) || (bankOf s b).state == 0 || (bankOf s b).state == 4 || b == s.sec.bankB),
    (0x09, s.red.drill.isSome || s.red.drillOrig || (isActive s && s.red.role != .alone) || s.red.role == .noRole)]

/-- An accepted activation (R363, R364): the restart is due; the new bank runs in trial, the previous bank ends a trial. A lead
sets RELEASE before it (R94; log entry 67). -/
def activate (s : State) (b : Bool) : State :=
  let back := s.sec.trial && b == s.sec.prevB
  let old := bankOf s s.sec.bankB
  let new := bankOf s b
  let s := setBank (setBank s s.sec.bankB { old with state := 1 }) b { new with state := if back then 3 else 2 }
  let s := { s with
    sec.activate := some b, sec.trial := !back, sec.prevB := s.sec.bankB, sec.trialFails := 0, sec.trialBad := false
    power.wakeNext := some 2, lead.releasing := s.lead.releasing || s.lead.isLead }
  logEvent s 13 0 new.version old.version

/-- TRIAL_END (R364): the bank is kept, the rollback counter raised, cause 0x0A written. -/
def endTrial (s : State) : State :=
  let k := bankOf s s.sec.bankB
  let s := { setBank s s.sec.bankB { k with state := 3 } with
    sec.trial := false, sec.trialFails := 0, sec.trialBad := false, sec.rollback := max s.sec.rollback k.security }
  secRec s 0 0x0A 4 0

/-- The meaning of TRIAL_BOOT_FAILED (R364): after the third failure the ROM returns to the previous bank. -/
def execTrialBootFailed (s : State) : Out :=
  if !s.sec.trial then .next s
  else
    let s := { s with sec.trialFails := s.sec.trialFails + 1, power.wakeNext := some 2 }
    if s.sec.trialFails < 3 then .next s
    else
      let bad := bankOf s s.sec.bankB
      let old := bankOf s s.sec.prevB
      let s := setBank (setBank s s.sec.bankB { bad with state := 4 }) s.sec.prevB { old with state := 3 }
      .next (secRec { s with sec.trial := false, sec.bankB := s.sec.prevB, sec.activate := none } 2 0x02 4 0)

/-- The meaning of TRIAL_AUTO_COMMIT (R364): 24 h in Live without a record of severity 3 from block 8. -/
def execTrialAutoCommit (s : State) : Out :=
  if s.sec.trial && inLive s && !s.sec.trialBad && decide (s.power.liveTick + 86400000 ≤ s.epo.ticks) then .next (endTrial s)
  else .next s

/-! ## Sessions (R365 to R367) -/

/-- The role of its code (R365). -/
def roleOf (n : Nat) : Option Role :=
  if n = 0 then some .owner else if n = 1 then some .tenant else if n = 2 then some .service
  else if n = 3 then some .vendor else if n = 4 then some .pub else none

/-- The roles a logical device takes sessions for (R441, R450). -/
def linkRole (l : Link) (r : Role) : Bool :=
  match l with
  | .ld 0 => r == .owner || r == .vendor || r == .pub
  | .ld 1 => r == .tenant || r == .pub
  | .ld 2 => r == .service || r == .pub
  | .ld _ => false
  | .j7 => true
  | .fnA => true
  | .fnB => true

/-- The signature of a session open verifies for its role (R354, R366); a Public or Service session needs none. -/
def openSigOk (s : State) (r : Role) (g : Option Sig) : Bool :=
  match r with
  | .owner => sigOk (ownerKeys s) g
  | .tenant => sigOk (tenantKeys s) g
  | .vendor => sigOk (vendorKeys s) g
  | .service => true
  | .pub => true

/-- The unlock conditions of a Vendor or Service session (R366). -/
def openAllowed (s : State) (r : Role) : Bool :=
  match r with
  | .vendor => dget s 0x8013 0 == 1 && bit (grantScopes s) 4
  | .service => grantScopes s % 16 != 0
  | .owner => true
  | .tenant => true
  | .pub => true

/-- The least recently used Public session. -/
def oldPublic (s : State) : Option Session :=
  (s.sec.sessions.filter (fun k => k.role == .pub)).foldl
    (fun b k => match b with
      | none => some k
      | some m => if k.used < m.used then some k else b) none

/-- No session can be opened: 16 are held and none is Public (R366). -/
def sessionsFull (s : State) : Bool := decide (16 ≤ s.sec.sessions.length) && (oldPublic s).isNone

/-- The code that answers a session open (R366, R347, R450). -/
def openCode (s : State) (q : SessIn) : Nat :=
  match roleOf q.role with
  | none => firstCode [(0x08, q.gen != 1), (0x03, true)]
  | some r => firstCode [(0x08, q.gen != 1), (0x02, !linkRole q.link r || !openAllowed s r), (0x07, !openSigOk s r q.sig),
      (0x03, q.ext != 0x04 || at0 q.raw 0 % 16 != 0 || decide ((if r = .owner then 1 else 0) < q.key)),
      (0x09, !s.sec.entropyOk || sessionsFull s)]

/-- HMAC-SHA-256 of a key and a message. -/
def hmac (k m : List Nat) : List Nat :=
  let k := if 64 < k.length then bytesOf (Config.sha256 k) 32 else k
  let pad := fun (c : Nat) => (upTo 64).map (fun i => at0 k i ^^^ c)
  bytesOf (Config.sha256 (pad 0x5C ++ bytesOf (Config.sha256 (pad 0x36 ++ m)) 32)) 32

/-- HKDF-Expand with SHA-256, up to 32 bytes (R346, R367), as a little-endian value. -/
def hkdfExpand (prk : List Nat) (label : String) (context : List Nat) (n : Nat) : Nat :=
  leOf ((hmac prk (label.toList.map Char.toNat ++ context ++ [1])).take n)

/-- The service key named in the grant in force (R374), for a Service or Vendor session. -/
def serviceKey (s : State) (r : Role) : Option Nat :=
  match r with
  | .service => s.sec.grant.map (·.service)
  | .vendor => s.sec.grant.map (·.service)
  | .owner => none
  | .tenant => none
  | .pub => none

/-- Bytes 0 to 2,215 of the response to a session open (R365): the nonce and the ciphertexts are drawn. -/
def openResponse (s : State) (q : SessIn) (r : Role) : List Nat :=
  let nonce := freeOf s % 2 ^ 256
  let cE := Config.kemCipher (leOf ((q.raw.drop 36).take 1184)) (freeOf (drawn s))
  let cS := match serviceKey s r with
    | some k => Config.kemCipher k (freeOf (drawn (drawn s)))
    | none => 0
  bytesOf (packAt [(0, 1, at0 q.raw 0), (1, 1, 5), (4, 32, nonce), (36, 4, s.sec.nextSess), (40, 1088, cE),
    (1128, 1088, cS)]) 2216

/-- The session that a request and its response make (R366, R367). -/
def madeSession (s : State) (q : SessIn) (r : Role) : Session :=
  let resp := openResponse s q r
  let kD := Config.kemShared (Config.factory 4) (leOf ((q.raw.drop 1220).take 1088))
  let kE := Config.kemShared (leOf ((q.raw.drop 36).take 1184)) (leOf ((resp.drop 40).take 1088))
  let kS := match serviceKey s r with
    | some k => bytesOf (Config.kemShared k (leOf ((resp.drop 1128).take 1088))) 32
    | none => []
  let prk := hmac ((q.raw.drop 4).take 32 ++ (resp.drop 4).take 32) (bytesOf kD 32 ++ bytesOf kE 32 ++ kS)
  let t := bytesOf (Config.sha256 (q.raw ++ resp)) 32
  { number := s.sec.nextSess, role := r, key := q.key, link := q.link, rx := 0, tx := 0, opened := s.epo.ticks
    used := s.epo.ticks, promoted := false, scopes := 0, till := 0
    kRd := hkdfExpand prk "VL860 r2d key" t 32, kDr := hkdfExpand prk "VL860 d2r key" t 32
    sRd := hkdfExpand prk "VL860 r2d iv" t 4, sDr := hkdfExpand prk "VL860 d2r iv" t 4 }

/-- A session is opened (R365 to R367): the 17th closes the least recently used Public one; the response ends with the tag under
k_dr for counter 0. -/
def openSession (s : State) (q : SessIn) (r : Role) : State :=
  let kept := match decide (16 ≤ s.sec.sessions.length), oldPublic s with
    | true, some m => s.sec.sessions.filter (fun k => k.number != m.number)
    | _, _ => s.sec.sessions
  let k := madeSession s q r
  let resp := openResponse s q r
  bump { drawn (drawn (drawn s)) with
    sec.sessions := kept ++ [k], sec.nextSess := (s.sec.nextSess + 1) % 2 ^ 32
    sec.sessOut := some (0, s.sec.nextSess)
    sec.sessResp := leOf resp + Config.gcmTag k.kDr k.sDr resp [] % 2 ^ 128 * 256 ^ 2216 } 0x8070 1

/-- A session open refused with a code (R365, R366). -/
def refuseSession (s : State) (q : SessIn) (c : Nat) : State :=
  { countVerify s c with
    sec.sessOut := some (c, 0), sec.sessResp := packAt [(0, 1, at0 q.raw 0), (1, 1, 5), (2, 1, c)] }

/-- The message that a segment completes (R429); over another link a command brings the whole one. -/
def wholeOpen (s : State) (q : SessIn) : Option (List Nat) :=
  match q.can with
  | none => some q.raw
  | some h =>
    let got := match s.net.reasm with
      | some m => if m.link = q.link ∧ m.ident = h.ident ∧ m.next = q.seg then some m.bytes else none
      | none => none
    let before := if q.seg = 0 then some [] else got
    if q.last then before.map (fun b => b ++ q.raw) else none

/-- The reassembly after a segment that completes no message (R429): a gap discards the message. -/
def keepSegment (s : State) (q : SessIn) : State :=
  match q.can with
  | none => s
  | some h =>
    if q.last then { s with net.reasm := none }
    else if q.seg = 0 then
      { s with net.reasm := some { link := q.link, ident := h.ident, next := 1, bytes := q.raw } }
    else match s.net.reasm with
      | some m =>
        if m.link = q.link ∧ m.ident = h.ident then
          { s with net.reasm :=
              if m.next = q.seg then some { m with next := m.next + 1, bytes := m.bytes ++ q.raw } else none }
        else s
      | none => s

/-- The session open response on the field network (R365, R429): the frames of its 2,232 bytes, on the request's channel. -/
def sendOpened (s : State) (q : SessIn) : State :=
  match q.can with
  | none => s
  | some h =>
    let room := match h.chan with
      | .A => 60
      | .B => 508
    (upTo ((2232 + room - 1) / room)).foldl (fun s k =>
      replyFrame s h.chan (4 + min room (2232 - room * k)) (h.ident - 0x200) .zero (.opened k)) s

/-- The meaning of SESSION_OPEN (R365, R366, R429): verified, opened or refused, once its last segment has come. -/
def execSessionOpen (q : SessIn) (s : State) : Out :=
  if !answersOn s q.link || s.power.mstate == .recovery then .next s
  else if mailCut s q.link then .next (mailLost s q.link 0xC001)
  else if q.link = .ld 3 then .next (mailRefused (mailCount s q.link) 3 0xC001 2)
  else
    let d := dictIn s q.can (4 + q.raw.length) false
    if !d.2 then .next d.1
    else match wholeOpen d.1 q with
      | none => .next (keepSegment d.1 q)
      | some raw =>
        let q := { q with raw := raw }
        let s := mailMessage (mailCount { d.1 with net.reasm := none } q.link) q.link 0xC001
        let c := openCode s q
        match roleOf q.role, c with
        | some r, 0 => .next (sendOpened (openSession s q r) q)
        | _, _ => .next (sendOpened (refuseSession s q c) q)

/-- The meaning of SESSION_OPEN_REASSEMBLY_TIMEOUT (R429): the message under reassembly is discarded. -/
def execSessionOpenReassemblyTimeout (s : State) : Out := .next { s with net.reasm := none }

/-- A session ends after 24 h or 2^32 messages (R367). -/
def sessionOver (s : State) (k : Session) : Bool :=
  decide (k.opened + 86400000 ≤ s.epo.ticks) || decide (2 ^ 32 ≤ k.rx) || decide (2 ^ 32 ≤ k.tx)

/-- The meaning of SESSION_EXPIRY (R367). -/
def execSessionExpiry (n : Nat) (s : State) : Out :=
  .next (closeSessions s (fun k => k.number == n && sessionOver s k))

/-- An open session. -/
def findSession (s : State) (n : Nat) : Option Session := s.sec.sessions.find? (fun k => k.number == n)

/-- Change a session. -/
def updSession (s : State) (n : Nat) (f : Session → Session) : State :=
  { s with sec.sessions := s.sec.sessions.map (fun k => if k.number = n then f k else k) }

/-- A session closes on an authentication failure (R367, R377). -/
def authFailed (s : State) (k : Session) : State :=
  secRec (bump (closeSessions s (fun j => j.number == k.number)) 0x8070 2) 1 0x06 (roleBits k.role) 0

/-! ## Unlock grants (R373, R374) -/

/-- The open Service and Vendor sessions close with the grant; a passphrase's session is not opened under it. -/
def closeUnlocked (s : State) : State :=
  closeSessions s (fun k => (k.role == .service && !k.promoted) || k.role == .vendor)

/-- UNLOCK_END (R133, R374, R377): kind 10, UNLOCK, cause 0x08. -/
def endGrant (s : State) (role : Nat) : State :=
  match s.sec.grant with
  | none => s
  | some g =>
    let s := closeUnlocked { s with sec.grant := none }
    secRec (minuteFlag (logEvent s 10 role 0 g.scopes) 13) 0 0x08 role 0

/-- A fresh challenge (R374). -/
def newChallenge (s : State) : State :=
  { drawn s with sec.challenge := freeOf s % 2 ^ 256, sec.issued := s.epo.count }

/-- The scopes a signer may grant (R373): the Owner [3:0]; the Vendor [4], only while object 0x8013 is 1. -/
def scopesOk (s : State) (signer scopes : Nat) : Bool :=
  if signer = 0 then scopes % 32 / 16 == 0 else scopes % 16 == 0 && (scopes % 32 == 0 || dget s 0x8013 0 == 1)

/-- The code of a grant of `len` bytes (R374). -/
def grantCode (s : State) (v len : Nat) (sigs : List Sig) : Nat :=
  let signer := fieldAt v 2 1
  let known := signer == 0 || signer == 3
  let keys := if signer = 0 then ownerKeys s else vendorKeys s
  firstCode [(0x08, fieldAt v 0 1 / 16 != 1), (0x02, known && !scopesOk s signer (fieldAt v 3 1)),
    (0x07, known && !sigOk keys sigs.head?), (0x04, fieldAt v 6 2 != 0),
    (0x03, !known || fieldAt v 0 1 != 0x10 || fieldAt v 1 1 != 0x03 || decide (32 ≤ fieldAt v 3 1) ||
      len != 108 + fieldAt v 104 4 || decide (fieldAt v 4 2 < 60) || decide (28800 < fieldAt v 4 2) ||
      fieldAt v 8 32 != s.sec.challenge || fieldAt v 40 32 != s.power.ident),
    (0x09, !s.sec.entropyOk)]

/-- A grant comes into force (R374): the one in force ends, kind 9 is logged, the challenge is consumed. -/
def beginGrant (s : State) (v len : Nat) : State :=
  let signer := fieldAt v 2 1
  let s := endGrant s signer
  let g : Grant :=
    { signer := signer, scopes := fieldAt v 3 1, duration := fieldAt v 4 2, service := fieldAt v 72 32,
      bytes := v % 256 ^ len + 256 ^ len, since := s.epo.ticks }
  let s := newChallenge { s with sec.grant := some g }
  secRec (minuteFlag (logEvent s 9 signer g.scopes 0) 13) 0 0x08 signer 0

/-- The meaning of UNLOCK_EXPIRY (R374). -/
def execUnlockExpiry (s : State) : Out :=
  match s.sec.grant with
  | none => .next s
  | some g => if g.since + 1000 * g.duration ≤ s.epo.ticks then .next (endGrant s 4) else .next s

/-- The meaning of CHALLENGE_EXPIRY (R374, R347): replaced after 600,000 epochs, unless the entropy source is stopped. -/
def execChallengeExpiry (s : State) : Out :=
  if s.sec.issued + 600000 ≤ s.epo.count ∧ s.sec.entropyOk = true then .next (newChallenge s) else .next s

/-! ## The passphrase (R375) -/

/-- The code of a verifier (R375). -/
def verifierCode (v : Nat) : Nat :=
  if fieldAt v 16 4 < 100000 ∨ fieldAt v 20 4 < 60 ∨ 28800 < fieldAt v 20 4 then 0x03 else 0

/-- An attempt may be made (R375): no refusal period, and 2 s after the last. -/
def tooSoon (s : State) : Bool :=
  match s.sec.passTick with
  | none => false
  | some t => decide (s.epo.ticks < t + 2000)

/-- The code of an attempt of `len` bytes in a session (R375), in the order of R25; an attempt within 2 s is not compared. -/
def attemptCode (s : State) (k : Option Session) (len : Nat) (matches_ : Bool) : Nat :=
  let inPub := match k with
    | none => false
    | some k => k.role == .pub
  firstCode [(0x02, !inPub || s.sec.passWait), (0x07, !tooSoon s && !(matches_ && dget s 0x8014 0 != 0)),
    (0x03, decide (len < 12) || decide (128 < len) || tooSoon s)]

/-- A failure counts; each fifth begins a refusal period of 15 min, doubled each time, up to 24 h (R375). -/
def attemptFailed (s : State) : State :=
  let n := s.sec.passFails + 1
  let s := bump { s with sec.passFails := n, sec.passTick := some s.epo.ticks } 0x8070 4
  if n % 5 = 0 then
    secRec { s with sec.passWait := true, sec.passPeriod := min 1440 (15 * 2 ^ (n / 5 - 1)) } 1 0x07 4 0
  else s

/-- A match makes the session a Service session with scope [3] for the verifier's duration (R375): an unlock, recorded at its
start (R42, R133). -/
def promote (s : State) (n : Nat) : State :=
  let d := fieldAt (dget s 0x8014 0) 20 4
  let s := updSession { s with sec.passFails := 0, sec.passTick := some s.epo.ticks } n
    (fun k => { k with role := .service, promoted := true, scopes := 8, till := s.epo.ticks + 1000 * d })
  secRec (minuteFlag (logEvent s 9 2 8 0) 13) 0 0x08 2 0

/-- The meaning of PASSPHRASE_REFUSAL_END (R375). -/
def execPassphraseRefusalEnd (s : State) : Out :=
  match s.sec.passWait, s.sec.passTick with
  | true, some t =>
    if t + 60000 * s.sec.passPeriod ≤ s.epo.ticks then .next { s with sec.passWait := false } else .next s
  | _, _ => .next s

/-- The meaning of PASSPHRASE_DURATION_END (R375): the session returns to its prior rights, and the unlock's end is recorded. -/
def execPassphraseDurationEnd (n : Nat) (s : State) : Out :=
  match findSession s n with
  | none => .next s
  | some k =>
    if k.promoted && decide (k.till ≤ s.epo.ticks) then
      .next (passEnd (updSession s n (fun k => { k with role := .pub, promoted := false, scopes := 0, till := 0 })))
    else .next s

/-! ## The entropy source (R347) -/

/-- The meaning of ENTROPY_STOP (R347): counted, with cause 0x03. -/
def execEntropyStop (s : State) : Out :=
  if s.sec.entropyOk then .next (secRec (bump { s with sec.entropyOk := false } 0x8070 5) 2 0x03 4 0) else .next s

/-- The meaning of ENTROPY_RESUME (R347). -/
def execEntropyResume (s : State) : Out := .next { s with sec.entropyOk := true }

/-! ## The scopes a session holds (R373, R375) -/

/-- The unlock scopes of a session: a passphrase's own, otherwise those of the grant in force. -/
def sessScopes (s : State) (k : Session) : Nat := if k.promoted then k.scopes else grantScopes s

/-- The TAP on J7 serves EXTEST and halting debug (`halting`) only in Watch or Umbra under scope [0], and IDCODE, BYPASS and
SAMPLE/PRELOAD in every state under it (R40, R373). -/
def tapMay (s : State) (halting : Bool) : Bool :=
  bit (grantScopes s) 0 && (!halting || s.power.mstate == .watch || s.power.mstate == .umbra)

/-- A Service session's right to an object (R373): scope [3] reads, [1] the trace objects, [2] writes from 0x9000 onward. -/
def serviceMay (sc o : Nat) (write : Bool) : Bool :=
  let trace := decide (0xA100 ≤ o) && decide (o ≤ 0xA105) && bit sc 1
  if write then trace || (o == 0x9000 && bit sc 2) else trace || bit sc 3

end Sys2Proof.Machine
end

