-- ==== Sys2Proof/Machine/Status.lean ====
section
/-! DEFINITION. What every object of the dictionary reads as (14_dictionary_reference.md, R382, R387): the stored value in
force, or the status its chapter defines, as one little-endian number per element. -/
namespace Sys2Proof.Machine

/-! ## Identity and communication (R404 to R408, R570) -/

/-- The part number in bytes 0 to 15 (R405): "OXK-VL860-S" or "OXK-VL860-E", as manufactured. -/
def partNumber : Nat :=
  leOf [0x4F, 0x58, 0x4B, 0x2D, 0x56, 0x4C, 0x38, 0x36, 0x30, 0x2D, if Config.factory 0 % 2 = 0 then 0x53 else 0x45]

/-- The position byte (R405). -/
def positionByte (s : State) : Nat := if s.power.strapsOk then slotIdx s + 8 else 0

/-- Object 0x0001 (R405). -/
def identityObj (s : State) : Nat :=
  packAt [(0, 16, partNumber), (16, 4, s.power.serial), (20, 1, Config.factory 1), (21, 1, 1), (22, 1, positionByte s),
    (24, 32, s.power.ident)]

/-- Object 0x0003 (R407). -/
def firmwareObj (s : State) : Nat :=
  packAt [(0, 4, (runBank s).version), (4, 4, (runBank s).security), (8, 1, b2n s.sec.bankB), (9, 1, b2n s.sec.trial)]

/-- The role code of objects 0x0011 and 0x7003 (R407): 3 outside Live. -/
def roleCode (s : State) : Nat := if inLive s then s.red.role.code else 3

/-- Object 0x0011 (R407). -/
def roleObj (s : State) : Nat :=
  packAt [(0, 1, roleCode s), (1, 1, b2n s.lead.isLead), (2, 1, slotIdx s)]

/-- Object 0x8002 (R570). -/
def identityRecord (s : State) : Nat :=
  packAt [(0, 4, s.power.serial), (4, 1, Config.factory 2 % 4), (8, 16, partNumber), (24, 60, Config.factory 3),
    (84, 1184, Config.factory 4), (1268, 4, 5236), (1272, 5236, Config.factory 5), (6508, 1, 1)]

/-- The state of a channel in object 0x1001 (R408). -/
def chanState (s : State) (c : Nat) : Nat :=
  if !bit s.net.chans c then 3 else if bit s.grd.silent c then 2 else if bit s.grd.cut c then 1 else 0

/-- The nodes heard in the last 1 s (R408). -/
def nodesHeard (s : State) : Nat := (s.net.heard.filter (fun p => decide (s.epo.ticks < p.2 - 1 + 1000))).length

/-- The lead slot index, 0xFF with none (R408, R111). -/
def leadSlot (s : State) : Nat := s.lead.holder.getD 0xFF

/-- Element `e` of object 0x1001 (R408). -/
def fnStatus (s : State) (e : Nat) : Nat :=
  if e = 0 then chanState s 0
  else if e = 1 then chanState s 1
  else if e = 2 then occTenth (occNs s .A (nsNow s))
  else if e = 3 then occTenth (occNs s .B (nsNow s))
  else if e = 4 then (if s.sec.keyCur.isSome then s.epo.count - s.sec.keySince else 0)
  else if e = 5 then nodesHeard s
  else if e = 6 then leadSlot s
  else 0

/-- Element `e` of object 0x1030 (R408): open sessions by role. -/
def sessionsOf (s : State) (e : Nat) : Nat := (s.sec.sessions.filter (fun k => roleBits k.role == e)).length

/-! ## Contract, records (R135, R137) -/

/-- Object 0x2001 (R137). DESIGN CHOICE (log entry 90): a contract in force or expired is shown before one that is pending, and
with only one pending the other fields read 0. -/
def contractStatus (s : State) : Nat :=
  if hasContract s then
    packAt [(0, 4, cSerial (contract s)), (4, 1, contractState s), (8, 4, contractDay s s.epo.count),
      (12, 2, s.fac.emCount), (16, 32, s.fac.contractHash)]
  else packAt [(4, 1, contractState s)]

/-- Element `e` of a ring: the entry written last at its place, entry number mod the ring's size (R135, R230). -/
def ringGet (m : SMap) (size e : Nat) : Nat := ((m.find? (fun p => p.1 % size == e)).map (·.2)).getD 0

/-- Element `e` of the fault ring (R230). -/
def faultElem (s : State) (e : Nat) : Nat :=
  match s.recs.ring.find? (fun r => r.seq % 512 == e) with
  | some r => recordBytes (slotIdx s) r
  | none => 0

/-! ## Allocation, plan and forecast (R68, R111, R169, R198, R199) -/

/-- One plan of object 0x4002 (R50; log entry 14): with the storage feedforward of the two strings, and the slot and mapping in
force. -/
def planBytes (p : Plan) (ff : Two Int) (slot mapping : Nat) : List Nat :=
  bytesOf p.epoch 8 ++ (p.set.map (fun v => bytesOf v 4)).flatten ++
  bytesOf (toTwos ff.a 32) 4 ++ bytesOf (toTwos ff.b 32) 4 ++ p.pace.map (· % 256) ++
  (p.fill.map (fun v => bytesOf v 2)).flatten ++ p.phase.map (· % 256) ++ bytesOf slot 1 ++ bytesOf mapping 1 ++
  bytesOf p.ttw 2

/-- The mapping of the plan after this one (R187): that of a switch at the next boundary. -/
def nextMapping (s : State) : Nat :=
  match s.eng.mapNext, s.eng.switchAt with
  | some m, some e => if e ≤ s.epo.count + 1 then m else s.eng.mapping
  | _, _ => s.eng.mapping

/-- Object 0x4002 (R68): plan n, and plan n+1 where it has arrived. -/
def plansObj (s : State) : Nat :=
  varOf (planBytes s.epo.planN s.epo.ffNow (servingSlot s) s.eng.mapping ++
    (match s.epo.planNext with
     | some p => planBytes p s.epo.ffNext ((swapTarget s).getD (servingSlot s)) (nextMapping s)
     | none => []))

/-- Element `k` of object 0x4110 (R199). -/
def slotObj (s : State) (k : Nat) : Nat :=
  let v := slotOf s k
  packAt [(0, 1, v.state), (1, 1, v.signer), (2, 2, v.flags), (4, 1, v.result), (5, 1, v.divisor), (8, 4, v.ident),
    (12, 4, v.version), (16, 8, v.weights), (24, 4, v.learned), (32, 32, v.hash),
    (64, 32, if v.learned = 0 then 0 else s.eng.learnHash)]

/-- The code of an engine state (R165). -/
def EngState.code : EngState → Nat
  | .dark => 0
  | .idle => 1
  | .running => 2
  | .fault => 3

/-- Object 0x3042 (R104): the latest filler proposal. -/
def proposalObj (s : State) : Nat :=
  match s.lead.proposals with
  | [] => 0
  | (e, w) :: _ => packAt ((0, 8, e) :: arrAt 8 2 w)

/-- The step rate of object 0x3011 (R96, R111): learned, and f(P) / f(255) until one is. -/
def rateObj (s : State) (e : Nat) : Nat :=
  let k := mget s.lead.rates (e / 256)
  let t := slowTable s (e / 256)
  if k = 0 then 65535 * ceilAt t (e % 256) / max 1 (ceilAt t 255) else Config.learnedRate (k - 1) (e % 256) % 65536

/-! ## Converter, loop, strings (R239, R265, R297) -/

/-- Element `e` of object 0x5020 (R239). -/
def convStatus (s : State) (e : Nat) : Nat :=
  at0 [(conv s .A).st.code, (conv s .B).st.code, s.cot.active,
    flagsAt [(0, (conv s .A).charge), (1, (conv s .B).charge)],
    flagsAt [(0, (foldLimit s .A).isSome), (1, (foldLimit s .B).isSome)], b2n s.cot.ovLatch] e

/-- Element `k` of object 0x5051 (R265). -/
def progObj (s : State) (k : Nat) : Nat :=
  let v := progNow s k
  packAt [(0, 1, v.state), (1, 1, v.result), (4, 4, v.ident), (8, 4, v.version), (12, 32, v.hash)]

/-- Element `e` of object 0x5054 (R265). -/
def loopStatus (s : State) (e : Nat) : Nat :=
  at0 [s.lpe.src, b2n s.lpe.sel, flagsAt [(0, s.lpe.impl.1), (1, s.lpe.impl.2)], s.lpe.lastCyc, s.lpe.maxCyc,
    cleanCount s] e

/-- Element `e` of object 0x5062 (R265). -/
def parallaxStatus (s : State) (e : Nat) : Nat :=
  at0 [toTwos (q48mv s.lpe.vhat) 32, toTwos (q48mv s.lpe.resid.1) 32, toTwos (q48mv s.lpe.resid.2) 32,
    s.lpe.overBand.1, s.lpe.overBand.2] e

/-- Byte `e` of object 0x6003 (R297): positions 8e to 8e + 7, string A first. -/
def tripByte (s : State) (e : Nat) : Nat := sumN ((upTo 8).map (fun k => b2n (tripped s (8 * e + k)) * 2 ^ k))

/-- Element `e` of object 0x6054 (R297). -/
def stringSummary (s : State) (e : Nat) : Nat :=
  let x := if e < 6 then Str.A else Str.B
  let v := s.strs.energy.get x
  at0 [v.soc, v.e, v.emin, v.emax, s.strs.indep.get x, s.strs.sumMv.get x] (e % 6)

/-! ## Redundancy and security (R345, R374, R378) -/

/-- The role of the peer in object 0x7003 (R345). -/
def peerRole (s : State) : Nat :=
  if !s.red.peerHere then 0xFF
  else match s.red.role with
    | .active => 1
    | .standby => 0
    | .alone => 3
    | .noRole => 3

/-- Element `e` of object 0x7003 (R345). -/
def redStatus (s : State) (e : Nat) : Nat :=
  at0 [roleCode s, peerRole s, fitness s, s.red.peerFitness, flagsAt [(0, s.red.linkUp), (1, s.red.lineOk)],
    s.red.recAge] e

/-- Object 0x8010 (R374). -/
def challengeObj (s : State) : Nat :=
  packAt [(0, 1, 0x10), (1, 1, 0x02), (4, 6, s.sec.issued), (12, 32, s.sec.challenge), (44, 32, s.power.ident)]

/-- Element `e` of object 0x8040 (R378). -/
def signStatus (s : State) (e : Nat) : Nat :=
  at0 [s.sec.q, leavesLeft s, s.sec.queue.length, (dayCounts s).a, (dayCounts s).b] e

/-- Object 0x8063 (R378). -/
def banksObj (s : State) : Nat :=
  packAt [(0, 1, s.sec.banks.a.state), (4, 4, s.sec.banks.a.version), (8, 4, s.sec.banks.a.security),
    (12, 1, s.sec.banks.b.state), (16, 4, s.sec.banks.b.version), (20, 4, s.sec.banks.b.security),
    (24, 4, s.sec.rollback)]

/-- Element `e` of object 0xA100 (R265). -/
def traceObj (s : State) (e : Nat) : Nat :=
  if e = 0 then trcCtrl s
  else if e = 1 then s.trc.trig.toNat
  else if e = 2 then s.trc.thr.toNat
  else if e = 3 then 0
  else at0 s.trc.src (e - 4)

/-! ## Every object -/

/-- Status objects 0x0001 to 0x2FFF. -/
def statusLow (s : State) (o e : Nat) : Option Nat :=
  if o = 0x0001 then some (identityObj s)
  else if o = 0x0003 then some (firmwareObj s)
  else if o = 0x0010 then some (stateCode s)
  else if o = 0x0011 then some (roleObj s)
  else if o = 0x0012 then some s.power.sidereal
  else if o = 0x0013 then some s.epo.count
  else if o = 0x1001 then some (fnStatus s e)
  else if o = 0x1011 then some (at0 [s.net.cxlWidth, s.net.cxlRate, s.net.cxl, s.net.cxlBound, s.net.retrains, 0] e)
  else if o = 0x1030 then some (sessionsOf s e)
  else if o = 0x2001 then some (contractStatus s)
  else if o = 0x2010 then some s.lead.allowance
  else if o = 0x2020 then some s.fac.latest
  else if o = 0x2021 then some (ringGet s.fac.minutes 10080 e)
  else if o = 0x2022 then some (ringGet s.fac.events 4096 e)
  else if o = 0x2023 then some (max 1 (ringGet s.fac.seals 168 e))
  else none

/-- Status objects 0x3000 to 0x4FFF. -/
def statusPlan (s : State) (o e : Nat) : Option Nat :=
  if o = 0x3010 then some (at0 s.lead.paceNow e)
  else if o = 0x3011 then some (rateObj s e)
  else if o = 0x3020 then some (at0 s.lead.nadir e)
  else if o = 0x3042 then some (proposalObj s)
  else if o = 0x3050 ∧ e = 0 then some (leadSlot s)
  else if o = 0x3051 then some s.lead.held
  else if o = 0x3060 then some (mget s.lead.tables e)
  else if o = 0x4002 then some (plansObj s)
  else if o = 0x4004 then some (s.epo.fallback % 65536 + s.epo.hintBad % 65536 * 65536)
  else if o = 0x4101 then some (frameObj s.eng.frame)
  else if o = 0x4103 then some (at0 [s.eng.blendW, s.eng.blendMiss, s.eng.goodRun, s.eng.lastDiff] e)
  else if o = 0x4106 ∧ e = 0 then some s.eng.mapping
  else if o = 0x4106 ∧ e = 1 then some (s.eng.mapNext.getD 0xFF)
  else if o = 0x4107 then some (frameObj s.eng.burst)
  else if o = 0x4110 then some (slotObj s e)
  else if o = 0x4123 then
    some (at0 [s.eng.learnVer, s.eng.stepsDone, s.eng.stepsDeferred, s.eng.adoptions, s.eng.rejected,
      s.eng.errServe.toNat, s.eng.errCand.toNat, s.eng.discarded] e)
  else if o = 0x4181 then some s.eng.state.code
  else if o = 0x4184 then some (at0 [s.eng.power, s.eng.tiles, s.eng.dramUse, toTwos s.eng.temp 16] e)
  else none

/-- Status objects 0x5000 to 0x7FFF. -/
def statusShelf (s : State) (o e : Nat) : Option Nat :=
  if o = 0x5002 then some (s.cot.vNow / 1000)
  else if o = 0x5020 then some (convStatus s e)
  else if o = 0x5040 then some (at0 s.cot.induct e)
  else if o = 0x5051 then some (progObj s e)
  else if o = 0x5054 then some (loopStatus s e)
  else if o = 0x5062 then some (parallaxStatus s e)
  else if o = 0x5082 then some (effLimit s e)
  else if o = 0x6003 then some (tripByte s e)
  else if o = 0x6032 then some (wst s e)
  else if o = 0x6040 then some (b2n (isolatedStr s (if e = 0 then .A else .B)))
  else if o = 0x6050 then some (readingMv s e)
  else if o = 0x6051 then some (pst s e)
  else if o = 0x6054 then some (stringSummary s e)
  else if o = 0x6055 then some (toTwos (atI s.strs.temps e) 16)
  else if o = 0x7003 then some (redStatus s e)
  else none

/-- The channels of calibration (R508). -/
def calChannels : List Nat := upTo 576 ++ (upTo 38).map (· + 0x300) ++ (upTo 48).map (· + 0x400) ++ [0x500]

/-- The value of object 0x9001 (R509): the header and an entry for each channel. -/
def calFactoryBytes (s : State) : List Nat :=
  bytesOf (packAt [(0, 1, 0x10), (1, 1, 0x0C), (2, 2, calChannels.length)]) 16 ++
  (calChannels.map (fun ch =>
    let e := calTrim s ch
    bytesOf (packAt [(0, 2, ch), (2, 1, e.form), (4, 4, toTwos e.gain 32), (8, 4, toTwos e.offset 32),
      (12, 4, toTwos e.temp 32)]) 16)).flatten

/-- Status objects 0x8000 to 0xFFFF. -/
def statusHigh (s : State) (o e : Nat) : Option Nat :=
  if o = 0x8002 then some (identityRecord s)
  else if o = 0x8010 then some (challengeObj s)
  else if o = 0x8011 then some (match s.sec.grant with | some g => g.bytes | none => 1)
  else if o = 0x8040 then some (signStatus s e)
  else if o = 0x8063 then some (banksObj s)
  else if o = 0x9001 then some (varOf (calFactoryBytes s))
  else if o = 0x9002 then some (Config.sha256 (calFactoryBytes s) % 256 ^ 32 + 256 ^ 32 * userHash s)
  else if o = 0xA000 then some (faultElem s e)
  else if o = 0xA001 then some (match s.recs.first with | some r => recordBytes (slotIdx s) r | none => 0)
  else if o = 0xA100 then some (traceObj s e)
  else if o = 0xA101 then some (b2n s.trc.snapOn)
  else none

/-- The value of an element that a read answers (R387): the status its chapter defines, or the value in force. -/
def readVal (s : State) (o e : Nat) : Nat :=
  match (if o < 0x3000 then statusLow s o e else if o < 0x5000 then statusPlan s o e
    else if o < 0x8000 then statusShelf s o e else statusHigh s o e) with
  | some v => v
  | none => dget s o e

/-- The value that a pending read answers (R387): the pending value where one waits, otherwise the value in force. -/
def readPendVal (s : State) (o e : Nat) : Nat :=
  match pendOf s o e with
  | some p => p.value
  | none => readVal s o e

end Sys2Proof.Machine
end

