-- ==== Sys2Proof/Machine/Checks.lean ====
section
/-! DEFINITION. The checks of a dictionary write (R24, R25, R390): roles (R18 to R20, R373), the range and the rules of each
object by chapter, resource conflicts, and the clamps of the guard and the contract. Each rule answers a code of R25, 0
where it holds. -/
namespace Sys2Proof.Machine

/-- A write under judgement: who writes, where, the values of the addressed elements from `first` on, the bytes carried, the
signatures they carry (R354), whether a passphrase derives the stored key (R375), and the signature of the image that a firmware
load names. -/
structure Wr where
  role : Role
  session : Option Session
  link : Link
  obj : Nat
  first : Nat
  vals : List Nat
  len : Nat
  sigs : List Sig
  derivedOk : Bool
  img : Option Sig

/-- The value of a scalar write. -/
def Wr.v (w : Wr) : Nat := at0 w.vals 0

/-- The code reported of several (R25). -/
def bestCode (l : List Nat) : Nat :=
  (([0x08, 0x01, 0x02, 0x07, 0x04, 0x03, 0x09, 0x05, 0x06] : List Nat).find? (fun c => l.contains c)).getD 0

/-- A code where a condition holds. -/
def codeIf (c : Nat) (b : Bool) : Nat := if b then c else 0

/-- The code of a rule applied to each element, given its index and value. -/
def eachElem (w : Wr) (f : Nat → Nat → Nat) : Nat :=
  bestCode ((upTo w.vals.length).map (fun i => f (w.first + i) (at0 w.vals i)))

/-- The value an element has after what is pending, or in force (R22). -/
def futureVal (s : State) (o e : Nat) : Nat :=
  match pendOf s o e with
  | some p => p.value
  | none => dget s o e

/-- Element `e` as it is to be after the write: named elements take their new value. -/
def merged (s : State) (w : Wr) (e : Nat) : Nat :=
  if w.first ≤ e ∧ e < w.first + w.vals.length then at0 w.vals (e - w.first) else futureVal s w.obj e

/-! ## Rights (R18 to R20, R373) -/

/-- The bit of a role in a read or write set (R389). -/
def roleMask (r : Role) (set : Nat) : Bool := bit set (roleBits r)

/-- A role may reach an object: its own letter or P; a Service session only within its unlock scopes (R18, R373). -/
def mayReach (s : State) (k : Option Session) (r : Role) (o set : Nat) (wr : Bool) : Bool :=
  bit set 4 ||
    (roleMask r set &&
      (match r with
       | .service => (match k with | some k => serviceMay (sessScopes s k) o wr | none => false)
       | .owner => true
       | .tenant => true
       | .vendor => true
       | .pub => true))

/-! ## Ranges shared by many objects (R381, R390) -/

/-- Bytes are UTF-8 (R381): `n` continuation bytes are still due, the next of them from `lo` to `hi`. -/
def utf8Run : List Nat → Nat → Nat → Nat → Bool
  | [], n, _, _ => n == 0
  | b :: rest, 0, _, _ =>
    if b < 0x80 then utf8Run rest 0 0x80 0xBF
    else if 0xC2 ≤ b ∧ b ≤ 0xDF then utf8Run rest 1 0x80 0xBF
    else if b = 0xE0 then utf8Run rest 2 0xA0 0xBF
    else if b = 0xED then utf8Run rest 2 0x80 0x9F
    else if 0xE1 ≤ b ∧ b ≤ 0xEF then utf8Run rest 2 0x80 0xBF
    else if b = 0xF0 then utf8Run rest 3 0x90 0xBF
    else if 0xF1 ≤ b ∧ b ≤ 0xF3 then utf8Run rest 3 0x80 0xBF
    else if b = 0xF4 then utf8Run rest 3 0x80 0x8F
    else false
  | b :: rest, n + 1, lo, hi => decide (lo ≤ b) && decide (b ≤ hi) && utf8Run rest n 0x80 0xBF

/-- A value as a number that keeps its type's order (R381): two's complement, binary32 and unsigned values. -/
def orderKey (t v : Nat) : Nat :=
  let n := 8 * typeSize t
  if 6 ≤ t ∧ t ≤ 9 then (v + 2 ^ (n - 1)) % 2 ^ n
  else if t = 10 then (if 2 ^ 31 ≤ v then 2 ^ 32 - 1 - v else v + 2 ^ 31)
  else v

/-- An element that its type does not admit, or outside its declared range, or non-zero where writing 0 clears (R381, R390). -/
def rangeBad (d : Desc) (v : Nat) : Bool :=
  let t := d.typ % 128
  (t == 1 && decide (1 < v)) || (t == 10 && f32NonFinite v) || (t == 11 && !utf8Run (bytesOf v (varLen 65537 v)) 0 0x80 0xBF) ||
    (match d.rng with
     | .none => false
     | .iv lo hi => decide (orderKey t v < orderKey t lo) || decide (orderKey t hi < orderKey t v)
     | .clears => v != 0
     | .rule => false)

/-- The length written differs from the addressed value (R390); a variable value is at most 65,536 bytes (R381). -/
def lengthBad (d : Desc) (count len : Nat) : Bool :=
  if d.size = 0 then decide (65536 < len) else len != d.size * count

/-- An element that the object's range declares not writable (R111, R198). -/
def locked (w : Wr) : Bool := (w.obj == 0x3050 && w.first == 0) || (w.obj == 0x4106 && decide (w.first < 2))

/-! ## Communication, contract and allocation -/

/-- Rules of objects 0x1000 to 0x2FFF (R119, R123, R125, R138, R408). -/
def ruleLow (s : State) (w : Wr) : Nat :=
  let v := w.v
  if w.obj = 0x1000 then
    bestCode [codeIf 0x04 (fieldAt v 0 1 / 4 != 0 || fieldAt v 2 2 != 0),
      codeIf 0x03 (fieldAt v 0 1 % 4 == 0 || decide (1 < fieldAt v 1 1))]
  else if w.obj = 0x1010 then
    bestCode [codeIf 0x04 (fieldAt v 2 2 != 0),
      codeIf 0x03 (!([1, 2, 4, 8] : List Nat).contains (fieldAt v 0 1) || decide (2 < fieldAt v 1 1))]
  else if w.obj = 0x2000 then contractCode s v w.len w.sigs
  else if w.obj = 0x2011 then
    (if v ≠ noCap ∧ (v < 10000 ∨ 4800000 < v) then 0x03 else capCode s v)
  else if w.obj = 0x2012 ∨ w.obj = 0x2013 then rampCode s w.obj v
  else if w.obj = 0x2014 then codeIf 0x03 ((upTo 4).all (fun k => merged s w k == 0))
  else if w.obj = 0x2015 then codeIf 0x03 (decide (v < s.epo.count))
  else 0

/-- The members listed in an element of object 0x3000. -/
def members3000 (v : Nat) : Nat := fieldAt v 16 512

/-- One element of object 0x3000 (R72). DESIGN CHOICE (log entry 89): an unused element may carry priority 0, as the default
does. -/
def consCode (v : Nat) : Nat :=
  bestCode [codeIf 0x04 (fieldAt v 2 14 != 0),
    codeIf 0x03 (decide (1 < fieldAt v 0 1) || (fieldAt v 0 1 == 1 && fieldAt v 1 1 == 0))]

/-- A chip is listed in two elements of object 0x3000 (R71). -/
def listedTwice (s : State) (w : Wr) : Bool :=
  (upTo 16).any (fun c => (upTo c).any (fun b => members3000 (merged s w c) &&& members3000 (merged s w b) != 0))

/-- An F32 field that is not finite (R381). -/
def f32Bad (v off n : Nat) : Bool := (upTo n).any (fun i => f32NonFinite (fieldAt v (off + 4 * i) 4))

/-- One element of the Almanac (R58, R59). -/
def almCode (v : Nat) : Nat :=
  bestCode [codeIf 0x04 (fieldAt v 1 1 / 8 != 0 || fieldAt v 9 3 != 0 || fieldAt v 172 4 != 0),
    codeIf 0x03 (decide (8 < fieldAt v 0 1) || f32Bad v 12 8 || f32Bad v 44 32)]

/-- A filler word among 16 at an offset has a reserved bit set (R10, R81: bits 14 to 9). -/
def wordResv (v off : Nat) : Bool := (upTo 16).any (fun c => field (fieldAt v (off + 2 * c) 2) 9 6 != 0)

/-- Rules of objects 0x3000 to 0x4024 (R58, R59, R67, R69, R71, R72, R98, R104). -/
def rulePlan (s : State) (w : Wr) : Nat :=
  let v := w.v
  if w.obj = 0x3000 then
    bestCode [eachElem w (fun _ v => consCode v), codeIf 0x03 (listedTwice s w)]
  else if w.obj = 0x3040 then codeIf 0x04 (fieldAt v 6 2 != 0 || wordResv v 24)
  else if w.obj = 0x3041 then codeIf 0x04 (fieldAt v 6 2 != 0 || wordResv v 8)
  else if w.obj = 0x4003 then codeIf 0x03 (v &&& 0x7E != v)
  else if w.obj = 0x4010 then eachElem w (fun _ v => almCode v)
  else if w.obj = 0x4011 then eachElem w (fun _ v => codeIf 0x03 (decide (63 < v) && v != 0xFF))
  else if w.obj = 0x4020 then codeIf 0x03 (decide (dget s 0x4021 0 ≤ v))
  else if w.obj = 0x4021 then codeIf 0x03 (decide (v ≤ dget s 0x4020 0))
  else if w.obj = 0x4024 then
    bestCode [codeIf 0x04 (fieldAt v 2 2 != 0),
      codeIf 0x03 (decide (fieldAt v 0 2 < 2000) || decide (8000 < fieldAt v 0 2) ||
        decide (dget s 0x4021 0 ≤ fieldAt v 0 2) || decide (fieldAt v 4 4 < 1) || decide (3600 < fieldAt v 4 4))]
  else 0

/-- Rules of objects 0x4100 to 0x4FFF (R155, R180, R182). -/
def ruleModel (s : State) (w : Wr) : Nat :=
  let v := w.v
  if w.obj = 0x4111 then selectCode s w.role v
  else if w.obj = 0x4113 then loadCode s v
  else if w.obj = 0x4114 then clearSlotCode s v
  else if w.obj = 0x4180 then codeIf 0x09 (v == 1 && (!onBench s || s.eng.fastOut))
  else 0

/-! ## Converter, loop and guard layers -/

/-- The four settings of object 0x5010 (R207, R239). -/
def shedBad (s : State) (w : Wr) : Bool :=
  let a := merged s w 0
  let b := merged s w 1
  let c := merged s w 2
  let d := merged s w 3
  decide (a < 50) || decide (300 < a) || decide (b < 300) || decide (800 < b) || decide (b < a + 200) ||
    decide (c < 100) || decide (5000 < c) || decide (d < 2) || decide (12 < d)

/-- The four settings of object 0x5060 (R265). -/
def parallaxBad (e v : Nat) : Bool :=
  if e = 0 then decide (v < 2000) || decide (20000 < v)
  else if e = 1 then decide (v < 3) || decide (50 < v)
  else if e = 2 then decide (v < 500) || decide (50000 < v)
  else decide (v < 256) || decide (32768 < v)

/-- A value of a layer lies outside the factory and the narrowest layer value (R298, R301). -/
def layerOut (q v : Nat) : Bool := wider q v (guardFactory q) || wider q (guardNarrowest q) v

/-- The code of a guard layer (R298, R316). -/
def layerCode (v : Nat) : Nat :=
  bestCode [codeIf 0x04 ((upTo 64).any (fun q => !layerSets v q && layerVal v q != 0)),
    codeIf 0x03 ((upTo 64).any (fun q => layerSets v q && (!guardHas q || layerOut q (layerVal v q))))]

/-- Rules of objects 0x5000 to 0x5FFF (R209, R220, R245, R246, R251, R265, R300, R301, R410). -/
def ruleConv (s : State) (w : Wr) : Nat :=
  let v := w.v
  if w.obj = 0x5010 then codeIf 0x03 (shedBad s w)
  else if w.obj = 0x5011 then
    bestCode [codeIf 0x04 (v / 2 ^ 24 != 0),
      codeIf 0x03 (decide (popcount (v &&& strMask .A) 24 < 2) || decide (popcount (v &&& strMask .B) 24 < 2))]
  else if w.obj = 0x5031 then codeIf 0x03 (v == 3 && s.cot.ovLatch && !below820 s)
  else if w.obj = 0x5050 then
    bestCode [codeIf 0x04 (fieldAt v 1 3 != 0), codeIf 0x03 (fieldAt v 0 1 != 1),
      codeIf 0x09 (fieldAt v 0 1 == s.lpe.slotNow)]
  else if w.obj = 0x5052 then
    codeIf 0x09 (v == 1 && isActive s && s.red.peerHere && s.lpe.peerHash != s.lpe.slot1.hash)
  else if w.obj = 0x5060 then eachElem w (fun e v => codeIf 0x03 (parallaxBad e v))
  else if w.obj = 0x5061 then codeIf 0x03 (!plausible s (v == 2))
  else if w.obj = 0x5080 then
    bestCode [codeIf 0x02 (!s.grd.intBlank || !(ownerKeys s).isEmpty), layerCode v]
  else if w.obj = 0x5081 then layerCode v
  else 0

/-! ## Strings and redundancy -/

/-- The strings isolated after a write of object 0x6040, and whether the write isolates one. -/
def isoAfter (s : State) (w : Wr) (x : Str) : Bool :=
  if w.first ≤ x.idx ∧ x.idx < w.first + w.vals.length then at0 w.vals (x.idx - w.first) == 1 else isolatedStr s x

/-- The code of object 0x6040 (R291). -/
def isoCode (s : State) (w : Wr) : Nat :=
  let newly := fun x => isoAfter s w x && !isolatedStr s x
  let ends := fun x => !isoAfter s w x && isolatedStr s x
  bestCode [eachElem w (fun _ v => codeIf 0x03 (decide (1 < v))),
    codeIf 0x03 ((newly .A || newly .B) && isoAfter s w .A && isoAfter s w .B),
    codeIf 0x03 ((ends .A && !isolationMayEnd s .A) || (ends .B && !isolationMayEnd s .B))]

/-- Rules of objects 0x6000 to 0x6FFF (R274, R277, R281, R282, R291, R297). -/
def ruleStr (s : State) (w : Wr) : Nat :=
  let v := w.v
  if w.obj = 0x6002 then
    let x := if fieldAt v 0 1 = 0 then Str.A else Str.B
    let g := posG x (fieldAt v 2 2)
    let known := decide (fieldAt v 0 1 ≤ 1) && decide (fieldAt v 2 2 ≤ 287)
    bestCode [codeIf 0x04 (fieldAt v 1 1 != 0), codeIf 0x03 (!known || (tripped s g && !insideBy30 s g))]
  else if w.obj = 0x6010 then
    bestCode [codeIf 0x04 (fieldAt v 7 1 != 0),
      codeIf 0x03 (decide (fieldAt v 0 2 < 25) || decide (25000 < fieldAt v 0 2) || decide (799 < fieldAt v 2 2) ||
        decide (fieldAt v 4 2 < 100) || decide (1000 < fieldAt v 4 2) || decide (1 < fieldAt v 6 1)),
      codeIf 0x09 (fieldAt v 6 1 == 1 && dget s 0x6030 0 != 0)]
  else if w.obj = 0x6011 then codeIf 0x03 (!([1, 2, 4, 8, 16, 32, 64, 128, 256] : List Nat).contains v)
  else if w.obj = 0x6022 then codeIf 0x03 (decide (s.epo.count + 60000 < fieldAt v 0 8))
  else if w.obj = 0x6023 then
    let a := merged s w 0
    let b := merged s w 1
    codeIf 0x03 (decide (a < 2) || decide (50 < a) || decide (b < 1) || decide (a ≤ b))
  else if w.obj = 0x6030 then
    bestCode [codeIf 0x03 (v != 0 && (decide (v < 10) || decide (3600 < v))),
      codeIf 0x09 (v != 0 && fieldAt (dget s 0x6010 0) 6 1 == 1)]
  else if w.obj = 0x6040 then isoCode s w
  else 0

/-- Rules of objects 0x7000 to 0x7FFF (R338, R341, R345). -/
def ruleRed (s : State) (w : Wr) : Nat :=
  let v := w.v
  if w.obj = 0x7000 then
    bestCode [codeIf 0x04 (fieldAt v 1 1 != 0),
      codeIf 0x03 (decide (1 < fieldAt v 0 1) || decide (fieldAt v 2 2 < 1) || decide (1440 < fieldAt v 2 2))]
  else if w.obj = 0x7001 then
    bestCode [codeIf 0x04 (fieldAt v 1 1 != 0),
      codeIf 0x03 (decide (1 < fieldAt v 0 1) || decide (fieldAt v 2 2 < 24) || decide (2160 < fieldAt v 2 2) ||
        decide (1439 < fieldAt v 4 2) || decide (fieldAt v 6 2 < 1) || decide (60 < fieldAt v 6 2))]
  else if w.obj = 0x7002 then
    (if v = 1 then bestCode [codeIf 0x03 (!peerHfit s), codeIf 0x09 (s.red.drill.isSome || s.red.drillOrig)] else 0)
  else if w.obj = 0x7010 then adoptCode s v w.len w.sigs
  else 0

/-! ## Security, calibration, records -/

/-- An element of the node table is used (R359). -/
def nodeKey (v : Nat) : Nat := fieldAt v 4 1184

/-- One element of the node table (R359, R378, R417). -/
def nodeCode (s : State) (v : Nat) : Nat :=
  let key := nodeKey v
  let idx := fieldAt v 0 1
  let kind := fieldAt v 1 1
  let tray := fieldAt v 2 1
  if key = 0 then bestCode [codeIf 0x04 (fieldAt v 3 1 != 0), codeIf 0x03 (v != 0)]
  else
    bestCode [codeIf 0x04 (fieldAt v 3 1 != 0),
      codeIf 0x03 (decide (126 < idx) || decide (3 < kind) || (kind == 0 && decide (7 < idx)) ||
        (kind == 1 && decide (127 < tray)) || (kind != 1 && tray != 0xFF) ||
        (key == Config.factory 4 % 256 ^ 1184 && (kind != 0 || idx != slotIdx s)) ||
        (s.red.peerHere && key == s.red.peerEncap && (kind != 0 || idx != peerSlot s)))]

/-- Two used elements share a node index, or two tray agents a tray index (R359). -/
def nodesClash (s : State) (w : Wr) : Bool :=
  let used := ((upTo 128).map (merged s w)).filter (fun v => nodeKey v != 0)
  let trays := (used.filter (fun v => fieldAt v 1 1 == 1)).map (fun v => fieldAt v 2 1)
  let idx := used.map (fun v => fieldAt v 0 1)
  !(idx.Nodup) || !(trays.Nodup)

/-- The channels of R508 and the bounds of a user entry: gain in ppm and offset in the channel's unit, none where reserved. -/
def calBounds (ch : Nat) : Option (Nat × Nat) :=
  if ch ≤ 0x23F then some (5000, 5000)
  else if 0x300 ≤ ch ∧ ch ≤ 0x305 then some (5000, 500)
  else if 0x306 ≤ ch ∧ ch ≤ 0x31D then some (10000, 200)
  else if 0x31E ≤ ch ∧ ch ≤ 0x320 then some (2000, 200)
  else if 0x321 ≤ ch ∧ ch ≤ 0x323 then some (5000, 500)
  else if ch = 0x324 ∨ ch = 0x325 then some (10000, 100)
  else if 0x400 ≤ ch ∧ ch ≤ 0x42F then some (10000, 200)
  else if ch = 0x500 then some (5000, 500)
  else none

/-- The entries of a user layer (R511): channel, reserved field, gain and offset. -/
def calEntries (v : Nat) : List (Nat × Nat × Int × Int) :=
  (upTo (fieldAt v 2 2)).map (fun i =>
    (fieldAt v (16 + 8 * i) 2, fieldAt v (18 + 8 * i) 2, ofTwos (fieldAt v (20 + 8 * i) 2) 16,
      ofTwos (fieldAt v (22 + 8 * i) 2) 16))

/-- An entry lies outside the bounds of its channel, or its channel is reserved (R512). -/
def entryBad (e : Nat × Nat × Int × Int) : Bool :=
  match calBounds e.1 with
  | none => true
  | some (g, o) => decide (g < e.2.2.1.natAbs) || decide (o < e.2.2.2.natAbs)

/-- Numbers strictly rising. -/
def strictUp : List Nat → Bool
  | [] => true
  | [_] => true
  | a :: b :: rest => decide (a < b) && strictUp (b :: rest)

/-- The sum of the position offsets of a string, µV (R512). -/
def offsetSum (l : List (Nat × Nat × Int × Int)) (lo hi : Nat) : Int :=
  sumI ((l.filter (fun e => lo ≤ e.1 && e.1 < hi)).map (fun e => e.2.2.2))

/-- The serial in force or pending, whichever is higher (R511). -/
def topCalSerial (s : State) : Nat :=
  match pendOf s 0x9000 0 with
  | none => calSerial (calLayer s)
  | some p => max (calSerial (calLayer s)) (calSerial p.value)

/-- The code of a user calibration layer of `len` bytes (R511, R512). -/
def calCode (s : State) (v len : Nat) : Nat :=
  let l := calEntries v
  firstCode [(0x08, fieldAt v 0 1 / 16 != 1),
    (0x04, fieldAt v 8 8 != 0 || l.any (fun e => e.2.1 != 0)),
    (0x03, fieldAt v 0 1 != 0x10 || fieldAt v 1 1 != 0x0B || decide (665 < fieldAt v 2 2) ||
      len != 16 + 8 * fieldAt v 2 2 || l.any entryBad || !strictUp (l.map (·.1)) ||
      decide (300000 < (offsetSum l 0 288).natAbs) || decide (300000 < (offsetSum l 288 576).natAbs) ||
      decide (calSerial v ≤ topCalSerial s))]

/-- The code of an export request (R264, R443, R445): the content, the segments and the room in the export area. -/
def exportCode (w : Wr) : Nat :=
  let v := w.v
  let c := fieldAt v 0 1
  bestCode [codeIf 0x04 (fieldAt v 1 3 != 0),
    codeIf 0x03 (decide (2 < c) ||
      decide (exportSize (w.role == .owner) < fieldAt v 12 8 + exportLen c (fieldAt v 8 4)))]

/-- Rules of objects 0x9000 to 0xAFFF (R259 to R264, R512, R542). -/
def ruleRec (s : State) (w : Wr) : Nat :=
  let v := w.v
  if w.obj = 0x9000 then calCode s v w.len
  else if w.obj = 0xA001 then codeIf 0x03 (v != 0)
  else if w.obj = 0xA100 then eachElem w (traceCode s)
  else if w.obj = 0xA101 then codeIf 0x09 (v == 1 && traceNamesSnap s)
  else if w.obj = 0xA103 then
    codeIf 0x03 ((upTo 64).any (fun k => !nodeHas (fieldAt v (2 * k) 2)) || decide (1 < fieldAt v 128 1) ||
      decide (1 < fieldAt v 129 1))
  else if w.obj = 0xA104 then exportCode w
  else if w.obj = 0xA105 then codeIf 0x09 (v == 2 && bit s.trc.trig.toNat 15)
  else 0

/-- Rules of objects 0x8000 to 0x8FFF (R352, R356, R357, R359, R363, R364, R370, R374, R375, R417). -/
def ruleSec (s : State) (w : Wr) : Nat :=
  let v := w.v
  if w.obj = 0x8000 ∨ w.obj = 0x8001 then
    enrolCode s w.obj v w.len w.sigs (w.session.isSome && (w.link == .j7 || w.link == .ld 0))
  else if w.obj = 0x8011 then grantCode s v w.len w.sigs
  else if w.obj = 0x8014 then verifierCode v
  else if w.obj = 0x8015 then attemptCode s w.session w.len w.derivedOk
  else if w.obj = 0x8020 then
    bestCode [eachElem w (fun _ v => nodeCode s v), codeIf 0x03 (nodesClash s w)]
  else if w.obj = 0x8042 then sealCode s w.role v
  else if w.obj = 0x8050 then
    bestCode [codeIf 0x03 (w.first != 0 || w.vals.length != 32), budgetCode s w.role]
  else if w.obj = 0x8060 then (match w.img with
    | some g => bestCode [codeIf 0x04 (fieldAt v 4 4 != 0), fwLoadCode s (stagedImage s v) (fieldAt v 0 4) g]
    | none => 0x03)
  else if w.obj = 0x8061 then activateCode s v
  else if w.obj = 0x8062 then codeIf 0x03 (!s.sec.trial)
  else 0

/-- The rule of the defining chapter. -/
def ruleCode (s : State) (w : Wr) : Nat :=
  if w.obj < 0x3000 then ruleLow s w
  else if w.obj < 0x4100 then rulePlan s w
  else if w.obj < 0x5000 then ruleModel s w
  else if w.obj < 0x6000 then ruleConv s w
  else if w.obj < 0x7000 then ruleStr s w
  else if w.obj < 0x8000 then ruleRed s w
  else if w.obj < 0x9000 then ruleSec s w
  else ruleRec s w

/-! ## Order 7 and the clamps (R384, R390, R24) -/

/-- A write of a shelf- or rack-scoped object where this module does not hold the active role (R384); object 0x5081 passes
at a module held in Watch for its Owner layer (R301). -/
def scopeConflict (s : State) (o : Nat) (d : Desc) : Bool :=
  d.scope != 0 && !isActive s && !(o == 0x5081 && s.red.role == .noRole && s.grd.layerErr)

/-- An Owner layer whose values wider than the integrator layer are clamped to it (R301). -/
def clampLayer (s : State) (v : Nat) : Nat :=
  packAt ((0, 8, fieldAt v 0 8) :: arrAt 8 4 ((upTo 64).map (fun q =>
    if layerSets v q && layerSets (intLayer s) q then narrower q (layerVal v q) (layerVal (intLayer s) q)
    else layerVal v q)))

/-- One element clamped to the guard's effective limits or to the contract in force (R24, R138, R298, R301). -/
def clampElem (s : State) (o v : Nat) : Nat :=
  if o = 0x5000 then guardClamp s 5 (guardClamp s 6 v)
  else if o = 0x5001 then guardClamp s 7 v
  else if o = 0x6000 then guardClamp s 10 v
  else if o = 0x6001 then guardClamp s 11 v
  else if o = 0x5081 then clampLayer s v
  else if o = 0x2012 ∨ o = 0x2013 then (if hasContract s then min v (contractRamp s o) else v)
  else v

/-- All checks of orders 4 to 7 on a whole write (R390): 0 where every one passes. -/
def checkWrite (s : State) (w : Wr) (d : Desc) (count : Nat) (reserved : Bool) : Nat :=
  bestCode [codeIf 0x04 reserved, codeIf 0x03 (count == 0 || lengthBad d count w.len || locked w || w.vals.any (rangeBad d)),
    ruleCode s w, codeIf 0x09 (scopeConflict s w.obj d)]

end Sys2Proof.Machine
end

