-- ==== Sys2Proof/Machine/Effects.lean ====
section
/-! DEFINITION. What an accepted dictionary write does (R21, R22): the value in force or pending, and the effect its chapter gives
a command object. -/
namespace Sys2Proof.Machine

/-- Store the values of consecutive elements. -/
def storeAll (s : State) (o first : Nat) (vals : List Nat) : State :=
  (upTo vals.length).foldl (fun s i => dset s o (first + i) (at0 vals i)) s

/-- Give consecutive elements their pending values (R22). -/
def pendAll (s : State) (o first cls : Nat) (vals : List Nat) : State :=
  (upTo vals.length).foldl (fun s i => setPend s o (first + i) (at0 vals i) cls) s

/-- The security die is to set a bit of GRD_AUTH for an accepted Owner command (R308). -/
def grantAuth (s : State) (b : Nat) : State := { s with grd.granted := setBit s.grd.granted b true }

/-! ## Contract and rack (R104, R119, R125, R133) -/

/-- A breaker cap is accepted (R84, R119, R133): in force, logged, the allowance formed again, an urgent cap frame sent. -/
def acceptCap (s : State) (role v : Nat) : State :=
  let old := breakerCap s
  let s := logEvent (setCap s v) (if v = noCap then 2 else 1) role v old
  urgentCap (reallow s 1) 1

/-- An emergency announcement is accepted (R125, R133). -/
def acceptAnnouncement (s : State) (role v : Nat) : State :=
  let old := dget s 0x2015 0
  logEvent { dset s 0x2015 0 v with fac.announcedAt := s.epo.count } 4 role v old

/-- A host filler answer (R104): kept where its epoch lies from q − 2 to q, q being the next plan to be formed; otherwise counted
with the clamped quantities (log entry 59). -/
def acceptAnswer (s : State) (v : Nat) : State :=
  let e := v % 2 ^ 48
  let w := (upTo 16).map (fun c => fieldAt v (8 + 2 * c) 2)
  if s.epo.count ≤ e ∧ e ≤ s.epo.count + 2 then
    { dset s 0x3041 0 v with lead.answers := ((e, w) :: s.lead.answers.filter (fun p => p.1 != e)).take 3 }
  else bump (dset s 0x3041 0 v) 0x4005 5

/-! ## Converter, loop, strings (R220, R249, R251, R274, R278, R281, R291) -/

/-- A latch clear (R220, R308). -/
def acceptLatchClear (s : State) (v : Nat) : State :=
  if v = 3 then (if s.cot.ovLatch then clearOvLatch (grantAuth s 5) else s)
  else if v = 2 then (if strLatched s .B then clearStrLatch (grantAuth s 4) .B else s)
  else if strLatched s .A then clearStrLatch (grantAuth s 3) .A
  else s

/-- The integrator layer is written once, to OTP (R300). -/
def acceptIntLayer (s : State) (v : Nat) : State := { dset s 0x5080 0 v with grd.intBlank := false }

/-- An Owner layer is accepted (R301): it ends the hold of a module whose layer failed. -/
def acceptOwnLayer (s : State) (v : Nat) : State :=
  { dset s 0x5081 0 v with
    grd.layerErr := false
    power.hold := if s.power.hold = .layer then .none else s.power.hold }

/-- The Owner clears a position's trip latches (R274): a clear that names a position with none set has no effect. -/
def acceptTripClear (s : State) (v : Nat) : State :=
  let g := posG (if fieldAt v 0 1 = 0 then .A else .B) (fieldAt v 2 2)
  if tripped s g then ownerTripClear s g else s

/-- Isolation of one string (R291): 1 isolates, 0 ends isolation. -/
def acceptIso (s : State) (e v : Nat) : State :=
  let x := if e = 0 then Str.A else Str.B
  let s := dset s 0x6040 e v
  if v = 1 then (if bit (s.strs.isoCause.get x) 0 then s else isolateString s x)
  else if isolatedStr s x then endIsolation s x
  else s

/-- A whole-string wire survey or open-wire test is asked for: 1 A, 2 B (R278, R281). -/
def strOf12 (v : Nat) : Str := if v = 2 then .B else .A

/-- Host bleed masks are accepted (R277, R66): in continuous mode each pair of neighbours that they set is counted. -/
def acceptMasks (s : State) (v : Nat) : State :=
  let s := dset s 0x6022 0 v
  let pairs := (upTo 576).filter (fun g => g % 288 != 287 && hostMaskBit s g && hostMaskBit s (g + 1))
  let s := if dget s 0x6020 0 = 1 then bumpN s 0x6056 6 pairs.length else s
  { s with strs.hostMask := true, epo.fallback := setBit s.epo.fallback 3 false }

/-! ## Redundancy and security (R338, R340) -/

/-- The handover command (R338, R340): 1 plans a handover, 2 clears the drive fault and restores COT_PHEN. -/
def acceptHandover (s : State) (v : Nat) : State :=
  if v = 1 then planHandover s 3 5
  else refreshActive { s with red.driveFault := false, cot.checkedOff := 0 }

/-! ## Package staging (R197, R453) -/

/-- An accepted load command copies the staged bytes into the slot's area (R453). -/
def copyStaged (s : State) (v : Nat) : State :=
  let k := fieldAt v 0 1
  let owner := fieldAt v 1 1 == 1
  let size := if owner then slotBytes else 2 ^ 32
  let off := min (fieldAt v 8 8) size
  let len := min (min (fieldAt v 16 8) slotBytes) (size - off)
  { s with net.dram :=
      copyRange s.net.dram ((if owner then ownerStaging else ld1Base + 2 ^ 32) + off) (slotBase k) len }

/-! ## Class I (R21): in force before the response -/

/-- Class-I objects below 0x5000. -/
def effectLow (s : State) (w : Wr) (vals : List Nat) : Option State :=
  let v := at0 vals 0
  if w.obj = 0x2011 then some (acceptCap s (roleBits w.role) v)
  else if w.obj = 0x2015 then some (acceptAnnouncement s (roleBits w.role) v)
  else if w.obj = 0x3041 then some (acceptAnswer s v)
  else if w.obj = 0x3052 then
    some (if v = 1 ∧ s.lead.isLead = true then { s with lead.releasing := true } else s)
  else if w.obj = 0x4113 then some (copyStaged (startLoad s w.role v) v)
  else if w.obj = 0x4114 then some (clearSlot s v)
  else none

/-- Class-I objects 0x5000 to 0x7FFF. -/
def effectShelf (s : State) (w : Wr) (vals : List Nat) : Option State :=
  let v := at0 vals 0
  if w.obj = 0x5000 then some { dset s 0x5000 0 v with cot.vTgt := v }
  else if w.obj = 0x5001 then some { dset s 0x5001 0 v with cot.slew := v }
  else if w.obj = 0x5031 then some (acceptLatchClear s v)
  else if w.obj = 0x5050 then some (startLoopLoad s (fieldAt v 8 8) (fieldAt v 4 4))
  else if w.obj = 0x5053 then some (askReturn (grantAuth s 2))
  else if w.obj = 0x5061 then some (selectChannel (grantAuth s 1) (v == 2))
  else if w.obj = 0x5080 then some (acceptIntLayer s v)
  else if w.obj = 0x5081 then some (acceptOwnLayer s v)
  else if w.obj = 0x6002 then some (acceptTripClear s v)
  else if w.obj = 0x6022 then some (acceptMasks s v)
  else if w.obj = 0x6024 then some (startSurvey s (strOf12 v) 0 287)
  else if w.obj = 0x6031 then some (startOwt s (strOf12 v) (upTo 289))
  else if w.obj = 0x6040 then
    some ((upTo vals.length).foldl (fun s i => acceptIso s (w.first + i) (at0 vals i)) s)
  else if w.obj = 0x7002 then some (acceptHandover s v)
  else if w.obj = 0x7010 then some (adoptPeer s v)
  else none

/-- Class-I objects 0x8000 to 0xFFFF. -/
def effectHigh (s : State) (w : Wr) (vals : List Nat) : Option State :=
  let v := at0 vals 0
  if w.obj = 0x8000 ∨ w.obj = 0x8001 then some (enrolKey s v)
  else if w.obj = 0x8011 then some (beginGrant s v w.len)
  else if w.obj = 0x8012 then some (endGrant s (roleBits w.role))
  else if w.obj = 0x8015 then some (match w.session with | some k => promote s k.number | none => s)
  else if w.obj = 0x8042 then some (requestSeal s w.role v)
  else if w.obj = 0x8050 then some (requestEvidence s w.role (leOf vals))
  else if w.obj = 0x8060 then some (loadBank s (stagedImage s v) (fieldAt v 0 4))
  else if w.obj = 0x8062 then some (endTrial s)
  else if w.obj = 0xA001 then some { s with recs.first := none }
  else if w.obj = 0xA100 then
    some ((upTo vals.length).foldl (fun s i => traceSet s (w.first + i) (at0 vals i)) s)
  else if w.obj = 0xA101 then some (snapWrite s v)
  else if w.obj = 0xA104 then
    some (exportCopy s (w.role == .owner) (fieldAt v 0 1) (fieldAt v 4 4) (fieldAt v 8 4) (fieldAt v 12 8))
  else none

/-- The effect of an accepted class-I write: the command's own, or the values stored. -/
def effectI (s : State) (w : Wr) (vals : List Nat) : State :=
  match (if w.obj < 0x5000 then effectLow s w vals else if w.obj < 0x8000 then effectShelf s w vals
    else effectHigh s w vals) with
  | some t => t
  | none => storeAll s w.obj w.first vals

/-! ## Classes E, M and B (R21, R22) -/

/-- What the acceptance itself brings, beside the pending value: a contract is logged (kind 5, R133, R138), a selection ends a
re-shard build (R182), a host state-of-charge target ends its fall-back (R67). -/
def onAccept (s : State) (w : Wr) (v : Nat) : State :=
  if w.obj = 0x2000 then
    logEvent s 5 (roleBits w.role) (cSerial v) (if hasContract s then cSerial (contract s) else 0)
  else if w.obj = 0x4111 then selectAccepted s
  else if w.obj = 0x4024 then { s with epo.fallback := setBit s.epo.fallback 4 false }
  else s

/-- An accepted write takes its place (R21): in force at once, pending to its boundary, or, for object 0x8061, a restart that is
due. -/
def acceptWrite (s : State) (w : Wr) (d : Desc) (vals : List Nat) : State :=
  if d.apply = 1 then effectI s w vals
  else if w.obj = 0x8061 then activate s (at0 vals 0 == 1)
  else onAccept (pendAll s w.obj w.first d.apply vals) w (at0 vals 0)

/-- What a refusal brings (R375, R378, R399): a failed signature and a refused grant are counted, a wrong passphrase counts toward
its refusal period. -/
def refuseWrite (s : State) (w : Wr) (code : Nat) : State :=
  if w.obj = 0x8015 then (if code = 0x07 then attemptFailed s else s)
  else
    let s := countVerify s code
    if w.obj = 0x8011 then bump s 0x8070 3 else s

end Sys2Proof.Machine
end

