-- ==== Sys2Proof/Machine/Dictionary.lean ====
section
/-! DEFINITION. The dictionary (13_dictionary_model.md): a request is judged, answered and, where it writes, applied; segments,
repeats, responses and their forwarding to the standby. -/
namespace Sys2Proof.Machine

/-! ## Responses (R386, R392) -/

/-- A response with the header fields of the request that arrived whole (R386, R566). -/
def respOf (s : State) (r : Req) : Resp :=
  let got := fun (n v : Nat) => if n ≤ r.arrived then v else 0
  { op := got 1 (r.op % 16), result := 0, transaction := got 4 r.transaction, object := got 6 r.object,
    element := got 8 r.element, ext := got 9 r.ext, more := false, source := slotIdx s, count := got 12 r.count,
    offset := got 16 r.offset, snapshot := s.epo.count, value := [] }

/-- The most value bytes of one response (R392, R429, R450, R557). -/
def respMax (l : Link) (inSession : Bool) : Nat :=
  match l with
  | .ld _ => if inSession then 1048528 else 1048548
  | .j7 => 4096
  | .fnA => if inSession then 12 else 18
  | .fnB => if inSession then 460 else 466

/-- A response that carries value bytes from an offset on, as many as its transport takes (R392). -/
def withValue (p : Resp) (data : List Nat) (off max : Nat) : Resp :=
  { p with value := (data.drop off).take max, more := decide (off + max < data.length) }

/-- A response with a code. -/
def withCode (p : Resp) (c : Nat) : Resp := { p with result := c }

/-! ## Descriptors (R389) -/

/-- The bits of one element of a numeric type (R381). -/
def typeBits (t : Nat) : Nat := if t % 128 = 1 then 1 else 8 * typeSize t

/-- The type is signed (R381). -/
def typeSigned (t : Nat) : Bool := 6 ≤ t % 128 && t % 128 ≤ 9

/-- The lowest and highest element value of an object whose range is a list or a rule (R389). -/
def ruleBounds (o : Nat) (t : Nat) : Nat × Nat :=
  if o = 0x2011 then (10000, 0xFFFFFFFF)
  else if o = 0x4003 then (0, 0x7E)
  else if o = 0x5010 then (2, 5000)
  else if o = 0x5011 then (0x3003, 0xFFFFFF)
  else if o = 0x5060 then (3, 50000)
  else if o = 0x6011 then (1, 256)
  else if o = 0x6023 then (1, 50)
  else if o = 0x6030 then (0, 3600)
  else if o = 0x6040 then (0, 1)
  else (0, 2 ^ typeBits t - 1)

/-- The minimum and maximum of a descriptor (R389), zero for a BLOB. -/
def descBounds (o : Nat) (d : Desc) : Nat × Nat :=
  if d.typ % 128 = 12 ∨ d.typ % 128 = 11 then (0, 0)
  else match d.rng with
    | .iv lo hi => (lo, hi)
    | .clears => (0, 0)
    | .rule => ruleBounds o d.typ
    | .none => if typeSigned d.typ then (2 ^ (typeBits d.typ - 1), 2 ^ (typeBits d.typ - 1) - 1)
               else (0, 2 ^ typeBits d.typ - 1)

/-- The 40 bytes of a descriptor (R389). -/
def descBytes (s : State) (o e : Nat) (d : Desc) : List Nat :=
  let b := descBounds o d
  let blob := d.typ % 128 == 12 || d.typ % 128 == 11
  bytesOf (packAt [(0, 1, d.typ), (1, 1, d.apply), (2, 1, d.rd), (3, 1, d.wr), (4, 1, d.pers), (5, 1, d.scope),
    (6, 2, flagsAt [(0, d.rng == .rule), (1, d.rng == .clears)]), (8, 4, d.elems), (12, 4, d.size), (16, 8, b.1),
    (24, 8, b.2), (32, 8, if blob then 0 else defaultNow s o e)]) 40

/-! ## Reads (R387, R388) -/

/-- The index of the first element addressed (R379). -/
def firstOf (r : Req) : Nat := r.element + 65536 * r.ext

/-- An object, element or extension that does not exist (R26, R380). -/
def missing (r : Req) : Bool :=
  match objDesc r.object with
  | none => true
  | some d => (r.ext != 0 && r.object != 0x3100) || decide (d.elems < firstOf r + r.count)

/-- A reserved field of the request header is set (R385, R390). -/
def headerReserved (r : Req) : Bool := r.resv != 0 || 4 ≤ r.flags

/-- The bytes of the addressed elements, each read through `f`. -/
def elemsBytes (d : Desc) (o first count : Nat) (f : Nat → Nat → Nat) : List Nat :=
  ((upTo count).map (fun i => elemBytes d (f o (first + i)))).flatten

/-- Some addressed element has a pending value (R23). -/
def anyPending (s : State) (o first count : Nat) : Bool :=
  s.dic.pend.any (fun p => p.object == o && decide (first ≤ p.element) && decide (p.element < first + count))

/-- The answer to a read (1), a describe (3) or a read pending (4) (R23, R387, R389, R392). -/
def answerRead (s : State) (r : Req) (k : Option Session) (role : Role) (d : Desc) (p : Resp) : Resp :=
  let first := firstOf r
  let data :=
    if r.op = 3 then descBytes s r.object first d
    else elemsBytes d r.object first r.count (if r.op = 4 then readPendVal s else readVal s)
  let c := bestCode [codeIf 0x02 (!mayReach s k role r.object d.rd false), codeIf 0x04 (headerReserved r),
    codeIf 0x03 (r.count == 0 || r.length != 0 || decide (data.length < r.offset))]
  if c ≠ 0 then withCode p c
  else
    withCode (withValue p data r.offset (respMax r.link k.isSome))
      (if r.op ≠ 3 ∧ anyPending s r.object first r.count = true then 0x06 else 0)

/-! ## Writes (R390 to R393) -/

/-- The values that the bytes of a whole write give the addressed elements. -/
def decodeVals (d : Desc) (count : Nat) (bytes : List Nat) : List Nat :=
  if d.size = 0 then [varOf bytes]
  else (upTo count).map (fun i => leOf ((bytes.drop (i * d.size)).take d.size))

/-- The write under judgement. -/
def wrOf (r : Req) (k : Option Session) (role : Role) (d : Desc) (bytes : List Nat) (img : Option Sig) : Wr :=
  { role := role, session := k, link := r.link, obj := r.object, first := firstOf r,
    vals := decodeVals d r.count bytes, len := bytes.length, sigs := r.sigs, derivedOk := r.derivedOk, img := img }

/-- A write refused for its writer, whatever its value (R19, R182, R300, R375, R387, R429): checked on every segment. -/
def deniedWrite (s : State) (r : Req) (k : Option Session) (role : Role) (d : Desc) : Bool :=
  !mayReach s k role r.object d.wr true ||
    (k.isNone && (r.link == .fnA || r.link == .fnB)) ||
    (r.object == 0x5080 && (!s.grd.intBlank || !(ownerKeys s).isEmpty)) ||
    (r.object == 0x4111 && role == .tenant && dget s 0x4112 0 == 0)

/-- A whole write (R390, R391): checked, clamped, accepted or refused; `resv` tells that an earlier segment's header had a
reserved field set. -/
def wholeWrite (s : State) (r : Req) (k : Option Session) (role : Role) (d : Desc) (bytes : List Nat)
    (img : Option Sig) (badOffset resv : Bool) (p : Resp) : State × Resp :=
  let w := wrOf r k role d bytes img
  let c := bestCode [checkWrite s w d r.count (resv || headerReserved r), codeIf 0x03 badOffset]
  if c ≠ 0 then (refuseWrite s w c, withCode p c)
  else
    let vals := w.vals.map (clampElem s w.obj)
    let n := ((upTo vals.length).filter (fun i => at0 vals i != at0 w.vals i)).length
    let t := acceptWrite s w d vals
    if n ≠ 0 then
      (requestClamp (bumpN t 0x1020 10 n),
        withCode (withValue p ((vals.map (elemBytes d)).flatten) 0 (respMax r.link k.isSome)) 0x05)
    else (t, withCode p (if 2 ≤ d.apply then 0x06 else 0))

/-- The bytes a segmented write may carry at most (R381, R392). -/
def wholeLen (d : Desc) (count : Nat) : Nat := if d.size = 0 then 65536 else d.size * count

/-- The staged write of an object. -/
def stagedOf (s : State) (o : Nat) : Option Staged := s.dic.staged.find? (fun g => g.object == o)

/-- Discard the staged write of an object. -/
def unstage (s : State) (o : Nat) : State :=
  { s with dic.staged := s.dic.staged.filter (fun g => g.object != o) }

/-- A segment that continues the staged write it belongs to. -/
def continues (g : Staged) (r : Req) : Bool :=
  g.session == r.session && g.element == firstOf r && g.count == r.count

/-- A segment of a write (R25, R392, R393): staged, refused, or, with LAST, judged as a whole. -/
def segment (s : State) (r : Req) (k : Option Session) (role : Role) (d : Desc) (img : Option Sig) (p : Resp) :
    State × Resp :=
  let total := wholeLen d r.count
  if bit r.flags 0 then
    if r.offset ≠ 0 ∨ total < r.value.length then (bump s 0x1020 12, withCode p 0x03)
    else if (stagedOf s r.object).isSome || decide (4 ≤ s.dic.staged.length) then (s, withCode p 0x09)
    else
      ({ s with dic.staged := s.dic.staged ++
          [{ object := r.object, element := firstOf r, count := r.count, session := r.session, bytes := r.value,
             whole := total, resv := headerReserved r }] }, p)
  else match stagedOf s r.object with
    | none => (s, withCode p 0x03)
    | some g =>
      if !continues g r then (s, withCode p 0x03)
      else if r.offset ≠ g.bytes.length ∨ total < r.offset + r.value.length then
        (bump (unstage s r.object) 0x1020 12, withCode p 0x03)
      else if bit r.flags 1 then wholeWrite (unstage s r.object) r k role d (g.bytes ++ r.value) img false g.resv p
      else
        ({ s with dic.staged := s.dic.staged.map (fun h =>
            if h.object = r.object then
              { h with bytes := h.bytes ++ r.value, resv := h.resv || headerReserved r }
            else h) }, p)

/-- The answer to a write (R385, R390, R392). -/
def answerWrite (s : State) (r : Req) (k : Option Session) (role : Role) (d : Desc) (img : Option Sig) (p : Resp) :
    State × Resp :=
  if deniedWrite s r k role d then
    (if r.object = 0x8011 then bump s 0x8070 3 else s, withCode p 0x02)
  else if r.flags % 4 = 3 then wholeWrite s r k role d r.value img (r.offset != 0) false p
  else segment s r k role d img p

/-! ## One request -/

/-- A request judged in the order of R566 and R25, and carried out: the state after it and its response. -/
def answer (s : State) (r : Req) (k : Option Session) (role : Role) (img : Option Sig) : State × Resp :=
  let p := respOf s r
  if r.arrived < 20 ∨ r.length ≠ r.value.length then (s, withCode p 0x03)
  else if r.gen ≠ 1 then (s, withCode p 0x08)
  else if r.op < 1 ∨ 4 < r.op then (s, withCode p 0x03)
  else if missing r then (s, withCode p 0x01)
  else match objDesc r.object with
    | none => (s, withCode p 0x01)
    | some d => if r.op = 2 then answerWrite s r k role d img p else (s, answerRead s r k role d p)

/-- The key under which repeats and the order of answers are kept (R394): the session, or the link outside a session. -/
def keyOf (r : Req) : Nat :=
  match r.session with
  | some n => n
  | none => match r.link with
    | .ld n => 2 ^ 32 + n
    | .j7 => 2 ^ 32 + 256
    | .fnA => 2 ^ 32 + 257
    | .fnB => 2 ^ 32 + 258

/-- The kept response to an equal request within 1 s (R394); the frame that brings it may differ. -/
def keptResp (s : State) (r : Req) : Option Resp :=
  match s.dic.kept.find? (fun x => x.1 == keyOf r) with
  | some (_, q, p, t) => if q = { r with can := none } ∧ s.epo.ticks ≤ t + 1000 then some p else none
  | none => none

/-- A response leaves the module; one that goes to a mailbox completes its command 0xC000 or, in a session, 0xC002 (R451, R452);
on the field network it is a frame on the request's channel (R416, R429). -/
def sendResp (s : State) (key : Nat) (l : Link) (dest : Nat) (p : Resp) : State :=
  let inSess := decide (key < 2 ^ 32)
  let s := mailMessage { s with dic.resp := some p, dic.respTo := some l } l (if inSess then 0xC002 else 0xC000)
  let frame := fun (c : Chan) =>
    replyFrame s c ((if inSess then 52 else 46) + p.value.length) dest (if inSess then .zero else tagOut s) (.reply p)
  match l with
  | .fnA => frame .A
  | .fnB => frame .B
  | _ => s

/-- An accepted write is forwarded to the standby (R330, R382): shelf and rack scope, at an active module beside a peer. -/
def forwardsIt (s : State) (r : Req) (p : Resp) : Bool :=
  r.op == 2 && (p.result == 0 || p.result == 5 || p.result == 6) && r.flags / 2 % 2 == 1 && s.red.role == .active &&
    s.red.peerHere && (match objDesc r.object with | some d => d.scope != 0 | none => false)

/-- A response is sent, or waits for the standby's acknowledgement or behind one of its session that does (R330, R394,
R395). -/
def deliver (s : State) (r : Req) (p : Resp) (waits : Bool) : State :=
  if waits || s.red.forwards.any (fun h => h.key == keyOf r) then
    let s := if waits then sendBlocks s 4 1 else s
    { s with red.forwards := s.red.forwards ++
        [{ key := keyOf r, link := r.link, dest := replyDest r.can, resp := p, waits := waits }] }
  else sendResp s (keyOf r) r.link (replyDest r.can) p

/-- Who sends a request: a session open on that link, or the Public role outside a session (R19, R390, R450). -/
def requester (s : State) (r : Req) : Option (Role × Option Session) :=
  match r.session with
  | none => some (.pub, none)
  | some n => match findSession s n with
    | none => none
    | some k => if k.link = r.link then some (k.role, some k) else none

/-- Count a response under its code (R399). -/
def countCode (s : State) (c : Nat) : State := if 1 ≤ c ∧ c ≤ 9 then bump s 0x1020 c else s

/-- A request answered in the ordinary way (R385 to R395); a repeat is counted as one, and its response under its code (R399). -/
def serve (s : State) (r : Req) (k : Option Session) (role : Role) (img : Option Sig) : State :=
  let s := bump s 0x1020 0
  match keptResp s r with
  | some p => deliver (countCode (bump s 0x1020 11) p.result) r p false
  | none =>
    let a := answer s r k role img
    let waits := forwardsIt s r a.2
    let s := countCode a.1 a.2.result
    let s := { s with
      dic.kept := s.dic.kept.filter (fun x => x.1 != keyOf r) ++ [(keyOf r, { r with can := none }, a.2, s.epo.ticks)] }
    deliver s r a.2 waits

/-- The code of a request that recovery hold does not serve (R25, R26). DESIGN CHOICE (log entry 88): one that names something
that exists is answered 0x09; the spec states no code for it. -/
def recoveryCode (r : Req) : Nat :=
  if r.arrived < 20 ∨ r.length ≠ r.value.length then 0x03
  else if r.gen ≠ 1 then 0x08
  else if r.op < 1 ∨ 4 < r.op then 0x03
  else if missing r then 0x01
  else 0x09

/-- In recovery hold (R26, R360, R406, R557): a segmented plain write of object 0x8060 carries the image; when it passes, its
bank is valid and the module restarts. A read of object 0x0010 is answered, any other plain request refused. -/
def serveRecovery (s : State) (r : Req) (img : Option Sig) : State :=
  let p := respOf s r
  if r.session.isSome then s
  else if recoveryCode r ≠ 0x09 then
    sendResp (countCode (bump s 0x1020 0) (recoveryCode r)) (keyOf r) r.link (replyDest r.can) (withCode p (recoveryCode r))
  else if r.op = 2 ∧ r.object = 0x8060 then
    let got := if bit r.flags 0 then [] else s.sec.recImage
    if r.offset ≠ got.length then sendResp { s with sec.recImage := [] } (keyOf r) r.link (replyDest r.can) (withCode p 0x03)
    else
      let bytes := got ++ r.value
      if !bit r.flags 1 then sendResp { s with sec.recImage := bytes } (keyOf r) r.link (replyDest r.can) p
      else
        let rd : Reader := fun off len => leOf ((bytes.drop off).take len)
        let c := match img with
          | none => 0x07
          | some g => fwLoadCode s rd bytes.length g
        let s := { s with sec.recImage := [] }
        if c = 0 then sendResp { loadBank s rd bytes.length with power.wakeNext := some 2 } (keyOf r) r.link (replyDest r.can) p
        else sendResp (countVerify s c) (keyOf r) r.link (replyDest r.can) (withCode p c)
  else if r.op = 1 ∧ r.object = 0x0010 then serve s r none .pub none
  else sendResp s (keyOf r) r.link (replyDest r.can) (withCode p 0x09)

/-- What a request brings once its link has taken it (R379 to R397, R566). -/
def requestIn (r : Req) (img : Option Sig) (s : State) : Out :=
  if s.power.mstate = .recovery then .next (serveRecovery s r img)
  else match requester s r with
    | none => .next s
    | some (role, k) => .next (serve s r k role img)

/-- The payload bytes of the frame that carries a request over the field network (R429). -/
def frameSize (r : Req) (inSess : Bool) : Nat := (if inSess then 44 else 38) + r.value.length

/-- A request arrives: none is taken where the module does not answer; a mailbox counts its command, and that of LD3 takes none
(R441, R451). -/
def request (r : Req) (img : Option Sig) (s : State) : Out :=
  if !answersOn s r.link then .next s
  else if mailCut s r.link then .next (mailLost s r.link (if r.session.isSome then 0xC002 else 0xC000))
  else if r.link = .ld 3 then
    .next (mailRefused (mailCount s r.link) 3 (if r.session.isSome then 0xC002 else 0xC000) 2)
  else
    let d := dictIn s r.can (frameSize r r.session.isSome) r.session.isNone
    if d.2 then requestIn r img (mailCount d.1 r.link) else .next d.1

/-! ## Acknowledgements (R330, R395) -/

/-- The first response that waits for the standby no longer does. -/
def releaseFirst : List Held → List Held
  | [] => []
  | h :: rest => if h.waits then { h with waits := false } :: rest else h :: releaseFirst rest

/-- The responses that may leave, in order, and those that stay behind one of their session that waits. -/
def splitHeld : List Held → List Nat → List Held × List Held
  | [], _ => ([], [])
  | h :: rest, blocked =>
    if h.waits || blocked.contains h.key then
      let r := splitHeld rest (h.key :: blocked)
      (r.1, h :: r.2)
    else
      let r := splitHeld rest blocked
      (h :: r.1, r.2)

/-- Release the first waiting response and send what may leave. -/
def releaseHeld (s : State) : State :=
  let r := splitHeld (releaseFirst s.red.forwards) []
  r.1.foldl (fun s h => sendResp s h.key h.link h.dest h.resp) { s with red.forwards := r.2 }

end Sys2Proof.Machine
end

