-- ==== Sys2Proof/Machine/DictRows.lean ====
section
/-! DEFINITION. The meanings of the rows that are dictionary requests (13_dictionary_model.md, 14_dictionary_reference.md): each
is the request of its object, judged and carried out by `request`; session messages (R367), segments that time out (R393), the
standby's acknowledgements (R330), a loop program's load (R245) and the expiry of a host target (R67). -/
namespace Sys2Proof.Machine

/-! ## Requests of any object -/

/-- The request of an operation. -/
def Req.withOp (r : Req) (op : Nat) : Req := { r with op := op }

/-- The write of an object. -/
def Req.writing (r : Req) (o : Nat) : Req := { r with op := 2, object := o }

/-- The meaning of READ (R387). -/
def execRead (r : Req) (s : State) : Out := request (Req.withOp r 1) none s

/-- The meaning of READ_PENDING (R387). -/
def execReadPending (r : Req) (s : State) : Out := request (Req.withOp r 4) none s

/-- The meaning of WRITE (R390). -/
def execWrite (r : Req) (s : State) : Out := request (Req.withOp r 2) none s

/-- The meaning of DESCRIBE (R389). -/
def execDescribe (r : Req) (s : State) : Out := request (Req.withOp r 3) none s

/-- The meaning of MALFORMED_REQUEST (R566). -/
def execMalformedRequest (r : Req) (s : State) : Out := request r none s

/-! ## Writes of one object -/

/-- The meaning of FIXED_LAW_RETURN (R249). -/
def execFixedLawReturn (r : Req) (s : State) : Out := request (Req.writing r 0x5053) none s

/-- The meaning of CHANNEL_SELECTION (R251). -/
def execChannelSelection (r : Req) (s : State) : Out := request (Req.writing r 0x5061) none s

/-- The meaning of LOOP_PROGRAM_LOAD (R245). -/
def execLoopProgramLoad (r : Req) (s : State) : Out := request (Req.writing r 0x5050) none s

/-- The meaning of LOOP_PROGRAM_SELECT (R246). -/
def execLoopProgramSelect (r : Req) (s : State) : Out := request (Req.writing r 0x5052) none s

/-- The meaning of STRING_LATCH_CLEAR (R220). -/
def execStringLatchClear (r : Req) (s : State) : Out := request (Req.writing r 0x5031) none s

/-- The meaning of OVERVOLTAGE_LATCH_CLEAR (R220). -/
def execOvervoltageLatchClear (r : Req) (s : State) : Out := request (Req.writing r 0x5031) none s

/-- The meaning of BUS_REFERENCE_TARGET (R210, R211). -/
def execBusReferenceTarget (r : Req) (s : State) : Out := request (Req.writing r 0x5000) none s

/-- The meaning of REFERENCE_SLEW (R210, R211). -/
def execReferenceSlew (r : Req) (s : State) : Out := request (Req.writing r 0x5001) none s

/-- The meaning of TRIP_CLEAR (R274). -/
def execTripClear (r : Req) (s : State) : Out := request (Req.writing r 0x6002) none s

/-- The meaning of HOST_BLEED_MASKS (R277). -/
def execHostBleedMasks (r : Req) (s : State) : Out := request (Req.writing r 0x6022) none s

/-- The meaning of WIRE_SURVEY_REQUEST (R278). -/
def execWireSurveyRequest (r : Req) (s : State) : Out := request (Req.writing r 0x6024) none s

/-- The meaning of OPEN_WIRE_TEST_REQUEST (R281). -/
def execOpenWireTestRequest (r : Req) (s : State) : Out := request (Req.writing r 0x6031) none s

/-- The meaning of STRING_ISOLATE (R291). -/
def execStringIsolate (r : Req) (s : State) : Out := request (Req.writing r 0x6040) none s

/-- The meaning of END_ISOLATION (R291). -/
def execEndIsolation (r : Req) (s : State) : Out := request (Req.writing r 0x6040) none s

/-- The meaning of INTEGRATOR_LAYER_WRITE (R300). -/
def execIntegratorLayerWrite (r : Req) (s : State) : Out := request (Req.writing r 0x5080) none s

/-- The meaning of OWNER_LAYER_WRITE (R301). -/
def execOwnerLayerWrite (r : Req) (s : State) : Out := request (Req.writing r 0x5081) none s

/-- The meaning of LEAD_RELEASE (R94, R111). -/
def execLeadRelease (r : Req) (s : State) : Out := request (Req.writing r 0x3052) none s

/-- The meaning of CONTRACT_WRITE (R121, R123). -/
def execContractWrite (r : Req) (s : State) : Out := request (Req.writing r 0x2000) none s

/-- The meaning of BREAKER_CAP_WRITE (R119, R124, R125). -/
def execBreakerCapWrite (r : Req) (s : State) : Out := request (Req.writing r 0x2011) none s

/-- The meaning of RAMP_LIMIT_WRITE (R125, R138). -/
def execRampLimitWrite (r : Req) (s : State) : Out :=
  request (Req.writing r (if r.object = 0x2013 then 0x2013 else 0x2012)) none s

/-- The meaning of EMERGENCY_ANNOUNCEMENT (R125). -/
def execEmergencyAnnouncement (r : Req) (s : State) : Out := request (Req.writing r 0x2015) none s

/-- The meaning of HOST_ALLOCATION_TABLE (R98). -/
def execHostAllocationTable (r : Req) (s : State) : Out := request (Req.writing r 0x3040) none s

/-- The meaning of HOST_FILLER_ANSWER (R104). -/
def execHostFillerAnswer (r : Req) (s : State) : Out := request (Req.writing r 0x3041) none s

/-- The meaning of HOST_SOC_TARGET (R67). -/
def execHostSocTarget (r : Req) (s : State) : Out := request (Req.writing r 0x4024) none s

/-- The meaning of MODEL_LOAD (R180). -/
def execModelLoad (r : Req) (s : State) : Out := request (Req.writing r 0x4113) none s

/-- The meaning of MODEL_SELECT (R182). -/
def execModelSelect (r : Req) (s : State) : Out := request (Req.writing r 0x4111) none s

/-- The meaning of CLEAR_SLOT (R182). -/
def execClearSlot (r : Req) (s : State) : Out := request (Req.writing r 0x4114) none s

/-- The meaning of REVERT_SIGNED_WEIGHTS (R192). -/
def execRevertSignedWeights (r : Req) (s : State) : Out := request (Req.writing r 0x4124) none s

/-- The meaning of HANDOVER_COMMAND (R338). -/
def execHandoverCommand (r : Req) (s : State) : Out := request (Req.writing r 0x7002) none s

/-- The meaning of CLEAR_DRIVE_FAULT (R340). -/
def execClearDriveFault (r : Req) (s : State) : Out := request (Req.writing r 0x7002) none s

/-- The meaning of REPLACEMENT_ADOPTION (R341, R358). -/
def execReplacementAdoption (r : Req) (s : State) : Out := request (Req.writing r 0x7010) none s

/-- The meaning of KEY_ENROLMENT (R356, R357). -/
def execKeyEnrolment (r : Req) (s : State) : Out := request (Req.writing r (if r.object = 0x8001 then 0x8001 else 0x8000)) none s

/-- The meaning of NODE_TABLE_WRITE (R359, R417). -/
def execNodeTableWrite (r : Req) (s : State) : Out := request (Req.writing r 0x8020) none s

/-- The meaning of ACTIVATE_BANK (R363). -/
def execActivateBank (r : Req) (s : State) : Out := request (Req.writing r 0x8061) none s

/-- The meaning of COMMIT_TRIAL (R364). -/
def execCommitTrial (r : Req) (s : State) : Out := request (Req.writing r 0x8062) none s

/-- The meaning of EVIDENCE_REQUEST (R370). -/
def execEvidenceRequest (r : Req) (s : State) : Out := request (Req.writing r 0x8050) none s

/-- The meaning of ON_DEMAND_SEAL (R136, R352). -/
def execOnDemandSeal (r : Req) (s : State) : Out := request (Req.writing r 0x8042) none s

/-- The meaning of UNLOCK_GRANT (R374). -/
def execUnlockGrant (r : Req) (s : State) : Out := request (Req.writing r 0x8011) none s

/-- The meaning of END_UNLOCK (R374). -/
def execEndUnlock (r : Req) (s : State) : Out := request (Req.writing r 0x8012) none s

/-- The meaning of PASSPHRASE_VERIFIER (R375). -/
def execPassphraseVerifier (r : Req) (s : State) : Out := request (Req.writing r 0x8014) none s

/-- The meaning of PASSPHRASE_ATTEMPT (R375). -/
def execPassphraseAttempt (r : Req) (s : State) : Out := request (Req.writing r 0x8015) none s

/-- The meaning of USER_CALIBRATION_WRITE (R511, R512). -/
def execUserCalibrationWrite (r : Req) (s : State) : Out := request (Req.writing r 0x9000) none s

/-- The meaning of SNAPSHOT_REARM (R259). -/
def execSnapshotRearm (r : Req) (s : State) : Out := request (Req.writing r 0xA101) none s

/-- The meaning of TRACE_CONFIGURATION (R259, R261). -/
def execTraceConfiguration (r : Req) (s : State) : Out := request (Req.writing r 0xA100) none s

/-- The meaning of RECORDER_RESUME (R263). -/
def execRecorderResume (r : Req) (s : State) : Out := request (Req.writing r 0xA103) none s

/-- The meaning of EXPORT (R264). -/
def execExportContent (r : Req) (s : State) : Out := request (Req.writing r 0xA104) none s

/-- The meaning of FIRST_FAULT_CLEAR (R230). -/
def execFirstFaultClear (r : Req) (s : State) : Out := request (Req.writing r 0xA001) none s

/-- The meaning of AUX_SYNC_FUNCTION (R259, R542). -/
def execAuxSyncFunction (r : Req) (s : State) : Out := request (Req.writing r 0xA105) none s

/-- The meaning of FIRMWARE_LOAD (R360, R361, R363): the image found in the staging area, or carried by the write in recovery
hold. -/
def execFirmwareLoad (r : Req) (sig : Sig) (s : State) : Out := request (Req.writing r 0x8060) (some sig) s

/-! ## Sessions, segments, acknowledgements -/

/-- The meaning of SESSION_MESSAGE (R367): the next message of an open session on its link, when it authenticates, is served
under the session's role; one that does not closes the session. A message of another counter is discarded. -/
def execSessionMessage (n counter : Nat) (authOk : Bool) (r : Req) (s : State) : Out :=
  if !answersOn s r.link then .next s
  else if mailCut s r.link then .next (mailLost s r.link 0xC002)
  else
    let d := dictIn s r.can (frameSize r true) false
    let s := mailCount d.1 r.link
    match findSession s n with
    | none => .next s
    | some k =>
      if !d.2 then .next s
      else if k.link != r.link || counter != k.rx + 1 then .next s
      else if !authOk then .next (authFailed s k)
      else
        let s := updSession s n (fun k => { k with rx := k.rx + 1, tx := k.tx + 1, used := s.epo.ticks })
        requestIn { r with session := some n } none s

/-- The meaning of SEGMENT_TIMEOUT (R393): the staged write is discarded and counted. -/
def execSegmentTimeout (o : Nat) (s : State) : Out :=
  if (stagedOf s o).isSome then .next (bump (unstage s o) 0x1020 12) else .next s

/-- The meaning of WRITE_FORWARD_ACK (R330, R395). -/
def execWriteForwardAck (s : State) : Out := .next (releaseHeld s)

/-- The meaning of WRITE_FORWARD_TIMEOUT (R330): the standby is marked not current, and the response is sent. -/
def execWriteForwardTimeout (s : State) : Out :=
  if s.red.forwards.any (fun h => h.waits) then .next (releaseHeld { s with red.current := false }) else .next s

/-! ## Loop program load and host target -/

/-- The data memory an image starts with (R244, R254). -/
def dataMem (l : List Nat) : SMap :=
  (upTo (min l.length 1024)).foldl (fun m i => mset m i (at0 l i % 2 ^ 32)) []

/-- The meaning of LOOP_PROGRAM_LOAD_DONE (R180, R245, R265): slot 1 is verified and runs in shadow, or is left empty with the
code of the first check that failed. -/
def execLoopProgramLoadDone (sig : Sig) (s : State) : Out :=
  if s.lpe.slot1.state ≠ 1 then .next s
  else
    let r := loopReader s
    let p := readLoopImage r
    let c := loopImageCode s p s.lpe.loadAt.2 sig (ownerKeys s)
    let s := { countVerify s c with lpe.loadFor := false, lpe.clean := 0 }
    if c ≠ 0 then .next { s with lpe.slot1 := { ProgSlot.empty with result := c } }
    else .next { s with
      lpe.slot1 :=
        { state := 2, result := 0, ident := p.ident, version := p.version, hash := Config.sha256 (pkgBytes r 0 p.signed)
          code := imageInstrs r p, data := imageData r p }
      lpe.shad := { LoopCtx.reset with mem := dataMem (imageData r p), ended := true } }

/-- The meaning of HOST_SOC_TARGET_EXPIRY (R66, R67): the host's target has run out; bit 4 of object 0x4004 reports the
fall-back to object 0x4020 until the host writes again. -/
def execHostSocTargetExpiry (s : State) : Out :=
  let v := dget s 0x4024 0
  if v ≠ 0 ∧ (bit (dget s 0x4003 0) 4 = false ∨ s.lead.targetSince + 1000 * fieldAt v 4 4 ≤ s.epo.ticks) then
    .next { s with epo.fallback := setBit s.epo.fallback 4 true }
  else .next s

end Sys2Proof.Machine
end

