-- ==== Sys2Proof/Machine/Cxl.lean ====
section
/-! DEFINITION. The CXL attachment (16_cxl_attachment.md): the mailbox commands of each logical device, CXL.mem reads and writes
of the windows, link changes, and the mirrors and the archive that the module publishes. -/
namespace Sys2Proof.Machine

/-! ## Mailbox commands (R441, R450 to R452) -/

/-- A mailbox command of logical device `ld` (R451, R452): counted; LD3 takes Identify alone; a payload of another length is
Invalid Input. No mailbox answers where the link die has no supply (R440, R471); with bridge B3 failed each command returns
Internal Error (R462). -/
def mailCmd (ld op : Nat) (lenOk : Bool) (f : State → State) (s : State) : Out :=
  if !cxlOn s || decide (3 < ld) then .next s
  else if mailCut s (.ld ld) then .next (mailLost s (.ld ld) op)
  else
    let t := mailCount s (.ld ld)
    if ld = 3 ∧ op ≠ 1 then .next (mailRefused t ld op 2)
    else if !lenOk then .next (mailRefused t ld op 1)
    else .next (f t)

/-- A command whose output is the CXL standard's, which the spec does not lay out: a free value (log entry 11). -/
def mailStandard (ld op : Nat) (s : State) : State := mailDone (drawn s) ld op 0 [freeOf s]

/-- The meaning of IDENTIFY (R451). -/
def execIdentify (ld : Nat) (lenOk : Bool) (s : State) : Out := mailCmd ld 0x0001 lenOk (mailStandard ld 0x0001) s

/-- The event records of a logical device, as handles and window offsets (R451, R454). -/
def eventList (s : State) (ld : Nat) : List Nat :=
  ((s.net.evRecords.filter (fun e => e.2.1 == ld)).map (fun e => [e.1, e.2.2])).flatten

/-- The meaning of GET_EVENT_RECORDS (R451, R454). -/
def execGetEventRecords (ld : Nat) (lenOk : Bool) (s : State) : Out :=
  mailCmd ld 0x0100 lenOk (fun t => mailDone t ld 0x0100 0 (eventList t ld)) s

/-- Remove the event records of a logical device that a clear names. -/
def clearEvents (ld : Nat) (handles : List Nat) (s : State) : State :=
  mailDone { s with net.evRecords := s.net.evRecords.filter (fun e => !(e.2.1 == ld && handles.contains e.1)) } ld 0x0101 0 []

/-- The meaning of CLEAR_EVENT_RECORDS (R451). -/
def execClearEventRecords (ld : Nat) (lenOk : Bool) (handles : List Nat) (s : State) : Out :=
  mailCmd ld 0x0101 lenOk (clearEvents ld handles) s

/-- The meaning of GET_EVENT_INTERRUPT_POLICY (R451). -/
def execGetEventInterruptPolicy (ld : Nat) (lenOk : Bool) (s : State) : Out :=
  mailCmd ld 0x0102 lenOk (fun t => mailDone t ld 0x0102 0 [(t.net.policy.getD ld 0#32).toNat]) s

/-- The meaning of SET_EVENT_INTERRUPT_POLICY (R451). -/
def execSetEventInterruptPolicy (ld : Nat) (lenOk : Bool) (policy : Word) (s : State) : Out :=
  mailCmd ld 0x0103 lenOk (fun t => mailDone { t with net.policy := setAt t.net.policy ld policy } ld 0x0103 0 []) s

/-- The meaning of GET_FW_INFO (R451): two slots, the one that runs (1 A, 2 B), and the versions of banks A and B. -/
def execGetFwInfo (ld : Nat) (lenOk : Bool) (s : State) : Out :=
  mailCmd ld 0x0200 lenOk (fun t =>
    mailDone t ld 0x0200 0 [2, 1 + b2n t.sec.bankB, t.sec.banks.a.version, t.sec.banks.b.version]) s

/-- The Command Effects Log is the only log (R451). -/
def execGetSupportedLogs (ld : Nat) (lenOk : Bool) (s : State) : Out :=
  mailCmd ld 0x0400 lenOk (fun t => mailDone t ld 0x0400 0 [1]) s

/-- The opcodes the mailboxes accept (R451). -/
def opcodes : List Nat :=
  [0x0001, 0x0100, 0x0101, 0x0102, 0x0103, 0x0200, 0x0400, 0x0401, 0x4000, 0x4200, 0x4300, 0xC000, 0xC001, 0xC002, 0xC010]

/-- The meaning of GET_LOG (R451): the Command Effects Log lists the commands. -/
def execGetLog (ld : Nat) (lenOk : Bool) (s : State) : Out :=
  mailCmd ld 0x0401 lenOk (fun t => mailDone t ld 0x0401 0 opcodes) s

/-- The size of a window (R441). -/
def ldSize (ld : Nat) : Nat := if ld = 0 then 24 * 2 ^ 30 else if ld = 1 then 8 * 2 ^ 30 else if ld = 2 then 2 ^ 30 else 0

/-- The base of a window in the stack (R441). -/
def ldBase (ld : Nat) : Nat := if ld = 0 then ld0Base else if ld = 1 then ld1Base else ld2Base

/-- The meaning of IDENTIFY_MEMORY_DEVICE (R441): the window as volatile capacity, a persistent capacity of 0. -/
def execIdentifyMemoryDevice (ld : Nat) (lenOk : Bool) (s : State) : Out :=
  mailCmd ld 0x4000 lenOk (fun t => mailDone t ld 0x4000 0 [ldSize ld, 0]) s

/-- The meaning of GET_HEALTH_INFO (R451). -/
def execGetHealthInfo (ld : Nat) (lenOk : Bool) (s : State) : Out := mailCmd ld 0x4200 lenOk (mailStandard ld 0x4200) s

/-- The meaning of GET_POISON_LIST (R451, R454): always empty. -/
def execGetPoisonList (ld : Nat) (lenOk : Bool) (s : State) : Out :=
  mailCmd ld 0x4300 lenOk (fun t => mailDone t ld 0x4300 0 []) s

/-- The meaning of DICTIONARY_PLAIN (R390, R451): a request of the Public role on this mailbox. -/
def execDictionaryPlain (ld : Nat) (lenOk : Bool) (r : Req) (s : State) : Out :=
  if lenOk && decide (ld < 3) then request { r with link := .ld ld, session := none } none s
  else mailCmd ld 0xC000 lenOk (fun t => t) s

/-- An open session of a mailbox (R450). -/
def mailSession (s : State) (ld : Nat) (n : Option Nat) : Option Session :=
  match n with
  | none => none
  | some n => match findSession s n with
    | none => none
    | some k => if k.link = .ld ld then some k else none

/-- The code that answers an Owner staging write (R451). -/
def stagingCode (s : State) (k : Session) (offset len : Nat) : Nat :=
  if k.role ≠ .owner then 0x02 else if slotBytes < offset + len then 0x03 else if inLive s then 0 else 0x09

/-- An Owner staging write in its session (R367, R451): answered with a code, its bytes stored where the code is 0. As with any
session message, one of another counter is discarded, and one that does not authenticate closes the session. -/
def stagingWrite (ld : Nat) (n : Option Nat) (counter : Nat) (authOk : Bool) (offset : Nat) (data : List Byte) (s : State) :
    State :=
  match mailSession s ld n with
  | none => mailDone s ld 0xC010 0 [0x02]
  | some k =>
    if counter ≠ k.rx + 1 then s
    else if !authOk then authFailed s k
    else
      let c := stagingCode s k offset data.length
      let s := updSession s k.number (fun k => { k with rx := k.rx + 1, tx := k.tx + 1, used := s.epo.ticks })
      mailDone (if c = 0 then dramBytes s (ownerStaging + offset) data else s) ld 0xC010 0 [c]

/-- The meaning of OWNER_STAGING_WRITE (R451). -/
def execOwnerStagingWrite (ld : Nat) (lenOk : Bool) (n : Option Nat) (counter : Nat) (authOk : Bool) (offset : Nat)
    (data : List Byte) (s : State) : Out :=
  mailCmd ld 0xC010 lenOk (stagingWrite ld n counter authOk offset data) s

/-- The meaning of UNSUPPORTED_COMMAND (R451): every other opcode returns Unsupported. -/
def execUnsupportedCommand (ld op : Nat) (s : State) : Out :=
  if opcodes.contains op then .next s else mailCmd ld op true (fun t => mailRefused t ld op 2) s

/-! ## CXL.mem (R441, R442, R444, R454) -/

/-- A response of CXL.mem. -/
def memDone (s : State) (ld : Nat) (data : List Byte) (err : Bool) : State :=
  { s with net.memOut := some { ld := ld, data := data, error := err } }

/-- An uncorrectable error in data that a host reads by CXL.mem (R454): all ones, with the error in the status. -/
def readError (s : State) (ld offset len : Nat) : State :=
  memDone (hostReadError s ld offset) ld (List.replicate len 0xFF#8) true

/-- CXL.mem is served: in Live, through bridge B4 (R442, R462). -/
def memServed (s : State) : Bool := inLive s && !s.power.bridgeFailed.contains 4

/-- The meaning of CXL_MEM_READ (R442, R454, R462): the window's data where CXL.mem is served, all ones otherwise; an address
beyond the window does not exist (R441). -/
def execCxlMemRead (ld offset len : Nat) (bad : Bool) (s : State) : Out :=
  if !cxlOn s then .next s
  else if !memServed s then .next (bump (memDone s ld (List.replicate len 0xFF#8) false) 0x1012 4)
  else if ldSize ld < offset + len then .fault (.noSuchAddress ld offset)
  else if bad then .next (readError s ld offset len)
  else .next (memDone s ld (memReadAll s.net.dram (ldBase ld + offset) len) false)

/-- The ranges that accept host writes: the inbox and the model staging area of LD1 (R444). -/
def hostWrites (ld offset len : Nat) : Bool :=
  ld == 1 && ((0xFC000000 ≤ offset && offset + len ≤ 0x100000000) || (0x100000000 ≤ offset && offset + len ≤ 0x200000000))

/-- A write to a range that accepts none (R442): discarded, the first of each second with a record. -/
def discardWrite (s : State) (ld offset : Nat) : State :=
  match s.net.roTick with
  | some t =>
    if s.epo.ticks < t + 1000 then s else cxlRec { s with net.roTick := some s.epo.ticks } 1 0x10 ld offset
  | none => cxlRec { s with net.roTick := some s.epo.ticks } 1 0x10 ld offset

/-- The meaning of CXL_MEM_WRITE (R442, R444, R462). -/
def execCxlMemWrite (ld offset : Nat) (data : List Byte) (s : State) : Out :=
  if !cxlOn s then .next s
  else if !memServed s then .next (bump s 0x1012 4)
  else if ldSize ld < offset + data.length then .fault (.noSuchAddress ld offset)
  else if hostWrites ld offset data.length then .next (dramBytes s (ldBase ld + offset) data)
  else .next (discardWrite s ld offset)

/-! ## The link (R408, R440) -/

/-- A trained link within the limits of object 0x1010 (R408). -/
def withinLimits (s : State) (width rate : Nat) : Bool :=
  let v := dget s 0x1010 0
  [1, 2, 4, 8].contains width && decide (width ≤ fieldAt v 0 1) && [16, 32, 64].contains rate &&
    decide (rate ≤ 16 * 2 ^ fieldAt v 1 1)

/-- A retrain or a loss of the link: counted and recorded (R440); its domain resets (R481). -/
def linkFell (s : State) (state : Nat) : State :=
  let s := resetPulse (resetPulse s 7) 8
  cxlRec (bump { s with net.cxl := state, net.cxlWidth := 0, net.cxlRate := 0, net.cxlBound := 0 } 0x1012 2) 1 0x11 0xFF 0

/-- The meaning of CXL_LINK_CHANGE (R408, R440): a CRC failure of the link layer and a replay are counted. -/
def execCxlLinkChange (ev : CxlEvent) (s : State) : Out :=
  if !cxlOn s then .next s
  else match ev with
    | .crcFailure => .next (bump s 0x1012 0)
    | .replay => .next (bump s 0x1012 1)
    | .retrain => .next { linkFell s 1 with net.retrains := s.net.retrains + 1 }
    | .lost => .next (linkFell s 0)
    | .up w r b =>
      if withinLimits s w r then
        .next { s with net.cxl := 2, net.cxlWidth := w, net.cxlRate := r, net.cxlBound := b % 16 }
      else .next s

/-! ## Mirrors (R443, R445, R446) -/

/-- One object of a mirror: its directory entry and its value; the next free offset follows. -/
def mirrorObj (base : Nat) (st : State × Nat) (p : Nat × Desc) : State × Nat :=
  let v := elemsBytes p.2 p.1 0 p.2.elems (readVal st.1)
  let s := dramPut st.1 (base + 0x1000 + 8 * p.1) 8 (st.2 + v.length * 2 ^ 32)
  (dramBytes s (base + st.2) (v.map (BitVec.ofNat 8)), st.2 + v.length)

/-- A mirror of the objects whose read set holds a role's bit (R445, R446). -/
def mirror (s : State) (base role : Nat) : State :=
  let s := dramPut s (base + 8) 6 s.epo.count
  ((objTable.filter (fun p => bit p.2.rd role)).foldl (mirrorObj base) (s, 0x81000)).1

/-- Both mirrors, each with its even sequence once it is whole (R445, R446). -/
def mirrorsAt (s : State) : State :=
  let q := s.net.mirrorSeq + 2
  let s := mirror (mirror s ld0Base 0) ld2Base 2
  { dramPut (dramPut s ld0Base 8 q) ld2Base 8 q with net.mirrorSeq := q, net.mirrorEpoch := s.epo.count }

/-- The meaning of DICTIONARY_MIRROR_REFRESH (R445, R446): in Live. -/
def execDictionaryMirrorRefresh (s : State) : Out :=
  if inLive s then .next (refreshArchive (mirrorsAt s)) else .next s

end Sys2Proof.Machine
end

