-- ==== Sys2Proof/Machine/Registers.lean ====
section
/-! DEFINITION. Accesses of the processors to the control die's map (R27, R463, R464): register reads with what they clear or
capture, register writes field by field, the memories, the attribution SRAM and the DRAM aperture. An address is a byte
address of R463, or the number of a CSR of R507. -/
namespace Sys2Proof.Machine

/-! ## What an access finds -/

/-- The number of a target-interface CSR (R507). -/
def isCsr (addr : Nat) : Bool := 0x7C0 ≤ addr && addr ≤ 0x7C5

/-- The memories that hold what was written to them: RT data memory, service-core SRAM, MRAM (R463). -/
def isRam (addr : Nat) : Bool :=
  (0x10000000 ≤ addr && addr < 0x10080000) || (0x20000000 ≤ addr && addr < 0x20800000) ||
    (0x48000000 ≤ addr && addr < 0x48400000)

/-- A block of which this manual gives the registers (R464). -/
def isOpen (addr : Nat) : Bool := inBlocks addr && [0, 1, 2, 4, 8, 9].contains (blockOf addr)

/-- The attribution SRAM (R108, R463). -/
def isAttr (addr : Nat) : Bool := 0x50000000 ≤ addr && addr < 0x50200000

/-- The DRAM aperture (R463, R464). -/
def isAper (addr : Nat) : Bool := 0xC0000000 ≤ addr && addr < 0x100000000

/-- Where the aperture shows an address (R464). -/
def aperOffset (s : State) (addr : Nat) : Nat := s.power.aper * 2 ^ 30 + (addr - 0xC0000000)

/-- An offset in the areas of slot 0, the weights, the learning state, the pairs and the history (R197), whose bytes are laid out
by the engine and not given (log entry 110). -/
def isEngineArea (off : Nat) : Bool :=
  let g := off / 2 ^ 28
  (196 ≤ g && g < 200) || (236 ≤ g && g < 263) || 272 ≤ g

/-- The word of the attribution table at an address (R108). -/
def attrWord (s : State) (addr : Nat) : Nat := fieldAt (dget s 0x3100 ((addr - 0x50000000) / 16)) (addr % 16) 4

/-- The value of a register of the open blocks. -/
def blockRead (s : State) (addr : Nat) : Nat :=
  let off := addr % 65536
  if blockOf addr = 0 then icuRead s off
  else if blockOf addr = 1 then cotRead s off
  else if blockOf addr = 2 then lpeRead s off
  else if blockOf addr = 4 then grdRead s off
  else if blockOf addr = 8 then aonRead s off
  else trcRead s off

/-! ## Reads (R27, R463) -/

/-- What a read of a register clears or captures (R255, R313, R485, R486, R504, R505). -/
def readEffect (s : State) (addr : Nat) : State :=
  let off := addr % 65536
  let b := blockOf addr
  if b = 0 ∧ off = 0x004 then { s with icu.routeRej := 0 }
  else if b = 0 ∧ 0x010 ≤ off ∧ off < 0x024 then { s with icu.spur := mdel s.icu.spur ((off - 0x010) / 4) }
  else if b = 2 ∧ off = 0x008 then { s with lpe.maxCyc := 0 }
  else if b = 4 ∧ 0x300 ≤ off ∧ off < 0x400 then { s with grd.vcnt := mdel s.grd.vcnt ((off - 0x300) / 4) }
  else if b = 8 ∧ 0x140 ≤ off ∧ off < 0x194 then { s with power.xdrop := mdel s.power.xdrop ((off - 0x140) / 4) }
  else if b = 8 ∧ off = 0x008 then { s with power.sidh := field s.power.sidereal 32 16 }
  else s

/-- A read that returns a value. -/
def readGives (s : State) (v : Nat) : State := { accessOk s with dic.reg := BitVec.ofNat 32 v }

/-- A read of what no rule describes: a free value (log entry 38). -/
def readFree (s : State) : State := { accessOk (drawn s) with dic.reg := Config.freeWord s.dic.free }

/-- A CSR of a core's own target (R507). -/
def csrRead (s : State) (core : Core5) (addr : Nat) : Out :=
  if addr = 0x7C0 then execIcuClaim core s
  else if addr = 0x7C1 then .next (readGives s (activeSrc s core))
  else if addr = 0x7C2 then .next (readGives s (mget s.icu.pen (coreNum core)))
  else if addr = 0x7C3 then .next (readGives s (mget s.icu.pswp (coreNum core)))
  else .next (readGives s 0)

/-- A permitted read (R463): registers, memories, the attribution SRAM, ENG_APER and the aperture. -/
def readMap (s : State) (addr : Nat) : State :=
  if isOpen addr then readGives (readEffect s addr) (blockRead s addr)
  else if isRam addr && mget s.power.ram addr != 0 then readGives s (mget s.power.ram addr - 1)
  else if isAttr addr then readGives s (attrWord s addr)
  else if addr = 0x80000100 then readGives s s.power.aper
  else if isAper addr && !isEngineArea (aperOffset s addr) then readGives s (dramN s (aperOffset s addr) 4)
  else readFree s

/-- The meaning of READ_CLEAR_REGISTER (R27, R463): a word read; one that the map does not permit ends in a bus error. -/
def execReadClearRegister (core : Core5) (addr : Nat) (s : State) : Out :=
  if isCsr addr then csrRead s core addr
  else if mayRead core addr then .next (readMap s (addr - addr % 4))
  else .next (busError s core (errKey addr))

/-! ## Writes to COT (R232 to R238) -/

/-- A string's bits of COT_CTRL: ENA, START, LATCLR. -/
def writeCtrlStr (x : Str) (v : Nat) (o : Out) : Out :=
  let o := andThen o (execCotEna .rt x (bit v x.idx))
  let o := if bit v (2 + x.idx) then andThen o (execCotStart .rt x) else o
  if bit v (5 + x.idx) then andThen o (execCotLatclr .rt x) else o

/-- Write COT_CTRL (R232). -/
def writeCotCtrl (s : State) (v : Nat) : Out :=
  let o := writeCtrlStr .B v (writeCtrlStr .A v (execCotShedEn .rt (bit v 4) s))
  if bit v 7 then andThen o (execCotOvclr .rt) else o

/-- Write COT_VREF (R210, R234, R303): clamped by the guard. -/
def writeVref (s : State) (v : Nat) : State :=
  let a := clampWrite s 5 (v % 2 ^ 20)
  let b := clampWrite a.1 6 a.2
  { b.1 with cot.vTgt := b.2 }

/-- Write COT_SLEW (R210, R234, R303). -/
def writeSlew (s : State) (v : Nat) : State :=
  let a := clampWrite s 7 (v % 2 ^ 15)
  { a.1 with cot.slew := a.2 }

/-- One contactor command of COT_CONT (R237), where the write changes it. -/
def writeCont (v : Nat) (x : Str) (o : Out) : Out :=
  let one := fun (i : Nat) (f : State → Out) (o : Out) =>
    andThen o (fun s => if bit s.cot.cmd i = bit v i then .next s else f s)
  one (2 * x.idx + 1) (execContactorMainCommand .rt x (bit v (2 * x.idx + 1)))
    (one (2 * x.idx) (execContactorPrechargeCommand .rt x (bit v (2 * x.idx))) o)

/-- A write to COT by the RT pair; COT_IREF is written by the loop engine alone (R464). -/
def writeCot (s : State) (off v : Nat) : Out :=
  if off = 0x000 then writeCotCtrl s v
  else if off = 0x010 then .next (writeVref s v)
  else if off = 0x018 then .next (writeSlew s v)
  else if off = 0x020 then execCotPhenWrite .rt (BitVec.ofNat 32 v) s
  else if off = 0x030 then .next { s with cot.flt := clearBits s.cot.flt v 16 }
  else if off = 0x040 then writeCont v .B (writeCont v .A (.next s))
  else if 0x100 ≤ off ∧ off < 0x160 then .next (foreignCot s .rt)
  else .next s

/-! ## Writes to LPE, GRD, AON, TRC and ICU -/

/-- Write LPE_CTRL (R254). -/
def writeLpeCtrl (s : State) (v : Nat) : Out :=
  let o := execLpeRun .rt (bit v 0) { s with lpe.shadowEn := bit v 2, lpe.selCh := bit v 3 }
  let o := if bit v 4 then andThen o (execLpeSelreq .rt) else o
  if bit v 5 then andThen o (execLpeFixrst .rt) else o

/-- A write to LPE (R254, R255). -/
def writeLpe (s : State) (off v : Nat) : Out :=
  if off = 0x000 then writeLpeCtrl s v
  else if off = 0x004 then
    .next { s with lpe.ovrFlag := s.lpe.ovrFlag && !bit v 7, lpe.satFlag := s.lpe.satFlag && !bit v 8 }
  else .next s

/-- A write to GRD (R312, R313). -/
def writeGrd (s : State) (off v : Nat) : Out :=
  if off = 0x000 then .next { s with grd.cutFlag := clearBits s.grd.cutFlag (v / 256) 2 }
  else if 0x100 ≤ off ∧ off < 0x200 then execGuardNarrowing .rt ((off - 0x100) / 4) (BitVec.ofNat 32 v) s
  else .next s

/-- Write AON_CLK (R485). -/
def writeAonClk (s : State) (v : Nat) : Out :=
  let s := { s with
    power.refLoss := s.power.refLoss && !bit v 6, power.crysLoss := s.power.crysLoss && !bit v 7 }
  if bit v 2 = s.power.eplEn then .next s else execEnginePllEnable .rt (bit v 2) s

/-- A write to AON (R484 to R486). -/
def writeAon (s : State) (off v : Nat) : Out :=
  if off = 0x000 then execLiveReq .rt (bit v 3) s
  else if off = 0x010 then writeAonClk s v
  else if off = 0x020 then .next (if bit v 0 then renew s else s)
  else if off = 0x100 then .next { s with power.xlost := clearBits s.power.xlost v 11 }
  else .next s

/-- A write to TRC (R261); what the fault snapshot or the sync output owns stays (R542). -/
def writeTrc (s : State) (off v : Nat) : State :=
  if off = 0x000 then writeTrcCtrl s v
  else if off = 0x008 then (if traceCode s 1 (field v 15 9 * 2 ^ 15) = 0x09 then s else writeTrcTrig s v)
  else if off = 0x00C then { s with trc.thr := BitVec.ofNat 32 v }
  else if 0x100 ≤ off ∧ off < 0x140 then
    (if snapOwns s ((off - 0x100) / 4) then s else writeTrcSrc s ((off - 0x100) / 4) v)
  else s

/-- Enable bits of the existing shared sources of a word (R502, R506). -/
def enableMask (w v : Nat) : Nat := icuWord w (fun i => sharedHas i && bit v (i % 32))

/-- A write to ICU by the RT pair (R503 to R506). -/
def writeIcu (s : State) (off v : Nat) : Out :=
  if off = 0x000 then (if bit v 31 then execIcuFaultClear .rt s else .next s)
  else if 0x044 ≤ off ∧ off < 0x080 then
    .next { s with icu.en := mset s.icu.en ((off - 0x040) / 4) (enableMask ((off - 0x040) / 4) v) }
  else if 0x0C4 ≤ off ∧ off < 0x100 then execIcuSwp .rt ((off - 0x0C0) / 4) (BitVec.ofNat 32 v) s
  else if 0x480 ≤ off ∧ off < 0xC00 then execIcuRouteWrite .rt ((off - 0x400) / 4) v s
  else .next s

/-- A write to an open block by the RT pair. -/
def blockWrite (s : State) (addr v : Nat) : Out :=
  let off := addr % 65536
  if blockOf addr = 0 then writeIcu s off v
  else if blockOf addr = 1 then writeCot s off v
  else if blockOf addr = 2 then writeLpe s off v
  else if blockOf addr = 4 then writeGrd s off v
  else if blockOf addr = 8 then writeAon s off v
  else .next (writeTrc s off v)

/-! ## ENG_APER, CSRs, memories -/

/-- The meaning of ENG_APER_WRITE (R464): S0 to S3 position the aperture; 72 to 127 are ignored and counted. -/
def execEngAperWrite (core : Core5) (value : Word) (s : State) : Out :=
  if core = .rt then .next (busError s core (errKey 0x80000100))
  else
    let b := value.toNat % 128
    let s := accessOk s
    if 72 ≤ b then .next { s with power.busErrors := madd s.power.busErrors (errKey 0x80000100) 1 }
    else .next { s with power.aper := b }

/-- A write to a CSR of a core's own target (R507). -/
def csrWrite (s : State) (core : Core5) (addr v : Nat) : Out :=
  if addr = 0x7C1 then execIcuComplete core v s
  else if addr = 0x7C2 then
    .next { accessOk s with
      icu.pen := mset s.icu.pen (coreNum core) (icuWord 0 (fun i => privHas core i && bit v i)) }
  else if addr = 0x7C3 then execIcuPswp core (BitVec.ofNat 32 v) s
  else if addr = 0x7C4 then execIcuSswp core v s
  else if addr = 0x7C5 then execIcuXsig core (field v 8 3) (field v 0 5) s
  else .next (accessOk s)

/-- Write a word of the attribution table (R108, R463). -/
def attrWrite (s : State) (addr v : Nat) : State :=
  let i := (addr - 0x50000000) / 16
  let old := dget s 0x3100 i
  dset s 0x3100 i (old - fieldAt old (addr % 16) 4 * 256 ^ (addr % 16) + v % 2 ^ 32 * 256 ^ (addr % 16))

/-- A permitted write (R463). A write to a block whose registers belong to the firmware has no described effect (R464; log
entry 38). -/
def writeMap (s : State) (core : Core5) (addr v : Nat) : Out :=
  if isOpen addr then blockWrite s addr v
  else if isRam addr then .next { s with power.ram := mset s.power.ram addr (v + 1) }
  else if isAttr addr then .next (attrWrite s addr v)
  else if addr = 0x80000100 then execEngAperWrite core (BitVec.ofNat 32 v) s
  else if isAper addr then .next (dramPut s (aperOffset s addr) 4 v)
  else .next s

/-- A write that the map does not permit (R231, R254, R463): a bus error; COT and LPE count it as a foreign write. -/
def foreignWrite (s : State) (core : Core5) (addr : Nat) : State :=
  if inBlocks addr && blockOf addr == 1 then foreignCot s core
  else if inBlocks addr && blockOf addr == 2 then foreignLpe s core
  else busError s core (errKey addr)

/-- The meaning of REGISTER_WRITE (R27, R463): a word write; one that the map does not permit has no effect and ends in a bus
error. -/
def execRegisterWrite (core : Core5) (addr : Nat) (value : Word) (s : State) : Out :=
  if isCsr addr then csrWrite s core addr value.toNat
  else if mayWrite core addr then writeMap (accessOk s) core (addr - addr % 4) value.toNat
  else .next (foreignWrite s core addr)

end Sys2Proof.Machine
end

