-- ==== Sys2Proof/Machine/Dispatch.lean ====
section
/-! DEFINITION. The dispatch: one arm per command, each one direct call of its meaning. -/
namespace Sys2Proof.Machine

/-- What a command does to everything but the queue. -/
def exec (i : Instr) (s : State) : Host.Outcome State Fault Refusal :=
  match i with
  | .auxSupplyApplied => Sys2Proof.Machine.execAuxSupplyApplied s
  | .supply54vInRange b => Sys2Proof.Machine.execSupply54vInRange b s
  | .roleNegotiationTimeout => Sys2Proof.Machine.execRoleNegotiationTimeout s
  | .liveReq core set => Sys2Proof.Machine.execLiveReq core set s
  | .supply54vOutOfRange => Sys2Proof.Machine.execSupply54vOutOfRange s
  | .stringFedTimeout => Sys2Proof.Machine.execStringFedTimeout s
  | .powerFailWarning => Sys2Proof.Machine.execPowerFailWarning s
  | .holdupFlushComplete => Sys2Proof.Machine.execHoldupFlushComplete s
  | .holdupCommit e => Sys2Proof.Machine.execHoldupCommit e s
  | .holdupCutoff => Sys2Proof.Machine.execHoldupCutoff s
  | .moduleRestart b => Sys2Proof.Machine.execModuleRestart b s
  | .meridianPulse p => Sys2Proof.Machine.execMeridianPulse p s
  | .extraMeridianEdge => Sys2Proof.Machine.execExtraMeridianEdge s
  | .missedPulse e => Sys2Proof.Machine.execMissedPulse e s
  | .twilightStart => Sys2Proof.Machine.execTwilightStart s
  | .signatureComplete => Sys2Proof.Machine.execSignatureComplete s
  | .lowerTreeBuild => Sys2Proof.Machine.execLowerTreeBuild s
  | .loopSample input => Sys2Proof.Machine.execLoopSample input s
  | .lpMove c d a => Sys2Proof.Machine.execLpMove c d a s
  | .lpAdd c d a b => Sys2Proof.Machine.execLpAdd c d a b s
  | .lpSubtract c d a b => Sys2Proof.Machine.execLpSubtract c d a b s
  | .lpCompare c a b => Sys2Proof.Machine.execLpCompare c a b s
  | .lpShift c d a n => Sys2Proof.Machine.execLpShift c d a n s
  | .lpMin c d a b => Sys2Proof.Machine.execLpMin c d a b s
  | .lpMax c d a b => Sys2Proof.Machine.execLpMax c d a b s
  | .lpClamp c d a lo hi => Sys2Proof.Machine.execLpClamp c d a lo hi s
  | .lpMac c acc a fa b fb => Sys2Proof.Machine.execLpMac c acc a fa b fb s
  | .lpDivide c d a b => Sys2Proof.Machine.execLpDivide c d a b s
  | .lpBranch c onLess target => Sys2Proof.Machine.execLpBranch c onLess target s
  | .lpInputLoad c d inp => Sys2Proof.Machine.execLpInputLoad c d inp s
  | .lpOutputStore c phase a => Sys2Proof.Machine.execLpOutputStore c phase a s
  | .lpEnd c => Sys2Proof.Machine.execLpEnd c s
  | .passDeadline => Sys2Proof.Machine.execPassDeadline s
  | .fixedLawTakeover => Sys2Proof.Machine.execFixedLawTakeover s
  | .programReturn => Sys2Proof.Machine.execProgramReturn s
  | .fixedLawReturn r => Sys2Proof.Machine.execFixedLawReturn r s
  | .channelImplausible second => Sys2Proof.Machine.execChannelImplausible second s
  | .channelPlausible second => Sys2Proof.Machine.execChannelPlausible second s
  | .channelSelection r => Sys2Proof.Machine.execChannelSelection r s
  | .lpeFixrst core => Sys2Proof.Machine.execLpeFixrst core s
  | .lpeSelreq core => Sys2Proof.Machine.execLpeSelreq core s
  | .lpeRun core run => Sys2Proof.Machine.execLpeRun core run s
  | .loopProgramLoad r => Sys2Proof.Machine.execLoopProgramLoad r s
  | .loopProgramLoadDone sig => Sys2Proof.Machine.execLoopProgramLoadDone sig s
  | .loopProgramSelect r => Sys2Proof.Machine.execLoopProgramSelect r s
  | .cotTrigger x clk => Sys2Proof.Machine.execCotTrigger x clk s
  | .onTimeEnd phase clk => Sys2Proof.Machine.execOnTimeEnd phase clk s
  | .fastLimit phase clk => Sys2Proof.Machine.execFastLimit phase clk s
  | .pulseTruncation x begins clk => Sys2Proof.Machine.execPulseTruncation x begins clk s
  | .hiccup x => Sys2Proof.Machine.execHiccup x s
  | .hiccupRetry x => Sys2Proof.Machine.execHiccupRetry x s
  | .retryCountReset x => Sys2Proof.Machine.execRetryCountReset x s
  | .phaseShed x => Sys2Proof.Machine.execPhaseShed x s
  | .foldBack x => Sys2Proof.Machine.execFoldBack x s
  | .foldBackEnd x => Sys2Proof.Machine.execFoldBackEnd x s
  | .busOvervoltageLatch => Sys2Proof.Machine.execBusOvervoltageLatch s
  | .ovPhaseRelease phase crossing => Sys2Proof.Machine.execOvPhaseRelease phase crossing s
  | .linkOvervoltage x => Sys2Proof.Machine.execLinkOvervoltage x s
  | .stringLatchClear r => Sys2Proof.Machine.execStringLatchClear r s
  | .overvoltageLatchClear r => Sys2Proof.Machine.execOvervoltageLatchClear r s
  | .cotOvclr core => Sys2Proof.Machine.execCotOvclr core s
  | .cotLatclr core x => Sys2Proof.Machine.execCotLatclr core x s
  | .cotShedEn core on => Sys2Proof.Machine.execCotShedEn core on s
  | .cotStart core x => Sys2Proof.Machine.execCotStart core x s
  | .cotEna core x on => Sys2Proof.Machine.execCotEna core x on s
  | .cotPhenWrite core value => Sys2Proof.Machine.execCotPhenWrite core value s
  | .contactorMainCommand core x close => Sys2Proof.Machine.execContactorMainCommand core x close s
  | .contactorPrechargeCommand core x close => Sys2Proof.Machine.execContactorPrechargeCommand core x close s
  | .contactorHoldRelease x k => Sys2Proof.Machine.execContactorHoldRelease x k s
  | .prechargeGuardOpen x => Sys2Proof.Machine.execPrechargeGuardOpen x s
  | .prechargeOverlapOpen x => Sys2Proof.Machine.execPrechargeOverlapOpen x s
  | .linkDischargeDone x => Sys2Proof.Machine.execLinkDischargeDone x s
  | .prechargeComplete x => Sys2Proof.Machine.execPrechargeComplete x s
  | .prechargeTimeout x => Sys2Proof.Machine.execPrechargeTimeout x s
  | .contactorConfirmed x k closed => Sys2Proof.Machine.execContactorConfirmed x k closed s
  | .contactorDisagree x k => Sys2Proof.Machine.execContactorDisagree x k s
  | .softStartCrossing x => Sys2Proof.Machine.execSoftStartCrossing x s
  | .softStartTimeout x => Sys2Proof.Machine.execSoftStartTimeout x s
  | .zeroingComplete x => Sys2Proof.Machine.execZeroingComplete x s
  | .zeroingTimeout x => Sys2Proof.Machine.execZeroingTimeout x s
  | .powerBoardPresenceChange inductances => Sys2Proof.Machine.execPowerBoardPresenceChange inductances s
  | .busReferenceTarget r => Sys2Proof.Machine.execBusReferenceTarget r s
  | .referenceSlew r => Sys2Proof.Machine.execReferenceSlew r s
  | .driveEnLoss => Sys2Proof.Machine.execDriveEnLoss s
  | .phaseCheckComplete => Sys2Proof.Machine.execPhaseCheckComplete s
  | .strobe input => Sys2Proof.Machine.execStrobe input s
  | .positionTrip x pos ov => Sys2Proof.Machine.execPositionTrip x pos ov s
  | .tripAutoClear x pos => Sys2Proof.Machine.execTripAutoClear x pos s
  | .tripClear r => Sys2Proof.Machine.execTripClear r s
  | .umbraSurvey crossings => Sys2Proof.Machine.execUmbraSurvey crossings s
  | .hostBleedMasks r => Sys2Proof.Machine.execHostBleedMasks r s
  | .bleedMaskExpiry => Sys2Proof.Machine.execBleedMaskExpiry s
  | .wireSurveyRequest r => Sys2Proof.Machine.execWireSurveyRequest r s
  | .wireSurveySlot x k below above own => Sys2Proof.Machine.execWireSurveySlot x k below above own s
  | .openWireTest x wires => Sys2Proof.Machine.execOpenWireTest x wires s
  | .openWireTestRequest r => Sys2Proof.Machine.execOpenWireTestRequest r s
  | .openWireResult x wire dBelow dAbove => Sys2Proof.Machine.execOpenWireResult x wire dBelow dAbove s
  | .drawerRelease x d => Sys2Proof.Machine.execDrawerRelease x d s
  | .drawerInsert x d => Sys2Proof.Machine.execDrawerInsert x d s
  | .stringIsolate r => Sys2Proof.Machine.execStringIsolate r s
  | .endIsolation r => Sys2Proof.Machine.execEndIsolation r s
  | .thermistorRead temps => Sys2Proof.Machine.execThermistorRead temps s
  | .afeReport x dev => Sys2Proof.Machine.execAfeReport x dev s
  | .afeLinkLoss x dev => Sys2Proof.Machine.execAfeLinkLoss x dev s
  | .integratorLayerWrite r => Sys2Proof.Machine.execIntegratorLayerWrite r s
  | .ownerLayerWrite r => Sys2Proof.Machine.execOwnerLayerWrite r s
  | .ownerLayerAdopt layer => Sys2Proof.Machine.execOwnerLayerAdopt layer s
  | .guardNarrowing core q value => Sys2Proof.Machine.execGuardNarrowing core q value s
  | .guardEscalation q => Sys2Proof.Machine.execGuardEscalation q s
  | .guardAuthorisation bit => Sys2Proof.Machine.execGuardAuthorisation bit s
  | .authorisationExpiry bit => Sys2Proof.Machine.execAuthorisationExpiry bit s
  | .frameTransmit ch clock => Sys2Proof.Machine.execFrameTransmit ch clock s
  | .frameTransmitComplete ch => Sys2Proof.Machine.execFrameTransmitComplete ch s
  | .babbleCut ch => Sys2Proof.Machine.execBabbleCut ch s
  | .cutEnd ch => Sys2Proof.Machine.execCutEnd ch s
  | .busOffRecovery ch => Sys2Proof.Machine.execBusOffRecovery ch s
  | .paceFrame h p => Sys2Proof.Machine.execPaceFrame h p s
  | .capFrame h p => Sys2Proof.Machine.execCapFrame h p s
  | .heartbeatSend => Sys2Proof.Machine.execHeartbeatSend s
  | .heartbeat h p => Sys2Proof.Machine.execHeartbeat h p s
  | .shelfLeavesService shelf => Sys2Proof.Machine.execShelfLeavesService shelf s
  | .leadLeaseLapse => Sys2Proof.Machine.execLeadLeaseLapse s
  | .leadElection newKey => Sys2Proof.Machine.execLeadElection newKey s
  | .leadRelease r => Sys2Proof.Machine.execLeadRelease r s
  | .trayReport h p => Sys2Proof.Machine.execTrayReport h p s
  | .throttleRestore c => Sys2Proof.Machine.execThrottleRestore c s
  | .joinFrame h p => Sys2Proof.Machine.execJoinFrame h p s
  | .trayAbsenceLeave tray => Sys2Proof.Machine.execTrayAbsenceLeave tray s
  | .holdRelease => Sys2Proof.Machine.execHoldRelease s
  | .hintMismatch c => Sys2Proof.Machine.execHintMismatch c s
  | .unknownFrame h => Sys2Proof.Machine.execUnknownFrame h s
  | .keyFrame h p => Sys2Proof.Machine.execKeyFrame h p s
  | .keyRequest h node => Sys2Proof.Machine.execKeyRequest h node s
  | .groupKeyDistribution newKey => Sys2Proof.Machine.execGroupKeyDistribution newKey s
  | .read r => Sys2Proof.Machine.execRead r s
  | .readPending r => Sys2Proof.Machine.execReadPending r s
  | .write r => Sys2Proof.Machine.execWrite r s
  | .describe r => Sys2Proof.Machine.execDescribe r s
  | .malformedRequest r => Sys2Proof.Machine.execMalformedRequest r s
  | .segmentTimeout object => Sys2Proof.Machine.execSegmentTimeout object s
  | .writeForwardAck => Sys2Proof.Machine.execWriteForwardAck s
  | .writeForwardTimeout => Sys2Proof.Machine.execWriteForwardTimeout s
  | .sessionOpen q => Sys2Proof.Machine.execSessionOpen q s
  | .sessionMessage number counter authOk r => Sys2Proof.Machine.execSessionMessage number counter authOk r s
  | .sessionExpiry number => Sys2Proof.Machine.execSessionExpiry number s
  | .contractWrite r => Sys2Proof.Machine.execContractWrite r s
  | .breakerCapWrite r => Sys2Proof.Machine.execBreakerCapWrite r s
  | .rampLimitWrite r => Sys2Proof.Machine.execRampLimitWrite r s
  | .emergencyAnnouncement r => Sys2Proof.Machine.execEmergencyAnnouncement r s
  | .rectifierHealthChange mask ratings => Sys2Proof.Machine.execRectifierHealthChange mask ratings s
  | .feedLost volts => Sys2Proof.Machine.execFeedLost volts s
  | .feedRestored volts => Sys2Proof.Machine.execFeedRestored volts s
  | .hostAllocationTable r => Sys2Proof.Machine.execHostAllocationTable r s
  | .hostFillerAnswer r => Sys2Proof.Machine.execHostFillerAnswer r s
  | .hostSocTarget r => Sys2Proof.Machine.execHostSocTarget r s
  | .hostSocTargetExpiry => Sys2Proof.Machine.execHostSocTargetExpiry s
  | .attributionFold => Sys2Proof.Machine.execAttributionFold s
  | .featureFrame f => Sys2Proof.Machine.execFeatureFrame f s
  | .refreshStart => Sys2Proof.Machine.execRefreshStart s
  | .refreshDone sramFixed dramFixed inferred => Sys2Proof.Machine.execRefreshDone sramFixed dramFixed inferred s
  | .refreshDeadlineMiss => Sys2Proof.Machine.execRefreshDeadlineMiss s
  | .holdForecast => Sys2Proof.Machine.execHoldForecast s
  | .trainingPair => Sys2Proof.Machine.execTrainingPair s
  | .learningStep => Sys2Proof.Machine.execLearningStep s
  | .candidateEvaluation => Sys2Proof.Machine.execCandidateEvaluation s
  | .reshardBuildDone => Sys2Proof.Machine.execReshardBuildDone s
  | .reshardShadowCompare upset => Sys2Proof.Machine.execReshardShadowCompare upset s
  | .modelLoad r => Sys2Proof.Machine.execModelLoad r s
  | .modelLoadDone slot sig => Sys2Proof.Machine.execModelLoadDone slot sig s
  | .modelSelect r => Sys2Proof.Machine.execModelSelect r s
  | .clearSlot r => Sys2Proof.Machine.execClearSlot r s
  | .revertSignedWeights r => Sys2Proof.Machine.execRevertSignedWeights r s
  | .damagedSlotFetch slot mirror => Sys2Proof.Machine.execDamagedSlotFetch slot mirror s
  | .uncorrectableError held place => Sys2Proof.Machine.execUncorrectableError held place s
  | .scrubRead corrected => Sys2Proof.Machine.execScrubRead corrected s
  | .bondCrcFail channel addr data crc first held => Sys2Proof.Machine.execBondCrcFail channel addr data crc first held s
  | .engineTemperature m => Sys2Proof.Machine.execEngineTemperature m s
  | .fastModeExit => Sys2Proof.Machine.execFastModeExit s
  | .leaseRenewal => Sys2Proof.Machine.execLeaseRenewal s
  | .leaseWordReceived onLine word hello => Sys2Proof.Machine.execLeaseWordReceived onLine word hello s
  | .leaseClaim => Sys2Proof.Machine.execLeaseClaim s
  | .driveEnTimeout => Sys2Proof.Machine.execDriveEnTimeout s
  | .lockstepMismatch => Sys2Proof.Machine.execLockstepMismatch s
  | .driveConflict both => Sys2Proof.Machine.execDriveConflict both s
  | .explicitRelease why => Sys2Proof.Machine.execExplicitRelease why s
  | .sisterBlockReceived lane k => Sys2Proof.Machine.execSisterBlockReceived lane k s
  | .laneDown lane => Sys2Proof.Machine.execLaneDown lane s
  | .laneRetrained lane => Sys2Proof.Machine.execLaneRetrained lane s
  | .sisterLinkLost => Sys2Proof.Machine.execSisterLinkLost s
  | .stateRecord k => Sys2Proof.Machine.execStateRecord k s
  | .stateRecordDeadlineMiss => Sys2Proof.Machine.execStateRecordDeadlineMiss s
  | .epochImageSend => Sys2Proof.Machine.execEpochImageSend s
  | .epochImageReceived k => Sys2Proof.Machine.execEpochImageReceived k s
  | .handoverCommand r => Sys2Proof.Machine.execHandoverCommand r s
  | .clearDriveFault r => Sys2Proof.Machine.execClearDriveFault r s
  | .revertHandover => Sys2Proof.Machine.execRevertHandover s
  | .swapDrill => Sys2Proof.Machine.execSwapDrill s
  | .drillEnd => Sys2Proof.Machine.execDrillEnd s
  | .peerAbsent => Sys2Proof.Machine.execPeerAbsent s
  | .replacementAdoption r => Sys2Proof.Machine.execReplacementAdoption r s
  | .keyEnrolment r => Sys2Proof.Machine.execKeyEnrolment r s
  | .nodeTableWrite r => Sys2Proof.Machine.execNodeTableWrite r s
  | .firmwareLoad r sig => Sys2Proof.Machine.execFirmwareLoad r sig s
  | .activateBank r => Sys2Proof.Machine.execActivateBank r s
  | .commitTrial r => Sys2Proof.Machine.execCommitTrial r s
  | .trialBootFailed => Sys2Proof.Machine.execTrialBootFailed s
  | .trialAutoCommit => Sys2Proof.Machine.execTrialAutoCommit s
  | .evidenceRequest r => Sys2Proof.Machine.execEvidenceRequest r s
  | .onDemandSeal r => Sys2Proof.Machine.execOnDemandSeal r s
  | .unlockGrant r => Sys2Proof.Machine.execUnlockGrant r s
  | .endUnlock r => Sys2Proof.Machine.execEndUnlock r s
  | .unlockExpiry => Sys2Proof.Machine.execUnlockExpiry s
  | .challengeExpiry => Sys2Proof.Machine.execChallengeExpiry s
  | .passphraseVerifier r => Sys2Proof.Machine.execPassphraseVerifier r s
  | .passphraseAttempt r => Sys2Proof.Machine.execPassphraseAttempt r s
  | .passphraseRefusalEnd => Sys2Proof.Machine.execPassphraseRefusalEnd s
  | .entropyStop => Sys2Proof.Machine.execEntropyStop s
  | .entropyResume => Sys2Proof.Machine.execEntropyResume s
  | .userCalibrationWrite r => Sys2Proof.Machine.execUserCalibrationWrite r s
  | .traceArm core => Sys2Proof.Machine.execTraceArm core s
  | .traceSwtrig core => Sys2Proof.Machine.execTraceSwtrig core s
  | .traceTrigger => Sys2Proof.Machine.execTraceTrigger s
  | .traceDone => Sys2Proof.Machine.execTraceDone s
  | .snapshotFreeze => Sys2Proof.Machine.execSnapshotFreeze s
  | .snapshotRearm r => Sys2Proof.Machine.execSnapshotRearm r s
  | .traceConfiguration r => Sys2Proof.Machine.execTraceConfiguration r s
  | .recorderFrame vals => Sys2Proof.Machine.execRecorderFrame vals s
  | .recorderAutoStop => Sys2Proof.Machine.execRecorderAutoStop s
  | .recorderResume r => Sys2Proof.Machine.execRecorderResume r s
  | .exportContent r => Sys2Proof.Machine.execExportContent r s
  | .firstFaultClear r => Sys2Proof.Machine.execFirstFaultClear r s
  | .auxSyncFunction r => Sys2Proof.Machine.execAuxSyncFunction r s
  | .identify ld lenOk => Sys2Proof.Machine.execIdentify ld lenOk s
  | .getEventRecords ld lenOk => Sys2Proof.Machine.execGetEventRecords ld lenOk s
  | .clearEventRecords ld lenOk handles => Sys2Proof.Machine.execClearEventRecords ld lenOk handles s
  | .getEventInterruptPolicy ld lenOk => Sys2Proof.Machine.execGetEventInterruptPolicy ld lenOk s
  | .setEventInterruptPolicy ld lenOk policy => Sys2Proof.Machine.execSetEventInterruptPolicy ld lenOk policy s
  | .getFwInfo ld lenOk => Sys2Proof.Machine.execGetFwInfo ld lenOk s
  | .getSupportedLogs ld lenOk => Sys2Proof.Machine.execGetSupportedLogs ld lenOk s
  | .getLog ld lenOk => Sys2Proof.Machine.execGetLog ld lenOk s
  | .identifyMemoryDevice ld lenOk => Sys2Proof.Machine.execIdentifyMemoryDevice ld lenOk s
  | .getHealthInfo ld lenOk => Sys2Proof.Machine.execGetHealthInfo ld lenOk s
  | .getPoisonList ld lenOk => Sys2Proof.Machine.execGetPoisonList ld lenOk s
  | .dictionaryPlain ld lenOk r => Sys2Proof.Machine.execDictionaryPlain ld lenOk r s
  | .ownerStagingWrite ld lenOk session counter authOk offset data => Sys2Proof.Machine.execOwnerStagingWrite ld lenOk session counter authOk offset data s
  | .unsupportedCommand ld opcode => Sys2Proof.Machine.execUnsupportedCommand ld opcode s
  | .cxlMemRead ld offset len uncorrectable => Sys2Proof.Machine.execCxlMemRead ld offset len uncorrectable s
  | .cxlMemWrite ld offset data => Sys2Proof.Machine.execCxlMemWrite ld offset data s
  | .cxlLinkChange ev => Sys2Proof.Machine.execCxlLinkChange ev s
  | .dictionaryMirrorRefresh => Sys2Proof.Machine.execDictionaryMirrorRefresh s
  | .bridgeCrcFail bridge seq data crc first => Sys2Proof.Machine.execBridgeCrcFail bridge seq data crc first s
  | .referenceLoss => Sys2Proof.Machine.execReferenceLoss s
  | .referenceRestored => Sys2Proof.Machine.execReferenceRestored s
  | .crystalLoss => Sys2Proof.Machine.execCrystalLoss s
  | .crystalReturn => Sys2Proof.Machine.execCrystalReturn s
  | .pllLockLoss which => Sys2Proof.Machine.execPllLockLoss which s
  | .enginePllRelock => Sys2Proof.Machine.execEnginePllRelock s
  | .enginePllEnable core on => Sys2Proof.Machine.execEnginePllEnable core on s
  | .siderealRead core => Sys2Proof.Machine.execSiderealRead core s
  | .readClearRegister core addr => Sys2Proof.Machine.execReadClearRegister core addr s
  | .registerWrite core addr value => Sys2Proof.Machine.execRegisterWrite core addr value s
  | .engAperWrite core value => Sys2Proof.Machine.execEngAperWrite core value s
  | .interruptSource target source level => Sys2Proof.Machine.execInterruptSource target source level s
  | .icuClaim t => Sys2Proof.Machine.execIcuClaim t s
  | .icuComplete t source => Sys2Proof.Machine.execIcuComplete t source s
  | .icuPswp t value => Sys2Proof.Machine.execIcuPswp t value s
  | .icuSswp t source => Sys2Proof.Machine.execIcuSswp t source s
  | .icuXsig t target source => Sys2Proof.Machine.execIcuXsig t target source s
  | .icuSwp core w value => Sys2Proof.Machine.execIcuSwp core w value s
  | .icuRouteWrite core src target => Sys2Proof.Machine.execIcuRouteWrite core src target s
  | .icuFaultClear core => Sys2Proof.Machine.execIcuFaultClear core s
  | .busPrebiasCheck => Sys2Proof.Machine.execBusPrebiasCheck s
  | .engineWakeComplete => Sys2Proof.Machine.execEngineWakeComplete s
  | .learningStateMirror => Sys2Proof.Machine.execLearningStateMirror s
  | .sessionOpenReassemblyTimeout => Sys2Proof.Machine.execSessionOpenReassemblyTimeout s
  | .linkBelow1150 phase => Sys2Proof.Machine.execLinkBelow1150 phase s
  | .leadMeridianDrive => Sys2Proof.Machine.execLeadMeridianDrive s
  | .epochOwnGridOpen e => Sys2Proof.Machine.execEpochOwnGridOpen e s
  | .sisterAckTimeout lane => Sys2Proof.Machine.execSisterAckTimeout lane s
  | .sisterIdleBlock lane => Sys2Proof.Machine.execSisterIdleBlock lane s
  | .passphraseDurationEnd number => Sys2Proof.Machine.execPassphraseDurationEnd number s

end Sys2Proof.Machine
end

