-- ==== Sys2Proof/Safety.lean ====
section
/-! DEFINITION. What counts as a safe outcome of a step and as a sound state, and the words the statements use: a fault
record written, and what writing one may touch. -/
namespace Sys2Proof.Machine

/-- A step that answers a next state. -/
def Safe (o : Host.Outcome State Fault Refusal) : Prop := ∃ t, o = .next t

/-- The memory of the DRAM stack is in its canonical form. -/
def DramSound (s : State) : Prop := Memory.wf s.net.dram = true

/-- `t` holds one more occurrence of a fault record than `u` (R230): a new record at the head of the ring, or, below severity
latch, one more repeat of a record of the same block and cause less than 1 s old. -/
def Recorded (u t : State) (block severity cause : Nat) : Prop :=
  (t.recs.seq = u.recs.seq + 1 ∧ ∃ r : Record, t.recs.ring = (r :: u.recs.ring).take 512 ∧
    r.block = block ∧ r.severity = severity ∧ r.cause = cause ∧ r.seq = u.recs.seq ∧ r.tick = u.epo.ticks) ∨
  (severity < 3 ∧ t.recs.seq = u.recs.seq ∧ (∃ r ∈ u.recs.ring, mergesWith u block cause r = true) ∧
    t.recs.ring = mergeInto u block cause u.recs.ring)

/-- `t` differs from `u` at most in what writing a fault record touches (R117, R230, R259, R263, R364): the ring, the first-fault
latch, the snapshot trigger with the frames it still takes, the mark of a protective step, the recorder's auto-stop and the mark
of a failed trial. -/
def RecordFrame (u t : State) : Prop :=
  t = { u with
    recs.ring := t.recs.ring, recs.seq := t.recs.seq, recs.first := t.recs.first
    trc.snapDue := t.trc.snapDue, trc.snapLeft := t.trc.snapLeft, fac.stepDue := t.fac.stepDue
    trc.recStop := t.trc.recStop, sec.trialBad := t.sec.trialBad }

/-- `t` is `u` with one fault record written. -/
def Wrote (u t : State) (block severity cause : Nat) : Prop :=
  Recorded u t block severity cause ∧ RecordFrame u t

/-- The epoch of a received frame (R368, R425): carried whole, or its low 32 bits. -/
def epochIn (s : State) (h : Hdr) (full : Bool) : Nat := if full then h.epoch else extendEpoch s h.epoch

/-- A received frame passes every check of R424: format and identifier, source, tag, freshness. `full` tells whether it carries
48 bits of its epoch, `zero` whether a zero tag may pass, `exempt` whether the epoch window may be left out. -/
abbrev Passes (s : State) (h : Hdr) (full zero exempt : Bool) : Prop :=
  frameKnown h = true ∧ enrolledNode s (sourced s h).src = true ∧
  (tagOk s (epochIn s h full) h.tag || (zero && zeroOk s (sourced s h))) = true ∧
  mget s.sec.fresh (pairKey (sourced s h)) < pairOf h (epochIn s h full) ∧ inEpochs s (epochIn s h full) exempt = true

/-- What the acceptance of a frame of an `n`-byte payload leaves: it is counted, its pair is kept, its sender was heard. -/
def accepted (s : State) (h : Hdr) (n : Nat) (full : Bool) : State :=
  let u := bump (rxNote s h.chan n) 0x1002 0
  { u with
    sec.fresh := mset u.sec.fresh (pairKey (sourced s h)) (pairOf h (epochIn s h full))
    net.heard := mset u.net.heard (sourced s h).src (u.epo.ticks + 1) }


/-! ## An epoch that opens (R46, R51, R54) -/

/-- `t` is the state after an epoch opened in `s`: the counts advanced, the sample grid restarted, the transmit side empty, and
the plan of a complete twilight in force, a held plan kept. -/
def Opened (s t : State) : Prop :=
  t.epo.count = (s.epo.count + 1) % 2 ^ 48 ∧ t.epo.ticks = s.epo.ticks + 1 ∧ t.epo.sample = 0 ∧ t.epo.clk = 0 ∧
  t.net.sent = [] ∧ t.epo.twRunning = false ∧ t.epo.twPlan = false ∧ t.epo.m = 0 ∧
  (∀ p, s.epo.twRunning = true → s.epo.twPlan = true → s.epo.planNext = some p → t.epo.planN = p) ∧
  ((s.epo.twRunning && s.epo.twPlan) = false → t.epo.planN = s.epo.planN)

/-! ## Dictionary requests (13_dictionary_model.md) -/

/-- What a request's arrival brings before it is judged, and whether it is taken: on the field network its frame is checked
(R424, R425, R429). -/
abbrev arrives (s : State) (r : Req) : State × Bool := dictIn s r.can (frameSize r r.session.isSome) r.session.isNone

/-- The state in which a request is judged: its frame, its mailbox command (R408) and the request (R399) are counted. -/
def counted (s : State) (r : Req) : State := bump (mailCount (arrives s r).1 r.link) 0x1020 0

/-- A request of `role`, in session `k` or outside one, is taken and judged (R379, R390, R394, R406, R441): its link answers, and
it is no repeat. -/
abbrev Taken (s : State) (r : Req) (role : Role) (k : Option Session) : Prop :=
  answersOn s r.link = true ∧ mailCut s r.link = false ∧ r.link ≠ .ld 3 ∧ s.power.mstate ≠ .recovery ∧
  (arrives s r).2 = true ∧ requester s r = some (role, k) ∧ keptResp (counted s r) r = none

/-- A request that is well formed up to its object, operation and elements (R566). -/
abbrev Formed (r : Req) (op : Nat) : Prop :=
  20 ≤ r.arrived ∧ r.length = r.value.length ∧ r.gen = 1 ∧ r.op = op ∧ missing r = false

/-- A write that arrives whole passes every check of R25 and R390 on its object of descriptor `d`. -/
abbrev Admitted (s : State) (r : Req) (d : Desc) (role : Role) (k : Option Session) (img : Option Sig) : Prop :=
  Taken s r role k ∧ Formed r 2 ∧ objDesc r.object = some d ∧ r.flags % 4 = 3 ∧ r.offset = 0 ∧
  deniedWrite (counted s r) r k role d = false ∧
  checkWrite (counted s r) (wrOf r k role d r.value img) d r.count (headerReserved r) = 0

/-- The values a whole write gives its elements, as they arrive. -/
def written (r : Req) : List Nat :=
  match objDesc r.object with
  | some d => decodeVals d r.count r.value
  | none => []

/-- The value a whole write gives its first element. -/
def firstWritten (r : Req) : Nat := at0 (written r) 0

/-- No value of a write is clamped (R24). -/
abbrev Unclamped (s : State) (r : Req) : Prop := (written r).map (clampElem (counted s r) r.object) = written r

/-- `t` is `a` with the request `r` answered by code `c` (R386, R394, R395, R399): the code is counted, the response kept for
repeats, and delivered: sent, or held behind one that waits for the standby; nothing else changes. -/
def Replied (r : Req) (c : Nat) (a t : State) : Prop :=
  ∃ (p : Resp) (waits : Bool), p.result = c ∧ p.transaction = (respOf a r).transaction ∧
    t = deliver { countCode a c with
        dic.kept := a.dic.kept.filter (fun x => x.1 != keyOf r) ++ [(keyOf r, { r with can := none }, p, a.epo.ticks)] }
      r p waits

/-- The row's command, as the write of object `o`, is carried out wherever it passes: it answers code `c`, and its effect on the
state in which it is judged is `eff`, given the writer's role and session, the request and the first value written. -/
def Writes (row : Req → Instr) (o c : Nat) (eff : State → Role → Option Session → Req → Nat → State) : Prop :=
  ∀ r d role k s, Admitted s (Req.writing r o) d role k none → Unclamped s (Req.writing r o) →
    ∃ t, exec (row r) s = .next t ∧
      Replied (Req.writing r o) c (eff (counted s (Req.writing r o)) role k (Req.writing r o)
        (firstWritten (Req.writing r o))) t

/-- The same where the value is clamped to the guard, its layer or the contract (R24, R303, R399): the clamped value takes effect,
the clamp and its element are counted, and the code is 0x05. -/
def WritesClamped (row : Req → Instr) (o : Nat) (eff : State → Nat → State) : Prop :=
  ∀ r d role k s, Admitted s (Req.writing r o) d role k none → ¬ Unclamped s (Req.writing r o) →
    ∃ t, exec (row r) s = .next t ∧
      Replied (Req.writing r o) 0x05 (requestClamp (bumpN (eff (counted s (Req.writing r o))
        (clampElem (counted s (Req.writing r o)) o (firstWritten (Req.writing r o)))) 0x1020 10 1)) t

end Sys2Proof.Machine
end

