-- ==== Sys2Proof/Certificates/Slice0/Obligations.lean ====
section
/-! DEFINITION. The statements about the model, in the order of the spec's chapters, each citing the rules it says in Lean. -/
section
open Sys2Proof Sys2Proof.Machine

/-- Supply commands (R472, R520, R528, R529): the auxiliary supply brings a dark module to Umbra; a 54 V input back in range
stops the string-fed countdown of a powered module, in hold-up it sets the restart with WAKE 2; a 54 V input out of range starts
the countdown, and takes a module in Live to Watch; a power-fail warning puts any powered module into hold-up, with the engine
dark, staged writes and the signing queue discarded and the CXL and sister links down; the flush writes its record and the
marked commit, and each later commit carries the energy metered. Choices of the model in it: log entries 47 and 71. -/
def Obligations.SupplyCommandsMovePowerState : Prop :=
  (∀ s, s.power.mstate = .noSupply →
    exec .auxSupplyApplied s = .next { s with power.mstate := .umbra, power.pfw := false }) ∧
  (∀ b s, (s.power.mstate = .live ∨ s.power.mstate = .recovery) →
    exec (.supply54vInRange b) s = .next { s with power.sup54 := true, power.supStr := false }) ∧
  (∀ b s, s.power.mstate = .holdup →
    exec (.supply54vInRange b) s = .next { s with power.sup54 := true, power.wakeNext := some 2 }) ∧
  (∀ s, s.power.mstate = .watch →
    exec .supply54vOutOfRange s = .next { s with power.sup54 := false, power.supStr := true }) ∧
  (∀ s, s.power.mstate ≠ .noSupply → s.power.mstate ≠ .holdup → ∃ t,
    exec .powerFailWarning s = .next t ∧ t.power.mstate = .holdup ∧ t.power.pfw = true ∧ t.power.flushed = false ∧
    t.power.sup54 = false ∧ t.eng.state = .dark ∧ t.eng.started = none ∧ t.eng.holdFc = true ∧ t.dic.staged = [] ∧
    t.sec.queue = [] ∧ (s.red.relSet = false → t.red.handover = none) ∧ t.net.cxl = 0 ∧ t.red.linkUp = false ∧
    t.red.lanes.a.up = false ∧ t.red.lanes.b.up = false ∧
    t = { s with
      power := { s.power with
        mstate := .holdup, pfw := true, flushed := false, sup54 := false, supStr := false
        pulseCount := t.power.pulseCount, xlost := t.power.xlost, xdrop := t.power.xdrop, xTicks := t.power.xTicks }
      eng := t.eng, dic.staged := [], sec.queue := [], red.handover := t.red.handover, red.linkUp := false
      red.lanes := t.red.lanes, net.cxl := 0, trc.recQ := t.trc.recQ, recs.ring := t.recs.ring, recs.seq := t.recs.seq }) ∧
  (∀ s, s.power.mstate = .holdup → s.power.flushed = false → ∃ t,
    exec .holdupFlushComplete s = .next t ∧
    Wrote { s with power.flushed := true, power.commit := t.power.commit } t 9 2 0x07 ∧
    ∃ c, t.power.commit = some c ∧ c.flushed = true ∧ c.epoch = s.epo.count ∧ c.cum = s.fac.cum ∧
      c.cumUJ = s.fac.cumUJ ∧ c.cumStr = s.fac.cumStr ∧ c.minuteNo = s.fac.minuteNo) ∧
  (∀ e s, s.power.mstate = .holdup → s.power.flushed = true → ∃ t,
    exec (.holdupCommit e) s = .next t ∧
    t.fac.cum = (s.fac.cum + (s.fac.cumUJ + e.inputUJ) / 1000) % 2 ^ 64 ∧
    t.fac.cumUJ = (s.fac.cumUJ + e.inputUJ) % 1000 ∧
    t.fac.cumStr = ⟨s.fac.cumStr.a + e.strUJ.a, s.fac.cumStr.b + e.strUJ.b⟩ ∧
    (∃ c, t.power.commit = some c ∧ c.flushed = true ∧ c.cum = t.fac.cum ∧ c.cumUJ = t.fac.cumUJ ∧
      c.cumStr = t.fac.cumStr ∧ c.epoch = s.epo.count) ∧
    t = { s with power.commit := t.power.commit, fac := t.fac, lead.winEnergy := t.lead.winEnergy }) ∧
  (∀ s, s.power.mstate = .live → ∃ t, exec .supply54vOutOfRange s = .next t ∧ t.power.mstate = .watch ∧
    t.power.sup54 = false ∧ t.power.supStr = true ∧ t.red.driveEn = false ∧ t.red.role = .noRole ∧ t.eng.state = .dark)

/-- Entering Umbra or losing all supply (R471, R472, R473, R474, R530): after 60 s of Watch on the string-fed supply, on 54 V
out of range in recovery hold, or when the hold-up bank is empty, the module has no role, no lease of the shelf or the rack, no
drive, no contactor command, a dark engine, no link, no frame on or for the field network and nothing in the DRAM stack. Choices
of the model in it: log entry 41. -/
def Obligations.PowerLossDropsDrivesAndMemory : Prop :=
  let lost (s : State) (m : MState) (t : State) : Prop :=
    t.power.mstate = m ∧ t.power.liveReq = false ∧ t.red.role = .noRole ∧ t.red.timerOk = false ∧ t.red.remain = 0 ∧
    t.red.driveEn = false ∧ t.red.driveReq = false ∧ t.cot.cmd = 0 ∧ t.cot.active = 0 ∧ t.cot.onTime = 0 ∧
    t.eng.state = .dark ∧ t.eng.started = none ∧ t.lead.isLead = false ∧ t.lead.drives = false ∧ t.net.dram = [] ∧
    t.net.cxl = 0 ∧ t.red.linkUp = false ∧ t.red.lanes.a.up = false ∧ t.red.lanes.b.up = false ∧
    t.net.txA = [] ∧ t.net.txB = [] ∧ t.net.onA = none ∧ t.net.onB = none ∧
    t = { s with
      power := t.power, eng := t.eng, red := t.red, lead := t.lead, cot := t.cot, net := t.net, trc.recQ := t.trc.recQ
      recs.ring := t.recs.ring, recs.seq := t.recs.seq }
  (∀ s, s.power.mstate = .watch → s.power.sup54 = false → s.power.supStr = true → ∃ t,
    exec .stringFedTimeout s = .next t ∧ lost s .umbra t) ∧
  (∀ s, s.power.mstate = .recovery → ∃ t, exec .supply54vOutOfRange s = .next t ∧ lost s .umbra t) ∧
  (∀ s, s.power.mstate = .holdup → s.power.sup54 = false → ∃ t, exec .holdupCutoff s = .next t ∧ lost s .noSupply t)

/-- A restart (R360, R443, R471, R473, R521, R522): a module whose boot bank verifies starts in Watch from the bank that boots,
with no role, no session, no grant, no lease of the shelf or the rack, and the loop stopped; the identity, the queue and the
DRAM stack outside the record archive stay, and the archive is filled again from MRAM. With no bank that verifies it waits in
recovery. Choices of the model in it: log entries 35, 45, 54 and 108. -/
def Obligations.RestartEntersWatch : Prop :=
  let started (s : State) (b : BootIn) (wake : Nat) (t : State) : Prop :=
    (∀ k, bootBank s b = some k → t.power.mstate = .watch ∧ t.power.wake = wake ∧ t.sec.bankB = k ∧ t.red.role = .noRole ∧
      t.red.holding = false ∧ t.red.driveEn = false ∧ t.red.timerOk = false ∧ t.lead.isLead = false ∧
      t.sec.sessions = [] ∧ t.sec.grant = none ∧ t.lpe.run = false ∧ t.cot.cmd = 0 ∧
      (∀ a, (a < archive ∨ archive + 0x1C0000000 ≤ a) → memRead t.net.dram a = memRead s.net.dram a) ∧
      dramN t archive 8 = t.net.archiveSeq % 2 ^ 64 ∧ dramN t (archive + 24) 8 = t.fac.eventN % 2 ^ 64 ∧
      t.power.serial = s.power.serial ∧
      t.power.ident = s.power.ident ∧ t.pending = s.pending) ∧
    (bootBank s b = none → t.power.mstate = .recovery ∧ t.red.role = .noRole ∧ t.red.driveEn = false ∧ t.cot.cmd = 0)
  (∀ b s, s.power.mstate = .umbra → ∃ t, exec (.supply54vInRange b) s = .next t ∧
    started s b (if b.sidKept then 1 else 0) t) ∧
  (∀ b s, (s.power.mstate = .watch ∨ s.power.mstate = .live ∨ s.power.mstate = .recovery) → ∃ t,
    exec (.moduleRestart b) s = .next t ∧ started s b (s.power.wakeNext.getD 2) t) ∧
  (∀ b s, s.power.mstate = .holdup → s.power.flushed = true → s.power.sup54 = true → ∃ t,
    exec (.moduleRestart b) s = .next t ∧ started { s with power.pfw := false } b 2 t)

/-- The on-times of a string (R201, R202, R205, R212 to R215): the modulator runs to the clock of the command; a firing starts
the next phase of the rotation for the on-time of R201 once its minimum off-time is over, or waits for it, counted, while its
on-time runs; an on-time that is over clears the phase's limited cycles; the fast limit ends the on-time, counts the cycle and
lets every shed phase join; a truncation ends every on-time of the string and blanks its trigger until it ends. Choices of the
model in it: log entries 19, 27, 97 and 105. -/
def Obligations.StringOnTimes : Prop :=
  (∀ x p clk s, let u := runTo s clk
    modulates u = true → switching u x = true → (conv u x).blank = false → u.cot.ovLatch = false → valley u x = true →
    (conv u x).waiting = none → nextPhase (turnDirection u x) x = some p → bit u.cot.onTime p = false →
    atI u.cot.edge p + 80 ≤ (clk : Int) → ∃ t, exec (.cotTrigger x clk) s = .next t ∧
      t.cot.onTime = setBit u.cot.onTime p true ∧ t.cot.onClk = setAt u.cot.onClk p (onTimeOf (turnDirection u x) x) ∧
      t.cot.edge = setAt u.cot.edge p (clk : Int) ∧ (conv t x).waiting = none ∧
      (conv t x).charge = (conv (turnDirection u x) x).charge ∧ conv t x.other = conv u x.other ∧
      t = { u with cot := t.cot, dic.vals := t.dic.vals }) ∧
  (∀ p clk s, let u := runTo s clk
    bit u.cot.onTime p = true → onTimeOver u p clk = true →
    exec (.onTimeEnd p clk) s = .next { u with
      cot.onTime := setBit u.cot.onTime p false, cot.limitedRun := setAt u.cot.limitedRun p 0
      cot.lastLim := setBit u.cot.lastLim p false, cot.edge := setAt u.cot.edge p (clk : Int)
      cot.onSum := setAt u.cot.onSum p (at0 u.cot.onSum p + ((clk : Int) - atI u.cot.edge p - 16).toNat) }) ∧
  (∀ p clk s, let u := runTo s clk
    bit u.cot.onTime p = true → u.cot.ovLatch = false → ∃ t, exec (.fastLimit p clk) s = .next t ∧
    t.cot.onTime = setBit u.cot.onTime p false ∧ dget t 0x5021 0 = satInc (dget s 0x5021 0) 0xFFFFFFFF ∧
    t.cot.limitedRun = setAt u.cot.limitedRun p (at0 u.cot.limitedRun p + 1) ∧
    t.cot.lastLim = setBit u.cot.lastLim p true ∧ t.cot.flt = setBit u.cot.flt 0 true ∧
    (conv t (phaseStr p)).shed = 0 ∧ conv t (phaseStr p).other = conv u (phaseStr p).other ∧
    t = { u with cot := t.cot, dic.vals := t.dic.vals }) ∧
  (∀ x clk s, let u := runTo s clk
    (u.cot.onTime &&& strMask x) ≠ 0 → ∃ t, exec (.pulseTruncation x true clk) s = .next t ∧
    (conv t x).blank = true ∧ (∀ p ∈ phasesOf x, bit t.cot.onTime p = false) ∧
    dget t 0x5021 3 = satInc (dget s 0x5021 3) 0xFFFFFFFF ∧ t.cot.flt = setBit u.cot.flt 14 true ∧
    conv t x.other = conv u x.other ∧ t = { u with cot := t.cot, dic.vals := t.dic.vals }) ∧
  (∀ x clk s, let u := runTo s clk
    exec (.pulseTruncation x false clk) s = .next (setConv u x { conv u x with blank := false })) ∧
  (∀ x p clk s, let u := runTo s clk
    modulates u = true → switching u x = true → (conv u x).blank = false → u.cot.ovLatch = false → valley u x = true →
    (conv u x).waiting = none → nextPhase (turnDirection u x) x = some p → bit u.cot.onTime p = true →
    ∃ t, exec (.cotTrigger x clk) s = .next t ∧ t.cot.onTime = u.cot.onTime ∧ (conv t x).waiting = some p ∧
      dget t 0x5021 4 = satInc (dget s 0x5021 4) 0xFFFFFFFF ∧ t.cot.flt = setBit u.cot.flt 15 true ∧
      conv t x.other = conv u x.other ∧ t = { u with cot := t.cot, dic.vals := t.dic.vals })

/-- Precharge and soft start of a string (R212, R221 to R225): ENA from off enters precharge, with the link discharged into the
bus first where it lies more than 10 V above the string, and closes the precharge contactor; ENA cleared in run starts zeroing;
a precharge that completes closes the main contactor; a confirmed main close opens the precharge contactor and makes the string
ready; START begins V_ss 10 V below the bus where both channels read 700 V, and is otherwise refused with cause 0x08; the
crossing lets the string run; the precharge and soft-start timeouts end with causes 0x06 and 0x09. -/
def Obligations.PrechargeAndSoftStart : Prop :=
  (∀ x s, (conv s x).st = .off → s.cot.strV.get x + 10000 < s.cot.linkV.get x →
    exec (.cotEna .rt x true) s =
      .next (setConv s x { conv s x with ena := true, st := .precharge, equal := true, tried := false })) ∧
  (∀ x s, (conv s x).st = .off → s.cot.linkV.get x ≤ s.cot.strV.get x + 10000 → bit s.cot.cmd (kIdx x .pre) = false →
    closedRecently s (kIdx x .pre) = false → ∃ t, exec (.cotEna .rt x true) s = .next t ∧
      (conv t x).st = .precharge ∧ (conv t x).ena = true ∧ t.cot.cmd = setBit s.cot.cmd (kIdx x .pre) true ∧
      t = { s with cot := t.cot, grd := t.grd }) ∧
  (∀ x s, (conv s x).st = .run → ∃ t, exec (.cotEna .rt x false) s = .next t ∧
    (conv t x).st = .zeroing ∧ (conv t x).after = .off ∧ (conv t x).ena = false ∧ (conv t x).shed = 0 ∧
    (∀ p ∈ phasesOf x, atI t.cot.iref p = 0) ∧ t = { s with cot := t.cot, dic.vals := t.dic.vals }) ∧
  (∀ x s, (conv s x).st = .precharge → (conv s x).equal = true → s.cot.linkV.get x ≤ s.cot.strV.get x + 10000 →
    bit s.cot.cmd (kIdx x .pre) = false → closedRecently s (kIdx x .pre) = false → ∃ t,
    exec (.linkDischargeDone x) s = .next t ∧
      (conv t x).equal = false ∧ t.cot.cmd = setBit s.cot.cmd (kIdx x .pre) true ∧
      t = { s with cot := t.cot, grd := t.grd }) ∧
  (∀ x s, (conv s x).st = .precharge → (conv s x).equal = false → bit s.cot.cmd (kIdx x .main) = false →
    gateOpen s x = true → closesSpent s (kIdx x .main) = false → closedRecently s (kIdx x .main) = false →
    exec (.prechargeComplete x) s = .next (passCommand s (kIdx x .main) true)) ∧
  (∀ x s, (conv s x).st = .precharge → ∃ t, exec (.prechargeTimeout x) s = .next t ∧
    (conv t x).st = .off ∧ bit t.cot.cmd (kIdx x .pre) = false ∧ bit t.cot.cmd (kIdx x .main) = false ∧
    Wrote { s with cot := t.cot, grd := t.grd } t 1 2 0x06) ∧
  (∀ x s, (conv s x).st = .precharge → ∃ t, exec (.contactorConfirmed x .main true) s = .next t ∧
    (conv t x).st = .ready ∧ t.cot.fb = setBit s.cot.fb (kIdx x .main) true ∧
    t.cot.cmd = setBit s.cot.cmd (kIdx x .pre) false ∧ t = { s with cot := t.cot, grd := t.grd }) ∧
  (∀ x s, (conv s x).st = .ready → prebiased s = true → ∃ t, exec (.cotStart .rt x) s = .next t ∧
    (conv t x).st = .softStart ∧ (conv t x).vss = (busSel s - 10000) * 1000 ∧ (conv t x).shed = 0 ∧
    (∀ p ∈ phasesOf x, bit t.cot.active p = bit (enabledOf s x) p) ∧
    conv t x.other = conv s x.other ∧ t = { s with cot := t.cot }) ∧
  (∀ x s, (conv s x).st = .ready → prebiased s = false → ∃ t, exec (.cotStart .rt x) s = .next t ∧
    (conv t x).st = .ready ∧ conv t x.other = conv s x.other ∧ Wrote { s with cot := t.cot } t 1 0 0x08) ∧
  (∀ x s, (conv s x).st = .softStart → 1000 * busSel s ≤ (conv s x).vss → ∃ t,
    exec (.softStartCrossing x) s = .next t ∧ (conv t x).st = .run ∧ (conv t x).noShed = 250 ∧
    t.cot.vFollow ≠ some x ∧ conv t x.other = conv s x.other ∧ t = { s with cot := t.cot }) ∧
  (∀ x s, (conv s x).st = .softStart → ∃ t, exec (.softStartTimeout x) s = .next t ∧
    (conv t x).st = .ready ∧ (conv t x).vss = 0 ∧ (∀ p ∈ phasesOf x, bit t.cot.active p = false) ∧
    conv t x.other = conv s x.other ∧ Wrote { s with cot := t.cot } t 1 2 0x09)

/-- The guard's contactor rules (R222 to R224, R305): a main close needs the gate open and is refused, counted and recorded
where it is shut or 12 closes fell within 60 min; a close within 1 s of the last is held, and passes once that is over; an open
waits while a phase of the string switches; the guard opens a precharge contactor left closed, alone or beside the main one; a
contact that disagrees latches the string; zeroing ends with the contactors open, and its timeout turns the phases off. -/
def Obligations.ContactorRules : Prop :=
  (∀ x s, bit s.cot.cmd (kIdx x .main) = false → gateOpen s x = true → closesSpent s (kIdx x .main) = false →
    closedRecently s (kIdx x .main) = false →
    exec (.contactorMainCommand .rt x true) s = .next (passCommand s (kIdx x .main) true)) ∧
  (∀ x s, bit s.cot.cmd (kIdx x .main) = false → gateOpen s x = false → ∃ t,
    exec (.contactorMainCommand .rt x true) s = .next t ∧ t.cot = s.cot ∧
    dget t 0x5021 9 = satInc (dget s 0x5021 9) 0xFFFFFFFF ∧ dget t 0x5083 67 = satInc (dget s 0x5083 67) 0xFFFFFFFF ∧
    Wrote { s with dic.vals := t.dic.vals } t 4 2 0x06) ∧
  (∀ x s, bit s.cot.cmd (kIdx x .main) = false → gateOpen s x = true → closesSpent s (kIdx x .main) = true → ∃ t,
    exec (.contactorMainCommand .rt x true) s = .next t ∧ t.cot = s.cot ∧
    dget t 0x5083 67 = satInc (dget s 0x5083 67) 0xFFFFFFFF ∧ Wrote { s with dic.vals := t.dic.vals } t 4 2 0x06) ∧
  (∀ x s, nActive s x = 0 → exec (.contactorMainCommand .rt x false) s = .next (passCommand s (kIdx x .main) false)) ∧
  (∀ x s, nActive s x ≠ 0 → s.cot.ovLatch = false → ∃ t, exec (.contactorMainCommand .rt x false) s = .next t ∧
    t.cot.cmd = s.cot.cmd ∧ (kIdx x .main, false) ∈ t.grd.heldCmd ∧ (conv t x).st = .zeroing ∧
    t = { s with cot := t.cot, grd := t.grd, dic.vals := t.dic.vals }) ∧
  (∀ x s, bit s.cot.cmd (kIdx x .pre) = false → closedRecently s (kIdx x .pre) = true → ∃ t,
    exec (.contactorPrechargeCommand .rt x true) s = .next t ∧ t.cot = s.cot ∧ (kIdx x .pre, true) ∈ t.grd.heldCmd ∧
    t = { s with grd := t.grd, dic.vals := t.dic.vals }) ∧
  (∀ x s, exec (.contactorPrechargeCommand .rt x false) s = .next (passCommand s (kIdx x .pre) false)) ∧
  (∀ x s, s.grd.heldCmd.contains (kIdx x .pre, true) = true → closedRecently s (kIdx x .pre) = false →
    bit s.cot.cmd (kIdx x .pre) = false → ∃ t, exec (.contactorHoldRelease x .pre) s = .next t ∧
    t.cot = { s.cot with cmd := setBit s.cot.cmd (kIdx x .pre) true } ∧ (∀ h ∈ t.grd.heldCmd, h.1 ≠ kIdx x .pre) ∧
    t = { s with cot := t.cot, grd := t.grd }) ∧
  (∀ x s, bit s.cot.cmd (kIdx x .pre) = true → bit s.cot.cmd (kIdx x .main) = false → ∃ t,
    exec (.prechargeGuardOpen x) s = .next t ∧ bit t.cot.cmd (kIdx x .pre) = false ∧
    ((conv s x).st = .precharge → (conv t x).st = .off) ∧ conv t x.other = conv s x.other ∧
    t = { s with cot := t.cot, grd := t.grd }) ∧
  (∀ x s, bit s.cot.cmd (kIdx x .pre) = true → bit s.cot.cmd (kIdx x .main) = true →
    exec (.prechargeOverlapOpen x) s = .next (passCommand s (kIdx x .pre) false)) ∧
  (∀ x k s, bit s.cot.cmd (kIdx x k) ≠ bit s.cot.fb (kIdx x k) → ∃ t, exec (.contactorDisagree x k) s = .next t ∧
    (conv t x).ownLatch = true ∧ t.cot.flt = setBit s.cot.flt (9 + x.idx) true ∧
    t.fac.mFlags = setBit s.fac.mFlags 11 true ∧ dget t 0x5021 2 = satInc (dget s 0x5021 2) 0xFFFFFFFF ∧
    Wrote { s with cot := t.cot, grd := t.grd, fac.mFlags := t.fac.mFlags, dic.vals := t.dic.vals } t 1 3 0x07) ∧
  (∀ x s, (conv s x).st = .zeroing → ∃ t, exec (.zeroingComplete x) s = .next t ∧
    (conv t x).st = (conv s x).after ∧ bit t.cot.cmd (kIdx x .pre) = false ∧ bit t.cot.cmd (kIdx x .main) = false ∧
    (∀ p ∈ phasesOf x, bit t.cot.active p = false) ∧ conv t x.other = conv s x.other ∧
    t = { s with cot := t.cot, grd := t.grd }) ∧
  (∀ x s, (conv s x).st = .zeroing → ∃ t, exec (.zeroingTimeout x) s = .next t ∧
    (∀ p ∈ phasesOf x, bit t.cot.active p = false) ∧ t.cot.str = s.cot.str ∧ t.cot.cmd = s.cot.cmd ∧
    t = { s with cot := t.cot })

/-- Current limits and shedding of a string (R207, R215, R216): the 20th limited cycle turns the phases off for a hiccup, which
latches after the third retry; a retry, 10 ms on, restarts soft start and is counted, and the count of a running string is reset
by the event of 1 s without a limited cycle; fold-back begins at an empty budget, with a warning and every shed phase back, and
ends at 7.5 s; a shed takes the highest phase of the rotation out, and an add due in the same sample brings the lowest shed one
back instead. Choices of the model in it: log entries 17, 73 and 97. -/
def Obligations.CurrentLimitsAndShedding : Prop :=
  (∀ x s, hiccupDue s x = true → (conv s x).st = .run → (conv s x).retries < 3 → ∃ t, exec (.hiccup x) s = .next t ∧
    (conv t x).st = .hiccup ∧ dget t 0x5021 1 = satInc (dget s 0x5021 1) 0xFFFFFFFF ∧
    (∀ p ∈ phasesOf x, bit t.cot.active p = false ∧ at0 t.cot.limitedRun p = 0) ∧ conv t x.other = conv s x.other ∧
    Wrote { s with cot := t.cot, dic.vals := t.dic.vals } t 1 1 0x01) ∧
  (∀ x s, hiccupDue s x = true → (conv s x).st = .run → 3 ≤ (conv s x).retries → ∃ t, exec (.hiccup x) s = .next t ∧
    (conv t x).ownLatch = true ∧ (conv t x).st = .latched ∧ bit t.cot.cmd (kIdx x .main) = false ∧
    dget t 0x5021 2 = satInc (dget s 0x5021 2) 0xFFFFFFFF ∧ t.fac.mFlags = setBit s.fac.mFlags 11 true ∧
    Wrote { s with cot := t.cot, grd := t.grd, fac.mFlags := t.fac.mFlags, dic.vals := t.dic.vals } t 1 3 0x02) ∧
  (∀ x s, (conv s x).st = .hiccup → (conv s x).hicLeft = 0 → prebiased s = true → ∃ t, exec (.hiccupRetry x) s = .next t ∧
    (conv t x).st = .softStart ∧ (conv t x).retries = (conv s x).retries + 1 ∧ conv t x.other = conv s x.other ∧
    t = { s with cot := t.cot }) ∧
  (∀ x s, (conv s x).st = .run →
    exec (.retryCountReset x) s = .next (setConv s x { conv s x with retries := 0 })) ∧
  (∀ x s, (conv s x).budget = 0 → (conv s x).fold = false → (conv s x).fold2 = false → ∃ t, exec (.foldBack x) s = .next t ∧
    (conv t x).fold = true ∧ (conv t x).shed = 0 ∧ dget t 0x5021 7 = satInc (dget s 0x5021 7) 0xFFFFFFFF ∧
    t.cot.flt = setBit s.cot.flt (3 + x.idx) true ∧ conv t x.other = conv s x.other ∧
    Wrote { s with cot := t.cot, dic.vals := t.dic.vals } t 1 1 0x03) ∧
  (∀ x s, (conv s x).fold = true → 7500000000 ≤ (conv s x).budget →
    exec (.foldBackEnd x) s = .next (setConv s x { conv s x with fold := false })) ∧
  (∀ x p s, shedDue s x = true → addDue s x = false → firstIn (stayOf s x) (phasesOf x).reverse = some p → ∃ t,
    exec (.phaseShed x) s = .next t ∧
    t.cot.active = s.cot.active ∧ (conv t x).shed = setBit (conv s x).shed (p % 12) true ∧
    (conv t x).dwell = 0 ∧ dget t 0x5021 5 = satInc (dget s 0x5021 5) 0xFFFFFFFF ∧ conv t x.other = conv s x.other ∧
    t = { s with cot := t.cot, dic.vals := t.dic.vals }) ∧
  (∀ x p s, shedDue s x = true → addDue s x = true → firstIn (shedOf s x) (phasesOf x) = some p → ∃ t,
    exec (.phaseShed x) s = .next t ∧ t.cot.active = setBit s.cot.active p true ∧
    (conv t x).shed = setBit (conv s x).shed (p % 12) false ∧ (conv t x).joined = some p ∧ (conv t x).dwell = 0 ∧
    dget t 0x5021 6 = satInc (dget s 0x5021 6) 0xFFFFFFFF ∧ conv t x.other = conv s x.other ∧
    t = { s with cot := t.cot, dic.vals := t.dic.vals })

/-- The overvoltage latch and the link limit (R217 to R220, R226, R229, R232, R308): the event of 880 V sets the latch, counted
and recorded, opens the contactors of an active module and asserts FAULT_L; under it a phase releases its low side at −60 A and
takes it back at the crossing; a link at 1,200 V holds its phases off under the latch, until it lies below 1,150 V, and outside
the latch latches its string; OVCLR and LATCLR act under the guard's authorisation and are otherwise ignored and counted.
Choices of the model in it: log entry 22. -/
def Obligations.OvervoltageLatch : Prop :=
  (∀ s, s.cot.ovLatch = false → isActive s = true → ∃ t, exec .busOvervoltageLatch s = .next t ∧
    t.cot.ovLatch = true ∧ (conv t .A).st = .ovLatch ∧ (conv t .B).st = .ovLatch ∧
    (∀ x k, bit t.cot.cmd (kIdx x k) = false) ∧ dget t 0x5021 8 = satInc (dget s 0x5021 8) 0xFFFFFFFF ∧
    t.cot.flt = setBit s.cot.flt 13 true ∧ t.fac.mFlags = setBit s.fac.mFlags 11 true ∧
    (s.power.mstate ≠ .recovery → faultLine t = true) ∧
    Wrote { s with cot := t.cot, grd := t.grd, fac.mFlags := s.fac.mFlags, dic.vals := t.dic.vals }
      { t with fac.mFlags := s.fac.mFlags } 1 3 0x04) ∧
  (∀ s, s.cot.ovLatch = false → isActive s = false → ∃ t, exec .busOvervoltageLatch s = .next t ∧
    t.cot.ovLatch = true ∧ t.cot.str = s.cot.str ∧ t.cot.cmd = s.cot.cmd ∧
    Wrote { s with cot := t.cot, dic.vals := t.dic.vals } t 1 3 0x04) ∧
  (∀ p c s, s.cot.ovLatch = true →
    exec (.ovPhaseRelease p c) s = .next { s with cot.ovOff := setBit s.cot.ovOff p (!c) }) ∧
  (∀ x s, s.cot.ovLatch = true → exec (.linkOvervoltage x) s = .next { s with
    cot.flt := setBit s.cot.flt (11 + x.idx) true, cot.linkOff := s.cot.linkOff ||| strMask x }) ∧
  (∀ x s, s.cot.ovLatch = false → ∃ t, exec (.linkOvervoltage x) s = .next t ∧
    (conv t x).ownLatch = true ∧ (∀ p ∈ phasesOf x, bit t.cot.active p = false) ∧
    t.cot.flt = setBit s.cot.flt (11 + x.idx) true ∧
    Wrote { s with cot := t.cot, grd := t.grd, fac.mFlags := t.fac.mFlags, dic.vals := t.dic.vals } t 1 3 0x05) ∧
  (∀ p s, s.cot.ovLatch = true →
    exec (.linkBelow1150 p) s = .next { s with cot.linkOff := setBit s.cot.linkOff p false }) ∧
  (∀ s, s.cot.ovLatch = true → bit s.grd.auth 5 = true → ∃ t, exec (.cotOvclr .rt) s = .next t ∧
    t.cot.ovLatch = false ∧ (∀ x, (conv s x).st = .ovLatch →
      (conv t x).st = (if (conv s x).ownLatch then .latched else restState s x)) ∧
    Wrote { s with cot := t.cot, grd := t.grd } t 1 0 0x0D) ∧
  (∀ s, bit s.grd.auth 5 = false → exec (.cotOvclr .rt) s = .next (bump s 0x5021 11)) ∧
  (∀ x s, (conv s x).ownLatch = true → bit s.grd.auth (3 + x.idx) = true → ∃ t, exec (.cotLatclr .rt x) s = .next t ∧
    (conv t x).ownLatch = false ∧ (conv t x).retries = 0 ∧ ((conv s x).st = .latched → (conv t x).st = restState s x) ∧
    conv t x.other = conv s x.other ∧ Wrote { s with cot := t.cot, grd := t.grd } t 1 0 0x0D) ∧
  (∀ x s, bit s.grd.auth (3 + x.idx) = false → exec (.cotLatclr .rt x) s = .next (bump s 0x5021 11))

/-- Other converter registers and events (R203, R208, R226, R231, R232, R235): SHED_EN is written; COT_PHEN is ignored and
counted where fewer than 2 enabled phases would remain in a string, and otherwise stops the phases it disables; an inductance
outside 20 to 200 µH refuses its phase; the loss of DRIVE_EN turns every switch off; a COT register written by another core is
ignored, counted, and answered with a bus error. Choices of the model in it: log entry 63. -/
def Obligations.ConverterRegisters : Prop :=
  (∀ on s, exec (.cotShedEn .rt on) s = .next { s with cot.shedEn := on }) ∧
  (∀ v s, (let u := { s with cot.phen := v.toNat % 2 ^ 24 }; nEnabled u .A < 2 ∨ nEnabled u .B < 2) →
    exec (.cotPhenWrite .rt v) s = .next (bump s 0x5021 11)) ∧
  (∀ v s, (let u := { s with cot.phen := v.toNat % 2 ^ 24 }; 2 ≤ nEnabled u .A ∧ 2 ≤ nEnabled u .B) → ∃ t,
    exec (.cotPhenWrite .rt v) s = .next t ∧ t.cot.phen = v.toNat % 2 ^ 24 ∧
    (∀ x, switching s x = true → ∀ p ∈ phasesOf x, bit (enabledOf t x) p = false → bit t.cot.active p = false) ∧
    t = { s with cot := t.cot }) ∧
  (∀ l s, ∃ t, exec (.powerBoardPresenceChange l) s = .next t ∧
    (∀ p, p < 24 → bit t.cot.refused p = !(decide (200 ≤ at0 l p) && decide (at0 l p ≤ 2000))) ∧
    t = { s with
      cot := t.cot, dic.vals := t.dic.vals, recs := t.recs, trc := t.trc, sec := t.sec
      fac.stepDue := t.fac.stepDue }) ∧
  (∀ s, exec .driveEnLoss s = .next { s with red.driveEn := false, cot.onTime := 0, cot.active := 0 }) ∧
  (∀ c x close k v on s, c ≠ .rt → ∀ i ∈ [Instr.cotStart c x, .cotEna c x on, .cotShedEn c on, .cotPhenWrite c v,
      .cotOvclr c, .cotLatclr c x, .contactorMainCommand c x close, .contactorPrechargeCommand c k close],
    exec i s = .next (busError (bump s 0x5021 11) c 1))

/-- Loop-engine arithmetic (R241, R242): in a running pass that completes by clock 720, a move, add, subtract, shift, min, max,
clamp, multiply-accumulate or divide whose operands and result lie in their formats writes its result to its destination,
advances the program counter and its clocks, and leaves everything outside its context unchanged. Choices of the model in it:
log entry 12. -/
def Obligations.LoopArithmetic : Prop :=
  let fin (x y : LoopCtx) (n : Nat) : LoopCtx := { y with pc := (x.pc + 1) % 4096, clk := x.clk + n }
  let clean (x : LoopCtx) (l : List LOp) : Prop := ∀ o ∈ l, (lread x o).2 = false
  ∀ c s, passRuns s c = true →
    (∀ d a, (lctx s c).clk + 1 ≤ 720 → clean (lctx s c) [a] → exec (.lpMove c d a) s =
      .next (setLctx s c (fin (lctx s c) (lwrite (lctx s c) d (lread (lctx s c) a).1) 1))) ∧
    (∀ d a b, (lctx s c).clk + 1 ≤ 720 → clean (lctx s c) [a, b] →
      fits32 ((lread (lctx s c) a).1 + (lread (lctx s c) b).1) = true → exec (.lpAdd c d a b) s = .next (setLctx s c
        (fin (lctx s c) (lwrite (lctx s c) d ((lread (lctx s c) a).1 + (lread (lctx s c) b).1)) 1))) ∧
    (∀ d a b, (lctx s c).clk + 1 ≤ 720 → clean (lctx s c) [a, b] →
      fits32 ((lread (lctx s c) a).1 - (lread (lctx s c) b).1) = true → exec (.lpSubtract c d a b) s = .next (setLctx s c
        (fin (lctx s c) (lwrite (lctx s c) d ((lread (lctx s c) a).1 - (lread (lctx s c) b).1)) 1))) ∧
    (∀ d a n, (lctx s c).clk + 1 ≤ 720 → clean (lctx s c) [a] →
      fits32 ((lread (lctx s c) a).1 * 2 ^ n) = true → exec (.lpShift c d a (n : Nat)) s = .next (setLctx s c
        (fin (lctx s c) (lwrite (lctx s c) d ((lread (lctx s c) a).1 * 2 ^ n)) 1))) ∧
    (∀ d a (n : Nat), (lctx s c).clk + 1 ≤ 720 → clean (lctx s c) [a] → 0 < n →
      exec (.lpShift c d a (-(n : Int))) s = .next (setLctx s c
        (fin (lctx s c) (lwrite (lctx s c) d ((lread (lctx s c) a).1 / 2 ^ n)) 1))) ∧
    (∀ d a b, (lctx s c).clk + 1 ≤ 720 → clean (lctx s c) [a, b] → exec (.lpMin c d a b) s = .next (setLctx s c
        (fin (lctx s c) (lwrite (lctx s c) d (min (lread (lctx s c) a).1 (lread (lctx s c) b).1)) 1))) ∧
    (∀ d a b, (lctx s c).clk + 1 ≤ 720 → clean (lctx s c) [a, b] → exec (.lpMax c d a b) s = .next (setLctx s c
        (fin (lctx s c) (lwrite (lctx s c) d (max (lread (lctx s c) a).1 (lread (lctx s c) b).1)) 1))) ∧
    (∀ d a l h, (lctx s c).clk + 1 ≤ 720 → clean (lctx s c) [a, l, h] → exec (.lpClamp c d a l h) s =
      .next (setLctx s c (fin (lctx s c) (lwrite (lctx s c) d
        (clampI (lread (lctx s c) a).1 (lread (lctx s c) l).1 (lread (lctx s c) h).1)) 1))) ∧
    (∀ i a b, (lctx s c).clk + 1 ≤ 720 → clean (lctx s c) [a, b] →
      sat64 (atI (lctx s c).accs i + (lread (lctx s c) a).1 * (lread (lctx s c) b).1) =
        atI (lctx s c).accs i + (lread (lctx s c) a).1 * (lread (lctx s c) b).1 →
      exec (.lpMac c i a .q8_24 b .q8_24) s = .next (setLctx s c (fin (lctx s c) { lctx s c with
        accs := setAt (lctx s c).accs i
          (atI (lctx s c).accs i + (lread (lctx s c) a).1 * (lread (lctx s c) b).1) } 1))) ∧
    (∀ d a b, (lctx s c).clk + 20 ≤ 720 → clean (lctx s c) [a, b] → (lread (lctx s c) b).1 ≠ 0 →
      fits32 (tdiv ((lread (lctx s c) a).1 * 16777216) (lread (lctx s c) b).1) = true →
      exec (.lpDivide c d a b) s = .next (setLctx s c (fin (lctx s c) (lwrite (lctx s c) d
        (tdiv ((lread (lctx s c) a).1 * 16777216) (lread (lctx s c) b).1)) 20)))

/-- Saturation and results outside the format (R241, R242, R255, R257): a divisor of 0 with a positive dividend gives the
largest value, makes the pass unclean, sets SAT, is counted in object 0x5055[3] and writes cause 0x07; an accumulator that
leaves its range saturates; an add, subtract, shift or divide completes on any operands, and where its result lies in the format
it is the exact one, no value being stated otherwise (log entry 12); an instruction that would pass clock 720 does nothing. -/
def Obligations.LoopSaturation : Prop :=
  (∀ c d a b s, passRuns s c = true → (lctx s c).clk + 20 ≤ 720 → 0 < (lread (lctx s c) a).1 → (lread (lctx s c) b).1 = 0 →
    ∃ t, exec (.lpDivide c d a b) s = .next t ∧
      lctx t c = { lwrite (lctx s c) d 2147483647 with
        pc := ((lctx s c).pc + 1) % 4096, clk := (lctx s c).clk + 20, dirty := true } ∧
      t.lpe.satFlag = true ∧ dget t 0x5055 3 = satInc (dget s 0x5055 3) 0xFFFFFFFF ∧
      Wrote { s with lpe := t.lpe, dic.vals := t.dic.vals } t 2 1 0x07) ∧
  (∀ c d a b s, passRuns s c = true → (lctx s c).clk + 1 ≤ 720 → ∃ t, exec (.lpAdd c d a b) s = .next t ∧
    (lctx t c).pc = ((lctx s c).pc + 1) % 4096 ∧ (lctx t c).clk = (lctx s c).clk + 1 ∧
    (fits32 ((lread (lctx s c) a).1 + (lread (lctx s c) b).1) = true →
      lctx t c = { lwrite (lctx s c) d ((lread (lctx s c) a).1 + (lread (lctx s c) b).1) with
        pc := (lctx t c).pc, clk := (lctx t c).clk, dirty := (lctx t c).dirty }) ∧
    t = { s with
      lpe := t.lpe, dic := t.dic, recs := t.recs, trc := t.trc, sec.trialBad := t.sec.trialBad }) ∧
  (∀ c d a o s, passRuns s c = true → 720 < (lctx s c).clk + 1 →
    exec (.lpMove c d a) s = .next s ∧ exec (.lpOutputStore c o a) s = .next s ∧ exec (.lpEnd c) s = .next s) ∧
  (∀ c d a b s, passRuns s c = true → (lctx s c).clk + 1 ≤ 720 → ∃ t, exec (.lpSubtract c d a b) s = .next t ∧
    (lctx t c).pc = ((lctx s c).pc + 1) % 4096 ∧ (lctx t c).clk = (lctx s c).clk + 1 ∧
    (fits32 ((lread (lctx s c) a).1 - (lread (lctx s c) b).1) = true →
      lctx t c = { lwrite (lctx s c) d ((lread (lctx s c) a).1 - (lread (lctx s c) b).1) with
        pc := (lctx t c).pc, clk := (lctx t c).clk, dirty := (lctx t c).dirty }) ∧
    t = { s with
      lpe := t.lpe, dic := t.dic, recs := t.recs, trc := t.trc, sec.trialBad := t.sec.trialBad }) ∧
  (∀ c d a n s, passRuns s c = true → (lctx s c).clk + 1 ≤ 720 → ∃ t, exec (.lpShift c d a n) s = .next t ∧
    (lctx t c).pc = ((lctx s c).pc + 1) % 4096 ∧ (lctx t c).clk = (lctx s c).clk + 1 ∧
    (0 ≤ n → fits32 ((lread (lctx s c) a).1 * 2 ^ n.toNat) = true →
      lctx t c = { lwrite (lctx s c) d ((lread (lctx s c) a).1 * 2 ^ n.toNat) with
        pc := (lctx t c).pc, clk := (lctx t c).clk, dirty := (lctx t c).dirty }) ∧
    (n < 0 → lctx t c = { lwrite (lctx s c) d ((lread (lctx s c) a).1 / 2 ^ (-n).toNat) with
        pc := (lctx t c).pc, clk := (lctx t c).clk, dirty := (lctx t c).dirty }) ∧
    t = { s with
      lpe := t.lpe, dic := t.dic, recs := t.recs, trc := t.trc, sec.trialBad := t.sec.trialBad }) ∧
  (∀ c d a b s, passRuns s c = true → (lctx s c).clk + 20 ≤ 720 → ∃ t, exec (.lpDivide c d a b) s = .next t ∧
    (lctx t c).pc = ((lctx s c).pc + 1) % 4096 ∧ (lctx t c).clk = (lctx s c).clk + 20 ∧
    ((lread (lctx s c) b).1 ≠ 0 →
      lctx t c = { lwrite (lctx s c) d (sat32 (tdiv ((lread (lctx s c) a).1 * 16777216) (lread (lctx s c) b).1)) with
        pc := (lctx t c).pc, clk := (lctx t c).clk, dirty := (lctx t c).dirty }) ∧
    t = { s with
      lpe := t.lpe, dic := t.dic, recs := t.recs, trc := t.trc, sec.trialBad := t.sec.trialBad }) ∧
  (∀ c i a fa b fb s, passRuns s c = true → (lctx s c).clk + 1 ≤ 720 → ∃ t, exec (.lpMac c i a fa b fb) s = .next t ∧
    lctx t c = { lctx s c with
      accs := setAt (lctx s c).accs i
        (sat64 (atI (lctx s c).accs i + lproduct (lread (lctx s c) a).1 fa (lread (lctx s c) b).1 fb))
      pc := ((lctx s c).pc + 1) % 4096, clk := (lctx s c).clk + 1, dirty := (lctx t c).dirty } ∧
    t = { s with
      lpe := t.lpe, dic := t.dic, recs := t.recs, trc := t.trc, sec.trialBad := t.sec.trialBad })

/-- Loop-engine control and data (R240, R242, R243): compare sets the flag a branch tests; a branch taken costs 2 clocks, one
not taken 1; a load brings a latched input; a store buffers a phase reference of the pass; END commits the data memory and, for
the program in service, the outputs, and sets the count of consecutive overruns to zero. Choices of the model in it: log entry
12. -/
def Obligations.LoopControl : Prop :=
  (∀ c a b s, passRuns s c = true → (lctx s c).clk + 1 ≤ 720 → (lread (lctx s c) a).2 = false →
    (lread (lctx s c) b).2 = false → exec (.lpCompare c a b) s = .next (setLctx s c { lctx s c with
      less := decide ((lread (lctx s c) a).1 < (lread (lctx s c) b).1), pc := ((lctx s c).pc + 1) % 4096
      clk := (lctx s c).clk + 1 })) ∧
  (∀ c l target s, passRuns s c = true → (lctx s c).clk + 2 ≤ 720 → (lctx s c).less = l → target < 4096 →
    exec (.lpBranch c l target) s = .next (setLctx s c { lctx s c with pc := target, clk := (lctx s c).clk + 2 })) ∧
  (∀ c l target s, passRuns s c = true → (lctx s c).clk + 1 ≤ 720 → (lctx s c).less ≠ l →
    exec (.lpBranch c l target) s =
      .next (setLctx s c { lctx s c with pc := ((lctx s c).pc + 1) % 4096, clk := (lctx s c).clk + 1 })) ∧
  (∀ c d inp s, passRuns s c = true → (lctx s c).clk + 1 ≤ 720 → exec (.lpInputLoad c d inp) s =
    .next (setLctx s c { lwrite (lctx s c) d (linput s inp) with
      pc := ((lctx s c).pc + 1) % 4096, clk := (lctx s c).clk + 1 })) ∧
  (∀ c p a s, passRuns s c = true → (lctx s c).clk + 1 ≤ 720 → (lread (lctx s c) a).2 = false →
    exec (.lpOutputStore c p a) s = .next (setLctx s c { lctx s c with
      out := (p, (lread (lctx s c) a).1) :: (lctx s c).out.filter (fun q => q.1 != p)
      pc := ((lctx s c).pc + 1) % 4096, clk := (lctx s c).clk + 1 })) ∧
  (∀ s, passRuns s .program = true → s.lpe.prog.clk + 1 ≤ 720 → exec (.lpEnd .program) s = .next { s with
    lpe.prog.ended := true, lpe.prog.clk := s.lpe.prog.clk + 1, lpe.prog.mem := s.lpe.prog.memNew
    cot.irefBuf := putOutputs s.cot.irefBuf s.lpe.prog.out, lpe.ovrCnt := 0, lpe.lastCyc := s.lpe.prog.clk + 1
    lpe.maxCyc := max s.lpe.maxCyc (s.lpe.prog.clk + 1) }) ∧
  (∀ s, passRuns s .shadow = true → s.lpe.shad.clk + 1 ≤ 720 → exec (.lpEnd .shadow) s = .next { s with
    lpe.shad.ended := true, lpe.shad.clk := s.lpe.shad.clk + 1, lpe.shad.mem := s.lpe.shad.memNew })

/-- Overruns, the fixed law and the bus channels (R247, R249, R251, R254, R257, R265, R308): an overrun is counted and recorded
with nothing committed; the third puts the fixed law in charge, unless it is in charge already; 1,000 clean background passes
return the program at the start of an epoch, and FIXRST under the guard's authorisation asks for its return; SELREQ, authorised,
selects the channel; RUN is set, and clearing it zeroes every reference; an implausible channel in selection moves the
selection, with both implausible the fixed law runs open-loop, and a channel 1,000 samples in the band is plausible again; LPE
registers answer the RT pair alone. Choices of the model in it: log entries 22, 70 and 99. -/
def Obligations.LoopEngineSupervision : Prop :=
  (∀ s, s.power.mstate = .live → s.lpe.run = true → s.lpe.prog.ended = false → s.lpe.src = 0 → s.lpe.ovrCnt = 2 → ∃ t,
    exec .passDeadline s = .next t ∧ t.lpe.ovrFlag = true ∧ t.lpe.ovrCnt = 3 ∧ t.lpe.takeover = true ∧
    t.lpe.prog.out = [] ∧ t.lpe.prog.mem = s.lpe.prog.mem ∧ t.lpe.abortPc = s.lpe.prog.pc ∧
    dget t 0x5055 0 = satInc (dget s 0x5055 0) 0xFFFFFFFF ∧ Recorded s t 2 1 0x01 ∧ t.cot = s.cot ∧
    t = { s with
      lpe := t.lpe, dic := t.dic, recs := t.recs, trc := t.trc, sec := t.sec, red := t.red, net := t.net }) ∧
  (∀ s, s.power.mstate = .live → s.lpe.run = true → s.lpe.prog.ended = true →
    (s.lpe.shadowEn = false ∨ s.lpe.shad.ended = true) → ∃ t, exec .passDeadline s = .next t ∧ t.lpe = s.lpe ∧
    t.recs = s.recs ∧ t = { s with dic := t.dic, trc := t.trc, red := t.red, net := t.net }) ∧
  (∀ s, s.lpe.takeover = true → s.lpe.src = 0 → ∃ t, exec .fixedLawTakeover s = .next t ∧ t.lpe.src = 1 ∧ t.lpe.cleanBg = 0 ∧
    t.lpe.takeover = false ∧ dget t 0x5055 1 = satInc (dget s 0x5055 1) 0xFFFFFFFF ∧
    Wrote { s with lpe := t.lpe, dic.vals := t.dic.vals } t 2 2 0x02) ∧
  (∀ s, s.lpe.src = 1 → 1000 ≤ s.lpe.cleanBg → s.epo.sample ≤ 1 → ∃ t,
    exec .programReturn s = .next t ∧ t.lpe.src = 0 ∧ t.lpe.ovrCnt = 0 ∧
    dget t 0x5055 2 = satInc (dget s 0x5055 2) 0xFFFFFFFF ∧
    Wrote { s with lpe := t.lpe, dic.vals := t.dic.vals } t 2 0 0x03) ∧
  (∀ s, s.lpe.src = 1 → bit s.grd.auth 2 = true → exec (.lpeFixrst .rt) s =
    .next { s with grd.auth := setBit s.grd.auth 2 false, lpe.progReturn := true }) ∧
  (∀ s, bit s.grd.auth 2 = false → exec (.lpeFixrst .rt) s = .next s) ∧
  (∀ s, bit s.grd.auth 1 = true → plausible s s.lpe.selCh = true → exec (.lpeSelreq .rt) s =
    .next { s with grd.auth := setBit s.grd.auth 1 false, lpe.sel := s.lpe.selCh }) ∧
  (∀ s, exec (.lpeRun .rt true) s = .next { s with lpe.run := true }) ∧
  (∀ s, exec (.lpeRun .rt false) s = .next { s with
    lpe.run := false, cot.iref := List.replicate 24 0, cot.irefBuf := List.replicate 24 0 }) ∧
  (∀ k s, implausibleDue s k = true → plausible s k = true → plausible s (!k) = true → s.lpe.sel = k → ∃ t,
    exec (.channelImplausible k) s = .next t ∧ plausible t k = false ∧ t.lpe.sel = !k ∧ t.lpe.idist = 0 ∧
    t.lpe.vhat = tdiv (((if k then s.lpe.latched.bus1 else s.lpe.latched.bus2 : Nat) : Int) * 281474976710656) 1000 ∧
    dget t 0x5055 4 = satInc (dget s 0x5055 4) 0xFFFFFFFF ∧
    Wrote { s with lpe := t.lpe, dic.vals := t.dic.vals } t 2 1 0x04) ∧
  (∀ k s, implausibleDue s k = true → plausible s k = true → plausible s (!k) = false → ∃ t,
    exec (.channelImplausible k) s = .next t ∧ plausible t k = false ∧ t.lpe.src = 2 ∧
    dget t 0x5055 5 = satInc (dget s 0x5055 5) 0xFFFFFFFF ∧ dget t 0x5055 1 = satInc (dget s 0x5055 1) 0xFFFFFFFF ∧
    Wrote { s with lpe := t.lpe, dic.vals := t.dic.vals } t 2 2 0x05) ∧
  (∀ k s, plausible s k = false → (if k then s.lpe.chFault.2 else s.lpe.chFault.1) = false →
    1000 ≤ (if k then s.lpe.inBand.2 else s.lpe.inBand.1) → ∃ t, exec (.channelPlausible k) s = .next t ∧
    plausible t k = true ∧ t.lpe.src = (if s.lpe.src = 2 then 1 else s.lpe.src) ∧
    (s.lpe.src = 2 → t.lpe.sel = k) ∧ Recorded s t 2 0 0x06 ∧
    t = { s with lpe := t.lpe, recs := t.recs, trc := t.trc, sec := t.sec }) ∧
  (∀ c on s, c ≠ .rt → ∀ i ∈ [Instr.lpeFixrst c, .lpeSelreq c, .lpeRun c on],
    exec i s = .next (busError (bump s 0x5055 6) c 2)) ∧
  (∀ s, s.lpe.takeover = true → s.lpe.src ≠ 0 → exec .fixedLawTakeover s = .next { s with lpe.takeover := false })

/-- The interrupt controller (R492 to R498, R501 to R504): a source takes its level; a claim takes the lowest eligible source,
makes it active and clears its software pending bit, and with none eligible reads 0 and counts a spurious claim; a completion
ends the active source, and any other is kept in ICU_FAULT; ICU_PSWP, ICU_SSWP, ICU_XSIG and ICU_SWP set software pending bits;
a route changes while its source is neither enabled nor active, and is otherwise rejected and counted; the clear of ICU_FAULT
writes its record; ICU_SWP, routes and the clear answer the RT pair alone. Choices of the model in it: log entries 26 and 63. -/
def Obligations.InterruptController : Prop :=
  (∀ c i b s, 32 ≤ i → sharedHas i = true → exec (.interruptSource c i b) s = .next { s with
    icu.lvl := mset s.icu.lvl (i / 32) (setBit (mget s.icu.lvl (i / 32)) (i % 32) b) }) ∧
  (∀ c i b s, i < 9 → privHas c i = true → exec (.interruptSource c i b) s = .next { s with
    icu.plvl := mset s.icu.plvl (coreNum c) (setBit (mget s.icu.plvl (coreNum c)) i b) }) ∧
  (∀ c i s, eligible s c i = true → i < 83 → (∀ j, j < i → eligible s c j = false) → ∃ t, exec (.icuClaim c) s = .next t ∧
    t.dic.reg = BitVec.ofNat 32 i ∧ mget t.icu.active (coreNum c) = i ∧ swPending t c i = false ∧
    (∀ j, j ≠ i → swPending t c j = swPending s c j) ∧
    t = { s with
      dic.reg := t.dic.reg, dic.busErr := false
      icu.active := t.icu.active, icu.pswp := t.icu.pswp, icu.swp := t.icu.swp }) ∧
  (∀ c s, winner s c = none → exec (.icuClaim c) s = .next { s with
    dic.reg := 0#32, dic.busErr := false
    icu.spur := mset s.icu.spur (coreNum c) (satInc (mget s.icu.spur (coreNum c)) 65535) }) ∧
  (∀ c i s, activeSrc s c = i % 512 → i % 512 ≠ 0 → exec (.icuComplete c i) s =
    .next { s with dic.busErr := false, icu.active := mset s.icu.active (coreNum c) 0 }) ∧
  (∀ c i s, activeSrc s c ≠ i % 512 → s.icu.fault = none → exec (.icuComplete c i) s = .next { s with
    dic.busErr := false, icu.fault := some { count := 0, target := coreNum c, cause := if activeSrc s c = 0 then 2 else 1, source := i % 512 } }) ∧
  (∀ c (v : Word) s, ∃ t, exec (.icuPswp c v) s = .next t ∧
    (∀ i, i < 32 → swPending t c i = (swPending s c i || (bit v.toNat i && privHas c i))) ∧
    t = { s with dic.busErr := false, icu.pswp := t.icu.pswp }) ∧
  (∀ c i s, 32 ≤ i → i < 512 → ownedBy s c i = true → ∃ t, exec (.icuSswp c i) s = .next t ∧ swPending t c i = true ∧
    t = { s with dic.busErr := false, icu.swp := t.icu.swp }) ∧
  (∀ c u i s, u ≠ c → 16 ≤ i → i < 32 → ∃ t, exec (.icuXsig c (coreNum u) i) s = .next t ∧ swPending t u i = true ∧
    t = { s with dic.busErr := false, icu.pswp := t.icu.pswp }) ∧
  (∀ w (v : Word) s, 1 ≤ w → w ≤ 15 → ∃ t, exec (.icuSwp .rt w v) s = .next t ∧
    (∀ k, k < 32 → swPending t .rt (32 * w + k) = (swPending s .rt (32 * w + k) || (bit v.toNat k && sharedHas (32 * w + k)))) ∧
    t = { s with dic.busErr := false, icu.swp := t.icu.swp }) ∧
  (∀ i n s, sharedHas i = true → routeFixed i = false → n ≤ 4 → isEnabled s .rt i = false → activeAnywhere s i = false →
    ∃ t, exec (.icuRouteWrite .rt i n) s = .next t ∧ routeOf t i = n ∧
    t = { s with dic.busErr := false, icu.route := t.icu.route }) ∧
  (∀ i n s, sharedHas i = true → (routeFixed i = true ∨ isEnabled s .rt i = true ∨ activeAnywhere s i = true) →
    exec (.icuRouteWrite .rt i n) s =
      .next { s with dic.busErr := false, icu.routeRej := satInc s.icu.routeRej 65535 }) ∧
  (∀ f s, s.icu.fault = some f → ∃ t, exec (.icuFaultClear .rt) s = .next t ∧ t.icu = { s.icu with fault := none } ∧
    levelOf t .rt 32 = false ∧ Wrote { s with dic.busErr := false, icu := t.icu } t 10 1 0x20) ∧
  (∀ c v w i n s, c ≠ .rt → ∀ k ∈ [Instr.icuSwp c w v, .icuRouteWrite c i n, .icuFaultClear c],
    exec k s = .next (busError s c 0))

/-- Position trips (R272 to R275, R296): a comparator beyond its threshold sets the latch, asserts FAULT_L, counts, and takes
the string out of service through zeroing, with its record; a further trip after three automatic clears in 60 min is held for
the Owner; a position inside its thresholds by 30 mV for 1 s clears itself, counted; in Umbra a survey crossing only sets the
latch. -/
def Obligations.PositionTrips : Prop :=
  (∀ x k ov s, masked s x k = false → ∃ t, exec (.positionTrip x k ov) s = .next t ∧
    mget (if ov then t.strs.tripOv else t.strs.tripUv) (posG x k) = 1 ∧
    (s.power.mstate ≠ .recovery → faultLine t = true) ∧
    dget t 0x6056 2 = satInc (dget s 0x6056 2) 0xFFFFFFFF ∧
    ((conv s x).st = .run → nActive s x ≠ 0 → (conv t x).st = .zeroing ∧ (conv t x).after = restState s x) ∧
    (clearsOf s (posG x k) < 3 → Recorded s t 3 2 (if ov then 0x01 else 0x02) ∧ t.strs.tripHeld = s.strs.tripHeld) ∧
    (3 ≤ clearsOf s (posG x k) → mget t.strs.tripHeld (heldKey (posG x k) ov) = 1 ∧
      ∃ r ∈ t.recs.ring, r.block = 3 ∧ r.cause = 0x03 ∧ r.severity = 3) ∧
    t = { s with
      strs := t.strs, cot := t.cot, grd := t.grd, dic.vals := t.dic.vals, recs := t.recs, trc := t.trc, sec := t.sec
      fac.stepDue := t.fac.stepDue }) ∧
  (∀ x k s, tripped s (posG x k) = true → mget s.strs.tripHeld (heldKey (posG x k) true) ≠ 1 →
    mget s.strs.tripHeld (heldKey (posG x k) false) ≠ 1 → clearsOf s (posG x k) < 3 → insideBy30 s (posG x k) = true →
    mget s.strs.tripTicks (posG x k) + 999 ≤ s.epo.ticks → ∃ t,
    exec (.tripAutoClear x k) s = .next t ∧ tripped t (posG x k) = false ∧
    clearsOf t (posG x k) = clearsOf s (posG x k) + 1 ∧ dget t 0x6056 3 = satInc (dget s 0x6056 3) 0xFFFFFFFF ∧
    t = { s with
      strs.tripOv := t.strs.tripOv, strs.tripUv := t.strs.tripUv, strs.clearTicks := t.strs.clearTicks
      dic.vals := t.dic.vals }) ∧
  (∀ l s, s.power.mstate = .umbra → ∃ t, exec (.umbraSurvey l) s = .next t ∧
    (∀ c ∈ l, masked s c.1 c.2.1 = false →
      mget (if c.2.2 then t.strs.tripOv else t.strs.tripUv) (posG c.1 c.2.1) = 1) ∧
    t = { s with strs.tripOv := t.strs.tripOv, strs.tripUv := t.strs.tripUv, strs.tripTicks := t.strs.tripTicks })

/-- Strobes (R268 to R270, R281): a strobe that meets a test slot is skipped and counted; another one is summed, published
readings unchanged, until the window of object 0x6011 is full; the full window starts again, and publishes the mean of each
position of which no more than half is missing. Choices of the model in it: log entries 18, 25 and 101. -/
def Obligations.StrobeWindows : Prop :=
  (∀ i s, s.strs.owt ≠ [] → exec (.strobe i) s = .next (bump s 0x6056 1)) ∧
  (∀ i s, s.strs.owt = [] → s.strs.window + 1 < max 1 (dget s 0x6011 0) → ∃ t, exec (.strobe i) s = .next t ∧
    t.strs.strobes = s.strs.strobes + 1 ∧ t.strs.window = s.strs.window + 1 ∧ t.strs.lastI = i.current ∧
    t.strs.indep = ⟨calibratedN s 0x302 s.power.dieC i.strV.a, calibratedN s 0x303 s.power.dieC i.strV.b⟩ ∧
    t.strs.readUv = s.strs.readUv ∧ t.strs.pstate = s.strs.pstate ∧
    t = { s with strs := t.strs, dic.vals := t.dic.vals }) ∧
  (∀ i s, s.strs.owt = [] → max 1 (dget s 0x6011 0) ≤ s.strs.window + 1 → ∃ t, exec (.strobe i) s = .next t ∧
    t.strs.strobes = s.strs.strobes + 1 ∧ t.strs.window = 0 ∧ t.strs.acc = [] ∧ t.strs.accN = [] ∧
    t = { s with
      strs := t.strs, dic.vals := t.dic.vals, recs := t.recs, trc := t.trc, sec := t.sec
      fac.stepDue := t.fac.stepDue }) ∧
  (∀ n g s, mget s.strs.accN g ≠ 0 → 2 * (n - mget s.strs.accN g) ≤ n →
    uv (publishOne n s g) g = mget s.strs.acc g / mget s.strs.accN g) ∧
  (∀ n g s, n < 2 * (n - mget s.strs.accN g) → publishOne n s g = s)

/-- Surveys, bleeds and open-wire tests (R277, R278, R281, R283, R296): host masks fall at the end of their validity; a survey
slot stores the resistances of the wires next to its position at 0.1 mΩ and moves to the next; a test queues its wires of
present drawers, counted; a wire that moves a reading by 100 mV is open, one below 5 mV on both sides intact, another suspect.
Choices of the model in it: log entries 17, 25, 48 and 101. -/
def Obligations.WireSurveysAndTests : Prop :=
  (∀ s, s.strs.hostMask = true → fieldAt (dget s 0x6022 0) 0 8 ≤ s.epo.count → exec .bleedMaskExpiry s = .next { s with
    strs.hostMask := false
    epo.fallback := if bit (dget s 0x4003 0) 3 then setBit s.epo.fallback 3 true else s.epo.fallback }) ∧
  (∀ x k b a o s, s.strs.survey = some (x, k) → ∃ t, exec (.wireSurveySlot x k b a o) s = .next t ∧
    t.strs.survey = (if k < s.strs.surveyEnd then some (x, k + 1) else none) ∧
    (k = 0 → dget t 0x6021 (wireG x 0) = min ((o - a).toNat * 10000 / max 1 (s.strs.bleedUA.get x)) 65535) ∧
    (k = 287 → dget t 0x6021 (wireG x 288) = min ((o - b).toNat * 10000 / max 1 (s.strs.bleedUA.get x)) 65535) ∧
    (0 < k → k ≤ 287 → mget s.strs.steps (wireG x k) ≠ 0 →
      dget t 0x6021 (wireG x k) =
        min ((mget s.strs.steps (wireG x k) - 1 + b.toNat) / 2 * 10000 / max 1 (s.strs.bleedUA.get x)) 65535) ∧
    t = { s with strs := t.strs, dic.vals := t.dic.vals }) ∧
  (∀ x l s, ∃ t, exec (.openWireTest x l) s = .next t ∧
    t.strs.owt = s.strs.owt ++ (l.filter (fun j => j ≤ 288 && present s x (wireDrawer j))).map (fun j => (x, j)) ∧
    dget t 0x6056 4 = satInc (dget s 0x6056 4) 0xFFFFFFFF ∧ t = { s with strs := t.strs, dic.vals := t.dic.vals }) ∧
  (∀ x j b a s, s.strs.owt.contains (x, j) = true → present s x (wireDrawer j) = true → (100 ≤ b ∨ 100 ≤ a) → ∃ t,
    exec (.openWireResult x j b a) s = .next t ∧ wst t (wireG x j) = 1 ∧ t.strs.owtFound.get x = true ∧
    (0 < j → j < 288 → pst t (posG x (j - 1)) = 4 ∧ pst t (posG x j) = 4) ∧ t.strs.owt.contains (x, j) = false ∧
    Wrote { s with strs := t.strs } t 3 2 0x04) ∧
  (∀ x j b a s, s.strs.owt.contains (x, j) = true → present s x (wireDrawer j) = true → b < 5 → a < 5 → ∃ t,
    exec (.openWireResult x j b a) s = .next t ∧ wst t (wireG x j) = 0 ∧ t.strs.owt.contains (x, j) = false ∧
    t = { s with
      strs := t.strs, recs := t.recs, trc := t.trc, sec := t.sec, fac.stepDue := t.fac.stepDue }) ∧
  (∀ x j b a s, s.strs.owt.contains (x, j) = true → present s x (wireDrawer j) = true → b < 100 → a < 100 →
    (5 ≤ b ∨ 5 ≤ a) → ∃ t, exec (.openWireResult x j b a) s = .next t ∧ wst t (wireG x j) = 4 ∧
    t = { s with
      strs := t.strs, recs := t.recs, trc := t.trc, sec := t.sec, fac.stepDue := t.fac.stepDue })

/-- Drawers, temperatures and AFE links (R288 to R290, R292, R293, R296, R513): a released drawer is absent, its positions
masked and its string isolated, with a string record; an inserted one is present with its capacitances at 6,000 F and its wires
surveyed, with its record; a thermistor is read through its calibration, and outside −40 to 125 °C it is invalid; a lost AFE
link leaves its 16 positions unmeasured, and a report of it ends the loss, each with its record. Choices of the model in it: log
entries 24 and 109. -/
def Obligations.DrawersTemperaturesAndLinks : Prop :=
  (∀ x d s, d < 6 → ∃ t, exec (.drawerRelease x d) s = .next t ∧ present t x d = false ∧
    bit (t.strs.isoCause.get x) 1 = true ∧ (∀ k, 48 * d ≤ k → k < 48 * d + 48 → pst t (posG x k) = 2) ∧
    ((conv s x).st = .run → nActive s x ≠ 0 → (conv t x).st = .zeroing ∧ (conv t x).after = .isolated) ∧
    ((conv s x).st = .off → nActive s x = 0 → (conv t x).st = .isolated) ∧
    (∃ r ∈ t.recs.ring, r.block = 3 ∧ r.cause = 0x09) ∧
    t = { s with
      strs := t.strs, cot := t.cot, grd := t.grd, dic.vals := t.dic.vals, recs := t.recs, trc := t.trc, sec := t.sec
      fac.stepDue := t.fac.stepDue }) ∧
  (∀ x d s, d < 6 → ∃ t, exec (.drawerInsert x d) s = .next t ∧ present t x d = true ∧
    (∀ k, 48 * d ≤ k → k < 48 * d + 48 → dget t 0x6052 (posG x k) = 6000) ∧
    t.strs.survey = some (x, 48 * d - 1) ∧ t.strs.surveyEnd = 48 * d + 47 ∧
    Wrote { s with strs := t.strs, dic.vals := t.dic.vals } t 3 0 0x0A) ∧
  (∀ l s, s.strs.temps.length = 48 → ∃ t, exec (.thermistorRead l) s = .next t ∧
    (∀ i, i < 48 →
      let v := tdiv (calibrated s (0x400 + i) (s.strs.islandC.get (if i < 24 then .A else .B)) (10 * atI l i)) 10
      atI t.strs.temps i = v ∧ bit t.strs.thermBad i = (decide (v < -400) || decide (1250 < v))) ∧
    t = { s with
      strs := t.strs, cot := t.cot, grd := t.grd, dic.vals := t.dic.vals, recs := t.recs, trc := t.trc, sec := t.sec
      fac.stepDue := t.fac.stepDue }) ∧
  (∀ x n s, n < 18 → mget s.strs.afeMiss (afeKey x n) ≠ 1 → ∃ t, exec (.afeLinkLoss x n) s = .next t ∧
    mget t.strs.afeMiss (afeKey x n) = 1 ∧
    (∀ k, 16 * n ≤ k → k < 16 * n + 16 → pst s (posG x k) ≠ 2 → pst s (posG x k) ≠ 3 → pst t (posG x k) = 1) ∧
    Wrote { s with strs := t.strs } t 3 1 0x07) ∧
  (∀ x n s, mget s.strs.afeMiss (afeKey x n) = 1 → ∃ t, exec (.afeReport x n) s = .next t ∧
    mget t.strs.afeMiss (afeKey x n) = 0 ∧ t.strs.pstate = s.strs.pstate ∧ Wrote { s with strs := t.strs } t 3 0 0x08)

/-- The guard's own commands (R301 to R304, R308, R314): the RT pair alone narrows; a quantity with violations in 128 epochs of
the window faults, in 32 warns, with its record; an accepted Owner command sets its authorisation bit, and expiry clears it; a
module without its Owner layer takes its peer's, which ends a hold for that alone. Choices of the model in it: log entry 22. -/
def Obligations.GuardCommands : Prop :=
  (∀ q v s, guardHas q = true → ∃ t, exec (.guardNarrowing .rt q v) s = .next t ∧ narrowing t q = v.toNat ∧
    (∀ p, p ≠ q → narrowing t p = narrowing s p) ∧ t = { s with grd.nar := t.grd.nar }) ∧
  (∀ c q v s, c ≠ .rt → exec (.guardNarrowing c q v) s = .next (busError s c 4)) ∧
  (∀ q s, guardHas q = true → 128 ≤ violEpochs s q → s.grd.fault.contains q = false → ∃ t,
    exec (.guardEscalation q) s = .next t ∧ q ∈ t.grd.fault ∧ q ∈ t.grd.warn ∧
    (∃ r ∈ t.recs.ring, r.block = 4 ∧ r.cause = 0x02) ∧
    t = { s with grd := t.grd, recs := t.recs, trc := t.trc, sec := t.sec }) ∧
  (∀ q s, guardHas q = true → 32 ≤ violEpochs s q → violEpochs s q < 128 → mget s.grd.warnTick q = 0 → ∃ t,
    exec (.guardEscalation q) s = .next t ∧ q ∈ t.grd.warn ∧ t.grd.fault = s.grd.fault ∧
    Wrote { s with grd := t.grd } t 4 1 0x01) ∧
  (∀ b s, bit s.grd.granted b = true → exec (.guardAuthorisation b) s =
    .next { s with grd.granted := setBit s.grd.granted b false, grd.auth := setBit s.grd.auth b true }) ∧
  (∀ b s, exec (.authorisationExpiry b) s = .next { s with grd.auth := setBit s.grd.auth b false }) ∧
  (∀ v s, s.grd.layerErr = true → s.red.peerHere = true → ∃ t, exec (.ownerLayerAdopt v) s = .next t ∧
    dget t 0x5081 0 = v ∧ t.grd.layerErr = false ∧
    t.power.hold = (if s.power.hold = .layer then .none else s.power.hold) ∧
    Wrote { s with dic.vals := t.dic.vals, grd.layerErr := false, power.hold := t.power.hold } t 4 0 0x08)

/-- The guard never widens (R299, R302, R303): in every state, and after any narrowing the RT pair writes, the effective limit
of a quantity lies on the narrow side of the factory value and of each layer's value, and a clamped value lies on the narrow
side of the effective limit. -/
def Obligations.GuardOnlyNarrows : Prop :=
  (∀ s q, guardHas q = true → wider q (effLimit s q) (guardFactory q) = false ∧
    (layerSets (intLayer s) q = true → wider q (effLimit s q) (layerVal (intLayer s) q) = false) ∧
    (layerSets (ownLayer s) q = true → wider q (effLimit s q) (layerVal (ownLayer s) q) = false) ∧
    wider q (effLimit s q) (narrowing s q) = false) ∧
  (∀ s q v, wider q (guardClamp s q v) (effLimit s q) = false ∧ wider q (guardClamp s q v) v = false) ∧
  (∀ s q v t, exec (.guardNarrowing .rt q v) s = .next t → ∀ p, guardHas p = true →
    layerLimit t p = layerLimit s p ∧ wider p (effLimit t p) (layerLimit s p) = false)

/-- No reference leaves the guard's bounds (R238, R298, R303): what a sample latches into COT_IREF lies within quantity 0 of the
guard, and a phase latches 0 outside soft start and run. Choices of the model in it: log entry 20. -/
def Obligations.LatchedReferencesWithinGuard : Prop :=
  ∀ s p, p < 24 → s.cot.ovLatch = false →
    -(limitQ24 s) ≤ atI (latchRefs s).cot.iref p ∧ atI (latchRefs s).cot.iref p ≤ limitQ24 s ∧
    ((conv s (phaseStr p)).st ≠ .run → (conv s (phaseStr p)).st ≠ .softStart → atI (latchRefs s).cot.iref p = 0)

/-- Roles and Live (R472, R473, R521, R523, R525): with no HOLD word heard the module becomes active and holds the lease;
LIVEREQ brings a module that may into Live and takes it back to Watch, where an active module opens its strings, releases
DRIVE_EN and zeroes its references; in Live the pre-bias check enables and starts strings where both channels read 700 V, and 2
s into Live without that writes its record once. Choices of the model in it: log entries 40 and 41. -/
def Obligations.RolesAndLive : Prop :=
  (∀ s, s.power.mstate = .watch → s.red.role = .noRole → s.power.hold = .none → s.grd.intBlank = false →
    s.red.peerHold = false → s.power.refGone = false → ∃ t, exec .roleNegotiationTimeout s = .next t ∧
    t.red.role = .active ∧ t.red.holding = true ∧ t.red.claimed = true ∧ t.red.seq = (s.red.seq + 1) % 256 ∧
    t.power.mstate = (if s.power.liveReq && s.power.sup54 then .live else .watch) ∧
    (∃ r ∈ t.recs.ring, r.block = 9 ∧ r.cause = 0x09) ∧
    t = { s with
      power := t.power, red := t.red, lead := t.lead, eng := t.eng, recs := t.recs, trc := t.trc, sec := t.sec }) ∧
  (∀ s, mayGoLive { s with power.liveReq := true } = true → ∃ t, exec (.liveReq .rt true) s = .next t ∧
    t.power.mstate = .live ∧ t.power.liveReq = true ∧ t.power.liveTick = s.epo.ticks ∧
    t.lead.entryEpoch = s.epo.count ∧ t.red.driveReq = isActive s ∧
    Wrote { s with
      power := t.power, lead := t.lead, red := t.red, eng := t.eng, dic.busErr := false } t 9 0 0x06) ∧
  (∀ s, s.power.mstate = .live → ∃ t, exec (.liveReq .rt false) s = .next t ∧
    t.power.mstate = .watch ∧ t.power.liveReq = false ∧ t.red.role = .noRole ∧ t.red.driveEn = false ∧
    t.red.timerOk = false ∧ t.eng.state = .dark ∧
    (isActive s = true → t.lpe.run = false ∧ t.cot.iref = List.replicate 24 0 ∧
      (∀ x k, bit t.cot.cmd (kIdx x k) = false) ∧ t.lead.isLead = false) ∧
    t.net.dram = s.net.dram ∧ t.fac = s.fac ∧ t.strs = s.strs ∧ t.dic = { s.dic with busErr := false } ∧
    t.icu = s.icu ∧ t.epo = s.epo) ∧
  (∀ x s, s.power.mstate = .live → isActive s = true → prebiased s = true → (conv s x).st = .ready →
    (conv s x).tried = false → (conv s x).ena = true → ∃ t, exec .busPrebiasCheck s = .next t ∧
    (conv t x).st = .softStart ∧ t = { s with cot := t.cot, grd := t.grd, dic := t.dic }) ∧
  (∀ x s, s.power.mstate = .live → isActive s = true → prebiased s = true → (conv s x).st = .off →
    s.strs.tripHeld = [] → ∃ t, exec .busPrebiasCheck s = .next t ∧ (conv t x).st = .precharge ∧
    (conv t x).ena = true) ∧
  (∀ s, s.power.mstate = .live → isActive s = true → prebiased s = false → s.power.prebiasRec = false →
    s.power.liveTick + 2000 ≤ s.epo.ticks → ∃ t, exec .busPrebiasCheck s = .next t ∧
    Wrote { s with power.prebiasRec := true } t 9 2 0x0C)

/-- Clocks and bridges (R461, R462, R468 to R470, R485, R487): loss of the reference clears the lease timer, stops the engine
and leaves Live; its return asks for the restart with WAKE 3; loss of the crystal sets SIDHOLD, which its return clears; a flit
whose CRC does not hold is sent again, and its eighth failure retrains the bridge; loss of lock restarts the module for the
control PLL, faults the engine for its own and fails bridge B2 for the security PLL; a relocked engine PLL wakes the engine;
EPLL_EN is set and cleared; the sidereal counter is read in two parts. Choices of the model in it: log entries 35 and 98. -/
def Obligations.ClocksAndBridges : Prop :=
  (∀ s, powered s = true → s.power.refGone = false → ∃ t, exec .referenceLoss s = .next t ∧
    t.power.refGone = true ∧ t.power.refLoss = true ∧ t.power.holdover = true ∧ t.red.timerOk = false ∧
    t.red.driveEn = false ∧ t.eng.state = .dark ∧ t.power.mstate = (if inLive s then .watch else s.power.mstate) ∧
    (∃ r ∈ t.recs.ring, r.block = 9 ∧ r.cause = 0x01) ∧ t.net.dram = s.net.dram ∧ t.fac = s.fac ∧ t.strs = s.strs ∧
    t.dic = s.dic ∧ t.epo = s.epo) ∧
  (∀ s, s.power.refGone = true → ∃ t, exec .referenceRestored s = .next t ∧
    Wrote { s with power.refGone := false, power.holdover := false, power.wakeNext := some 3 } t 9 0 0x02) ∧
  (∀ s, s.power.sidHold = false → ∃ t, exec .crystalLoss s = .next t ∧
    Wrote { s with power.sidHold := true, power.crysLoss := true } t 9 1 0x03) ∧
  (∀ s, exec .crystalReturn s = .next { s with power.sidHold := false }) ∧
  (∀ k seq l c first s, 1 ≤ k → k ≤ 4 → s.power.bridgeFailed.contains k = false → flitCrc seq l ≠ c →
    (first = true ∨ mget s.power.bridgeTries k < 7) → exec (.bridgeCrcFail k seq l c first) s = .next { s with
      power.bridgeTries := mset s.power.bridgeTries k ((if first then 0 else mget s.power.bridgeTries k) + 1) }) ∧
  (∀ k seq l c s, 1 ≤ k → k ≤ 4 → s.power.bridgeFailed.contains k = false → flitCrc seq l ≠ c →
    mget s.power.bridgeTries k = 7 → ∃ t,
    exec (.bridgeCrcFail k seq l c false) s = .next t ∧ mget t.power.bridgeTries k = 0 ∧
    (∃ r ∈ t.recs.ring, r.block = 10 ∧ r.cause = 0x04) ∧ t.net.dram = s.net.dram ∧ t.dic = s.dic ∧ t.cot = s.cot) ∧
  (∀ s, s.power.holdover = false → exec (.pllLockLoss .control) s =
    .next { s with power.cplLock := false, power.pllRecord := true, power.wakeNext := some 2 }) ∧
  (∀ s, ∃ t, exec (.pllLockLoss .engine) s = .next t ∧ t.eng.state = .fault ∧
    (∃ r ∈ t.recs.ring, r.block = 9 ∧ r.cause = 0x05) ∧ t.power.eplLock = false ∧ t.net = s.net ∧ t.dic = s.dic ∧
    t.cot = s.cot ∧ t.red = s.red) ∧
  (∀ s, s.power.bridgeFailed.contains 2 = false → ∃ t, exec (.pllLockLoss .security) s = .next t ∧
    t.power.wakeNext = some 2 ∧ 2 ∈ t.power.bridgeFailed ∧ Wrote { s with power := t.power } t 10 2 0x05) ∧
  (∀ s, s.eng.state = .fault → s.power.eplEn = true → s.eng.hotFault = false → s.power.bridgeFailed.contains 1 = false →
    exec .enginePllRelock s = .next { s with power.eplLock := true, eng.waking := true }) ∧
  (∀ s, ∃ t, exec (.enginePllEnable .rt true) s = .next t ∧ t.power.eplEn = true ∧
    (inLive s = true → s.eng.state = .dark → t.eng.waking = true) ∧
    t = { s with power.eplEn := true, power.eplLock := true, eng.waking := t.eng.waking, dic.busErr := false }) ∧
  (∀ s, ∃ t, exec (.enginePllEnable .rt false) s = .next t ∧ t.power.eplEn = false ∧ t.eng.state = .dark ∧
    t.power.eplLock = false ∧ t.net = s.net ∧ t.dic = { s.dic with busErr := false } ∧ t.cot = s.cot ∧ t.red = s.red) ∧
  (∀ s, exec (.siderealRead .rt) s = .next { s with
    dic.busErr := false, dic.reg := BitVec.ofNat 32 s.power.sidereal, power.sidh := s.power.sidereal / 2 ^ 32 % 2 ^ 16 })

/-- The shelf lease (R317 to R322, R335, R337, R343, R489, R523): the holder renews its timer to t_SDROP with each word; a claim
takes the active role, the drive request and the timer, is counted and recorded; a bad word is ignored and counted, a HOLD word
heard in negotiation makes the module standby, and a RELEASE lets an able standby claim; a lapsed timer drops DRIVE_EN; lockstep
and drive conflicts give the lease up; an explicit release to a peer that reports FIT sends RELEASE. Choices of the model in it:
log entries 39, 40, 72 and 104. -/
def Obligations.ShelfLease : Prop :=
  (∀ s, s.power.mstate = .live → s.red.holding = true → selfDiagnosis s = true → ∃ t, exec .leaseRenewal s = .next t ∧
    t.red.timerOk = true ∧ t.red.remain = 15000 ∧ t.red.claimed = false ∧ t.red.seq = (s.red.seq + 1) % 256 ∧
    t = { s with red := t.red }) ∧
  (∀ s, s.red.holding = true → selfDiagnosis s = false → exec .leaseRenewal s = .next s) ∧
  (∀ b (w : Word) h s, wordValid s w.toNat = false → exec (.leaseWordReceived b w h) s =
    .next { s with red.ignored := s.red.ignored + 1, red.lineOk := s.red.lineOk && !b }) ∧
  (∀ b (w : Word) s, wordValid s w.toNat = true → bit w.toNat 4 = false → bit w.toNat 3 = true →
    s.power.mstate = .watch → s.red.role = .noRole → s.power.hold = .none → ∃ t,
    exec (.leaseWordReceived b w none) s = .next t ∧ t.red.role = .standby ∧ t.red.peerHere = true ∧
    t.red.peerWord = w ∧ t.red.peerHold = true ∧ (∃ r ∈ t.recs.ring, r.block = 9 ∧ r.cause = 0x09)) ∧
  (∀ b (w : Word) s, wordValid s w.toNat = true → bit w.toNat 4 = true → isStandby s = true → able s = true →
    s.red.handover = none → ∃ t, exec (.leaseWordReceived b w none) s = .next t ∧ t.red.role = .active ∧
    t.red.driveReq = true ∧ dget t 0x7004 0 = satInc (dget s 0x7004 0) 0xFFFFFFFF ∧ Recorded s t 7 0 0x01) ∧
  (∀ s, isStandby s = true → able s = true → s.power.refGone = false → s.power.lsmm = false → ∃ t,
    exec .leaseClaim s = .next t ∧ t.red.role = (if s.red.peerHere then .active else .alone) ∧
    t.red.holding = true ∧ t.red.driveReq = true ∧ t.red.timerOk = true ∧ t.red.remain = 15000 ∧
    t.red.checking = true ∧ t.red.checkLeft = 10 ∧ t.fac.mFlags = setBit (layerTaken s).fac.mFlags 9 true ∧
    dget t 0x7004 1 = satInc (dget s 0x7004 1) 0xFFFFFFFF ∧ Recorded s t 7 2 0x02 ∧
    t = { s with
      red := t.red, lead := t.lead, grd := t.grd, dic := t.dic, eng := t.eng, fac := t.fac, recs := t.recs, trc := t.trc
      sec := t.sec }) ∧
  (∀ s, s.red.timerOk = true → ∃ t, exec .driveEnTimeout s = .next t ∧ t.red.timerOk = false ∧ t.red.driveEn = false ∧
    t.cot.active = 0 ∧ t.cot.onTime = 0 ∧ (inLive s = true → t.power.wakeNext = some 2) ∧
    t = { s with
      red.timerOk := false, red.remain := 0, red.holding := false, red.driveEn := false, cot.active := 0, cot.onTime := 0
      power.wakeNext := t.power.wakeNext }) ∧
  (∀ s, powered s = true → slotIdx s < 8 → ∃ t, exec .lockstepMismatch s = .next t ∧ t.power.lsmm = true ∧ t.red.timerOk =
    false ∧
    t.red.holding = false ∧ t.red.driveEn = false ∧ bit t.red.wordOut.toNat 4 = true ∧ t.power.wakeNext = some 2 ∧
    t = { s with power := t.power, red := t.red, cot := t.cot }) ∧
  (∀ b s, s.red.driveEn = true → s.epo.ticks < s.red.drvTick + 10 → (b = false ∨ s.power.strapB = true) → ∃ t,
    exec (.driveConflict b) s = .next t ∧ t.red.role = .standby ∧ t.red.driveEn = false ∧ t.red.driveFault = true ∧
    dget t 0x7004 11 = satInc (dget s 0x7004 11) 0xFFFFFFFF ∧
    Wrote { s with red := t.red, cot := t.cot, lead := t.lead, net := t.net, dic.vals := t.dic.vals } t 7 2 0x0A) ∧
  (∀ why s, isActive s = true → peerFit s = true → (why = .guardFault → s.grd.fault ≠ []) →
    slotIdx s < 8 → ∃ t,
    exec (.explicitRelease why) s = .next t ∧ t.red.relSet = true ∧ t.red.relKind = 1 ∧
    t.red.relWhy = relReasonCode why ∧ bit t.red.wordOut.toNat 4 = true ∧ t = { s with red := t.red })

/-- The sister link and the state record (R324 to R333, R344, R345): a bad block brings a NAK; the next block in sequence is
delivered; a missing acknowledgement resends the oldest block; an IDLE block carries the NAK that is due; a lane goes down,
retrains and brings the link up again, and the link is lost with both lanes; a standby in Live compares each record, and adopts
a differing one at the second sample start; a missed record is counted; an epoch image is sent, and a standby takes its parts.
Choices of the model in it: log entries 46, 72 and 105. -/
def Obligations.SisterLinkAndRecords : Prop :=
  (∀ l k s, (laneOf s l).up = true → k.crcOk = false → ∃ t, exec (.sisterBlockReceived l k) s = .next t ∧
    (laneOf t l).nakDue = true ∧ (laneOf t l).crcFails = (laneOf s l).crcFails + 1 ∧
    (laneOf t l).expect = (laneOf s l).expect ∧ dget t 0x7004 6 = satInc (dget s 0x7004 6) 0xFFFFFFFF ∧
    t = { s with red.lanes := t.red.lanes, dic.vals := t.dic.vals }) ∧
  (∀ l k s, (laneOf s l).up = true → k.crcOk = true → k.nak = false → k.idle = false → k.seq = (laneOf s l).expect →
    k.digest = 0 → k.stream ≠ 4 → k.stream ≠ 6 → ∃ t, exec (.sisterBlockReceived l k) s = .next t ∧
    (laneOf t l).expect = ((laneOf s l).expect + 1) % 65536 ∧ (laneOf t l).acked = k.ack ∧
    (k.stream = 5 → t.red.peerFitness = k.fitness) ∧ t = { s with red := t.red, lpe := t.lpe }) ∧
  (∀ l k s, isStandby s = true → (laneOf s l).up = true → k.crcOk = true → k.nak = false → k.idle = false →
    k.seq = (laneOf s l).expect → k.digest = 0 → k.stream = 4 → ∃ t, exec (.sisterBlockReceived l k) s = .next t ∧
    t.dic = (k.copy.foldl copyWrite s).dic ∧ t = { s with red := t.red, dic := t.dic }) ∧
  (∀ l s, (laneOf s l).up = true → (laneOf s l).acked ≠ (laneOf s l).txSeq → ∃ t,
    exec (.sisterAckTimeout l) s = .next t ∧ (laneOf t l).resendFrom = some (((laneOf s l).acked + 1) % 65536) ∧
    dget t 0x7004 7 = satInc (dget s 0x7004 7) 0xFFFFFFFF ∧
    t = { s with red.lanes := t.red.lanes, dic.vals := t.dic.vals }) ∧
  (∀ l s, (laneOf s l).up = true → ∃ t, exec (.sisterIdleBlock l) s = .next t ∧ (laneOf t l).nakDue = false ∧
    t = { s with red.lanes := t.red.lanes }) ∧
  (∀ l s, (laneOf s l).up = true → ∃ t, exec (.laneDown l) s = .next t ∧ (laneOf t l).up = false ∧
    (laneOf t l).training = true ∧ Wrote { s with red.lanes := t.red.lanes } t 7 1 0x0B) ∧
  (∀ l s, cxlOn s = true → s.power.refGone = false → s.power.bridgeFailed.contains 3 = false →
    (laneOf s l).training = true → ∃ t, exec (.laneRetrained l) s = .next t ∧ (laneOf t l).up = true ∧
    (laneOf t l).training = false ∧ t.red.linkUp = true ∧ dget t 0x7004 8 = satInc (dget s 0x7004 8) 0xFFFFFFFF ∧
    t = { s with red := t.red, dic.vals := t.dic.vals }) ∧
  (∀ s, s.red.lanes.a.up = false → s.red.lanes.b.up = false → s.red.linkUp = true → ∃ t,
    exec .sisterLinkLost s = .next t ∧ Wrote { s with red.linkUp := false } t 7 2 0x0C) ∧
  (∀ k s, isStandby s = true → s.power.mstate = .live → k.inputDigest = s.red.digests.1 → recordAgrees s k = true →
    k.release = false → exec (.stateRecord k) s = .next { s with
      red.recSeq := k.sampleSeq, red.recAge := 0, red.recordsOk := satInc s.red.recordsOk 1000
      red.inAgree := satInc s.red.inAgree 1000, red.stAgree := satInc s.red.stAgree 250 }) ∧
  (∀ k s, isStandby s = true → s.power.mstate = .live → k.inputDigest = s.red.digests.1 → recordAgrees s k = false →
    k.release = false → ∃ t, exec (.stateRecord k) s = .next t ∧ t.red.adopt = some k ∧ t.red.adoptIn = 2 ∧
    t.red.stAgree = 0 ∧ dget t 0x7004 9 = satInc (dget s 0x7004 9) 0xFFFFFFFF ∧
    Wrote { s with red := t.red, dic.vals := t.dic.vals } t 7 1 0x08) ∧
  (∀ s, isStandby s = true → ∃ t, exec .stateRecordDeadlineMiss s = .next t ∧ t.red.recordsOk = 0 ∧
    dget t 0x7004 5 = satInc (dget s 0x7004 5) 0xFFFFFFFF ∧
    t = { s with red.recordsOk := 0, dic.vals := t.dic.vals }) ∧
  (∀ s, isActive s = true → s.red.linkUp = true → exec .epochImageSend s =
    .next { s with red.imageSent := s.epo.count, red.current := true }) ∧
  (∀ k s, isStandby s = true → ∃ t, exec (.epochImageReceived k) s = .next t ∧ t.red.image = some k.epoch ∧
    t.red.current = true ∧ t.fac.chain = k.chainHead ∧ t.fac.latest = k.latest ∧ t.fac.emCount = k.emergency ∧
    t.lead.holder = some k.leadSlot ∧ t.lead.expiry = some k.expiry ∧ t.lead.held = k.held ∧ t.lead.carry = k.carry ∧
    (k.epoch = s.epo.count → t.epo.planN = k.planN ∧ t.epo.planNext = k.planNext) ∧
    (∀ p, mget t.strs.tripOv p = mget (smapOf k.tripOv) p) ∧ (∀ p, mget t.lpe.prog.mem p = mget (smapOf k.loopMem) p) ∧
    t.dic = (k.objects.foldl takeObject s).dic ∧ t.power = s.power ∧ t.cot = s.cot ∧ t.net = s.net ∧ t.icu = s.icu ∧
    t.pending = s.pending)

/-- Handovers, drills and the phase check (R336, R338 to R341, R344): a handover back is planned for the next boundary whose
twilight has not started; a drill at its time is planned towards a FIT standby, and otherwise skipped with its record; a drill
that ends hands back, counted; failing phases leave the enabled set and set the drive fault; an active module that hears no peer
reports active alone, a standby notes its absence. Choices of the model in it: log entries 49, 100 and 102. -/
def Obligations.HandoversAndDrills : Prop :=
  (∀ s, fieldAt (dget s 0x7000 0) 0 1 = 1 → s.red.drill = none → isActive s = true → peerFit s = true →
    s.red.origB = some (!s.power.strapB) → fieldAt (dget s 0x7000 0) 2 2 ≤ s.red.fitMin →
    exec .revertHandover s = .next { s with red.handover := some (dueE s), red.relKind := 5, red.relWhy := 7 }) ∧
  (∀ s, drillDue s = true → isActive s = true → peerFit s = true → exec .swapDrill s = .next { s with
    red.handover := some (dueE s), red.relKind := 4, red.relWhy := 6, red.drillOrig := true
    red.lastDrill := some (minuteNow s) }) ∧
  (∀ s, drillDue s = true → isActive s = true → peerFit s = false → ∃ t, exec .swapDrill s = .next t ∧
    Wrote { s with red.relKind := 4, red.relWhy := 6, red.lastDrill := some (minuteNow s) } t 7 2 0x05) ∧
  (∀ d s, isActive s = true → s.red.drill = some d → d ≤ s.epo.ticks → s.red.checking = false → ∃ t,
    exec .drillEnd s = .next t ∧ t.red.drill = none ∧ t.red.handover = some (dueE s) ∧
    dget t 0x7004 3 = satInc (dget s 0x7004 3) 0xFFFFFFFF ∧
    Wrote { s with red := t.red, dic.vals := t.dic.vals } t 7 0 0x04) ∧
  (∀ s, s.red.checking = true → s.red.checkLeft = 0 → failingPhases s = 0 → exec .phaseCheckComplete s =
    .next { s with red.checking := false, red.failMask := 0 }) ∧
  (∀ s, s.red.checking = true → s.red.checkLeft = 0 → failingPhases s ≠ 0 → s.red.drill = none → ∃ t,
    exec .phaseCheckComplete s = .next t ∧ t.red.driveFault = true ∧
    t.cot.checkedOff = s.cot.checkedOff ||| failingPhases s ∧ t.red.failMask = failingPhases s ∧
    Wrote { s with red := t.red, cot := t.cot } t 7 2 0x06) ∧
  (∀ s, s.red.role = .active → ∃ t, exec .peerAbsent s = .next t ∧ t.red.role = .alone ∧
    Wrote { s with red := t.red } t 7 1 0x0E) ∧
  (∀ s, s.red.role = .standby → exec .peerAbsent s =
    .next { s with red.peerHere := false, red.lineOk := false, red.peerHold := false })

/-- The trace, the snapshot and the flight recorder (R258, R259, R261 to R263, R480): arming clears TRIGGERED and DONE; a
trigger of an armed, enabled trace keeps the sample index and starts the fill of the 32,768 − PRE samples after it; the last of
them sets DONE; a snapshot freezes when it is due; a frame of the recorder is written at its place of the recorder region with
every other byte of the stack unchanged, and waits in FIFO F2 while the engine is stopped; a latch's 60 s over, the recorder
stops; outside the Real-Time core the trace controls answer a bus error. Choices of the model in it: log entries 28, 29 and 30.
-/
def Obligations.TraceAndRecorder : Prop :=
  (∀ s, exec (.traceArm .rt) s =
    .next { s with dic.busErr := false, trc.armed := true, trc.triggered := false, trc.done := false }) ∧
  (∀ s, s.trc.armed = true → s.trc.en = true → exec (.traceSwtrig .rt) s = .next { s with
    dic.busErr := false, trc.armed := false, trc.triggered := true, trc.tpos := s.trc.pos
    trc.left := 32768 - s.trc.pre }) ∧
  (∀ s, s.trc.armed = true → s.trc.en = true → trigEnabled s = true → exec .traceTrigger s =
    .next { s with
      trc.armed := false, trc.triggered := true, trc.tpos := s.trc.pos, trc.left := 32768 - s.trc.pre }) ∧
  (∀ s, s.trc.triggered = true → s.trc.done = false → exec .traceDone s = .next { s with trc.done := true }) ∧
  (∀ s, s.trc.snapDue = true →
    exec .snapshotFreeze s = .next { s with trc.snapDue := false, trc.snapFrozen := true }) ∧
  (∀ v s, s.power.mstate = .live → isActive s = true → s.trc.recRun = true →
    (s.eng.state = .idle ∨ s.eng.state = .running) → ∃ t, exec (.recorderFrame v) s = .next t ∧
    dramN t (s.trc.recSeq % 63150000 * 272) 272 = frameValue s v % 256 ^ 272 ∧
    (∀ a, a < s.trc.recSeq % 63150000 * 272 ∨ s.trc.recSeq % 63150000 * 272 + 272 ≤ a →
      memRead t.net.dram a = memRead s.net.dram a) ∧
    t.trc.recSeq = (s.trc.recSeq + 1) % 2 ^ 32 ∧
    t.trc.recInSeg = (if s.trc.recInSeg + 1 < 25000 then s.trc.recInSeg + 1 else 0) ∧
    t.trc.segDone = (if s.trc.recInSeg + 1 < 25000 then s.trc.segDone else s.trc.segDone + 1) ∧
    t = { s with trc := t.trc, net.dram := t.net.dram }) ∧
  (∀ n s, s.trc.recStop = some n → n ≤ s.epo.ticks →
    exec .recorderAutoStop s = .next { s with trc.recRun := false, trc.recStop := none }) ∧
  (∀ c s, c ≠ .rt → exec (.traceArm c) s = .next (busError s c 9) ∧ exec (.traceSwtrig c) s = .next (busError s c 9)) ∧
  (∀ v s, s.power.mstate = .live → isActive s = true → s.trc.recRun = true → s.eng.state ≠ .idle →
    s.eng.state ≠ .running → s.trc.recQ.length < 64 → ∃ t, exec (.recorderFrame v) s = .next t ∧
    t.trc.recQ = s.trc.recQ ++ [(s.trc.recSeq, frameValue s v)] ∧ t.trc.recSeq = (s.trc.recSeq + 1) % 2 ^ 32 ∧
    t = { s with trc := t.trc })

/-- Features, refreshes and forecasts (R142, R160, R164 to R166, R170 to R172, R183, R446, R480): the active module forms a
frame on its 10 µs and the standby takes it; a running engine keeps it, and a stopped one leaves it in FIFO F0, which drops what
is beyond 8; a refresh starts where one is due, and one that has not completed is invalid; a complete refresh of a sound engine
within its deadline is published, unless its output is not finite; one late, or discarded for an error, is invalid; the hold
forecast serves after 1 ms. Choices of the model in it: log entries 13, 17, 52 and 92. -/
def Obligations.RefreshesAndForecasts : Prop :=
  let rest (s : State) : EngState :=
    if engOn s then if s.eng.mapNext.isSome && !s.eng.built then .running else .idle else s.eng.state
  let fixed (s : State) (a b : Nat) : State := bumpN (bumpN s 0x4182 0 a) 0x4182 2 b
  (∀ f s, s.power.mstate = .live → isActive s = true → s.eng.frameN < 100 → 2000 * s.eng.frameN ≤ s.epo.clk →
    engOn s = true → ∃ t, exec (.featureFrame f) s = .next t ∧
    t.eng.feats = featureList s f.feats ∧ t.eng.frameN = s.eng.frameN + 1 ∧
    t.eng.featHist = (featureList s f.feats :: s.eng.featHist).take 3000000 ∧
    t = { s with eng := t.eng, red.lanes := t.red.lanes }) ∧
  (∀ f s, s.power.mstate = .live → isStandby s = true → s.eng.frameN < 100 → 2000 * s.eng.frameN ≤ s.epo.clk →
    engOn s = true → ∃ t, exec (.featureFrame f) s = .next t ∧ t.eng.feats = f.feats ∧
    t.eng.frameN = s.eng.frameN + 1 ∧ t.eng.featHist = (f.feats :: s.eng.featHist).take 3000000 ∧
    t = { s with eng := t.eng }) ∧
  (∀ f s, s.power.mstate = .live → isStandby s = true → s.eng.frameN < 100 → 2000 * s.eng.frameN ≤ s.epo.clk →
    engOn s = false → ∃ t, exec (.featureFrame f) s = .next t ∧ t.eng.feats = f.feats ∧ t.eng.featHist = s.eng.featHist ∧
    t.eng.feedQ = (if s.eng.feedQ.length < 8 then s.eng.feedQ ++ [f.feats] else s.eng.feedQ) ∧
    mget t.power.xdrop 0 =
      (if s.eng.feedQ.length < 8 then mget s.power.xdrop 0 else min (mget s.power.xdrop 0 + 1) 0xFFFFFFFF) ∧
    t = { s with eng := t.eng, power.xdrop := t.power.xdrop }) ∧
  (∀ s, s.power.mstate = .live → engOn s = true → refreshDue s = true → exec .refreshStart s = .next { s with
    eng.state := .running, eng.started := some (s.epo.count, s.epo.clk / 200), eng.since := (0, 0)
    eng.stripes := (s.eng.stripes + 1) % 4
    eng.validRun := if s.eng.started.isSome then 0 else s.eng.validRun
    eng.lastGrid := if s.eng.mapping = 1 then s.eng.lastGrid else some (10 * s.epo.count + s.epo.clk / 20000)
    eng.refreshNo := if s.eng.mapping = 1 then s.eng.refreshNo else s.eng.refreshNo + 1 }) ∧
  (∀ s, s.eng.started.isSome = true → exec .refreshDeadlineMiss s =
    .next { s with eng.started := none, eng.validRun := 0, eng.state := rest s }) ∧
  (∀ a b i e n s, s.eng.started = some (e, n) → s.eng.state = .running → s.eng.corrupt = 0 →
    refreshLate s e n = false → ∃ t, exec (.refreshDone a b i) s = .next t ∧ t.eng.started = none ∧
    (let out := (refreshRun (fixed s a b) (if s.eng.mapping = 1 then 300 else 1500)).1
      if out.any (fun w => f32NonFinite w.toNat) then t.eng.frame = s.eng.frame ∧ t.eng.validRun = 0
      else t.eng.lastValid = 200000 * s.epo.ticks + s.epo.clk ∧ t.eng.validRun = satInc s.eng.validRun 255 ∧
        (s.eng.mapping ≠ 1 → s.eng.holdFc = false → t.eng.frame.valid = true ∧ t.eng.frame.hold = false ∧
          t.eng.frame.epoch = e ∧ t.eng.frame.start = n ∧ t.net.viewCount = s.net.viewCount + 1 ∧
          dramN t (ld1Base + 0x400000) 8 = (s.net.viewCount + 1) % 256 ^ 8)) ∧
    (∀ a, a < ld1Base + 0x400000 → memRead t.net.dram a = memRead s.net.dram a) ∧
    t = { s with
      eng := t.eng, net.dram := t.net.dram, net.viewCount := t.net.viewCount, net.burstCount := t.net.burstCount
      dic.vals := t.dic.vals, epo.inferred := t.epo.inferred }) ∧
  (∀ a b i p s, s.eng.started = some p → (s.eng.corrupt ≠ 0 ∨ s.eng.state ≠ .running) → ∃ t,
    exec (.refreshDone a b i) s = .next t ∧ dget t 0x4182 9 = satInc (dget s 0x4182 9) 0xFFFFFFFF ∧
    dget t 0x4182 0 = min (dget s 0x4182 0 + a) 0xFFFFFFFF ∧ dget t 0x4182 2 = min (dget s 0x4182 2 + b) 0xFFFFFFFF ∧
    t = { s with eng.started := none, eng.validRun := 0, eng.state := rest s, dic.vals := t.dic.vals }) ∧
  (∀ a b i e n s, s.eng.started = some (e, n) → s.eng.corrupt = 0 → s.eng.state = .running → refreshLate s e n = true →
    exec (.refreshDone a b i) s =
      .next { fixed s a b with eng.started := none, eng.validRun := 0, eng.state := rest s }) ∧
  (∀ s, s.power.mstate = .live → s.eng.lastValid + 200000 ≤ 200000 * s.epo.ticks + s.epo.clk → ∃ t,
    exec .holdForecast s = .next t ∧ t.eng.holdFc = true ∧ t.eng.returning = false ∧ t.eng.validRun = 0 ∧
    t.eng.frame.hold = true ∧ t.eng.frame.epoch = s.epo.count ∧ t.net.viewCount = s.net.viewCount + 1 ∧
    t = { s with eng := t.eng, net.dram := t.net.dram, net.viewCount := t.net.viewCount })

/-- Learning and model slots (R173, R180, R181, R186, R189 to R192): a pair that is due goes to the holdout set or to the
training set by its refresh number; a step with a whole batch is done, or deferred and counted; an evaluation writes both
errors, and the candidate passes or is rejected; the learning state is mirrored; the end of a load leaves the slot verified,
with what its header says, or empty with the code; a damaged slot is fetched from the standby, or its service moves to slot 0.
Choices of the model in it: log entries 13, 16, 93 and 111. -/
def Obligations.LearningAndSlots : Prop :=
  (∀ r l s, learnOn s = true → pairDue s = some (r, l) → exec .trainingPair s = .next { s with
    eng.refs := s.eng.refs.filter (fun x => decide (r.number < x.number))
    eng.holdout := if r.number % 10 = 9 then (⟨r, l⟩ :: s.eng.holdout).take 4096 else s.eng.holdout
    eng.train := if r.number % 10 = 9 then s.eng.train else (⟨r, l⟩ :: s.eng.train).take 65536 }) ∧
  (∀ c s, learnOn s = true → (pkgOf s (servingSlot s)).cfg = some c → c.batch ≤ s.eng.train.length →
    stepDeferred s = false → ∃ t, exec .learningStep s = .next t ∧
    t.eng.stepsDone = satInc s.eng.stepsDone 0xFFFFFFFF ∧ t.eng.learn = stepOf (pkgOf s (servingSlot s)) c
      (servingWeights s) (masterOf s (pkgOf s (servingSlot s))) (batchOf s c.batch) s.eng.learn ∧
    t = { s with
      eng.stepsDone := t.eng.stepsDone, eng.mirrored := false, eng.drawnTo := t.eng.drawnTo, eng.learn := t.eng.learn }) ∧
  (∀ c s, learnOn s = true → (pkgOf s (servingSlot s)).cfg = some c → c.batch ≤ s.eng.train.length →
    stepDeferred s = true →
    exec .learningStep s = .next { s with eng.stepsDeferred := satInc s.eng.stepsDeferred 0xFFFFFFFF }) ∧
  (∀ s, learnOn s = true → (∀ n, s.eng.lastEval = some n → n + 10000 ≤ s.epo.ticks) → ∃ t,
    exec .candidateEvaluation s = .next t ∧ t.eng.lastEval = some s.epo.ticks ∧
    t.eng.errServe =
      BitVec.ofNat 32 (lossOf .exact (pkgOf s (servingSlot s)) (servingWeights s) s.eng.holdout) ∧
    (if candidatePasses s t.eng.errCand t.eng.errServe then
      t.eng.candidate.isSome = true ∧ t.eng.candAcked = !s.red.peerHere ∧ t.eng.rejected = s.eng.rejected
    else t.eng.candidate = s.eng.candidate ∧ t.eng.rejected = satInc s.eng.rejected 0xFFFFFFFF) ∧
    t = { s with
      eng.errServe := t.eng.errServe, eng.errCand := t.eng.errCand, eng.lastEval := t.eng.lastEval
      eng.candidate := t.eng.candidate, eng.candW := t.eng.candW, eng.candAcked := t.eng.candAcked
      eng.rejected := t.eng.rejected, red.mirrorsSent := t.red.mirrorsSent, red.lanes := t.red.lanes }) ∧
  (∀ s, isActive s = true → mirrorUp s = true → ∃ t, exec .learningStateMirror s = .next t ∧ t.eng.mirrored = true ∧
    t.eng.checkpoint = s.eng.learn ∧ t.red.mirrorsSent = s.red.mirrorsSent + 1 ∧
    t = { s with
      eng.mirrored := true, eng.checkpoint := s.eng.learn, eng.mirrorTick := s.epo.ticks
      red.mirrorsSent := t.red.mirrorsSent, red.lanes := t.red.lanes }) ∧
  (∀ k g s, 1 ≤ k → (slotOf s k).state = 1 → k < s.eng.slots.length → ∃ t, exec (.modelLoadDone k g) s = .next t ∧
    mget t.eng.loaders k = 0 ∧ (∀ j, 1 ≤ j → j ≠ k → slotOf t j = slotOf s j) ∧
    (if packageCode s k g = 0 then (slotOf t k).state = 2 ∧ (slotOf t k).result = 0 ∧
      (slotOf t k).ident = (pkgOf s k).ident ∧ (slotOf t k).version = (pkgOf s k).version ∧
      (slotOf t k).weights = (pkgOf s k).weightBytes
    else slotOf t k = { Slot.empty with result := packageCode s k g }) ∧
    (packageCode s k g = 0x07 → dget t 0x8070 0 = satInc (dget s 0x8070 0) 0xFFFFFFFF) ∧
    t = { s with
      eng.slots := t.eng.slots, eng.loaders := t.eng.loaders, dic.vals := t.dic.vals
      red.mirrorsSent := t.red.mirrorsSent, red.lanes := t.red.lanes }) ∧
  (∀ k s, 1 ≤ k → (slotOf s k).state = 4 → k < s.eng.slots.length → s.red.peerHere = true → ∃ t,
    exec (.damagedSlotFetch k (some (slotOf s k).hash)) s = .next t ∧
    slotOf t k = { slotOf s k with state := if k = servingSlot s then 3 else 2 } ∧
    t = { s with eng.slots := t.eng.slots, eng.swapTo := none }) ∧
  (∀ s, (slotOf s (servingSlot s)).state = 4 → exec (.damagedSlotFetch (servingSlot s) none) s =
    .next { s with eng.swapTo := some 0 })

/-- Errors, temperatures and the mapping of the engine (R143, R145, R155, R156, R158 to R160, R187, R310, R454, R462): an
uncorrectable error is counted by its place and handled by what held the data; one in the data of a mailbox command ends it with
Internal Error; a scrub read moves to the next word, starts a sweep at its period, and counts a correction; a failed transfer of
a bond channel is attempted again and counted, and the eighth failure retrains the channel; a transfer that holds leaves the
state; at 110 °C the engine faults, and below 95 °C the limit and the fault end; the wake completes, or with bridge B1 failed
the engine is in Fault; fast mode ends at a class-E boundary; a background build completes, and its comparison schedules the
switch or abandons it. Choices of the model in it: log entries 10, 56, 68, 94 and 96. -/
def Obligations.EngineErrorsAndMapping : Prop :=
  (∀ tl bk h s, (∀ l o, h ≠ .window l o) → ∃ t, exec (.uncorrectableError h (.sram tl bk)) s = .next t ∧
    dget t 0x4182 1 = satInc (dget s 0x4182 1) 0xFFFFFFFF ∧
    (h = .sramWeights → t.eng.corrupt = 2) ∧ (h = .learning → t.eng.learn = s.eng.checkpoint) ∧
    (∀ k, h = .dramWeights k → 1 ≤ k → k < s.eng.slots.length → (slotOf t k).state = 4) ∧
    (h = .refresh → t.eng.started = none) ∧ (h = .layout → t.eng.mapNext = none) ∧
    (h = .swapNew → t.eng.swapRun = false) ∧
    t = { s with eng := t.eng, dic := t.dic, recs := t.recs, trc := t.trc, sec := t.sec, fac.stepDue := t.fac.stepDue }) ∧
  (∀ b s, s.eng.scrubAddr < stackEnd → s.eng.scrubAddr ≠ 0 → ∃ t, exec (.scrubRead b) s = .next t ∧
    t.eng.scrubAddr = s.eng.scrubAddr + 8 ∧
    dget t 0x4182 2 = (if b then satInc (dget s 0x4182 2) 0xFFFFFFFF else dget s 0x4182 2) ∧
    t = { s with eng.scrubAddr := t.eng.scrubAddr, dic.vals := t.dic.vals }) ∧
  (∀ s, stackEnd ≤ s.eng.scrubAddr → s.eng.scrubTick + 3600000 * dnow s 0x4185 0 ≤ s.epo.ticks →
    exec (.scrubRead false) s = .next { s with eng.scrubAddr := 8, eng.scrubTick := s.epo.ticks }) ∧
  (∀ c a d crc f h s, c < 16 → bondCrc a d ≠ crc → (f = true ∨ mget s.eng.bondTries c < 7) → ∃ t,
    exec (.bondCrcFail c a d crc f h) s = .next t ∧
    mget t.eng.bondTries c = (if f then 0 else mget s.eng.bondTries c) + 1 ∧
    dget t 0x4182 4 = satInc (dget s 0x4182 4) 0xFFFFFFFF ∧
    t = { s with eng.bondTries := t.eng.bondTries, dic.vals := t.dic.vals }) ∧
  (∀ c a d crc h s, c < 16 → bondCrc a d ≠ crc → mget s.eng.bondTries c = 7 → s.eng.bondTrains = [] → ∃ t,
    exec (.bondCrcFail c a d crc false h) s = .next t ∧ dget t 0x4182 5 = satInc (dget s 0x4182 5) 0xFFFFFFFF ∧
    mget t.eng.bondTries c = 8 ∧
    t = { s with eng.bondTries := t.eng.bondTries, eng.bondTrains := t.eng.bondTrains, dic.vals := t.dic.vals }) ∧
  (∀ c a d f h s, exec (.bondCrcFail c a d (bondCrc a d) f h) s = .next s) ∧
  (∀ m s, 1100 ≤ m.temp → engOn s = true → ∃ t, exec (.engineTemperature m) s = .next t ∧ t.eng.state = .fault ∧
    t.eng.hot = true ∧ t.eng.hotFault = true ∧ t.eng.holdFc = true ∧ t.eng.started = none ∧ t.eng.temp = m.temp ∧
    t = { s with eng := t.eng, power := t.power, trc := t.trc, recs := t.recs, sec := t.sec }) ∧
  (∀ m s, 1000 ≤ m.temp → m.temp < 1100 → exec (.engineTemperature m) s = .next { s with
    eng.temp := m.temp, eng.power := m.power, eng.tiles := m.tiles, eng.dramUse := m.dram, eng.hot := true }) ∧
  (∀ m s, m.temp < 950 → ∃ t, exec (.engineTemperature m) s = .next t ∧ t.eng.hot = false ∧ t.eng.hotFault = false ∧
    (s.eng.hotFault = true → s.eng.state = .fault → s.power.eplLock = true → s.power.bridgeFailed = [] →
      t.eng.waking = true) ∧ t = { s with eng := t.eng }) ∧
  (∀ s, s.eng.waking = true → s.power.mstate = .live → s.power.eplEn = true → s.power.eplLock = true →
    s.eng.hotFault = false → s.power.bridgeFailed.contains 1 = false → s.eng.feedQ = [] → s.trc.recQ = [] →
    exec .engineWakeComplete s = .next { s with
      eng.waking := false, eng.state := .running, eng.corrupt := 0, eng.carried := []
      eng.sram := if (slotOf s (servingSlot s)).resident then some (servingSlot s) else none
      power.pulseCount := mdel s.power.pulseCount 1 }) ∧
  (∀ s, dget s 0x4180 0 = 1 → onBench s = false → s.eng.fastOut = false → ∃ t, exec .fastModeExit s = .next t ∧
    t.eng.fastOut = true ∧ (∃ p, pendOf t 0x4180 0 = some p ∧ p.value = 0 ∧ p.cls = 2 ∧ p.due = dueE s) ∧
    t = { s with eng.fastOut := true, dic.pend := t.dic.pend }) ∧
  (∀ s, s.eng.mapNext.isSome = true → exec .reshardBuildDone s = .next { s with
    eng.built := true
    eng.state := if engOn s then if s.eng.started.isSome then .running else .idle else s.eng.state }) ∧
  (∀ m s, s.eng.mapNext = some m → s.eng.built = true → s.eng.switchAt = none → isActive s = true →
    shadowEqual s m = true → ∃ t, exec (.reshardShadowCompare false) s = .next t ∧
    (∃ n, t.eng.switchAt = some n ∧ s.epo.ticks < n ∧ n ≤ s.epo.ticks + 2) ∧
    t = { s with eng.switchAt := t.eng.switchAt }) ∧
  (∀ u m s, s.eng.mapNext = some m → s.eng.built = true → s.eng.switchAt = none → isActive s = true →
    (u = true ∨ shadowEqual s m = false) → ∃ t, exec (.reshardShadowCompare u) s = .next t ∧ t.eng.mapNext = none ∧
    t.eng.built = false ∧ t.eng.noShardBefore = s.epo.ticks + 10000 ∧
    dget t 0x4106 3 = satInc (dget s 0x4106 3) 0xFFFFFFFF ∧
    t = { s with eng := t.eng, dic := t.dic, recs := t.recs, trc := t.trc, sec := t.sec, fac.stepDue := t.fac.stepDue }) ∧
  (∀ ld o tl bk m s, s.net.mailOut = some m → m.ld = ld → s.net.cxl = 2 → ∃ t,
    exec (.uncorrectableError (.window ld o) (.sram tl bk)) s = .next t ∧
    t.net.mailOut = some { ld := ld, opcode := m.opcode, code := 3, payload := [] } ∧
    dget t 0x1012 5 = satInc (dget s 0x1012 5) 0xFFFFFFFF ∧ dget t 0x4182 1 = satInc (dget s 0x4182 1) 0xFFFFFFFF ∧
    t.net.evRecords = s.net.evRecords ++ [(s.net.evHandle, ld, o)] ∧ t.net.evHandle = s.net.evHandle + 1) ∧
  (∀ s, s.eng.waking = true → s.power.bridgeFailed.contains 1 = true → ∃ t, exec .engineWakeComplete s = .next t ∧
    t.eng.state = .fault ∧ t.eng.waking = false ∧ t.eng.holdFc = true ∧
    t = { s with eng := t.eng, power := t.power, trc := t.trc, recs := t.recs, sec := t.sec })

/-- The checks on a received frame, in order (R424, R425), on a key frame: one of another identifier is counted as received and
as unknown; one of a source that is not enrolled, then one whose tag does not verify, then one of a pair older than the
freshness kept are each counted in their own element of object 0x1002; none of these reaches the chunks collected or the
freshness kept. A second copy of a pair accepted changes nothing but what the receiver notes of the line. A frame of no known
identifier is counted. -/
def Obligations.FrameChecksInOrder : Prop :=
  ∀ s h (p : KeyChunk),
    (h.ident ≠ 0x020 → ∃ t, exec (.keyFrame h p) s = .next t ∧ dget t 0x1002 0 = satInc (dget s 0x1002 0) 0xFFFFFFFF ∧
      dget t 0x1002 5 = satInc (dget s 0x1002 5) 0xFFFFFFFF ∧ t.sec = s.sec ∧
      t = { s with dic.vals := t.dic.vals, net.rxLog := t.net.rxLog, lead.ackOff := t.lead.ackOff }) ∧
    (h.ident = 0x020 → frameKnown h = true → enrolledNode s h.src = false → ∃ t, exec (.keyFrame h p) s = .next t ∧
      dget t 0x1002 3 = satInc (dget s 0x1002 3) 0xFFFFFFFF ∧ t.sec.keyChunks = s.sec.keyChunks ∧
      t.sec.fresh = s.sec.fresh ∧
      t = { s with dic.vals := t.dic.vals, net := t.net, lead.ackOff := t.lead.ackOff, recs := t.recs, trc := t.trc, sec := t.sec }) ∧
    (h.ident = 0x020 → frameKnown h = true → enrolledNode s h.src = true → tagOk s (extendEpoch s h.epoch) h.tag = false →
      zeroOk s h = false → ∃ t, exec (.keyFrame h p) s = .next t ∧
      dget t 0x1002 2 = satInc (dget s 0x1002 2) 0xFFFFFFFF ∧ t.sec.keyChunks = s.sec.keyChunks ∧
      t.sec.fresh = s.sec.fresh ∧
      t = { s with dic.vals := t.dic.vals, net := t.net, lead.ackOff := t.lead.ackOff, recs := t.recs, trc := t.trc, sec := t.sec }) ∧
    (h.ident = 0x020 → frameKnown h = true → enrolledNode s h.src = true → tagOk s (extendEpoch s h.epoch) h.tag = true →
      mget s.sec.fresh (pairKey h) = pairOf h (extendEpoch s h.epoch) → ∃ t, exec (.keyFrame h p) s = .next t ∧
      t = { s with net.rxLog := t.net.rxLog, lead.ackOff := t.lead.ackOff }) ∧
    (h.ident = 0x020 → frameKnown h = true → enrolledNode s h.src = true → tagOk s (extendEpoch s h.epoch) h.tag = true →
      pairOf h (extendEpoch s h.epoch) < mget s.sec.fresh (pairKey h) → ∃ t, exec (.keyFrame h p) s = .next t ∧
      dget t 0x1002 4 = satInc (dget s 0x1002 4) 0xFFFFFFFF ∧ t.sec = s.sec ∧
      t = { s with dic.vals := t.dic.vals, net.rxLog := t.net.rxLog, lead.ackOff := t.lead.ackOff }) ∧
    (frameKnown h = false → ∃ t, exec (.unknownFrame h) s = .next t ∧
      dget t 0x1002 5 = satInc (dget s 0x1002 5) 0xFFFFFFFF ∧ t = { s with dic.vals := t.dic.vals })

/-- Frames that pass the checks (R36, R45, R74, R77, R81, R84, R86, R88, R93, R422, R426, R427): a heartbeat notes its sender's
role and, with the LEAD bit and no holder known, the holder and the expiry; one of the module's own slot puts it in position
conflict; a pace frame of the holder brings the epoch number and the next plan, one of an epoch already taken is counted, one of
another sender is counted; a periodic cap frame of the holder brings the shelf's ceiling and, against no mark of its epoch, the
breaker cap; a tray report its present and limited chips, an event report to the lead its acknowledgement; a join with a rising
table the next table of its chips, one without is counted; a chunk of a group key is collected. Choices of the model in it: log
entries 54 and 107. -/
def Obligations.AcceptedFrames : Prop :=
  (∀ h p s, Passes s h false true true → h.ident = 0x010 + p.slot → p.slot ≠ slotIdx s → ∃ t,
    exec (.heartbeat h p) s = .next t ∧ mget t.lead.roles p.slot = p.role + 1 ∧ t.net.peerBeat = s.epo.ticks + 1 ∧
    t.sec.fresh = mset s.sec.fresh (pairKey h) (pairOf h (extendEpoch s h.epoch)) ∧
    (bit p.lease.toNat 0 = true → bit p.lease.toNat 2 = false → s.lead.isLead = false → s.lead.holder = none →
      t.lead.holder = some p.slot ∧ t.lead.expiry = some (p.lease.toNat / 65536)) ∧
    t = { s with lead := t.lead, net := t.net, sec := t.sec, dic.vals := t.dic.vals, fac.mMinAllow := t.fac.mMinAllow }) ∧
  (∀ h p s, Passes s h false true true → h.ident = 0x010 + p.slot → p.slot = slotIdx s → s.power.mstate = .watch → ∃ t,
    exec (.heartbeat h p) s = .next t ∧ t.power.hold = .position ∧
    t = { accepted s h 32 false with power.hold := .position }) ∧
  (∀ h p s, Passes s h true false true → h.ident = 0x004 → s.lead.holder = some p.lead → p.newLead = false →
    (∀ l, s.epo.lastPace = some l → l < h.epoch) → ∃ t, exec (.paceFrame h p) s = .next t ∧
    t.epo.count = h.epoch ∧ t.epo.planNext = some (planOf p h.epoch) ∧ t.epo.ttw = p.twilight ∧
    t.epo.lastPace = some h.epoch ∧ t.lead.holder = s.lead.holder ∧ t.cot = s.cot ∧ t.lpe = s.lpe ∧ t.strs = s.strs ∧
    t.red = s.red ∧ t.eng = s.eng ∧ t.net.dram = s.net.dram) ∧
  (∀ h p s, Passes s h true false true → h.ident = 0x004 → s.lead.holder = some p.lead → ∀ l, s.epo.lastPace = some l →
    h.epoch ≤ l → exec (.paceFrame h p) s = .next (bump (accepted s h 96 true) 0x4005 3)) ∧
  (∀ h p s, Passes s h true false true → h.ident = 0x004 → paceFrom s p = false →
    exec (.paceFrame h p) s = .next (bump (accepted s h 96 true) 0x3050 4)) ∧
  (∀ h p s, Passes s h true false true → 0x005 ≤ h.ident → h.ident ≤ 0x008 → p.urgent = false →
    s.lead.holder = some p.sender → ∃ t, exec (.capFrame h p) s = .next t ∧
    t.fac.ceiling = at0 p.ceilings (shelfIdx s) ∧
    ((∀ m ∈ s.lead.capMarks, m.epoch < h.epoch) → breakerCap t = p.breakerCap) ∧
    t = { s with lead := t.lead, net := t.net, sec := t.sec, dic.vals := t.dic.vals, fac := t.fac }) ∧
  (∀ h p s, Passes s h false false false → h.ident = 0x400 + p.tray → ∃ t, exec (.trayReport h p) s = .next t ∧
    mget t.lead.present p.tray = p.present % 2 ^ 32 + 1 ∧ mget t.lead.limited p.tray = p.limitMask ∧
    (s.lead.isLead = true → p.event = true → (p.tray, h.counter) ∈ t.lead.acks) ∧
    t = { s with lead := t.lead, net := t.net, sec := t.sec, dic.vals := t.dic.vals }) ∧
  (∀ h p s, Passes s h false false false → h.ident = 0x480 + p.tray → p.leave = false → tableOk p = true → ∃ t,
    exec (.joinFrame h p) s = .next t ∧
    (∀ k ∈ maskSlots p.tray p.mask, mget t.lead.tablesNext k = tableVal p ∧ mget t.lead.leaving k = 0) ∧
    t = { s with lead := t.lead, net := t.net, sec := t.sec, dic.vals := t.dic.vals }) ∧
  (∀ h p s, Passes s h false false false → h.ident = 0x480 + p.tray → p.leave = false → tableOk p = false →
    exec (.joinFrame h p) s = .next (bump (accepted s h 540 false) 0x3050 5)) ∧
  (∀ h p s, Passes s h false true false → h.ident = 0x020 → s.lead.holder = some h.src → p.target = slotIdx s → p.chunk < 24 →
    s.sec.keyCur = none → s.sec.keyChunkEpoch = p.switchEpoch → s.sec.keyChunks.length < 23 →
    s.sec.keyChunks.contains p.chunk = false → exec (.keyFrame h p) s = .next { accepted s h 72 false with
      sec.keyChunks := p.chunk :: s.sec.keyChunks, sec.keyChunkEpoch := p.switchEpoch })

/-- Transmission on the field network (R306, R307, R416, R418, R419, R422, R426, R428, R432, R435, R437): a free channel takes
the frame of the lowest identifier that the schedule lets start, within the budget of quantity 18; beyond it the frame waits and
is counted; the first completion of a frame is counted; a babble cut takes the channel down, is counted and recorded, and the
third within 10 s silences it; a cut ends; a bus-off recovery is counted and recorded; an extra meridian edge is recorded; a
heartbeat is formed where none was in this epoch; a key request is counted, and noted by the lead for an enrolled node; the lead
distributes its first group key, and a new one an hour after the last, in force 60,000 epochs later; the lead drives the
meridian line. Choices of the model in it: log entries 53, 58, 69 and 107. -/
def Obligations.FieldTransmission : Prop :=
  (∀ c n f s, chUp s c = true → onCh s c = none → lowestFrame ((txQ s c).filter (mayStart s c n)) = some f →
    occNs s c (nsAt s n) + wireNs s f.size ≤ 10000 * effLimit s 18 → ∃ t, exec (.frameTransmit c n) s = .next t ∧
    onCh t c = some f ∧ txQ t c = dropFrame (txQ s c) f ∧ (chIdx c, nsAt s n, wireNs s f.size) ∈ t.net.txLog ∧
    t = { s with net := t.net }) ∧
  (∀ c n f s, chUp s c = true → onCh s c = none → lowestFrame ((txQ s c).filter (mayStart s c n)) = some f →
    10000 * effLimit s 18 < occNs s c (nsAt s n) + wireNs s f.size → s.net.waited = false → ∃ t,
    exec (.frameTransmit c n) s = .next t ∧ onCh t c = none ∧ txQ t c = txQ s c ∧ t.net.waited = true ∧
    dget t 0x5083 65 = satInc (dget s 0x5083 65) 0xFFFFFFFF ∧
    t = { s with net := t.net, dic.vals := t.dic.vals, recs := t.recs, trc := t.trc, sec := t.sec }) ∧
  (∀ c f s, onCh s c = some f → isControl f = false → s.net.sent.contains f = false → ∃ t,
    exec (.frameTransmitComplete c) s = .next t ∧ onCh t c = none ∧ f ∈ t.net.sent ∧
    dget t 0x1002 1 = satInc (dget s 0x1002 1) 0xFFFFFFFF ∧ t = { s with net := t.net, dic.vals := t.dic.vals }) ∧
  (∀ c s, ∃ t, exec (.babbleCut c) s = .next t ∧ bit t.grd.cut (chIdx c) = true ∧ bit t.grd.cutFlag (chIdx c) = true ∧
    onCh t c = none ∧ chUp t c = false ∧ dget t 0x5083 66 = satInc (dget s 0x5083 66) 0xFFFFFFFF ∧
    (∃ r ∈ t.recs.ring, r.block = 4 ∧ r.cause = 0x04) ∧
    (2 ≤ (s.grd.cutTicks.filter (fun p => decide (s.epo.ticks < p.2 + 10000) && p.1 == chIdx c)).length →
      bit t.grd.silent (chIdx c) = true) ∧
    t = { s with grd := t.grd, net := t.net, dic.vals := t.dic.vals, recs := t.recs, trc := t.trc, sec := t.sec }) ∧
  (∀ c s, exec (.cutEnd c) s = .next { s with grd.cut := setBit s.grd.cut (chIdx c) false }) ∧
  (∀ c s, ∃ t, exec (.busOffRecovery c) s = .next t ∧ onCh t c = none ∧
    dget t 0x1002 (6 + chIdx c) = satInc (dget s 0x1002 (6 + chIdx c)) 0xFFFFFFFF ∧
    Wrote { s with net := t.net, dic.vals := t.dic.vals } t 6 1 0x01) ∧
  (∀ s, s.epo.lastEdge = true → ∃ t, exec .extraMeridianEdge s = .next t ∧ Wrote s t 6 1 0x04) ∧
  (∀ s, (s.power.mstate = .watch ∨ s.power.mstate = .live) → s.power.hold ≠ .position → s.power.strapsOk = true →
    s.net.beatAt ≠ s.epo.ticks + 1 → ∃ t, exec .heartbeatSend s = .next t ∧ t.net.beatAt = s.epo.ticks + 1 ∧
    mget t.net.txCtr (0x010 + slotIdx s) = (mget s.net.txCtr (0x010 + slotIdx s) + 1) % 65536 ∧
    t = { s with lead := t.lead, net := t.net, dic.free := t.dic.free }) ∧
  (∀ h n s, frameKnown h = true → h.ident = 0x300 + n → s.lead.isLead = false → ∃ t,
    exec (.keyRequest h n) s = .next t ∧ dget t 0x1002 0 = satInc (dget s 0x1002 0) 0xFFFFFFFF ∧
    t = { s with dic.vals := t.dic.vals, net.rxLog := t.net.rxLog, lead.ackOff := t.lead.ackOff }) ∧
  (∀ h n k s, frameKnown h = true → h.ident = 0x300 + n → s.lead.isLead = true → enrolledNode s n = true →
    mget s.sec.keyAsked n = 0 → s.sec.keyCur = some k → ∃ t, exec (.keyRequest h n) s = .next t ∧
    mget t.sec.keyAsked n = s.epo.ticks + 1 ∧
    t = { s with dic.vals := t.dic.vals, net := t.net, lead.ackOff := t.lead.ackOff, sec.keyAsked := t.sec.keyAsked }) ∧
  (∀ k s, s.lead.isLead = true → s.sec.keyNext = none → s.sec.keyCur ≠ none → s.sec.keySince + 3600000 ≤ s.epo.count → ∃ t,
    exec (.groupKeyDistribution k) s = .next t ∧ t.sec.keyNext = some k ∧ t.sec.keySwitch = s.epo.count + 60000 ∧
    t.sec.keyCur = s.sec.keyCur ∧ t = { s with sec := t.sec, net := t.net }) ∧
  (∀ k s, s.lead.isLead = true → s.sec.keyNext = none → s.sec.keyCur = none → ∃ t,
    exec (.groupKeyDistribution k) s = .next t ∧ t.sec.keyCur = some k ∧ t.sec.keySince = s.epo.count ∧
    s.epo.count + 100 ≤ t.sec.keySwitch ∧ t.sec.keyNext = none) ∧
  (∀ s, s.lead.isLead = true → exec .leadMeridianDrive s =
    .next { s with lead.drives := true, lead.pulseOut := s.lead.pulseOut + 1 })

/-- Shelves, the rack lead and throttling (R33, R39, R60, R77, R89 to R92, R100, R106, R533, R534): a shelf leaves service at a
third missed heartbeat; the healthy rectifiers form the allowance again; with the feed lost the shelf has no capability, and
both changes are recorded; a lease that lapses starts an election; after two epochs the lowest claim wins the lease, with its
expiry and the meridian line, another's claim ends this module's, and with no claim the relaxed round runs; a ceiling is removed
after its restore delay; a tray frozen for 200 epochs leaves; a constellation of over 50 mismatches has its hints marked; the
latest hold ends after 100 good epochs. Choices of the model in it: log entries 7 and 67. -/
def Obligations.ShelvesAndLead : Prop :=
  (∀ k s, k ≠ shelfIdx s → k < s.lead.shelves.length → (shelfView s k).inService = true → 3 ≤ (shelfView s k).missed → ∃ t,
    exec (.shelfLeavesService k) s = .next t ∧ (shelfView t k).inService = false ∧ shelfIn t k = false ∧
    t.lead.allowance = rackAllowance t t.epo.count ∧
    t = { s with lead := t.lead, net.capCause := t.net.capCause, fac.mMinAllow := t.fac.mMinAllow }) ∧
  (∀ m l s, ∃ t, exec (.rectifierHealthChange m l) s = .next t ∧ t.fac.rectOk = m % 256 ∧
    t.fac.un = nominalV s.fac.un l ∧ t.lead.allowance = rackAllowance t t.epo.count ∧
    t = { s with lead := t.lead, net.capCause := t.net.capCause, fac := t.fac }) ∧
  (∀ v s, isActive s = true → s.fac.feedLost = false → feedLow s v = true → ∃ t, exec (.feedLost v) s = .next t ∧
    t.fac.feedLost = true ∧
    ownCap t = 0 ∧ Wrote { s with lead := t.lead, net.capCause := t.net.capCause, fac := t.fac } t 9 1 0x0A) ∧
  (∀ v s, s.fac.feedLost = true → feedGood s v = true → ∃ t, exec (.feedRestored v) s = .next t ∧ t.fac.feedLost = false ∧
    Wrote { s with lead := t.lead, net.capCause := t.net.capCause, fac := t.fac } t 9 0 0x0B) ∧
  (∀ s, isActive s = true → s.power.mstate = .live → s.lead.isLead = false → s.lead.elapsed = none → expired s = true → ∃ t,
    exec .leadLeaseLapse s = .next t ∧ t.lead.holder = none ∧ t.lead.elapsed = some s.epo.count ∧
    t.lead.claiming = eligible90 s ∧ dget t 0x3050 1 = satInc (dget s 0x3050 1) 0xFFFFFFFF ∧
    t = { s with lead := t.lead, dic.vals := t.dic.vals }) ∧
  (∀ k e s, isActive s = true → s.power.mstate = .live → s.lead.elapsed = some e → s.lead.relaxed = false →
    e + 2 ≤ s.epo.count → lowestClaim s.lead.claims = some (slotIdx s) → ∃ t, exec (.leadElection k) s = .next t ∧
      t.lead.isLead = true ∧
    t.lead.drives = true ∧ t.lead.holder = some (slotIdx s) ∧ t.lead.expiry = some ((s.epo.count + 10) % 65536) ∧
    dget t 0x3050 2 = satInc (dget s 0x3050 2) 0xFFFFFFFF ∧ t.cot = s.cot ∧ t.red = s.red ∧ t.strs = s.strs) ∧
  (∀ k e w s, isActive s = true → s.power.mstate = .live → s.lead.elapsed = some e → s.lead.relaxed = false →
    e + 2 ≤ s.epo.count → lowestClaim s.lead.claims = some w → w ≠ slotIdx s →
    exec (.leadElection k) s = .next { s with
      lead.elapsed := none, lead.relaxed := false, lead.again := false, lead.claiming := false
      lead.expiry := some ((s.epo.count + 10) % 65536) }) ∧
  (∀ k e s, isActive s = true → s.power.mstate = .live → s.lead.elapsed = some e → s.lead.relaxed = false →
    e + 2 ≤ s.epo.count → s.lead.claims = [] → s.lead.again = false →
    exec (.leadElection k) s = .next { s with lead.relaxed := true, lead.claiming := true }) ∧
  (∀ c s, at0 s.lead.throttle c ≠ 255 → mget s.lead.clearSince c ≠ 0 →
    mget s.lead.clearSince c + at0 s.lead.restoreDelay c ≤ s.epo.ticks + 1 → exec (.throttleRestore c) s = .next { s with
      lead.throttle := setAt s.lead.throttle c 255, lead.removedAt := mset s.lead.removedAt c (s.epo.ticks + 1) }) ∧
  (∀ n s, 201 ≤ mget s.lead.frozenFor n →
    exec (.trayAbsenceLeave n) s = .next { s with lead.left := mset s.lead.left n 1 }) ∧
  (∀ c s, 50 < mget s.epo.mismatchRun c →
    exec (.hintMismatch c) s = .next { s with epo.hintBad := setBit s.epo.hintBad c true }) ∧
  (∀ c l s, s.lead.holdOrder = c :: l → 100 ≤ s.lead.holdGood →
    exec .holdRelease s = .next { s with lead.holdOrder := l, lead.holdGood := 0 })

/-- Epochs open (R46, R47, R48, R51, R54, R568): a pulse of accepted width within 2 µs of its prediction, a pulse that is
missed, and before the first pulse the module's own grid or a pulse later than 0.5 ms each open the next epoch, with the grid
error left after a correction of at most 40 control clocks where one is made; the first pulse within 0.5 ms re-aligns the open
epoch; any other pulse changes nothing. Choices of the model in it: log entries 7 and 54. -/
def Obligations.EpochsOpen : Prop :=
  (∀ p s, timebase s = true → s.epo.firstPulse = true → 500 ≤ p.high → p.high ≤ 5000 → p.err.natAbs ≤ 400 → ∃ t,
    exec (.meridianPulse p) s = .next t ∧ Opened s t ∧ t.epo.lastEdge = true ∧ t.epo.firstPulse = true ∧
    t.epo.gridErr = s.epo.gridErr + p.err - clampI (s.epo.gridErr + p.err) (-40) 40 ∧ t.icu = s.icu ∧
    t.pending = s.pending) ∧
  (∀ p s, timebase s = true → s.epo.firstPulse = false → 500 ≤ p.high → p.high ≤ 5000 → 100000 < p.pos → ∃ t,
    exec (.meridianPulse p) s = .next t ∧ Opened s t ∧ t.epo.lastEdge = true ∧ t.epo.firstPulse = true ∧
    t.epo.gridErr = 0 ∧ t.icu = s.icu ∧ t.pending = s.pending) ∧
  (∀ p s, timebase s = true → s.epo.firstPulse = false → 500 ≤ p.high → p.high ≤ 5000 → p.pos ≤ 100000 →
    exec (.meridianPulse p) s = .next { s with
      epo.firstPulse := true, epo.gridErr := 0, epo.sample := 0, epo.clk := 0, epo.lastEdge := true }) ∧
  (∀ p s, (p.high < 500 ∨ 5000 < p.high ∨ (s.epo.firstPulse = true ∧ 400 < p.err.natAbs) ∨ timebase s = false) →
    exec (.meridianPulse p) s = .next s) ∧
  (∀ e s, timebase s = true → s.epo.firstPulse = true → ∃ t, exec (.missedPulse e) s = .next t ∧
    t = openEpoch (correctGrid (bump s 0x4005 1) 0) e ∧ Opened s t ∧
    t.epo.gridErr = s.epo.gridErr - clampI s.epo.gridErr (-40) 40 ∧ t.icu = s.icu ∧ t.pending = s.pending) ∧
  (∀ e s, timebase s = true → s.epo.firstPulse = false → ∃ t, exec (.epochOwnGridOpen e) s = .next t ∧ Opened s t ∧
    t.epo.firstPulse = false ∧ t.epo.gridErr = s.epo.gridErr ∧ t.icu = s.icu ∧ t.pending = s.pending) ∧
  (∀ e s, s.epo.firstPulse = true → exec (.epochOwnGridOpen e) s = .next s) ∧
  (∀ e s, s.epo.firstPulse = false → exec (.missedPulse e) s = .next s)

/-- The twilight starts with a complete plan n + 1, or counts that plan n is held (R51, R53), once. A sample of the grid only
advances it outside Live, and in Live latches the bus voltages, calibrated, and starts both passes of the loop engine; none
follows the 250th (R46, R240, R471, R513). The attribution fold runs once, at t(10w + 15), in the active module in Live (R110).
Choices of the model in it: log entries 18, 54, 61, 65, 79 and 87. -/
def Obligations.TwilightsSamplesAndFolds : Prop :=
  (∀ s, timebase s = true → s.epo.twRunning = false → (∀ p, s.epo.planNext = some p → p.epoch ≠ s.epo.count + 1) →
    ∃ t, exec .twilightStart s = .next t ∧ dget t 0x4005 0 = satInc (dget s 0x4005 0) 0xFFFFFFFF ∧
    t = { s with
      epo.twRunning := true, epo.twPlan := false, epo.m := 0, epo.bigM := 200 * s.epo.ttw, dic.vals := t.dic.vals }) ∧
  (∀ p s, timebase s = true → s.epo.twRunning = false → s.epo.planNext = some p → p.epoch = s.epo.count + 1 →
    ∃ t, exec .twilightStart s = .next t ∧ t = { s with
      epo.twRunning := true, epo.twPlan := true, epo.m := 0, epo.bigM := 200 * s.epo.ttw, epo.ffNext := t.epo.ffNext
      eng := t.eng, lead := t.lead }) ∧
  (∀ s, s.epo.twRunning = true → exec .twilightStart s = .next s) ∧
  (∀ i s, 250 ≤ s.epo.sample → exec (.loopSample i) s = .next s) ∧
  (∀ i s, s.epo.sample < 250 → s.power.mstate ≠ .live → exec (.loopSample i) s = .next { s with
    epo.sample := s.epo.sample + 1, epo.samples := s.epo.samples + 1, epo.clk := 800 * s.epo.sample
    epo.lastEdge := s.epo.lastEdge && decide (s.epo.sample < 5) }) ∧
  (∀ i s, s.epo.sample < 250 → s.power.mstate = .live → ∃ t, exec (.loopSample i) s = .next t ∧
    t.epo.sample = s.epo.sample + 1 ∧ t.epo.samples = s.epo.samples + 1 ∧ t.epo.clk = 800 * s.epo.sample ∧
    t.cot.bus1 = calibratedN s 0x300 i.dieC i.bus1 ∧ t.cot.bus2 = calibratedN s 0x301 i.dieC i.bus2 ∧
    t.lpe.prog.pc = 0 ∧ t.lpe.prog.clk = 40 ∧ t.lpe.prog.ended = false ∧ t.lpe.shad.pc = 0 ∧ t.lpe.shad.clk = 40 ∧
    t = { s with
      power.dieC := i.dieC, epo := t.epo, cot := t.cot, lpe := t.lpe, fac := t.fac, grd := t.grd, lead := t.lead
      red := t.red, net.txA := t.net.txA, net.txB := t.net.txB, dic.vals := t.dic.vals, recs := t.recs, trc := t.trc
      sec.trialBad := t.sec.trialBad }) ∧
  (∀ s, isActive s = true → s.power.mstate = .live → s.epo.count % 10 = 5 → 15 ≤ s.epo.count →
    s.lead.foldEnd ≠ s.epo.count - 5 → ∃ t, exec .attributionFold s = .next t ∧ t.lead.foldEnd = s.epo.count - 5 ∧
    t = { s with
      lead := t.lead, fac.mFill := t.fac.mFill, dic.vals := t.dic.vals, dic.free := t.dic.free
      net.dram := t.net.dram }) ∧
  (∀ s, (isActive s = false ∨ s.power.mstate ≠ .live ∨ s.epo.count % 10 ≠ 5 ∨ s.epo.count < 15 ∨
    s.lead.foldEnd = s.epo.count - 5) → exec .attributionFold s = .next s)

/-- Signatures, trials and the entropy source (R347, R349 to R352, R364): the lower tree of leaf q is built; the next request,
hour seals first, takes leaf q and leaves the queue, a block of 64 leaves reserved before its first is used; without the tree or
a request nothing is signed; a trial's failed start is counted, and the third returns to the previous bank with a record; a
trial of 24 h in Live without a latch record ends itself with a record and raises the rollback version; the entropy source
stops, with a record, and resumes. Choices of the model in it: log entries 5 and 55. -/
def Obligations.SignaturesAndTrials : Prop :=
  (∀ s, exec .lowerTreeBuild s = .next { s with sec.lowerTree := some (s.sec.q / 1024) }) ∧
  (∀ j s, powered s = true → nextJob s = some j → s.sec.q < 33554432 → s.sec.lowerTree = some (s.sec.q / 1024) →
    ∃ t, exec .signatureComplete s = .next t ∧ t.sec.q = s.sec.q + 1 ∧ t.sec.queue = dropJob j s.sec.queue ∧
    (s.sec.q = 64 * s.sec.ctrLeaf → t.sec.ctrLeaf = s.sec.ctrLeaf + 1) ∧
    (s.sec.q ≠ 64 * s.sec.ctrLeaf → t.sec.ctrLeaf = s.sec.ctrLeaf) ∧
    (j.kind = 0 → t.fac.sealN = s.fac.sealN + 1) ∧ (j.kind ≠ 0 → t.fac = s.fac) ∧
    t = { s with
      sec.q := t.sec.q, sec.queue := t.sec.queue, sec.ctrLeaf := t.sec.ctrLeaf, sec.usedWarn := t.sec.usedWarn
      sec.reserveRec := t.sec.reserveRec, sec.trialBad := t.sec.trialBad, fac.seals := t.fac.seals
      fac.sealN := t.fac.sealN, dic.vals := t.dic.vals, recs := t.recs, trc.snapDue := t.trc.snapDue
      trc.recStop := t.trc.recStop }) ∧
  (∀ s, (nextJob s = none ∨ s.sec.lowerTree ≠ some (s.sec.q / 1024)) → exec .signatureComplete s = .next s) ∧
  (∀ j s, s.sec.queue.find? (fun j => j.kind == 0) = some j → nextJob s = some j) ∧
  (∀ s, s.sec.trial = true → s.sec.trialFails < 2 → exec .trialBootFailed s = .next { s with
    sec.trialFails := s.sec.trialFails + 1, power.wakeNext := some 2 }) ∧
  (∀ s, s.sec.trial = true → 2 ≤ s.sec.trialFails → s.sec.bankB ≠ s.sec.prevB → ∃ t, exec .trialBootFailed s = .next t ∧
    t.sec.trial = false ∧ t.sec.bankB = s.sec.prevB ∧ (bankOf t s.sec.bankB).state = 4 ∧ (bankOf t s.sec.prevB).state = 3 ∧
    (∃ r ∈ t.recs.ring, r.block = 8 ∧ r.cause = 0x02) ∧
    t = { s with
      sec := t.sec, power.wakeNext := some 2, recs := t.recs, trc.snapDue := t.trc.snapDue
      trc.recStop := t.trc.recStop }) ∧
  (∀ s, s.sec.trial = true → s.power.mstate = .live → s.sec.trialBad = false → s.power.liveTick + 86400000 ≤ s.epo.ticks →
    ∃ t, exec .trialAutoCommit s = .next t ∧ t.sec.trial = false ∧
    t.sec.rollback = max s.sec.rollback (bankOf s s.sec.bankB).security ∧ (bankOf t s.sec.bankB).state = 3 ∧
    (∃ r ∈ t.recs.ring, r.block = 8 ∧ r.cause = 0x0A) ∧
    t = { s with
      sec := t.sec, recs := t.recs, trc.snapDue := t.trc.snapDue, trc.recStop := t.trc.recStop }) ∧
  (∀ s, s.sec.trial = true → s.power.mstate = .live → s.sec.trialBad = true → exec .trialAutoCommit s = .next s) ∧
  (∀ s, s.sec.entropyOk = true → ∃ t, exec .entropyStop s = .next t ∧ t.sec.entropyOk = false ∧
    dget t 0x8070 5 = satInc (dget s 0x8070 5) 0xFFFFFFFF ∧
    Wrote { s with sec.entropyOk := false, dic.vals := t.dic.vals } t 8 2 0x03) ∧
  (∀ s, exec .entropyResume s = .next { s with sec.entropyOk := true })

/-- Sessions, grants and the passphrase (R365 to R367, R373 to R375, R429, R450): a whole session open opens a session of its
role after its checks, and the 17th closes the least recently used Public one; any failing check refuses it with its code; LD3
takes none; over the field network a first segment is kept; a session ends after 24 h; a message that does not authenticate
closes its session, one of another counter has no effect; a grant, a challenge, a refusal period and a passphrase's rights end
at their times. Choices of the model in it: log entries 5, 55 and 106. -/
def Obligations.SessionsAndGrants : Prop :=
  let ready (q : SessIn) (s : State) : Prop :=
    answersOn s q.link = true ∧ mailCut s q.link = false ∧ s.power.mstate ≠ .recovery ∧ q.link ≠ .ld 3 ∧ q.can = none
  (∀ q r s, ready q s → roleOf q.role = some r → q.gen = 1 → q.ext = 0x04 → at0 q.raw 0 % 16 = 0 →
    q.key ≤ (if r = .owner then 1 else 0) → linkRole q.link r = true → openAllowed s r = true →
    openSigOk s r q.sig = true → s.sec.entropyOk = true → s.sec.sessions.length < 16 → ∃ t,
    exec (.sessionOpen q) s = .next t ∧ t.sec.sessOut = some (0, s.sec.nextSess) ∧
    t.sec.nextSess = (s.sec.nextSess + 1) % 2 ^ 32 ∧
    (∃ k, t.sec.sessions = s.sec.sessions ++ [k] ∧ k.number = s.sec.nextSess ∧ k.role = r ∧ k.link = q.link ∧
      k.key = q.key ∧ k.rx = 0 ∧ k.tx = 0 ∧ k.opened = s.epo.ticks ∧ k.promoted = false) ∧
    dget t 0x8070 1 = satInc (dget s 0x8070 1) 0xFFFFFFFF ∧
    (s.net.cxl = 2 → t = { s with
      sec.sessions := t.sec.sessions, sec.nextSess := t.sec.nextSess, sec.sessOut := t.sec.sessOut
      sec.sessResp := t.sec.sessResp, net.reasm := none, net.mailOut := t.net.mailOut, dic.vals := t.dic.vals
      dic.free := s.dic.free + 3 })) ∧
  (∀ q r m s, ready q s → roleOf q.role = some r → openCode s q = 0 → 16 ≤ s.sec.sessions.length →
    oldPublic s = some m → ∃ t, exec (.sessionOpen q) s = .next t ∧ t.sec.sessOut = some (0, s.sec.nextSess) ∧
    ∃ k, t.sec.sessions = s.sec.sessions.filter (fun j => j.number != m.number) ++ [k] ∧ k.number = s.sec.nextSess ∧
      k.role = r) ∧
  (∀ q s, ready q s → openCode s q ≠ 0 → ∃ t, exec (.sessionOpen q) s = .next t ∧
    t.sec.sessOut = some (openCode s q, 0) ∧ t.sec.sessions = s.sec.sessions ∧ t.sec.nextSess = s.sec.nextSess ∧
    dget t 0x8070 0 = (if openCode s q = 0x07 then satInc (dget s 0x8070 0) 0xFFFFFFFF else dget s 0x8070 0) ∧
    (s.net.cxl = 2 → t = { s with
      sec.sessOut := t.sec.sessOut, sec.sessResp := t.sec.sessResp, net.reasm := none, net.mailOut := t.net.mailOut
      dic.vals := t.dic.vals })) ∧
  (∀ q s, cxlOn s = true → mailCut s q.link = false → q.link = .ld 3 → ∃ t, exec (.sessionOpen q) s = .next t ∧
    t.net.mailOut = some { ld := 3, opcode := 0xC001, code := 2, payload := [] } ∧ t.sec.sessions = s.sec.sessions ∧
    dget t 0x1012 4 = satInc (dget s 0x1012 4) 0xFFFFFFFF ∧
    (s.net.cxl = 2 → t = { s with net.mailOut := t.net.mailOut, dic.vals := t.dic.vals })) ∧
  (∀ q h s, powered s = true → s.power.mstate ≠ .recovery → q.link = .fnA → q.can = some h → q.seg = 0 →
    q.last = false → (dictIn s q.can (4 + q.raw.length) false).2 = true → ∃ t, exec (.sessionOpen q) s = .next t ∧
    t.net.reasm = some { link := .fnA, ident := h.ident, next := 1, bytes := q.raw } ∧
    t.sec.sessions = s.sec.sessions) ∧
  (∀ s, exec .sessionOpenReassemblyTimeout s = .next { s with net.reasm := none }) ∧
  (∀ n s, ∃ t, exec (.sessionExpiry n) s = .next t ∧
    (∀ k, k ∈ t.sec.sessions ↔ k ∈ s.sec.sessions ∧ ¬(k.number = n ∧
      (k.opened + 86400000 ≤ s.epo.ticks ∨ 2 ^ 32 ≤ k.rx ∨ 2 ^ 32 ≤ k.tx))) ∧
    t = { s with
      sec.sessions := t.sec.sessions, sec.trialBad := t.sec.trialBad, fac.events := t.fac.events
      fac.eventN := t.fac.eventN, fac.mFlags := t.fac.mFlags, fac.stepDue := t.fac.stepDue, recs := t.recs, trc := t.trc }) ∧
  (∀ n c r k s, answersOn s r.link = true → mailCut s r.link = false → findSession s n = some k → k.link = r.link →
    r.can = none → c = k.rx + 1 → ∃ t,
    exec (.sessionMessage n c false r) s = .next t ∧ (∀ j ∈ t.sec.sessions, j.number ≠ k.number) ∧
    dget t 0x8070 2 = satInc (dget s 0x8070 2) 0xFFFFFFFF ∧ (∃ f ∈ t.recs.ring, f.block = 8 ∧ f.cause = 0x06) ∧
    t = { s with
      sec.sessions := t.sec.sessions, sec.trialBad := t.sec.trialBad, dic.vals := t.dic.vals, fac.events := t.fac.events
      fac.eventN := t.fac.eventN, fac.mFlags := t.fac.mFlags, fac.stepDue := t.fac.stepDue, recs := t.recs, trc := t.trc }) ∧
  (∀ n c a r k s, answersOn s r.link = true → mailCut s r.link = false → findSession s n = some k → r.can = none →
    k.link = r.link → c ≠ k.rx + 1 → exec (.sessionMessage n c a r) s = .next (mailCount s r.link)) ∧
  (∀ n c r k s, answersOn s r.link = true → mailCut s r.link = false → s.power.mstate ≠ .recovery →
    findSession s n = some k → k.link = r.link → r.can = none → c = k.rx + 1 → r.session = some n →
    exec (.sessionMessage n c true r) s = .next (serve
      (updSession (mailCount s r.link) n (fun j => { j with rx := j.rx + 1, tx := j.tx + 1, used := s.epo.ticks })) r
      (some { k with rx := k.rx + 1, tx := k.tx + 1, used := s.epo.ticks }) k.role none)) ∧
  (∀ g s, s.sec.grant = some g → g.since + 1000 * g.duration ≤ s.epo.ticks → ∃ t, exec .unlockExpiry s = .next t ∧
    t.sec.grant = none ∧ bit t.fac.mFlags 13 = true ∧
    (∀ k ∈ t.sec.sessions, k ∈ s.sec.sessions ∧ k.role ≠ .vendor ∧ (k.role = .service → k.promoted = true)) ∧
    (∃ f ∈ t.recs.ring, f.block = 8 ∧ f.cause = 0x08) ∧ t.fac.eventN = s.fac.eventN + 1 ∧
    t = { s with
      sec.grant := none, sec.sessions := t.sec.sessions, sec.trialBad := t.sec.trialBad, fac.events := t.fac.events
      fac.eventN := t.fac.eventN, fac.mFlags := t.fac.mFlags, fac.stepDue := t.fac.stepDue, recs := t.recs
      trc := t.trc }) ∧
  (∀ g s, s.sec.grant = some g → s.epo.ticks < g.since + 1000 * g.duration → exec .unlockExpiry s = .next s) ∧
  (∀ s, s.sec.issued + 600000 ≤ s.epo.count → s.sec.entropyOk = true → ∃ t, exec .challengeExpiry s = .next t ∧
    t.sec.issued = s.epo.count ∧ t.sec.challenge < 2 ^ 256 ∧
    t = { s with sec.challenge := t.sec.challenge, sec.issued := t.sec.issued, dic.free := s.dic.free + 1 }) ∧
  (∀ s, s.epo.count < s.sec.issued + 600000 → exec .challengeExpiry s = .next s) ∧
  (∀ k s, s.sec.passWait = true → s.sec.passTick = some k → k + 60000 * s.sec.passPeriod ≤ s.epo.ticks →
    exec .passphraseRefusalEnd s = .next { s with sec.passWait := false }) ∧
  (∀ k s, s.sec.passTick = some k → s.epo.ticks < k + 60000 * s.sec.passPeriod →
    exec .passphraseRefusalEnd s = .next s) ∧
  (∀ n s, ∃ t, exec (.passphraseDurationEnd n) s = .next t ∧
    (∀ k ∈ s.sec.sessions, k.number = n → k.promoted = true → k.till ≤ s.epo.ticks →
      { k with role := .pub, promoted := false, scopes := 0, till := 0 } ∈ t.sec.sessions) ∧
    (∀ k ∈ s.sec.sessions, (k.number ≠ n ∨ k.promoted = false ∨ s.epo.ticks < k.till) → k ∈ t.sec.sessions) ∧
    t.sec.sessions.length = s.sec.sessions.length ∧
    t = { s with
      sec.sessions := t.sec.sessions, sec.trialBad := t.sec.trialBad, fac.events := t.fac.events
      fac.eventN := t.fac.eventN, fac.mFlags := t.fac.mFlags, fac.stepDue := t.fac.stepDue, recs := t.recs, trc := t.trc })

/-- The mailbox commands (R408, R441, R451, R452, R462): a command that its logical device takes, with a payload of its length,
completes with Success and its output; one of another length completes with Invalid Input; one that LD3 does not take, or an
opcode outside R451, completes with Unsupported; both are counted as refused; with bridge B3 failed a command completes with
Internal Error. An Owner staging write answers 0 and stores its bytes, 0x02 to another role, 0x03 beyond the area, 0x09 outside
Live. A plain dictionary command is a request of this mailbox, and a read by it is answered. Choices of the model in it: log
entries 11 and 64. -/
def Obligations.MailboxCommands : Prop :=
  (∀ ld s, cxlOn s = true → s.power.bridgeFailed.contains 3 = false → ld < 4 →
    exec (.identify ld true) s = .next (mailStandard ld 0x0001 (mailCount s (.ld ld)))) ∧
  (∀ ld s, cxlOn s = true → s.power.bridgeFailed.contains 3 = false → ld < 3 →
    exec (.getEventRecords ld true) s =
      .next (mailDone (mailCount s (.ld ld)) ld 0x0100 0 (eventList s ld)) ∧
    (∀ hs, exec (.clearEventRecords ld true hs) s = .next (mailDone { mailCount s (.ld ld) with
      net.evRecords := s.net.evRecords.filter (fun e => !(e.2.1 == ld && hs.contains e.1)) } ld 0x0101 0 [])) ∧
    exec (.getEventInterruptPolicy ld true) s =
      .next (mailDone (mailCount s (.ld ld)) ld 0x0102 0 [(s.net.policy.getD ld 0#32).toNat]) ∧
    (∀ p, exec (.setEventInterruptPolicy ld true p) s =
      .next (mailDone { mailCount s (.ld ld) with net.policy := setAt s.net.policy ld p } ld 0x0103 0 [])) ∧
    exec (.getFwInfo ld true) s = .next (mailDone (mailCount s (.ld ld)) ld 0x0200 0
      [2, 1 + b2n s.sec.bankB, s.sec.banks.a.version, s.sec.banks.b.version]) ∧
    exec (.getSupportedLogs ld true) s = .next (mailDone (mailCount s (.ld ld)) ld 0x0400 0 [1]) ∧
    exec (.getLog ld true) s = .next (mailDone (mailCount s (.ld ld)) ld 0x0401 0 opcodes) ∧
    exec (.identifyMemoryDevice ld true) s = .next (mailDone (mailCount s (.ld ld)) ld 0x4000 0
      [(if ld = 0 then 24 else if ld = 1 then 8 else 1) * 2 ^ 30, 0]) ∧
    exec (.getHealthInfo ld true) s = .next (mailStandard ld 0x4200 (mailCount s (.ld ld))) ∧
    exec (.getPoisonList ld true) s = .next (mailDone (mailCount s (.ld ld)) ld 0x4300 0 [])) ∧
  (∀ ld s, cxlOn s = true → s.power.bridgeFailed.contains 3 = false → ld < 3 →
    exec (.getHealthInfo ld false) s = .next (mailRefused (mailCount s (.ld ld)) ld 0x4200 1) ∧
    exec (.identify ld false) s = .next (mailRefused (mailCount s (.ld ld)) ld 0x0001 1) ∧
    (∀ r, exec (.dictionaryPlain ld false r) s = .next (mailRefused (mailCount s (.ld ld)) ld 0xC000 1))) ∧
  (∀ b s, cxlOn s = true → s.power.bridgeFailed.contains 3 = false →
    exec (.getFwInfo 3 b) s = .next (mailRefused (mailCount s (.ld 3)) 3 0x0200 2)) ∧
  (∀ ld op s, cxlOn s = true → s.power.bridgeFailed.contains 3 = false → ld < 4 → op ∉ opcodes →
    exec (.unsupportedCommand ld op) s = .next (mailRefused (mailCount s (.ld ld)) ld op 2)) ∧
  (∀ ld op c s, dget (mailRefused (mailCount s (.ld ld)) ld op c) 0x1012 3 = satInc (dget s 0x1012 3) 0xFFFFFFFF ∧
    dget (mailRefused (mailCount s (.ld ld)) ld op c) 0x1012 4 = satInc (dget s 0x1012 4) 0xFFFFFFFF ∧
    (mailRefused s ld op c).net.mailOut = some { ld := ld, opcode := op, code := c, payload := [] }) ∧
  (∀ n off k data s, s.power.mstate = .live → s.power.bridgeFailed.contains 3 = false → findSession s n = some k →
    k.link = .ld 0 → k.role = .owner → off + data.length ≤ 0x90000000 → ∃ t,
    exec (.ownerStagingWrite 0 true (some n) (k.rx + 1) true off data) s = .next t ∧
    t.net.mailOut = some { ld := 0, opcode := 0xC010, code := 0, payload := [0] } ∧
    (∀ i, i < data.length → memRead t.net.dram (ownerStaging + off + i) = data.getD i 0#8) ∧
    (∀ a, (a < ownerStaging + off ∨ ownerStaging + off + data.length ≤ a) →
      memRead t.net.dram a = memRead s.net.dram a) ∧
    (s.net.cxl = 2 → t = { s with
      net.dram := t.net.dram, net.mailOut := t.net.mailOut, sec.sessions := t.sec.sessions, dic.vals := t.dic.vals })) ∧
  (∀ ld n off k data s, cxlOn s = true → s.power.bridgeFailed.contains 3 = false → ld < 3 → findSession s n = some k →
    k.link = .ld ld → k.role ≠ .owner → ∃ t,
    exec (.ownerStagingWrite ld true (some n) (k.rx + 1) true off data) s = .next t ∧
    t.net.mailOut = some { ld := ld, opcode := 0xC010, code := 0, payload := [0x02] } ∧ t.net.dram = s.net.dram) ∧
  (∀ n off k data s, cxlOn s = true → s.power.bridgeFailed.contains 3 = false → findSession s n = some k →
    k.link = .ld 0 → k.role = .owner → 0x90000000 < off + data.length → ∃ t,
    exec (.ownerStagingWrite 0 true (some n) (k.rx + 1) true off data) s = .next t ∧
    t.net.mailOut = some { ld := 0, opcode := 0xC010, code := 0, payload := [0x03] } ∧ t.net.dram = s.net.dram) ∧
  (∀ n off k data s, s.power.mstate = .watch → s.power.bridgeFailed.contains 3 = false → findSession s n = some k →
    k.link = .ld 0 → k.role = .owner → off + data.length ≤ 0x90000000 → ∃ t,
    exec (.ownerStagingWrite 0 true (some n) (k.rx + 1) true off data) s = .next t ∧
    t.net.mailOut = some { ld := 0, opcode := 0xC010, code := 0, payload := [0x09] } ∧ t.net.dram = s.net.dram) ∧
  (∀ ld r s, ld < 3 → exec (.dictionaryPlain ld true r) s = request { r with link := .ld ld, session := none } none s) ∧
  (∀ ld b s, cxlOn s = true → s.power.bridgeFailed.contains 3 = true → ld < 4 →
    exec (.identify ld b) s = .next (mailDone (mailCount s (.ld ld)) ld 0x0001 3 []) ∧
    exec (.getLog ld b) s = .next (mailDone (mailCount s (.ld ld)) ld 0x0401 3 [])) ∧
  (∀ ld r q d role k s, ld < 3 → q = { r with link := .ld ld, session := none } → Taken s q role k → Formed q 1 →
    objDesc q.object = some d → mayReach (counted s q) k role q.object d.rd false = true → headerReserved q = false →
    q.count ≠ 0 → q.length = 0 →
    q.offset ≤ (elemsBytes d q.object (firstOf q) q.count (readVal (counted s q))).length → ∃ t,
    exec (.dictionaryPlain ld true r) s = .next t ∧
    Replied q (if anyPending s q.object (firstOf q) q.count then 0x06 else 0) (counted s q) t)

/-- CXL.mem and its link (R161, R408, R440 to R446, R454, R462): in Live a read answers the bytes of its window, and a write to
the inbox or the staging area of LD1 stores its bytes, every other byte as before; a write elsewhere is discarded and recorded,
once a second; outside Live, or with bridge B4 failed, a read answers all ones and a write is discarded, both counted as
refused; an access beyond the window has no address; a read of uncorrectable data answers an error, listed and recorded; a CRC
failure and a replay of the link are counted; a retrain and a loss are counted and recorded; a trained link within its limits
comes up. In Live the mirrors are published. Choices of the model in it: log entries 8 and 64. -/
def Obligations.CxlMemAndLink : Prop :=
  (∀ ld off len s, s.power.mstate = .live → s.power.bridgeFailed.contains 4 = false → off + len ≤ ldSize ld →
    ∃ t, exec (.cxlMemRead ld off len false) s = .next t ∧
    t.net.memOut = some { ld := ld, data := memReadAll s.net.dram (ldBase ld + off) len, error := false } ∧
    t = { s with net.memOut := t.net.memOut }) ∧
  (∀ ld off len b s, s.power.mstate = .live → s.power.bridgeFailed.contains 4 = false → ldSize ld < off + len →
    exec (.cxlMemRead ld off len b) s = .fault (.noSuchAddress ld off)) ∧
  (∀ ld off data s, s.power.mstate = .live → s.power.bridgeFailed.contains 4 = false → ldSize ld < off + data.length →
    exec (.cxlMemWrite ld off data) s = .fault (.noSuchAddress ld off)) ∧
  (∀ ld off len b s, cxlOn s = true → (s.power.mstate ≠ .live ∨ s.power.bridgeFailed.contains 4 = true) →
    ∃ t, exec (.cxlMemRead ld off len b) s = .next t ∧
    t.net.memOut = some { ld := ld, data := List.replicate len 0xFF#8, error := false } ∧
    dget t 0x1012 4 = satInc (dget s 0x1012 4) 0xFFFFFFFF ∧
    t = { s with net.memOut := t.net.memOut, dic.vals := t.dic.vals }) ∧
  (∀ ld off data s, cxlOn s = true → (s.power.mstate ≠ .live ∨ s.power.bridgeFailed.contains 4 = true) →
    exec (.cxlMemWrite ld off data) s = .next (bump s 0x1012 4)) ∧
  (∀ ld off len s, s.power.mstate = .live → s.power.bridgeFailed.contains 4 = false → off + len ≤ ldSize ld →
    ∃ t, exec (.cxlMemRead ld off len true) s = .next t ∧
    t.net.memOut = some { ld := ld, data := List.replicate len 0xFF#8, error := true } ∧
    dget t 0x1012 5 = satInc (dget s 0x1012 5) 0xFFFFFFFF ∧ dget t 0x4182 3 = satInc (dget s 0x4182 3) 0xFFFFFFFF ∧
    t.net.evRecords = s.net.evRecords ++ [(s.net.evHandle, ld, off)] ∧ t.net.evHandle = s.net.evHandle + 1 ∧
    (∃ f ∈ t.recs.ring, f.block = 10 ∧ f.cause = 0x12) ∧ t.net.dram = s.net.dram) ∧
  (∀ off data s, s.power.mstate = .live → s.power.bridgeFailed.contains 4 = false → 0xFC000000 ≤ off →
    (off + data.length ≤ 0x100000000 ∨
    (0x100000000 ≤ off ∧ off + data.length ≤ 0x200000000)) → ∃ t, exec (.cxlMemWrite 1 off data) s = .next t ∧
    (∀ i, i < data.length → memRead t.net.dram (40 * 2 ^ 30 + off + i) = data.getD i 0#8) ∧
    (∀ a, (a < 40 * 2 ^ 30 + off ∨ 40 * 2 ^ 30 + off + data.length ≤ a) →
      memRead t.net.dram a = memRead s.net.dram a) ∧ t = { s with net.dram := t.net.dram }) ∧
  (∀ ld off data s, s.power.mstate = .live → s.power.bridgeFailed.contains 4 = false → off + data.length ≤ ldSize ld →
    hostWrites ld off data.length = false →
    (∀ k, s.net.roTick = some k → k + 1000 ≤ s.epo.ticks) → ∃ t, exec (.cxlMemWrite ld off data) s = .next t ∧
    Wrote { s with net.roTick := some s.epo.ticks } t 10 1 0x10) ∧
  (∀ ld off data k s, s.power.mstate = .live → s.power.bridgeFailed.contains 4 = false → off + data.length ≤ ldSize ld →
    hostWrites ld off data.length = false →
    s.net.roTick = some k → s.epo.ticks < k + 1000 → exec (.cxlMemWrite ld off data) s = .next s) ∧
  (∀ s, cxlOn s = true → ∃ t, exec (.cxlLinkChange .lost) s = .next t ∧ t.net.cxl = 0 ∧ t.net.cxlWidth = 0 ∧
    dget t 0x1012 2 = satInc (dget s 0x1012 2) 0xFFFFFFFF ∧
    (∃ f ∈ t.recs.ring, f.block = 10 ∧ f.cause = 0x11) ∧
    t = { s with
      net.cxl := 0, net.cxlWidth := 0, net.cxlRate := 0, net.cxlBound := 0, dic.vals := t.dic.vals, power := t.power
      recs := t.recs, trc := t.trc, sec.trialBad := t.sec.trialBad }) ∧
  (∀ s, cxlOn s = true → ∃ t, exec (.cxlLinkChange .retrain) s = .next t ∧ t.net.cxl = 1 ∧
    t.net.retrains = s.net.retrains + 1 ∧ dget t 0x1012 2 = satInc (dget s 0x1012 2) 0xFFFFFFFF ∧
    (∃ f ∈ t.recs.ring, f.block = 10 ∧ f.cause = 0x11) ∧ t.net.dram = s.net.dram) ∧
  (∀ s, cxlOn s = true → exec (.cxlLinkChange .crcFailure) s = .next (bump s 0x1012 0) ∧
    exec (.cxlLinkChange .replay) s = .next (bump s 0x1012 1)) ∧
  (∀ w r b s, cxlOn s = true → withinLimits s w r = true → exec (.cxlLinkChange (.up w r b)) s = .next { s with
    net.cxl := 2, net.cxlWidth := w, net.cxlRate := r, net.cxlBound := b % 16 }) ∧
  (∀ w r b s, cxlOn s = true → withinLimits s w r = false → exec (.cxlLinkChange (.up w r b)) s = .next s) ∧
  (∀ s, s.power.mstate = .live → ∃ t, exec .dictionaryMirrorRefresh s = .next t ∧
    t.net.mirrorSeq = s.net.mirrorSeq + 2 ∧ t.net.mirrorEpoch = s.epo.count ∧ t.net.archiveSeq = s.net.archiveSeq + 2 ∧
    t = { s with
      net.dram := t.net.dram, net.mirrorSeq := t.net.mirrorSeq, net.mirrorEpoch := t.net.mirrorEpoch
      net.archiveSeq := t.net.archiveSeq }) ∧
  (∀ s, s.power.mstate ≠ .live → exec .dictionaryMirrorRefresh s = .next s)

/-- Register accesses of the control die (R27, R210, R312, R463, R464, R507): a read that the map permits answers its register
or memory word and clears what a read clears; a guard violation count clears when read; an access that the map does not permit
ends in a bus error, counted for its block and without effect; a word written to RAM reads back; the slew register is clamped to
the guard; the aperture register takes a page below 72, and outside the RT pair alone; a write through the aperture stores its
word in the stack, every other byte as before. Choices of the model in it: log entries 26, 37, 38, 63 and 110. -/
def Obligations.RegisterAccesses : Prop :=
  (∀ c a s, isCsr a = false → mayRead c a = true → isOpen (a - a % 4) = true → ∃ t,
    exec (.readClearRegister c a) s = .next t ∧
    t.dic.reg = BitVec.ofNat 32 (blockRead s (a - a % 4)) ∧ t.dic.busErr = false ∧
    (a / 65536 = 0x4001 → t = { s with dic.reg := t.dic.reg, dic.busErr := false }) ∧
    t = { s with
      icu.routeRej := t.icu.routeRej, icu.spur := t.icu.spur, lpe.maxCyc := t.lpe.maxCyc, grd.vcnt := t.grd.vcnt
      power.xdrop := t.power.xdrop, power.sidh := t.power.sidh, dic.reg := t.dic.reg, dic.busErr := false }) ∧
  (∀ c k s, k < 64 → ∃ t, exec (.readClearRegister c (0x40040300 + 4 * k)) s = .next t ∧
    t.dic.reg = BitVec.ofNat 32 (mget s.grd.vcnt k) ∧ mget t.grd.vcnt k = 0 ∧
    t = { s with grd.vcnt := t.grd.vcnt, dic.reg := t.dic.reg, dic.busErr := false }) ∧
  (∀ c a s, isCsr a = false → mayRead c a = false → ∃ t, exec (.readClearRegister c a) s = .next t ∧ t.dic.busErr = true ∧
    mget t.power.busErrors (errKey a) = mget s.power.busErrors (errKey a) + 1 ∧ t.dic.reg = s.dic.reg ∧
    t = { s with dic.busErr := true, power.busErrors := t.power.busErrors, icu.plvl := t.icu.plvl }) ∧
  (∀ c a v s, isCsr a = false → mayWrite c a = false → (a / 65536 ≠ 0x4001 ∧ a / 65536 ≠ 0x4002) → ∃ t,
    exec (.registerWrite c a v) s = .next t ∧ t.dic.busErr = true ∧
    mget t.power.busErrors (errKey a) = mget s.power.busErrors (errKey a) + 1 ∧
    t = { s with dic.busErr := true, power.busErrors := t.power.busErrors, icu.plvl := t.icu.plvl }) ∧
  (∀ c a v s, isRam a = true → mayWrite c a = true → a % 4 = 0 → ∃ t, exec (.registerWrite c a v) s = .next t ∧
    t = { s with dic.busErr := false, power.ram := t.power.ram } ∧
    (mayRead c a = true → exec (.readClearRegister c a) t = .next { t with dic.reg := v })) ∧
  (∀ v s, ∃ t, exec (.registerWrite .rt 0x40010018 v) s = .next t ∧ t.cot.slew ≤ effLimit s 7 ∧
    (v.toNat % 2 ^ 15 ≤ effLimit s 7 → t = { s with cot.slew := v.toNat % 2 ^ 15, dic.busErr := false })) ∧
  (∀ c v s, c ≠ .rt → v.toNat % 128 < 72 → exec (.engAperWrite c v) s = .next { s with
    power.aper := v.toNat % 128, dic.busErr := false }) ∧
  (∀ c v s, c ≠ .rt → 72 ≤ v.toNat % 128 → ∃ t, exec (.engAperWrite c v) s = .next t ∧ t.power.aper = s.power.aper ∧
    mget t.power.busErrors (errKey 0x80000100) = mget s.power.busErrors (errKey 0x80000100) + 1 ∧
    t = { s with power.busErrors := t.power.busErrors, dic.busErr := false }) ∧
  (∀ v s, ∃ t, exec (.engAperWrite .rt v) s = .next t ∧ t.dic.busErr = true ∧ t.power.aper = s.power.aper) ∧
  (∀ c a v s, c ≠ .rt → 0xC0000000 ≤ a → a < 0x100000000 → a % 4 = 0 → ∃ t, exec (.registerWrite c a v) s = .next t ∧
    dramN t (aperOffset s a) 4 = v.toNat ∧
    (∀ b, (b < aperOffset s a ∨ aperOffset s a + 4 ≤ b) → memRead t.net.dram b = memRead s.net.dram b) ∧
    t = { s with net.dram := t.net.dram, dic.busErr := false })

/-- A request is judged in order (R25, R379, R385, R390, R394, R406, R441, R566): its length, its generation, its operation, its
object and elements, and the writer's right each answer with their own code, then the checks of R25 on the value; a repeat is
answered by the response kept, and counted; a request on a link that does not answer has no effect, one in a session that is not
open there only its mailbox count; LD3 takes none. Choices of the model in it: log entries 60 and 88. -/
def Obligations.RequestsJudgedInOrder : Prop :=
  (∀ r role k s, Taken s r role k → (r.arrived < 20 ∨ r.length ≠ r.value.length) → ∃ t,
    exec (.malformedRequest r) s = .next t ∧ Replied r 0x03 (counted s r) t) ∧
  (∀ r role k s, Taken s r role k → 20 ≤ r.arrived → r.length = r.value.length → r.gen ≠ 1 → ∃ t,
    exec (.malformedRequest r) s = .next t ∧ Replied r 0x08 (counted s r) t) ∧
  (∀ r role k s, Taken s r role k → 20 ≤ r.arrived → r.length = r.value.length → r.gen = 1 → (r.op < 1 ∨ 4 < r.op) →
    ∃ t, exec (.malformedRequest r) s = .next t ∧ Replied r 0x03 (counted s r) t) ∧
  (∀ r role k s, Taken s r role k → 20 ≤ r.arrived → r.length = r.value.length → r.gen = 1 → 1 ≤ r.op → r.op ≤ 4 →
    missing r = true → ∃ t, exec (.malformedRequest r) s = .next t ∧ Replied r 0x01 (counted s r) t) ∧
  (∀ r d role k s, Taken s (Req.withOp r 2) role k → Formed (Req.withOp r 2) 2 → objDesc r.object = some d →
    r.object ≠ 0x8011 → deniedWrite (counted s r) (Req.withOp r 2) k role d = true → ∃ t,
    exec (.write r) s = .next t ∧ Replied (Req.withOp r 2) 0x02 (counted s r) t) ∧
  (∀ r d role k c s, Taken s (Req.withOp r 2) role k → Formed (Req.withOp r 2) 2 → objDesc r.object = some d →
    r.flags % 4 = 3 → r.offset = 0 → deniedWrite (counted s r) (Req.withOp r 2) k role d = false →
    checkWrite (counted s r) (wrOf (Req.withOp r 2) k role d r.value none) d r.count (headerReserved r) = c → c ≠ 0 →
    ∃ t, exec (.write r) s = .next t ∧ Replied (Req.withOp r 2) c
      (refuseWrite (counted s r) (wrOf (Req.withOp r 2) k role d r.value none) c) t) ∧
  (∀ r role k p s, answersOn s r.link = true → mailCut s r.link = false → r.link ≠ .ld 3 → s.power.mstate ≠ .recovery →
    (arrives s r).2 = true → requester s r = some (role, k) → keptResp (counted s r) r = some p → s.red.forwards = [] →
    ∃ t, exec (.malformedRequest r) s = .next t ∧ t.dic.resp = some p ∧ t.dic.respTo = some r.link ∧
    dget t 0x1020 11 = satInc (dget s 0x1020 11) 0xFFFFFFFF ∧
    t = sendResp (countCode (bump (counted s r) 0x1020 11) p.result) (keyOf r) r.link (replyDest r.can) p) ∧
  (∀ r s, answersOn s r.link = false → exec (.malformedRequest r) s = .next s) ∧
  (∀ r s, answersOn s r.link = true → mailCut s r.link = false → r.link ≠ .ld 3 → s.power.mstate ≠ .recovery →
    requester s r = none →
    exec (.malformedRequest r) s = .next (mailCount s r.link)) ∧
  (∀ r s, answersOn s r.link = true → mailCut s r.link = false → r.link = .ld 3 → exec (.malformedRequest r) s =
    .next (mailRefused (mailCount s (.ld 3)) 3 (if r.session.isSome then 0xC002 else 0xC000) 2))

/-- Reads, descriptors and writes of any object (R22 to R24, R26, R387, R389 to R392, R399): a permitted read, of the values in
force or of the pending ones, answers the bytes of its elements from the offset on, with 0x06 where one is pending; a describe
answers the 40 bytes of the descriptor; a read without the right answers 0x02; a write that passes and is not clamped takes
effect and answers 0, or 0x06 where its class pends; its elements of class E or M become pending, and no others; a written
counter of object 0x3050 reads the value written. Choices of the model in it: log entries 4 and 60. -/
def Obligations.ReadsAndWrites : Prop :=
  (∀ r d role k s, Taken s (Req.withOp r 1) role k → Formed (Req.withOp r 1) 1 → objDesc r.object = some d →
    mayReach (counted s r) k role r.object d.rd false = true → headerReserved r = false → r.count ≠ 0 → r.length = 0 →
    r.offset ≤ (elemsBytes d r.object (firstOf r) r.count (readVal (counted s r))).length → ∃ t,
    exec (.read r) s = .next t ∧
    Replied (Req.withOp r 1) (if anyPending s r.object (firstOf r) r.count then 0x06 else 0) (counted s r) t ∧
    ∃ p ∈ t.dic.kept, p.1 = keyOf r ∧ p.2.2.1.value = (
      (elemsBytes d r.object (firstOf r) r.count (readVal (counted s r))).drop r.offset).take
      (respMax r.link k.isSome)) ∧
  (∀ r d role k s, Taken s (Req.withOp r 4) role k → Formed (Req.withOp r 4) 4 → objDesc r.object = some d →
    mayReach (counted s r) k role r.object d.rd false = true → headerReserved r = false → r.count ≠ 0 → r.length = 0 →
    r.offset ≤ (elemsBytes d r.object (firstOf r) r.count (readPendVal (counted s r))).length → ∃ t,
    exec (.readPending r) s = .next t ∧
    Replied (Req.withOp r 4) (if anyPending s r.object (firstOf r) r.count then 0x06 else 0) (counted s r) t ∧
    ∃ p ∈ t.dic.kept, p.1 = keyOf r ∧ p.2.2.1.value = (
      (elemsBytes d r.object (firstOf r) r.count (readPendVal (counted s r))).drop r.offset).take
      (respMax r.link k.isSome)) ∧
  (∀ r d role k s, Taken s (Req.withOp r 3) role k → Formed (Req.withOp r 3) 3 → objDesc r.object = some d →
    mayReach (counted s r) k role r.object d.rd false = true → headerReserved r = false → r.count ≠ 0 → r.length = 0 →
    r.offset ≤ 40 → ∃ t, exec (.describe r) s = .next t ∧ Replied (Req.withOp r 3) 0 (counted s r) t ∧
    ∃ p ∈ t.dic.kept, p.1 = keyOf r ∧ p.2.2.1.value = (
      (descBytes (counted s r) r.object (firstOf r) d).drop r.offset).take (respMax r.link k.isSome)) ∧
  (∀ r d role k s, Taken s (Req.withOp r 1) role k → Formed (Req.withOp r 1) 1 → objDesc r.object = some d →
    mayReach (counted s r) k role r.object d.rd false = false → ∃ t,
    exec (.read r) s = .next t ∧ Replied (Req.withOp r 1) 0x02 (counted s r) t) ∧
  (∀ r d role k s, Admitted s (Req.withOp r 2) d role k none → Unclamped s (Req.withOp r 2) → ∃ t,
    exec (.write r) s = .next t ∧ Replied (Req.withOp r 2) (if 2 ≤ d.apply then 0x06 else 0)
      (acceptWrite (counted s r) (wrOf (Req.withOp r 2) k role d r.value none) d (written (Req.withOp r 2))) t) ∧
  (∀ r d role k i s, Admitted s (Req.withOp r 2) d role k none → Unclamped s (Req.withOp r 2) →
    (d.apply = 2 ∨ d.apply = 3) → r.object ≠ 0x4111 → i < (written (Req.withOp r 2)).length → ∃ t,
    exec (.write r) s = .next t ∧ pendOf t r.object (firstOf r + i) = some
      { object := r.object, element := firstOf r + i, value := at0 (written (Req.withOp r 2)) i, cls := d.apply,
        due := if d.apply = 2 then dueE s else 0 } ∧
    (∀ e, (e < firstOf r ∨ firstOf r + (written (Req.withOp r 2)).length ≤ e) →
      pendOf t r.object e = pendOf s r.object e)) ∧
  (∀ r d role k i s, Admitted s (Req.withOp r 2) d role k none → Unclamped s (Req.withOp r 2) → r.object = 0x3050 →
    i < (written (Req.withOp r 2)).length → ∃ t,
    exec (.write r) s = .next t ∧ dget t 0x3050 (firstOf r + i) = at0 (written (Req.withOp r 2)) i)

/-- Segments, and responses held for the standby (R330, R391 to R395): the first segment of a write is staged and answered 0;
with the object staged, or four writes, it answers 0x09; a continuation at its place is appended; one out of place discards the
write; a staged write times out; an acknowledgement of the standby, or its time-out, which also marks the standby not current,
sends the response held. Choices of the model in it: log entry 60. -/
def Obligations.SegmentsAndForwards : Prop :=
  (∀ r d role k s, Taken s (Req.withOp r 2) role k → Formed (Req.withOp r 2) 2 → objDesc r.object = some d →
    deniedWrite (counted s r) (Req.withOp r 2) k role d = false → r.flags % 4 = 1 → r.offset = 0 →
    r.value.length ≤ wholeLen d r.count → stagedOf s r.object = none → s.dic.staged.length < 4 → ∃ t,
    exec (.write r) s = .next t ∧ Replied (Req.withOp r 2) 0 { counted s r with dic.staged := s.dic.staged ++
      [{ object := r.object, element := firstOf r, count := r.count, session := r.session, bytes := r.value,
         whole := wholeLen d r.count, resv := headerReserved r }] } t) ∧
  (∀ r d role k s, Taken s (Req.withOp r 2) role k → Formed (Req.withOp r 2) 2 → objDesc r.object = some d →
    deniedWrite (counted s r) (Req.withOp r 2) k role d = false → r.flags % 4 = 1 →
    (stagedOf s r.object ≠ none ∨ 4 ≤ s.dic.staged.length) → ∃ t,
    exec (.write r) s = .next t ∧ Replied (Req.withOp r 2) 0x09 (counted s r) t) ∧
  (∀ r d g role k s, Taken s (Req.withOp r 2) role k → Formed (Req.withOp r 2) 2 → objDesc r.object = some d →
    deniedWrite (counted s r) (Req.withOp r 2) k role d = false → r.flags % 4 = 0 → stagedOf s r.object = some g →
    continues g r = true → r.offset = g.bytes.length → r.offset + r.value.length ≤ wholeLen d r.count → ∃ t,
    exec (.write r) s = .next t ∧ Replied (Req.withOp r 2) 0 { counted s r with dic.staged := s.dic.staged.map (fun h =>
      if h.object = r.object then { h with bytes := h.bytes ++ r.value, resv := h.resv || headerReserved r }
      else h) } t) ∧
  (∀ r d g role k s, Taken s (Req.withOp r 2) role k → Formed (Req.withOp r 2) 2 → objDesc r.object = some d →
    deniedWrite (counted s r) (Req.withOp r 2) k role d = false → bit r.flags 0 = false → stagedOf s r.object = some g →
    continues g r = true → r.offset ≠ g.bytes.length → ∃ t,
    exec (.write r) s = .next t ∧
    Replied (Req.withOp r 2) 0x03 (bump (unstage (counted s r) r.object) 0x1020 12) t) ∧
  (∀ o g s, stagedOf s o = some g → exec (.segmentTimeout o) s = .next (bump (unstage s o) 0x1020 12)) ∧
  (∀ o s, stagedOf s o = none → exec (.segmentTimeout o) s = .next s) ∧
  (∀ o s, stagedOf (unstage s o) o = none ∧ ∀ q, q ≠ o → stagedOf (unstage s o) q = stagedOf s q) ∧
  (∀ h s, s.red.forwards = [h] → h.waits = true → ∃ t, exec .writeForwardAck s = .next t ∧ t.red.forwards = [] ∧
    t.dic.resp = some h.resp ∧ t.dic.respTo = some h.link ∧ t.red.current = s.red.current ∧
    t = sendResp { s with red.forwards := [] } h.key h.link h.dest h.resp) ∧
  (∀ h s, s.red.forwards = [h] → h.waits = true → ∃ t, exec .writeForwardTimeout s = .next t ∧ t.red.forwards = [] ∧
    t.dic.resp = some h.resp ∧ t.dic.respTo = some h.link ∧ t.red.current = false ∧
    t = sendResp { s with red.forwards := [], red.current := false } h.key h.link h.dest h.resp) ∧
  (∀ s, s.red.forwards = [] → exec .writeForwardAck s = .next s ∧ exec .writeForwardTimeout s = .next s)

/-- Writes that reach the rack and the contract (R21, R67, R94, R98, R104, R111, R119, R123 to R125, R133, R138): a release of
the lead, a contract, a breaker cap, a ramp limit, an emergency announcement, a host table, a host filler answer and a host
state-of-charge target each have the effect of their chapter and answer its code; a ramp limit beyond the contract is clamped; a
target in force expires after its time. Choices of the model in it: log entries 59 and 60. -/
def Obligations.RackRequests : Prop :=
  Writes .leadRelease 0x3052 0 (fun u _ _ _ v =>
    if v = 1 ∧ u.lead.isLead = true then { u with lead.releasing := true } else u) ∧
  Writes .contractWrite 0x2000 0x06 (fun u role _ _ v => logEvent (setPend u 0x2000 0 v 3) 5 (roleBits role) (cSerial v)
    (if hasContract u then cSerial (contract u) else 0)) ∧
  Writes .breakerCapWrite 0x2011 0 (fun u role _ _ v =>
    urgentCap (reallow (logEvent (setCap u v) (if v = 0xFFFFFFFF then 2 else 1) (roleBits role) v (breakerCap u)) 1) 1) ∧
  (∀ o, (o = 0x2012 ∨ o = 0x2013) →
    Writes (fun r => .rampLimitWrite { r with object := o }) o 0x06 (fun u _ _ _ v => setPend u o 0 v 2) ∧
    WritesClamped (fun r => .rampLimitWrite { r with object := o }) o (fun u v => setPend u o 0 v 2)) ∧
  Writes .emergencyAnnouncement 0x2015 0 (fun u role _ _ v =>
    logEvent { dset u 0x2015 0 v with fac.announcedAt := u.epo.count } 4 (roleBits role) v (dget u 0x2015 0)) ∧
  Writes .hostAllocationTable 0x3040 0 (fun u _ _ _ v => dset u 0x3040 0 v) ∧
  Writes .hostFillerAnswer 0x3041 0 (fun u _ _ _ v =>
    if u.epo.count ≤ v % 2 ^ 48 ∧ v % 2 ^ 48 ≤ u.epo.count + 2 then { dset u 0x3041 0 v with
      lead.answers := ((v % 2 ^ 48, (upTo 16).map (fun c => fieldAt v (8 + 2 * c) 2)) ::
        u.lead.answers.filter (fun p => p.1 != v % 2 ^ 48)).take 3 }
    else bump (dset u 0x3041 0 v) 0x4005 5) ∧
  Writes .hostSocTarget 0x4024 0x06 (fun u _ _ _ v =>
    { setPend u 0x4024 0 v 2 with epo.fallback := setBit u.epo.fallback 4 false }) ∧
  (∀ s, dget s 0x4024 0 ≠ 0 → s.lead.targetSince + 1000 * fieldAt (dget s 0x4024 0) 4 4 ≤ s.epo.ticks →
    exec .hostSocTargetExpiry s = .next { s with epo.fallback := setBit s.epo.fallback 4 true }) ∧
  (∀ s, dget s 0x4024 0 = 0 → exec .hostSocTargetExpiry s = .next s)

/-- Writes to the converter, the loop engine and the strings (R210, R211, R220, R245, R246, R249, R251, R274, R277, R278, R281,
R291): each has the effect of its chapter and answers its code; a reference or a slew beyond the guard is clamped; a latch clear
clears the latches it names; a trip clear clears one position and no other; an isolation sets its cause, and its end clears the
causes and lets an isolated string go to off. Choices of the model in it: log entries 22 and 60. -/
def Obligations.ConverterAndStringRequests : Prop :=
  Writes .busReferenceTarget 0x5000 0 (fun u _ _ _ v => { dset u 0x5000 0 v with cot.vTgt := v }) ∧
  WritesClamped .busReferenceTarget 0x5000 (fun u v => { dset u 0x5000 0 v with cot.vTgt := v }) ∧
  Writes .referenceSlew 0x5001 0 (fun u _ _ _ v => { dset u 0x5001 0 v with cot.slew := v }) ∧
  WritesClamped .referenceSlew 0x5001 (fun u v => { dset u 0x5001 0 v with cot.slew := v }) ∧
  Writes .stringLatchClear 0x5031 0 (fun u _ _ _ v => acceptLatchClear u v) ∧
  Writes .overvoltageLatchClear 0x5031 0 (fun u _ _ _ v => acceptLatchClear u v) ∧
  (∀ u, (acceptLatchClear u 3).cot.ovLatch = false) ∧
  (∀ u, strLatched (acceptLatchClear u 1) .A = false ∧ strLatched (acceptLatchClear u 2) .B = false) ∧
  Writes .loopProgramLoad 0x5050 0 (fun u _ _ _ v =>
    { u with
      lpe.slot1 := { ProgSlot.empty with state := 1 }, lpe.loadFor := true
      lpe.loadAt := (fieldAt v 8 8, fieldAt v 4 4), lpe.clean := 0 }) ∧
  Writes .loopProgramSelect 0x5052 0x06 (fun u _ _ _ v => setPend u 0x5052 0 v 2) ∧
  Writes .fixedLawReturn 0x5053 0 (fun u _ _ _ _ =>
    if u.lpe.src = 1 then { u with grd.granted := setBit u.grd.granted 2 true, lpe.progReturn := true }
    else { u with grd.granted := setBit u.grd.granted 2 true }) ∧
  Writes .channelSelection 0x5061 0 (fun u _ _ _ v =>
    { u with grd.granted := setBit u.grd.granted 1 true, lpe.sel := v == 2 }) ∧
  Writes .tripClear 0x6002 0 (fun u _ _ _ v =>
    if tripped u (posG (if fieldAt v 0 1 = 0 then .A else .B) (fieldAt v 2 2)) then
      ownerTripClear u (posG (if fieldAt v 0 1 = 0 then .A else .B) (fieldAt v 2 2)) else u) ∧
  (∀ u g, tripped (ownerTripClear u g) g = false ∧ ∀ h, h ≠ g → tripped (ownerTripClear u g) h = tripped u h) ∧
  Writes .hostBleedMasks 0x6022 0 (fun u _ _ _ v =>
    { dset u 0x6022 0 v with strs.hostMask := true, epo.fallback := setBit u.epo.fallback 3 false }) ∧
  Writes .wireSurveyRequest 0x6024 0 (fun u _ _ _ v => startSurvey u (if v = 2 then .B else .A) 0 287) ∧
  Writes .openWireTestRequest 0x6031 0 (fun u _ _ _ v => startOwt u (if v = 2 then .B else .A) (upTo 289)) ∧
  Writes .stringIsolate 0x6040 0 (fun u _ _ q _ =>
    (upTo (written q).length).foldl (fun s i => acceptIso s (firstOf q + i) (at0 (written q) i)) u) ∧
  Writes .endIsolation 0x6040 0 (fun u _ _ q _ =>
    (upTo (written q).length).foldl (fun s i => acceptIso s (firstOf q + i) (at0 (written q) i)) u) ∧
  (∀ u (x : Str), bit ((acceptIso u x.idx 1).strs.isoCause.get x) 0 = true ∧
    (isolatedStr u x = true → (acceptIso u x.idx 0).strs.isoCause.get x = 0) ∧
    (isolatedStr u x = true → (conv u x).st = .isolated → (conv (acceptIso u x.idx 0) x).st = .off))

/-- Writes to the guard's layers, the engine's slots and the shelf (R180, R182, R192, R197, R300, R301, R338, R340, R341, R358,
R453): a layer in force, an Owner layer beyond the integrator's clamped to it; a load that empties its slot and copies the
staged bytes; a selection, which pends and abandons a build; a slot cleared; a return to the signed weights; a planned handover;
a drive fault cleared; a replacement adopted. Choices of the model in it: log entry 60. -/
def Obligations.LayerModelAndShelfRequests : Prop :=
  Writes .integratorLayerWrite 0x5080 0 (fun u _ _ _ v => { dset u 0x5080 0 v with grd.intBlank := false }) ∧
  Writes .ownerLayerWrite 0x5081 0 (fun u _ _ _ v => { dset u 0x5081 0 v with
    grd.layerErr := false, power.hold := if u.power.hold = .layer then .none else u.power.hold }) ∧
  WritesClamped .ownerLayerWrite 0x5081 (fun u v => { dset u 0x5081 0 v with
    grd.layerErr := false, power.hold := if u.power.hold = .layer then .none else u.power.hold }) ∧
  Writes .modelLoad 0x4113 0 (fun u role _ _ v => copyStaged (startLoad u role v) v) ∧
  (∀ u role v, fieldAt v 0 1 < u.eng.slots.length →
    slotOf (startLoad u role v) (fieldAt v 0 1) = { Slot.empty with state := 1 }) ∧
  Writes .modelSelect 0x4111 0x06 (fun u _ _ _ v => abandonBuild (setPend u 0x4111 0 v 2)) ∧
  Writes .clearSlot 0x4114 0 (fun u _ _ _ v => setSlot (slotGone u v) v Slot.empty) ∧
  Writes .revertSignedWeights 0x4124 0x06 (fun u _ _ _ v => setPend u 0x4124 0 v 2) ∧
  Writes .handoverCommand 0x7002 0 (fun u _ _ _ v =>
    if v = 1 then planHandover u 3 5 else refreshActive { u with red.driveFault := false, cot.checkedOff := 0 }) ∧
  Writes .clearDriveFault 0x7002 0 (fun u _ _ _ v =>
    if v = 1 then planHandover u 3 5 else refreshActive { u with red.driveFault := false, cot.checkedOff := 0 }) ∧
  (∀ u : State, (refreshActive { u with red.driveFault := false, cot.checkedOff := 0 }).red.driveFault = false) ∧
  Writes .replacementAdoption 0x7010 0 (fun u _ _ _ v => { u with red.adoptedPeer := some (fieldAt v 0 32) })

/-- Writes to the security die (R352, R356 to R359, R361, R363, R364, R370, R374, R375): a key enrolment, which closes the
sessions of the key it replaces; the node table; an image, which fills the inactive bank where its checks pass and is refused
with the first code where not; a bank to activate, tried at the next start; a trial committed; a request for evidence, queued,
and for a seal; a grant with its scopes and duration, and its end; the passphrase verifier, and an attempt, which promotes its
session. Choices of the model in it: log entries 5, 55, 60 and 103. -/
def Obligations.TrustRequests : Prop :=
  (∀ o, (o = 0x8000 ∨ o = 0x8001) →
    Writes (fun r => .keyEnrolment { r with object := o }) o 0 (fun u _ _ _ v => enrolKey u v)) ∧
  (∀ u v, fieldAt v 2 1 = 0 → (enrolKey u v).sec.sessions =
    u.sec.sessions.filter (fun k => !(k.role == .owner && k.key == 0))) ∧
  Writes .nodeTableWrite 0x8020 0x06 (fun u _ _ q _ => pendAll u 0x8020 (firstOf q) 2 (written q)) ∧
  (∀ r d g role k c s, let q := Req.writing r 0x8060
    Taken s q role k → Formed q 2 → objDesc q.object = some d → q.flags % 4 = 3 → q.offset = 0 →
    deniedWrite (counted s q) q k role d = false → Unclamped s q →
    checkWrite (counted s q) (wrOf q k role d q.value (some g)) d q.count (headerReserved q) = c → ∃ t,
    exec (.firmwareLoad r g) s = .next t ∧
    (c = 0 → Replied q 0 (setBank (counted s q) (!s.sec.bankB)
      (bankOfImage (stagedImage s (firstWritten q)) (fieldAt (firstWritten q) 0 4))) t) ∧
    (c ≠ 0 → Replied q c (refuseWrite (counted s q) (wrOf q k role d q.value (some g)) c) t)) ∧
  Writes .activateBank 0x8061 0x06 (fun u _ _ _ v => activate u (v == 1)) ∧
  (∀ u b, b ≠ u.sec.bankB → (activate u b).sec.activate = some b ∧ (activate u b).power.wakeNext = some 2 ∧
    (activate u b).sec.prevB = u.sec.bankB ∧ (bankOf (activate u b) u.sec.bankB).state = 1 ∧
    (activate u b).fac.eventN = u.fac.eventN + 1) ∧
  Writes .commitTrial 0x8062 0 (fun u _ _ _ _ => endTrial u) ∧
  Writes .evidenceRequest 0x8050 0 (fun u role _ q _ => requestEvidence u role (leOf (written q))) ∧
  (∀ u role n, (requestEvidence u role n).sec.queue = u.sec.queue ++
    [{ kind := 2, minute := 0, root := 0, contract := 0, role := roleBits role, nonce := n }]) ∧
  Writes .onDemandSeal 0x8042 0 (fun u role _ _ v => requestSeal u role v) ∧
  Writes .unlockGrant 0x8011 0 (fun u _ _ q v => beginGrant u v q.value.length) ∧
  (∀ u v n, ∃ g, (beginGrant u v n).sec.grant = some g ∧ g.scopes = fieldAt v 3 1 ∧ g.duration = fieldAt v 4 2 ∧
    g.since = u.epo.ticks ∧ (beginGrant u v n).sec.issued = u.epo.count ∧ bit (beginGrant u v n).fac.mFlags 13 = true) ∧
  Writes .endUnlock 0x8012 0 (fun u role _ _ _ => endGrant u (roleBits role)) ∧
  (∀ u n, (endGrant u n).sec.grant = none) ∧
  Writes .passphraseVerifier 0x8014 0 (fun u _ _ _ v => dset u 0x8014 0 v) ∧
  Writes .passphraseAttempt 0x8015 0 (fun u _ k _ _ => match k with | some k => promote u k.number | none => u) ∧
  (∀ u n (k : Session), k ∈ u.sec.sessions → k.number = n → { k with
    role := .service, promoted := true, scopes := 8
    till := u.epo.ticks + 1000 * fieldAt (dget u 0x8014 0) 20 4 } ∈ (promote u n).sec.sessions)

/-- Writes to the calibration and the recorders, and the end of a loop program's load (R230, R245, R257, R259, R261, R263 to
R265, R511, R542): each write has the effect of its chapter and answers its code; an image that passes its checks lies verified
in slot 1 and runs in shadow, any other leaves the slot empty with the code; without a load nothing changes. Choices of the
model in it: log entries 36, 60, 63 and 99. -/
def Obligations.RecorderRequests : Prop :=
  Writes .userCalibrationWrite 0x9000 0x06 (fun u _ _ _ v => setPend u 0x9000 0 v 3) ∧
  Writes .snapshotRearm 0xA101 0 (fun u _ _ _ v =>
    { u with trc.snapOn := v == 1, trc.snapDue := false, trc.snapFrozen := false }) ∧
  Writes .traceConfiguration 0xA100 0 (fun u _ _ q _ =>
    (upTo (written q).length).foldl (fun s i => traceSet s (firstOf q + i) (at0 (written q) i)) u) ∧
  Writes .recorderResume 0xA103 0x06 (fun u _ _ _ v => setPend u 0xA103 0 v 2) ∧
  Writes .exportContent 0xA104 0 (fun u role _ _ v =>
    exportCopy u (role == .owner) (fieldAt v 0 1) (fieldAt v 4 4) (fieldAt v 8 4) (fieldAt v 12 8)) ∧
  Writes .firstFaultClear 0xA001 0 (fun u _ _ _ _ => { u with recs.first := none }) ∧
  Writes .auxSyncFunction 0xA105 0 (fun u _ _ _ v => dset u 0xA105 0 v) ∧
  (∀ g s, s.lpe.slot1.state = 1 → loopImageCode s (readLoopImage (loopReader s)) s.lpe.loadAt.2 g (ownerKeys s) = 0 → ∃ t,
    exec (.loopProgramLoadDone g) s = .next t ∧
    t.lpe.slot1.state = 2 ∧ t.lpe.slot1.result = 0 ∧ t.lpe.slot1.ident = (readLoopImage (loopReader s)).ident ∧
    t.lpe.slot1.version = (readLoopImage (loopReader s)).version ∧
    t.lpe.slot1.code = imageInstrs (loopReader s) (readLoopImage (loopReader s)) ∧
    t.lpe.slot1.data = imageData (loopReader s) (readLoopImage (loopReader s)) ∧
    t.lpe.shad = { LoopCtx.reset with mem := dataMem t.lpe.slot1.data, ended := true } ∧
    t = { s with
      lpe.loadFor := false, lpe.clean := 0, lpe.slot1 := t.lpe.slot1, lpe.shad := t.lpe.shad }) ∧
  (∀ g s, s.lpe.slot1.state = 1 → loopImageCode s (readLoopImage (loopReader s)) s.lpe.loadAt.2 g (ownerKeys s) ≠ 0 →
    ∃ t, exec (.loopProgramLoadDone g) s = .next t ∧
    t.lpe.slot1 = { ProgSlot.empty with
      result := loopImageCode s (readLoopImage (loopReader s)) s.lpe.loadAt.2 g (ownerKeys s) } ∧
    t = { s with lpe.slot1 := t.lpe.slot1, lpe.loadFor := false, lpe.clean := 0, dic.vals := t.dic.vals }) ∧
  (∀ g s, s.lpe.slot1.state ≠ 1 → exec (.loopProgramLoadDone g) s = .next s)

/-- A step takes the command at the front of the queue and runs it on the rest (the block's form of a step). With no command
waiting the block idles, which is the model's choice (log entry 9). -/
def Obligations.StepRunsTheFrontCommand : Prop :=
  (∀ c s, step { s with pending := c :: s.pending } = exec c s) ∧ (∀ s, s.pending = [] → step s = .next s)

/-- The state right after reset (R35, R37, R484, R565): in Watch, no role, nothing placed in memory, no record, no open session,
no key enrolled, both strings open, no command waiting. Where the spec gives no value the model's own stands (log entry 3). -/
def Obligations.ResetState : Prop :=
  DramSound State.reset ∧ State.reset.pending = [] ∧ State.reset.power.mstate = .watch ∧ State.reset.red.role = .noRole ∧
  State.reset.recs.ring = [] ∧ State.reset.sec.sessions = [] ∧ ownerKeys State.reset = [] ∧
  (conv State.reset .A).st = .off ∧ (conv State.reset .B).st = .off ∧ State.reset.cot.cmd = 0 ∧
  dget State.reset 0x5000 0 = 800000 ∧ dget State.reset 0x2012 0 = 20000 ∧ State.reset.epo.count = 0

/-- Every step keeps the canonical form of the DRAM stack: no command leaves an address listed twice, out of order, or with the
byte that an unlisted address reads as. Choices of the model in it: log entry 8. -/
def Obligations.StepKeepsMemoryCanonical : Prop :=
  ∀ s t, DramSound s → step s = .next t → DramSound t

/-- No command touches the queue, the serial number or the device identity (R341, R346, R562): a step only takes the front
command off. -/
def Obligations.StepKeepsQueueAndIdentity : Prop :=
  ∀ s t, step s = .next t →
    t.pending = s.pending.tail ∧ t.power.serial = s.power.serial ∧ t.power.ident = s.power.ident

/-- Every command runs in every state: it answers a next state, but for a CXL.mem access beyond its window in Live, at which no
address exists (R441). Nothing is refused. Choices of the model in it: log entries 2 and 64. -/
def Obligations.EveryCommandRuns : Prop :=
  ∀ c s, Safe (exec c s) ∨
    (∃ ld off len b, c = .cxlMemRead ld off len b ∧ s.power.mstate = .live ∧ ldSize ld < off + len ∧
      exec c s = .fault (.noSuchAddress ld off)) ∨
    (∃ ld off data, c = .cxlMemWrite ld off data ∧ s.power.mstate = .live ∧ ldSize ld < off + data.length ∧
      exec c s = .fault (.noSuchAddress ld off))

/-- A byte written to the DRAM stack reads back, every other byte reads as before, and the canonical form is kept (R157, R440).
Choices of the model in it: log entry 8. -/
def Obligations.DramReadsWhatWasWritten : Prop :=
  (∀ m a v, memRead (memWrite m a v) a = v) ∧
  (∀ m a b v, b ≠ a → memRead (memWrite m a v) b = memRead m b) ∧
  (∀ m a l i, i < l.length → memRead (memWriteAll m a l) (a + i) = l.getD i 0#8) ∧
  (∀ m a l b, (b < a ∨ a + l.length ≤ b) → memRead (memWriteAll m a l) b = memRead m b) ∧
  (∀ s a n v, v < 256 ^ n → dramN (dramPut s a n v) a n = v) ∧
  (∀ m a l, Memory.wf m = true → Memory.wf (memWriteAll m a l) = true)

/-- A fault record (R227, R230, R259, R261, R263): written as the head of a ring of at most 512 or merged into a recent one of
its block and cause; a latch record is never merged; the first of severity fault or latch that is not merged is kept until it is
cleared, and no event or warning is. -/
def Obligations.FaultRecords : Prop :=
  (∀ s b v c x, Wrote s (writeRecB s b v c x) b v c) ∧
  (∀ s b v c x, s.recs.ring.length ≤ 512 → (writeRecB s b v c x).recs.ring.length ≤ 512) ∧
  (∀ s b v c x, 3 ≤ v → (writeRecB s b v c x).recs.seq = s.recs.seq + 1) ∧
  (∀ s b v c x, 2 ≤ v → s.recs.first = none → (s.recs.ring.any (mergesWith s b c) = false ∨ 3 ≤ v) →
    (writeRecB s b v c x).recs.first = some (newRecord s b v c x)) ∧
  (∀ s b v c x r, s.recs.first = some r → (writeRecB s b v c x).recs.first = some r) ∧
  (∀ s b v c x, v < 2 → (writeRecB s b v c x).recs.first = s.recs.first)

/-- R26, of a G1 device: a request that names generation G2 or G3 is answered with code 0x08, and an access to objects 0xB000 to
0xEFFF with code 0x01. -/
def Obligations.LaterGenerations : Prop :=
  (∀ r role k s, Taken s r role k → 20 ≤ r.arrived → r.length = r.value.length → (r.gen = 2 ∨ r.gen = 3) → ∃ t,
    exec (.malformedRequest r) s = .next t ∧ Replied r 0x08 (counted s r) t) ∧
  (∀ r op role k s, 1 ≤ op → op ≤ 4 → Taken s (Req.withOp r op) role k → 20 ≤ r.arrived → r.length = r.value.length →
    r.gen = 1 → 0xB000 ≤ r.object → r.object ≤ 0xEFFF → ∃ t,
    exec (.malformedRequest (Req.withOp r op)) s = .next t ∧ Replied (Req.withOp r op) 0x01 (counted s r) t)

/-- R23: a read of which an addressed element has a pending value is answered with code 0x06, and returns the values in force of
all addressed elements, as many of their bytes from the offset on as one response holds. -/
def Obligations.ReadOfPendingElements : Prop :=
  ∀ r d p role k s, Taken s (Req.withOp r 1) role k → Formed (Req.withOp r 1) 1 → objDesc r.object = some d →
    mayReach (counted s r) k role r.object d.rd false = true → headerReserved r = false → r.count ≠ 0 → r.length = 0 →
    r.offset ≤ (elemsBytes d r.object (firstOf r) r.count (readVal (counted s r))).length →
    p ∈ s.dic.pend → p.object = r.object → firstOf r ≤ p.element → p.element < firstOf r + r.count → ∃ t,
    exec (.read r) s = .next t ∧ Replied (Req.withOp r 1) 0x06 (counted s r) t ∧
    ∃ q ∈ t.dic.kept, q.1 = keyOf r ∧ q.2.2.1.result = 0x06 ∧ q.2.2.1.value = (
      (elemsBytes d r.object (firstOf r) r.count (readVal (counted s r))).drop r.offset).take
      (respMax r.link k.isSome)

/-- R495: a claim returns the lowest eligible source, marks it active and clears its software pending bit; with no eligible
source, an active one among them, it returns 0, changes nothing and increments the spurious count of the target. -/
def Obligations.ClaimTakesTheWinner : Prop :=
  (∀ c i s, i < 83 → eligible s c i = true → (∀ j, j < i → eligible s c j = false) → ∃ t,
    exec (.icuClaim c) s = .next t ∧ t.dic.reg = BitVec.ofNat 32 i ∧ activeSrc t c = i ∧ swPending t c i = false ∧
    (∀ j, j < 83 → j ≠ i → swPending t c j = swPending s c j) ∧ (∀ e, e ≠ c → activeSrc t e = activeSrc s e) ∧
    t = { s with
      icu.active := t.icu.active, icu.pswp := t.icu.pswp, icu.swp := t.icu.swp, dic.reg := t.dic.reg
      dic.busErr := false }) ∧
  (∀ c s, (∀ j, j < 83 → eligible s c j = false) → exec (.icuClaim c) s = .next { s with
    icu.spur := mset s.icu.spur (coreNum c) (satInc (mget s.icu.spur (coreNum c)) 65535), dic.reg := 0#32
    dic.busErr := false }) ∧
  (∀ c s, activeSrc s c ≠ 0 → ∀ j, eligible s c j = false)

/-- The arithmetic of the tiles (R146 to R152): the partial sum of an exact block does not depend on the order of its products;
the tree adds neighbours and passes an odd last up; a block with a NaN takes scale 0xFF, one of zeros scale 0; a finite code of
an 8-bit or MXFP4 format converts to itself; values from 480 on saturate in FP8 E4M3, from 65,520 on become infinite in FP16; no
conversion gives the MXINT8 code −128. -/
def Obligations.TileArithmetic : Prop :=
  (∀ l m, l.Perm m → exactPartial l = exactPartial m) ∧
  (∀ a b c d, reduceTree [a] none = a ∧ reduceTree [a, b] none = f32Add a b ∧
    reduceTree [a, b, c] none = f32Add (f32Add a b) c ∧ reduceTree [a, b, c] (some d) = f32Add (f32Add (f32Add a b) c) d) ∧
  (∀ k l, Exact.nan ∈ l → mxQuantise k l = (0xFF, l.map (fun _ => 0), 0)) ∧
  (∀ k l, (∀ x ∈ l, ∃ neg d, x = Exact.fin neg 0 d) → mxQuantise k l = (0, l.map (fun _ => 0), 0)) ∧
  (∀ k c, k ∈ [Fmt.e4m3, Fmt.e5m2, Fmt.mxfp8, Fmt.mxfp4, Fmt.int8] → c < 2 ^ k.bits →
    (∃ neg n, k.value c = .fin neg n 1) → k.convert (k.value c) = (c, false)) ∧
  (∀ neg n, 480 * 2 ^ 149 ≤ n → Fmt.convert .e4m3 (.fin neg n 1) = (if neg then 0xFE else 0x7E, true)) ∧
  (∀ neg n, 65520 * 2 ^ 149 ≤ n → Fmt.convert .fp16 (.fin neg n 1) = (if neg then 0xFC00 else 0x7C00, false)) ∧
  (∀ x, (Fmt.convert .mxint8 x).1 ≠ 0x80)

end
end

