-- ==== Sys2Proof/Laws/Ops.lean ====
section
/-! SUPPORT. Laws of the operations on tables, bits, bytes and memory (Machine/Ops.lean): what is read after a write, and what a
write leaves alone. -/
namespace Sys2Proof.Machine

/-! ## Sparse tables -/

theorem mget_mdel (m : SMap) (k j : Nat) : mget (mdel m k) j = if j = k then 0 else mget m j := by
  induction m with
  | nil => simp [mdel, mget]
  | cons p m ih =>
    obtain ⟨a, v⟩ := p
    unfold mdel at ih ⊢
    rw [List.filter_cons]
    by_cases ha : a = k <;> by_cases hj : j = k <;> by_cases haj : a = j <;> simp_all [mget]

theorem mget_mins (m : SMap) (k v j : Nat) : mget (mins m k v) j = if j = k then v else mget m j := by
  induction m with
  | nil =>
    by_cases hj : j = k
    · simp [mins, mget, hj]
    · simp [mins, mget, hj, Ne.symm hj]
  | cons p m ih =>
    obtain ⟨a, w⟩ := p
    unfold mins
    by_cases hj : j = k
    · subst hj
      (repeat' split) <;> simp_all [mget]
      omega
    · by_cases haj : a = j
      · subst haj
        (repeat' split) <;> simp_all [mget]
        omega
      · have hkj : ¬ k = j := fun h => hj h.symm
        (repeat' split) <;> simp_all [mget]

/-- A table after one entry is set. -/
theorem mget_mset (m : SMap) (k v j : Nat) : mget (mset m k v) j = if j = k then v else mget m j := by
  unfold mset
  split
  · rename_i h; subst h; exact mget_mdel m k j
  · exact mget_mins m k v j

@[simp] theorem mget_mset_self (m : SMap) (k v : Nat) : mget (mset m k v) k = v := by rw [mget_mset, if_pos rfl]
theorem mget_mset_ne (m : SMap) (k v j : Nat) (h : j ≠ k) : mget (mset m k v) j = mget m j := by
  rw [mget_mset, if_neg h]
@[simp] theorem mget_mdel_self (m : SMap) (k : Nat) : mget (mdel m k) k = 0 := by rw [mget_mdel, if_pos rfl]
@[simp] theorem mget_madd_self (m : SMap) (k n : Nat) : mget (madd m k n) k = mget m k + n := mget_mset_self m k _

/-! ## Bits -/

@[simp] theorem bit_zero (i : Nat) : bit 0 i = false := Nat.zero_testBit i

theorem testBit_add_two_pow (i : Nat) : ∀ n j : Nat, n.testBit i = false → j ≠ i → (n + 2 ^ i).testBit j = n.testBit j := by
  induction i with
  | zero =>
    intro n j h hj
    obtain ⟨j, rfl⟩ := Nat.exists_eq_succ_of_ne_zero hj
    have h1 : n % 2 = 0 := by rw [Nat.testBit_zero] at h; have := of_decide_eq_false h; omega
    have h2 : (n + 2 ^ 0) / 2 = n / 2 := by omega
    rw [Nat.testBit_succ, Nat.testBit_succ, h2]
  | succ i ih =>
    intro n j h hj
    have h2 : (n + 2 ^ (i + 1)) / 2 = n / 2 + 2 ^ i := by rw [Nat.pow_succ]; omega
    cases j with
    | zero =>
      have h3 : (n + 2 ^ (i + 1)) % 2 = n % 2 := by rw [Nat.pow_succ]; omega
      rw [Nat.testBit_zero, Nat.testBit_zero, h3]
    | succ j =>
      rw [Nat.testBit_succ, Nat.testBit_succ, h2]
      exact ih (n / 2) j (by rw [← Nat.testBit_succ]; exact h) (by omega)

theorem testBit_sub_two_pow (n i j : Nat) (h : n.testBit i = true) :
    (n - 2 ^ i).testBit j = if j = i then false else n.testBit j := by
  have hle : 2 ^ i ≤ n := Nat.ge_two_pow_of_testBit h
  have hself : (n - 2 ^ i).testBit i = false := by
    have := Nat.testBit_two_pow_add_eq (n - 2 ^ i) i
    rw [show 2 ^ i + (n - 2 ^ i) = n by omega, h] at this
    cases hb : (n - 2 ^ i).testBit i
    · rfl
    · rw [hb] at this; exact this
  split
  · rename_i hj; subst hj; exact hself
  · rename_i hj
    have := testBit_add_two_pow i (n - 2 ^ i) j hself hj
    rw [show n - 2 ^ i + 2 ^ i = n by omega] at this
    exact this.symm

/-- A word after one bit is set or cleared. -/
theorem bit_setBit (n i : Nat) (b : Bool) (j : Nat) : bit (setBit n i b) j = if j = i then b else bit n j := by
  unfold setBit bit
  split
  · rename_i h
    split
    · rename_i hj; subst hj; exact h
    · rfl
  · rename_i h
    cases b with
    | true =>
      have h0 : n.testBit i = false := by simpa using h
      rw [if_pos rfl]
      split
      · rename_i hj; subst hj
        have := Nat.testBit_two_pow_add_eq n j
        rw [Nat.add_comm, this, h0]; rfl
      · rename_i hj; exact testBit_add_two_pow i n j h0 hj
    | false =>
      have h0 : n.testBit i = true := by simpa using h
      simp only [Bool.false_eq_true, if_false]
      exact testBit_sub_two_pow n i j h0

@[simp] theorem bit_setBit_self (n i : Nat) (b : Bool) : bit (setBit n i b) i = b := by rw [bit_setBit, if_pos rfl]
theorem bit_setBit_ne (n i j : Nat) (b : Bool) (h : j ≠ i) : bit (setBit n i b) j = bit n j := by
  rw [bit_setBit, if_neg h]

/-! ## Lists -/

theorem getD_setAt {α : Type} (l : List α) (i : Nat) (v d : α) (j : Nat) :
    (setAt l i v).getD j d = if j = i ∧ i < l.length then v else l.getD j d := by
  induction l generalizing i j with
  | nil => simp [setAt]
  | cons x l ih =>
    cases i with
    | zero => cases j <;> simp [setAt]
    | succ i =>
      cases j with
      | zero => simp [setAt]
      | succ j => simpa [setAt] using ih i j

@[simp] theorem length_setAt {α : Type} (l : List α) (i : Nat) (v : α) : (setAt l i v).length = l.length := by
  induction l generalizing i with
  | nil => rfl
  | cons x l ih => cases i <;> simp [setAt, ih]

theorem mem_upTo (n i : Nat) : i ∈ upTo n ↔ i < n := List.mem_range

@[simp] theorem length_upTo (n : Nat) : (upTo n).length = n := List.length_range

/-! ## Two of a kind -/

@[simp] theorem Two.get_set_self {α : Type} (t : Two α) (x : Str) (v : α) : (t.set x v).get x = v := by cases x <;> rfl
theorem Two.get_set_ne {α : Type} (t : Two α) (x y : Str) (v : α) (h : y ≠ x) : (t.set x v).get y = t.get y := by
  cases x <;> cases y <;> first | rfl | exact absurd rfl h

/-! ## Bytes -/

@[simp] theorem length_bytesOf (v n : Nat) : (bytesOf v n).length = n := by
  induction n generalizing v with
  | zero => rfl
  | succ n ih => simp [bytesOf, ih]

/-- The bytes of a number, read back. -/
theorem leOf_bytesOf (n v : Nat) : leOf (bytesOf v n) = v % 256 ^ n := by
  induction n generalizing v with
  | zero => simp [bytesOf, leOf, Nat.mod_one]
  | succ n ih =>
    rw [bytesOf, leOf, ih, Nat.pow_succ', Nat.mod_mul]
    omega

/-! ## Memory -/

theorem memRead_filter (m : Memory) (a b : Nat) :
    memRead (m.filter (fun p => p.1 != a)) b = if b = a then 0#8 else memRead m b := by
  induction m with
  | nil => simp [memRead]
  | cons p m ih =>
    obtain ⟨k, v⟩ := p
    rw [List.filter_cons]
    by_cases ha : k = a <;> by_cases hj : b = a <;> by_cases haj : k = b <;> simp_all [memRead]

theorem memRead_memIns (m : Memory) (a b : Nat) (v : Byte) :
    memRead (memIns m a v) b = if b = a then v else memRead m b := by
  induction m with
  | nil =>
    by_cases hj : b = a
    · simp [memIns, memRead, hj]
    · simp [memIns, memRead, hj, Ne.symm hj]
  | cons p m ih =>
    obtain ⟨k, w⟩ := p
    unfold memIns
    by_cases hj : b = a
    · subst hj
      (repeat' split) <;> simp_all [memRead]
      omega
    · by_cases haj : k = b
      · subst haj
        (repeat' split) <;> simp_all [memRead]
        omega
      · have hkj : ¬ a = b := fun h => hj h.symm
        (repeat' split) <;> simp_all [memRead]

/-- A byte of memory after one byte is written. -/
theorem memRead_memWrite (m : Memory) (a b : Nat) (v : Byte) :
    memRead (memWrite m a v) b = if b = a then v else memRead m b := by
  unfold memWrite
  split
  · rename_i h; subst h; exact memRead_filter m a b
  · exact memRead_memIns m a b v

/-- A byte outside what is written reads as before. -/
theorem memRead_memWriteAll_of_outside (l : List Byte) : ∀ (m : Memory) (a b : Nat), (b < a ∨ a + l.length ≤ b) →
    memRead (memWriteAll m a l) b = memRead m b := by
  induction l with
  | nil => intro m a b _; rfl
  | cons x l ih =>
    intro m a b h
    rw [List.length_cons] at h
    rw [memWriteAll, ih _ _ _ (by omega), memRead_memWrite, if_neg (by omega)]

/-- A byte written reads as written. -/
theorem memRead_memWriteAll_of_inside (l : List Byte) : ∀ (m : Memory) (a i : Nat), i < l.length →
    memRead (memWriteAll m a l) (a + i) = l.getD i 0#8 := by
  induction l with
  | nil => intro m a i h; simp at h
  | cons x l ih =>
    intro m a i h
    rw [memWriteAll]
    cases i with
    | zero => rw [memRead_memWriteAll_of_outside _ _ _ _ (by omega), memRead_memWrite]; simp
    | succ i =>
      rw [show a + (i + 1) = a + 1 + i by omega, ih _ _ _ (by simpa using h)]
      simp

@[simp] theorem length_memReadAll (m : Memory) (a n : Nat) : (memReadAll m a n).length = n := by
  induction n generalizing a with
  | zero => rfl
  | succ n ih => simp [memReadAll, ih]

/-- What was written reads back whole. -/
theorem memReadAll_memWriteAll (l : List Byte) (m : Memory) (a : Nat) :
    memReadAll (memWriteAll m a l) a l.length = l := by
  have h : ∀ (n b : Nat) (k : Memory), memReadAll k b n = (List.range n).map (fun i => memRead k (b + i)) := by
    intro n
    induction n with
    | zero => intro b k; rfl
    | succ n ih =>
      intro b k
      rw [memReadAll, ih, List.range_succ_eq_map, List.map_cons, List.map_map]
      simp [Function.comp_def, Nat.add_comm, Nat.add_left_comm]
  rw [h]
  apply List.ext_getElem
  · simp
  · intro i h1 h2
    rw [List.getElem_map, List.getElem_range, memRead_memWriteAll_of_inside _ _ _ _ h2]
    simp [List.getD_eq_getElem?_getD, h2]

/-! ## The canonical form of memory -/

theorem memIns_mem (m : Memory) (k : Nat) (v : Byte) (lo : Option Nat) (hm : memRising lo m = true) (hv : v ≠ 0#8)
    (hk : ∀ l, lo = some l → l < k) : memRising lo (memIns m k v) = true := by
  induction m generalizing lo with
  | nil =>
    cases lo <;> simp_all [memIns, memRising]
  | cons p m ih =>
    obtain ⟨a, b⟩ := p
    simp only [memRising, Bool.and_eq_true] at hm
    unfold memIns
    split
    · rename_i h1
      simp only [memRising, Bool.and_eq_true, decide_eq_true_eq]
      refine ⟨⟨?_, by simpa using hv⟩, ⟨h1, hm.1.2⟩, hm.2⟩
      cases lo <;> simp_all
    · split
      · rename_i h2; subst h2
        simp only [memRising, Bool.and_eq_true]
        exact ⟨⟨hm.1.1, by simpa using hv⟩, hm.2⟩
      · rename_i h1 h2
        simp only [memRising, Bool.and_eq_true]
        refine ⟨hm.1, ih (some a) hm.2 ?_⟩
        intro l hl; cases hl; omega

theorem memRising_weaken (m : Memory) (lo : Option Nat) (k : Nat) (h : memRising (some k) m = true)
    (hk : ∀ l, lo = some l → l < k) : memRising lo m = true := by
  cases m with
  | nil => rfl
  | cons p m =>
    obtain ⟨a, b⟩ := p
    simp only [memRising, Bool.and_eq_true, decide_eq_true_eq] at h ⊢
    refine ⟨⟨?_, h.1.2⟩, h.2⟩
    cases lo with
    | none => rfl
    | some l => have := hk l rfl; simp; omega

theorem memRising_filter (m : Memory) (q : Nat × Byte → Bool) (lo : Option Nat) (h : memRising lo m = true) :
    memRising lo (m.filter q) = true := by
  induction m generalizing lo with
  | nil => exact h
  | cons p m ih =>
    obtain ⟨a, b⟩ := p
    simp only [memRising, Bool.and_eq_true] at h
    rw [List.filter_cons]
    split
    · simp only [memRising, Bool.and_eq_true]; exact ⟨h.1, ih _ h.2⟩
    · refine ih lo (memRising_weaken m lo a h.2 ?_)
      intro l hl; subst hl; simpa using h.1.1

@[simp] theorem wf_memWrite (m : Memory) (a : Nat) (v : Byte) (h : Memory.wf m = true) :
    Memory.wf (memWrite m a v) = true := by
  unfold memWrite Memory.wf at *
  split
  · exact memRising_filter _ _ _ h
  · rename_i hv; exact memIns_mem _ _ _ _ h hv (by simp)

@[simp] theorem wf_memWriteAll (m : Memory) (a : Nat) (l : List Byte) (h : Memory.wf m = true) :
    Memory.wf (memWriteAll m a l) = true := by
  induction l generalizing m a with
  | nil => exact h
  | cons b l ih => exact ih _ _ (wf_memWrite m a b h)

@[simp] theorem wf_filter (m : Memory) (q : Nat × Byte → Bool) (h : Memory.wf m = true) :
    Memory.wf (m.filter q) = true := memRising_filter _ _ _ h

@[simp] theorem wf_nil : Memory.wf [] = true := rfl

end Sys2Proof.Machine
end

