-- ==== Sys2Proof/Laws/KeepDie.lean ====
section
/-! SUPPORT. What a step keeps, function by function: the canonical form of the DRAM (or the DRAM itself), the queue of commands
and the identity of the module. This file: the control die: the shared operations, guard, converter, loop engine, interrupts,
strings and traces. -/
namespace Sys2Proof.Machine

@[simp] theorem foldl_dram {α : Type} (f : State → α → State) (h : ∀ s a, (f s a).net.dram = s.net.dram) (l : List α) :
    ∀ s : State, (l.foldl f s).net.dram = s.net.dram := by
  induction l with
  | nil => intro s; rfl
  | cons a l ih => intro s; rw [List.foldl_cons, ih, h]
@[simp] theorem foldl_pending {α : Type} (f : State → α → State) (h : ∀ s a, (f s a).pending = s.pending) (l : List α) :
    ∀ s : State, (l.foldl f s).pending = s.pending := by
  induction l with
  | nil => intro s; rfl
  | cons a l ih => intro s; rw [List.foldl_cons, ih, h]
@[simp] theorem foldl_serial {α : Type} (f : State → α → State) (h : ∀ s a, (f s a).power.serial = s.power.serial) (l : List α) :
    ∀ s : State, (l.foldl f s).power.serial = s.power.serial := by
  induction l with
  | nil => intro s; rfl
  | cons a l ih => intro s; rw [List.foldl_cons, ih, h]
@[simp] theorem foldl_ident {α : Type} (f : State → α → State) (h : ∀ s a, (f s a).power.ident = s.power.ident) (l : List α) :
    ∀ s : State, (l.foldl f s).power.ident = s.power.ident := by
  induction l with
  | nil => intro s; rfl
  | cons a l ih => intro s; rw [List.foldl_cons, ih, h]
theorem foldl_wf {α : Type} (f : State → α → State)
    (h : ∀ s a, Memory.wf s.net.dram = true → Memory.wf (f s a).net.dram = true) (l : List α) :
    ∀ s : State, Memory.wf s.net.dram = true → Memory.wf (l.foldl f s).net.dram = true := by
  induction l with
  | nil => intro s hs; exact hs
  | cons a l ih => intro s hs; rw [List.foldl_cons]; exact ih _ (h _ _ hs)
@[simp] theorem ite_dram (c : Prop) [Decidable c] (a b : State) :
    (if c then a else b).net.dram = if c then a.net.dram else b.net.dram := by split <;> rfl
@[simp] theorem ite_pending (c : Prop) [Decidable c] (a b : State) :
    (if c then a else b).pending = if c then a.pending else b.pending := by split <;> rfl
@[simp] theorem ite_serial (c : Prop) [Decidable c] (a b : State) :
    (if c then a else b).power.serial = if c then a.power.serial else b.power.serial := by split <;> rfl
@[simp] theorem ite_ident (c : Prop) [Decidable c] (a b : State) :
    (if c then a else b).power.ident = if c then a.power.ident else b.power.ident := by split <;> rfl
theorem wf_ite (c : Prop) [Decidable c] {a b : Memory} (ha : Memory.wf a = true) (hb : Memory.wf b = true) :
    Memory.wf (if c then a else b) = true := by split <;> assumption
/-- `x` keeps what every step keeps of `s`: the canonical form, the queue and the identity. -/
def Kept (s x : State) : Prop :=
  (Memory.wf s.net.dram = true → Memory.wf x.net.dram = true) ∧ x.pending = s.pending ∧
    x.power.serial = s.power.serial ∧ x.power.ident = s.power.ident

theorem Kept.refl (s : State) : Kept s s := ⟨id, rfl, rfl, rfl⟩

theorem Kept.trans {a b c : State} (h : Kept a b) (k : Kept b c) : Kept a c :=
  ⟨fun w => k.1 (h.1 w), k.2.1.trans h.2.1, k.2.2.1.trans h.2.2.1, k.2.2.2.trans h.2.2.2⟩

theorem Kept.of_eq {a b : State} (h : b.net.dram = a.net.dram ∧ b.pending = a.pending ∧ b.power.serial = a.power.serial ∧
    b.power.ident = a.power.ident) : Kept a b :=
  ⟨fun w => by rw [h.1]; exact w, h.2.1, h.2.2.1, h.2.2.2⟩

theorem Kept.ite {a b c : State} (p : Prop) [Decidable p] (h : Kept a b) (k : Kept a c) :
    Kept a (if p then b else c) := by split <;> assumption

theorem Kept.foldl {α : Type} (f : State → α → State) (h : ∀ s a, Kept s (f s a)) (l : List α) :
    ∀ s : State, Kept s (l.foldl f s) := by
  induction l with
  | nil => exact Kept.refl
  | cons a l ih => intro s; rw [List.foldl_cons]; exact (h s a).trans (ih _)

@[simp] theorem dset_keep (s : State) (o : Nat) (e : Nat) (v : Nat) :
    (dset s o e v).net.dram = s.net.dram ∧
      (dset s o e v).pending = s.pending ∧
      (dset s o e v).power.serial = s.power.serial ∧
      (dset s o e v).power.ident = s.power.ident := by
  exact ⟨rfl, rfl, rfl, rfl⟩

@[simp] theorem bump_keep (s : State) (o : Nat) (e : Nat) :
    (bump s o e).net.dram = s.net.dram ∧
      (bump s o e).pending = s.pending ∧
      (bump s o e).power.serial = s.power.serial ∧
      (bump s o e).power.ident = s.power.ident := by
  exact ⟨rfl, rfl, rfl, rfl⟩

@[simp] theorem bumpN_keep (s : State) (o : Nat) (e : Nat) (n : Nat) :
    (bumpN s o e n).net.dram = s.net.dram ∧
      (bumpN s o e n).pending = s.pending ∧
      (bumpN s o e n).power.serial = s.power.serial ∧
      (bumpN s o e n).power.ident = s.power.ident := by
  exact ⟨rfl, rfl, rfl, rfl⟩

@[simp] theorem dropPend_keep (s : State) (o : Nat) (e : Nat) :
    (dropPend s o e).net.dram = s.net.dram ∧
      (dropPend s o e).pending = s.pending ∧
      (dropPend s o e).power.serial = s.power.serial ∧
      (dropPend s o e).power.ident = s.power.ident := by
  exact ⟨rfl, rfl, rfl, rfl⟩

@[simp] theorem setPend_keep (s : State) (o : Nat) (e : Nat) (v : Nat) (cls : Nat) :
    (setPend s o e v cls).net.dram = s.net.dram ∧
      (setPend s o e v cls).pending = s.pending ∧
      (setPend s o e v cls).power.serial = s.power.serial ∧
      (setPend s o e v cls).power.ident = s.power.ident := by
  exact ⟨rfl, rfl, rfl, rfl⟩

@[simp] theorem copyWrite_keep (s : State) (w : Nat × Nat × Nat × Nat) :
    (copyWrite s w).net.dram = s.net.dram ∧
      (copyWrite s w).pending = s.pending ∧
      (copyWrite s w).power.serial = s.power.serial ∧
      (copyWrite s w).power.ident = s.power.ident := by
  unfold copyWrite; simp

@[simp] theorem drawn_keep (s : State) :
    (drawn s).net.dram = s.net.dram ∧
      (drawn s).pending = s.pending ∧
      (drawn s).power.serial = s.power.serial ∧
      (drawn s).power.ident = s.power.ident := by
  exact ⟨rfl, rfl, rfl, rfl⟩

@[simp] theorem putEvent_keep (s : State) (v : Nat) :
    (putEvent s v).net.dram = s.net.dram ∧
      (putEvent s v).pending = s.pending ∧
      (putEvent s v).power.serial = s.power.serial ∧
      (putEvent s v).power.ident = s.power.ident := by
  exact ⟨rfl, rfl, rfl, rfl⟩

@[simp] theorem logEvent_keep (s : State) (kind : Nat) (role : Nat) (value : Nat) (prev : Nat) :
    (logEvent s kind role value prev).net.dram = s.net.dram ∧
      (logEvent s kind role value prev).pending = s.pending ∧
      (logEvent s kind role value prev).power.serial = s.power.serial ∧
      (logEvent s kind role value prev).power.ident = s.power.ident := by
  exact ⟨rfl, rfl, rfl, rfl⟩

@[simp] theorem minuteFlag_keep (s : State) (i : Nat) :
    (minuteFlag s i).net.dram = s.net.dram ∧
      (minuteFlag s i).pending = s.pending ∧
      (minuteFlag s i).power.serial = s.power.serial ∧
      (minuteFlag s i).power.ident = s.power.ident := by
  exact ⟨rfl, rfl, rfl, rfl⟩

@[simp] theorem faultPaths_keep (s : State) (r : Record) :
    (faultPaths s r).net.dram = s.net.dram ∧
      (faultPaths s r).pending = s.pending ∧
      (faultPaths s r).power.serial = s.power.serial ∧
      (faultPaths s r).power.ident = s.power.ident := by
  unfold faultPaths; simp

@[simp] theorem writeRecB_keep (s : State) (block : Nat) (severity : Nat) (cause : Nat) (body : Nat) :
    (writeRecB s block severity cause body).net.dram = s.net.dram ∧
      (writeRecB s block severity cause body).pending = s.pending ∧
      (writeRecB s block severity cause body).power.serial = s.power.serial ∧
      (writeRecB s block severity cause body).power.ident = s.power.ident := by
  unfold writeRecB; simp

@[simp] theorem crossRec_keep (s : State) (cls : Nat) (i : Nat) (count : Nat) :
    (crossRec s cls i count).net.dram = s.net.dram ∧
      (crossRec s cls i count).pending = s.pending ∧
      (crossRec s cls i count).power.serial = s.power.serial ∧
      (crossRec s cls i count).power.ident = s.power.ident := by
  unfold crossRec; simp

@[simp] theorem setLost_keep (s : State) (i : Nat) :
    (setLost s i).net.dram = s.net.dram ∧
      (setLost s i).pending = s.pending ∧
      (setLost s i).power.serial = s.power.serial ∧
      (setLost s i).power.ident = s.power.ident := by
  unfold setLost; simp

@[simp] theorem pulse_keep (s : State) (i : Nat) (stopped : Bool) :
    (pulse s i stopped).net.dram = s.net.dram ∧
      (pulse s i stopped).pending = s.pending ∧
      (pulse s i stopped).power.serial = s.power.serial ∧
      (pulse s i stopped).power.ident = s.power.ident := by
  unfold pulse; simp

@[simp] theorem resetPulse_keep (s : State) (i : Nat) :
    (resetPulse s i).net.dram = s.net.dram ∧
      (resetPulse s i).pending = s.pending ∧
      (resetPulse s i).power.serial = s.power.serial ∧
      (resetPulse s i).power.ident = s.power.ident := by
  unfold resetPulse; simp

@[simp] theorem dropEntries_keep (s : State) (f : Nat) (n : Nat) :
    (dropEntries s f n).net.dram = s.net.dram ∧
      (dropEntries s f n).pending = s.pending ∧
      (dropEntries s f n).power.serial = s.power.serial ∧
      (dropEntries s f n).power.ident = s.power.ident := by
  exact ⟨rfl, rfl, rfl, rfl⟩

@[simp] theorem resetFifo_keep (s : State) (f : Nat) (n : Nat) :
    (resetFifo s f n).net.dram = s.net.dram ∧
      (resetFifo s f n).pending = s.pending ∧
      (resetFifo s f n).power.serial = s.power.serial ∧
      (resetFifo s f n).power.ident = s.power.ident := by
  unfold resetFifo; simp

@[simp] theorem writeRec_keep (s : State) (block : Nat) (severity : Nat) (cause : Nat) :
    (writeRec s block severity cause).net.dram = s.net.dram ∧
      (writeRec s block severity cause).pending = s.pending ∧
      (writeRec s block severity cause).power.serial = s.power.serial ∧
      (writeRec s block severity cause).power.ident = s.power.ident := by
  unfold writeRec; simp

@[simp] theorem accessOk_keep (s : State) :
    (accessOk s).net.dram = s.net.dram ∧
      (accessOk s).pending = s.pending ∧
      (accessOk s).power.serial = s.power.serial ∧
      (accessOk s).power.ident = s.power.ident := by
  exact ⟨rfl, rfl, rfl, rfl⟩

@[simp] theorem busError_keep (s : State) (core : Core5) (block : Nat) :
    (busError s core block).net.dram = s.net.dram ∧
      (busError s core block).pending = s.pending ∧
      (busError s core block).power.serial = s.power.serial ∧
      (busError s core block).power.ident = s.power.ident := by
  exact ⟨rfl, rfl, rfl, rfl⟩

@[simp] theorem dramBytes_keep (s : State) (a : Nat) (l : List Byte) :
    (Memory.wf s.net.dram = true → Memory.wf (dramBytes s a l).net.dram = true) ∧
      (dramBytes s a l).pending = s.pending ∧ (dramBytes s a l).power.serial = s.power.serial ∧
      (dramBytes s a l).power.ident = s.power.ident :=
  ⟨fun h => wf_memWriteAll _ _ _ h, rfl, rfl, rfl⟩

@[simp] theorem dramPut_keep (s : State) (a : Nat) (n : Nat) (v : Nat) :
    (Memory.wf s.net.dram = true → Memory.wf (dramPut s a n v).net.dram = true) ∧
      (dramPut s a n v).pending = s.pending ∧
      (dramPut s a n v).power.serial = s.power.serial ∧
      (dramPut s a n v).power.ident = s.power.ident := by
  unfold dramPut; refine ⟨fun h => ?_, ?_⟩ <;> simp [*]

@[simp] theorem mailCount_keep (s : State) (l : Link) :
    (mailCount s l).net.dram = s.net.dram ∧
      (mailCount s l).pending = s.pending ∧
      (mailCount s l).power.serial = s.power.serial ∧
      (mailCount s l).power.ident = s.power.ident := by
  unfold mailCount; (repeat' split) <;> simp

@[simp] theorem mailDone_keep (s : State) (ld : Nat) (op : Nat) (code : Nat) (payload : List Nat) :
    (mailDone s ld op code payload).net.dram = s.net.dram ∧
      (mailDone s ld op code payload).pending = s.pending ∧
      (mailDone s ld op code payload).power.serial = s.power.serial ∧
      (mailDone s ld op code payload).power.ident = s.power.ident := by
  unfold mailDone; simp

@[simp] theorem mailRefused_keep (s : State) (ld : Nat) (op : Nat) (code : Nat) :
    (mailRefused s ld op code).net.dram = s.net.dram ∧
      (mailRefused s ld op code).pending = s.pending ∧
      (mailRefused s ld op code).power.serial = s.power.serial ∧
      (mailRefused s ld op code).power.ident = s.power.ident := by
  unfold mailRefused; simp

@[simp] theorem mailMessage_keep (s : State) (l : Link) (op : Nat) :
    (mailMessage s l op).net.dram = s.net.dram ∧
      (mailMessage s l op).pending = s.pending ∧
      (mailMessage s l op).power.serial = s.power.serial ∧
      (mailMessage s l op).power.ident = s.power.ident := by
  unfold mailMessage; (repeat' split) <;> simp

@[simp] theorem mailLost_keep (s : State) (l : Link) (op : Nat) :
    (mailLost s l op).net.dram = s.net.dram ∧
      (mailLost s l op).pending = s.pending ∧
      (mailLost s l op).power.serial = s.power.serial ∧
      (mailLost s l op).power.ident = s.power.ident := by
  unfold mailLost; (repeat' split) <;> simp

/-! ## Guard -/

@[simp] theorem violation_keep (s : State) (source : Nat) (q : Nat) (v : Nat) :
    (violation s source q v).net.dram = s.net.dram ∧
      (violation s source q v).pending = s.pending ∧
      (violation s source q v).power.serial = s.power.serial ∧
      (violation s source q v).power.ident = s.power.ident := by
  exact ⟨rfl, rfl, rfl, rfl⟩

@[simp] theorem clampWrite_keep (s : State) (q : Nat) (v : Nat) :
    (clampWrite s q v).1.net.dram = s.net.dram ∧
      (clampWrite s q v).1.pending = s.pending ∧
      (clampWrite s q v).1.power.serial = s.power.serial ∧
      (clampWrite s q v).1.power.ident = s.power.ident := by
  unfold clampWrite; (repeat' split) <;> simp

@[simp] theorem requestClamp_keep (s : State) :
    (requestClamp s).net.dram = s.net.dram ∧
      (requestClamp s).pending = s.pending ∧
      (requestClamp s).power.serial = s.power.serial ∧
      (requestClamp s).power.ident = s.power.ident := by
  exact ⟨rfl, rfl, rfl, rfl⟩

@[simp] theorem rollWindow_keep (s : State) :
    (rollWindow s).net.dram = s.net.dram ∧
      (rollWindow s).pending = s.pending ∧
      (rollWindow s).power.serial = s.power.serial ∧
      (rollWindow s).power.ident = s.power.ident := by
  exact ⟨rfl, rfl, rfl, rfl⟩

@[simp] theorem escalate_keep (s : State) (q : Nat) :
    (escalate s q).net.dram = s.net.dram ∧
      (escalate s q).pending = s.pending ∧
      (escalate s q).power.serial = s.power.serial ∧
      (escalate s q).power.ident = s.power.ident := by
  unfold escalate; simp

theorem execGuardEscalation_keep (q : Nat) (s : State) {t' : State} (h : execGuardEscalation q s = .next t') :
    t'.net.dram = s.net.dram ∧
      t'.pending = s.pending ∧
      t'.power.serial = s.power.serial ∧
      t'.power.ident = s.power.ident := by
  unfold execGuardEscalation at h; injection h with h; subst h; simp

theorem execGuardNarrowing_keep (core : Core5) (q : Nat) (value : Word) (s : State) {t' : State} (h : execGuardNarrowing core q value s = .next t') :
    t'.net.dram = s.net.dram ∧
      t'.pending = s.pending ∧
      t'.power.serial = s.power.serial ∧
      t'.power.ident = s.power.ident := by
  simp only [execGuardNarrowing] at h; (repeat' split at h) <;> injection h with h <;> subst h <;> simp

theorem execGuardAuthorisation_keep (b : Nat) (s : State) {t' : State} (h : execGuardAuthorisation b s = .next t') :
    t'.net.dram = s.net.dram ∧
      t'.pending = s.pending ∧
      t'.power.serial = s.power.serial ∧
      t'.power.ident = s.power.ident := by
  simp only [execGuardAuthorisation] at h; (repeat' split at h) <;> injection h with h <;> subst h <;> simp

theorem execAuthorisationExpiry_keep (b : Nat) (s : State) {t' : State} (h : execAuthorisationExpiry b s = .next t') :
    t'.net.dram = s.net.dram ∧
      t'.pending = s.pending ∧
      t'.power.serial = s.power.serial ∧
      t'.power.ident = s.power.ident := by
  unfold execAuthorisationExpiry at h; injection h with h; subst h; simp

@[simp] theorem useAuth_keep (s : State) (b : Nat) :
    (useAuth s b).net.dram = s.net.dram ∧
      (useAuth s b).pending = s.pending ∧
      (useAuth s b).power.serial = s.power.serial ∧
      (useAuth s b).power.ident = s.power.ident := by
  exact ⟨rfl, rfl, rfl, rfl⟩

theorem execOwnerLayerAdopt_keep (layer : Nat) (s : State) {t' : State} (h : execOwnerLayerAdopt layer s = .next t') :
    t'.net.dram = s.net.dram ∧
      t'.pending = s.pending ∧
      t'.power.serial = s.power.serial ∧
      t'.power.ident = s.power.ident := by
  simp only [execOwnerLayerAdopt] at h; (repeat' split at h) <;> injection h with h <;> subst h <;> simp

/-! ## Converter -/

@[simp] theorem setConv_keep (s : State) (x : Str) (c : Conv) :
    (setConv s x c).net.dram = s.net.dram ∧
      (setConv s x c).pending = s.pending ∧
      (setConv s x c).power.serial = s.power.serial ∧
      (setConv s x c).power.ident = s.power.ident := by
  exact ⟨rfl, rfl, rfl, rfl⟩

@[simp] theorem setActive_keep (s : State) (x : Str) (m : Nat) :
    (setActive s x m).net.dram = s.net.dram ∧
      (setActive s x m).pending = s.pending ∧
      (setActive s x m).power.serial = s.power.serial ∧
      (setActive s x m).power.ident = s.power.ident := by
  exact ⟨rfl, rfl, rfl, rfl⟩

@[simp] theorem phasesOff_keep (s : State) (x : Str) :
    (phasesOff s x).net.dram = s.net.dram ∧
      (phasesOff s x).pending = s.pending ∧
      (phasesOff s x).power.serial = s.power.serial ∧
      (phasesOff s x).power.ident = s.power.ident := by
  exact ⟨rfl, rfl, rfl, rfl⟩

@[simp] theorem convRec_keep (s : State) (severity : Nat) (cause : Nat) :
    (convRec s severity cause).net.dram = s.net.dram ∧
      (convRec s severity cause).pending = s.pending ∧
      (convRec s severity cause).power.serial = s.power.serial ∧
      (convRec s severity cause).power.ident = s.power.ident := by
  unfold convRec; simp

@[simp] theorem cotFlag_keep (s : State) (i : Nat) :
    (cotFlag s i).net.dram = s.net.dram ∧
      (cotFlag s i).pending = s.pending ∧
      (cotFlag s i).power.serial = s.power.serial ∧
      (cotFlag s i).power.ident = s.power.ident := by
  exact ⟨rfl, rfl, rfl, rfl⟩

@[simp] theorem cotFlagStr_keep (s : State) (i : Nat) (x : Str) :
    (cotFlagStr s i x).net.dram = s.net.dram ∧
      (cotFlagStr s i x).pending = s.pending ∧
      (cotFlagStr s i x).power.serial = s.power.serial ∧
      (cotFlagStr s i x).power.ident = s.power.ident := by
  exact ⟨rfl, rfl, rfl, rfl⟩

@[simp] theorem ignoredCot_keep (s : State) :
    (ignoredCot s).net.dram = s.net.dram ∧
      (ignoredCot s).pending = s.pending ∧
      (ignoredCot s).power.serial = s.power.serial ∧
      (ignoredCot s).power.ident = s.power.ident := by
  exact ⟨rfl, rfl, rfl, rfl⟩

@[simp] theorem foreignCot_keep (s : State) (core : Core5) :
    (foreignCot s core).net.dram = s.net.dram ∧
      (foreignCot s core).pending = s.pending ∧
      (foreignCot s core).power.serial = s.power.serial ∧
      (foreignCot s core).power.ident = s.power.ident := by
  exact ⟨rfl, rfl, rfl, rfl⟩

@[simp] theorem emuSpan_keep (s : State) (b : Nat) :
    (emuSpan s b).net.dram = s.net.dram ∧
      (emuSpan s b).pending = s.pending ∧
      (emuSpan s b).power.serial = s.power.serial ∧
      (emuSpan s b).power.ident = s.power.ident := by
  exact ⟨rfl, rfl, rfl, rfl⟩

@[simp] theorem emuTo_keep (s : State) (b : Nat) :
    (emuTo s b).net.dram = s.net.dram ∧
      (emuTo s b).pending = s.pending ∧
      (emuTo s b).power.serial = s.power.serial ∧
      (emuTo s b).power.ident = s.power.ident := by
  unfold emuTo; simp

@[simp] theorem reanchor_keep (s : State) :
    (reanchor s).net.dram = s.net.dram ∧
      (reanchor s).pending = s.pending ∧
      (reanchor s).power.serial = s.power.serial ∧
      (reanchor s).power.ident = s.power.ident := by
  exact ⟨rfl, rfl, rfl, rfl⟩

@[simp] theorem endCycles_keep (s : State) (x : Str) :
    (endCycles s x).net.dram = s.net.dram ∧
      (endCycles s x).pending = s.pending ∧
      (endCycles s x).power.serial = s.power.serial ∧
      (endCycles s x).power.ident = s.power.ident := by
  exact ⟨rfl, rfl, rfl, rfl⟩

@[simp] theorem startOnTime_keep (s : State) (x : Str) (p : Nat) (at' : Nat) :
    (startOnTime s x p at').net.dram = s.net.dram ∧
      (startOnTime s x p at').pending = s.pending ∧
      (startOnTime s x p at').power.serial = s.power.serial ∧
      (startOnTime s x p at').power.ident = s.power.ident := by
  exact ⟨rfl, rfl, rfl, rfl⟩

@[simp] theorem rejoin_keep (s : State) (x : Str) :
    (rejoin s x).net.dram = s.net.dram ∧
      (rejoin s x).pending = s.pending ∧
      (rejoin s x).power.serial = s.power.serial ∧
      (rejoin s x).power.ident = s.power.ident := by
  unfold rejoin; simp

@[simp] theorem phaseAdd_keep (s : State) (x : Str) :
    (phaseAdd s x).net.dram = s.net.dram ∧
      (phaseAdd s x).pending = s.pending ∧
      (phaseAdd s x).power.serial = s.power.serial ∧
      (phaseAdd s x).power.ident = s.power.ident := by
  unfold phaseAdd; (repeat' split) <;> simp

@[simp] theorem turnDirection_keep (s : State) (x : Str) :
    (turnDirection s x).net.dram = s.net.dram ∧
      (turnDirection s x).pending = s.pending ∧
      (turnDirection s x).power.serial = s.power.serial ∧
      (turnDirection s x).power.ident = s.power.ident := by
  unfold turnDirection; simp

@[simp] theorem wake_keep (s : State) (x : Str) (b : Nat) :
    (wake s x b).net.dram = s.net.dram ∧
      (wake s x b).pending = s.pending ∧
      (wake s x b).power.serial = s.power.serial ∧
      (wake s x b).power.ident = s.power.ident := by
  unfold wake; (repeat' split) <;> simp

@[simp] theorem runTo_keep (s : State) (b : Nat) :
    (runTo s b).net.dram = s.net.dram ∧
      (runTo s b).pending = s.pending ∧
      (runTo s b).power.serial = s.power.serial ∧
      (runTo s b).power.ident = s.power.ident := by
  unfold runTo; simp

@[simp] theorem takeTrigger_keep (s : State) (x : Str) (p : Nat) (t : Nat) :
    (takeTrigger s x p t).net.dram = s.net.dram ∧
      (takeTrigger s x p t).pending = s.pending ∧
      (takeTrigger s x p t).power.serial = s.power.serial ∧
      (takeTrigger s x p t).power.ident = s.power.ident := by
  unfold takeTrigger; simp

@[simp] theorem trigger_keep (s : State) (x : Str) (t : Nat) :
    (trigger s x t).net.dram = s.net.dram ∧
      (trigger s x t).pending = s.pending ∧
      (trigger s x t).power.serial = s.power.serial ∧
      (trigger s x t).power.ident = s.power.ident := by
  simp only [trigger]; (repeat' split) <;> simp

theorem execCotTrigger_keep (x : Str) (clk : Nat) (s : State) {t' : State} (h : execCotTrigger x clk s = .next t') :
    t'.net.dram = s.net.dram ∧
      t'.pending = s.pending ∧
      t'.power.serial = s.power.serial ∧
      t'.power.ident = s.power.ident := by
  unfold execCotTrigger at h; injection h with h; subst h; simp

@[simp] theorem stopOnTime_keep (s : State) (p : Nat) (t : Nat) :
    (stopOnTime s p t).net.dram = s.net.dram ∧
      (stopOnTime s p t).pending = s.pending ∧
      (stopOnTime s p t).power.serial = s.power.serial ∧
      (stopOnTime s p t).power.ident = s.power.ident := by
  exact ⟨rfl, rfl, rfl, rfl⟩

@[simp] theorem endOnTime_keep (s : State) (p : Nat) (t : Nat) :
    (endOnTime s p t).net.dram = s.net.dram ∧
      (endOnTime s p t).pending = s.pending ∧
      (endOnTime s p t).power.serial = s.power.serial ∧
      (endOnTime s p t).power.ident = s.power.ident := by
  exact ⟨rfl, rfl, rfl, rfl⟩

theorem execOnTimeEnd_keep (p : Nat) (clk : Nat) (s : State) {t' : State} (h : execOnTimeEnd p clk s = .next t') :
    t'.net.dram = s.net.dram ∧
      t'.pending = s.pending ∧
      t'.power.serial = s.power.serial ∧
      t'.power.ident = s.power.ident := by
  unfold execOnTimeEnd at h; injection h with h; subst h; simp

theorem execFastLimit_keep (p : Nat) (clk : Nat) (s : State) {t' : State} (h : execFastLimit p clk s = .next t') :
    t'.net.dram = s.net.dram ∧
      t'.pending = s.pending ∧
      t'.power.serial = s.power.serial ∧
      t'.power.ident = s.power.ident := by
  simp only [execFastLimit] at h; (repeat' split at h) <;> injection h with h <;> subst h <;> simp

@[simp] theorem endAllOnTimes_keep (s : State) (x : Str) (t : Nat) :
    (endAllOnTimes s x t).net.dram = s.net.dram ∧
      (endAllOnTimes s x t).pending = s.pending ∧
      (endAllOnTimes s x t).power.serial = s.power.serial ∧
      (endAllOnTimes s x t).power.ident = s.power.ident := by
  unfold endAllOnTimes; simp

theorem execPulseTruncation_keep (x : Str) (begins : Bool) (clk : Nat) (s : State) {t' : State} (h : execPulseTruncation x begins clk s = .next t') :
    t'.net.dram = s.net.dram ∧
      t'.pending = s.pending ∧
      t'.power.serial = s.power.serial ∧
      t'.power.ident = s.power.ident := by
  simp only [execPulseTruncation] at h; (repeat' split at h) <;> injection h with h <;> subst h <;> simp

theorem execPhaseShed_keep (x : Str) (s : State) {t' : State} (h : execPhaseShed x s = .next t') :
    t'.net.dram = s.net.dram ∧
      t'.pending = s.pending ∧
      t'.power.serial = s.power.serial ∧
      t'.power.ident = s.power.ident := by
  simp only [execPhaseShed] at h; (repeat' split at h) <;> injection h with h <;> subst h <;> simp

@[simp] theorem softStart_keep (s : State) (x : Str) :
    (softStart s x).net.dram = s.net.dram ∧
      (softStart s x).pending = s.pending ∧
      (softStart s x).power.serial = s.power.serial ∧
      (softStart s x).power.ident = s.power.ident := by
  unfold softStart; simp

@[simp] theorem unfollow_keep (s : State) (x : Str) :
    (unfollow s x).net.dram = s.net.dram ∧
      (unfollow s x).pending = s.pending ∧
      (unfollow s x).power.serial = s.power.serial ∧
      (unfollow s x).power.ident = s.power.ident := by
  unfold unfollow; simp

theorem execCotStart_keep (core : Core5) (x : Str) (s : State) {t' : State} (h : execCotStart core x s = .next t') :
    t'.net.dram = s.net.dram ∧
      t'.pending = s.pending ∧
      t'.power.serial = s.power.serial ∧
      t'.power.ident = s.power.ident := by
  simp only [execCotStart] at h; (repeat' split at h) <;> injection h with h <;> subst h <;> simp

theorem execSoftStartCrossing_keep (x : Str) (s : State) {t' : State} (h : execSoftStartCrossing x s = .next t') :
    t'.net.dram = s.net.dram ∧
      t'.pending = s.pending ∧
      t'.power.serial = s.power.serial ∧
      t'.power.ident = s.power.ident := by
  simp only [execSoftStartCrossing] at h; (repeat' split at h) <;> injection h with h <;> subst h <;> simp

theorem execSoftStartTimeout_keep (x : Str) (s : State) {t' : State} (h : execSoftStartTimeout x s = .next t') :
    t'.net.dram = s.net.dram ∧
      t'.pending = s.pending ∧
      t'.power.serial = s.power.serial ∧
      t'.power.ident = s.power.ident := by
  simp only [execSoftStartTimeout] at h; (repeat' split at h) <;> injection h with h <;> subst h <;> simp

@[simp] theorem passCommand_keep (s : State) (i : Nat) (close : Bool) :
    (passCommand s i close).net.dram = s.net.dram ∧
      (passCommand s i close).pending = s.pending ∧
      (passCommand s i close).power.serial = s.power.serial ∧
      (passCommand s i close).power.ident = s.power.ident := by
  exact ⟨rfl, rfl, rfl, rfl⟩

@[simp] theorem holdCommand_keep (s : State) (i : Nat) (close : Bool) :
    (holdCommand s i close).net.dram = s.net.dram ∧
      (holdCommand s i close).pending = s.pending ∧
      (holdCommand s i close).power.serial = s.power.serial ∧
      (holdCommand s i close).power.ident = s.power.ident := by
  unfold holdCommand; simp

@[simp] theorem refuseCommand_keep (s : State) (i : Nat) :
    (refuseCommand s i).net.dram = s.net.dram ∧
      (refuseCommand s i).pending = s.pending ∧
      (refuseCommand s i).power.serial = s.power.serial ∧
      (refuseCommand s i).power.ident = s.power.ident := by
  unfold refuseCommand; simp

@[simp] theorem closeMain_keep (s : State) (x : Str) :
    (closeMain s x).net.dram = s.net.dram ∧
      (closeMain s x).pending = s.pending ∧
      (closeMain s x).power.serial = s.power.serial ∧
      (closeMain s x).power.ident = s.power.ident := by
  unfold closeMain; simp

@[simp] theorem closePre_keep (s : State) (x : Str) :
    (closePre s x).net.dram = s.net.dram ∧
      (closePre s x).pending = s.pending ∧
      (closePre s x).power.serial = s.power.serial ∧
      (closePre s x).power.ident = s.power.ident := by
  unfold closePre; simp

@[simp] theorem zeroRefs_keep (s : State) (x : Str) :
    (zeroRefs s x).net.dram = s.net.dram ∧
      (zeroRefs s x).pending = s.pending ∧
      (zeroRefs s x).power.serial = s.power.serial ∧
      (zeroRefs s x).power.ident = s.power.ident := by
  exact ⟨rfl, rfl, rfl, rfl⟩

@[simp] theorem zeroing_keep (s : State) (x : Str) (after : SState) :
    (zeroing s x after).net.dram = s.net.dram ∧
      (zeroing s x after).pending = s.pending ∧
      (zeroing s x after).power.serial = s.power.serial ∧
      (zeroing s x after).power.ident = s.power.ident := by
  unfold zeroing; simp

@[simp] theorem openMain_keep (s : State) (x : Str) :
    (openMain s x).net.dram = s.net.dram ∧
      (openMain s x).pending = s.pending ∧
      (openMain s x).power.serial = s.power.serial ∧
      (openMain s x).power.ident = s.power.ident := by
  unfold openMain; simp

theorem execContactorMainCommand_keep (core : Core5) (x : Str) (close : Bool) (s : State) {t' : State} (h : execContactorMainCommand core x close s = .next t') :
    t'.net.dram = s.net.dram ∧
      t'.pending = s.pending ∧
      t'.power.serial = s.power.serial ∧
      t'.power.ident = s.power.ident := by
  simp only [execContactorMainCommand] at h; (repeat' split at h) <;> injection h with h <;> subst h <;> simp

theorem execContactorPrechargeCommand_keep (core : Core5) (x : Str) (close : Bool) (s : State) {t' : State} (h : execContactorPrechargeCommand core x close s = .next t') :
    t'.net.dram = s.net.dram ∧
      t'.pending = s.pending ∧
      t'.power.serial = s.power.serial ∧
      t'.power.ident = s.power.ident := by
  simp only [execContactorPrechargeCommand] at h; (repeat' split at h) <;> injection h with h <;> subst h <;> simp

theorem execContactorHoldRelease_keep (x : Str) (k : Contactor) (s : State) {t' : State} (h : execContactorHoldRelease x k s = .next t') :
    t'.net.dram = s.net.dram ∧
      t'.pending = s.pending ∧
      t'.power.serial = s.power.serial ∧
      t'.power.ident = s.power.ident := by
  simp only [execContactorHoldRelease] at h; (repeat' split at h) <;> injection h with h <;> subst h <;> simp

@[simp] theorem openBoth_keep (s : State) (x : Str) :
    (openBoth s x).net.dram = s.net.dram ∧
      (openBoth s x).pending = s.pending ∧
      (openBoth s x).power.serial = s.power.serial ∧
      (openBoth s x).power.ident = s.power.ident := by
  exact ⟨rfl, rfl, rfl, rfl⟩

@[simp] theorem toOpen_keep (s : State) (x : Str) (st : SState) :
    (toOpen s x st).net.dram = s.net.dram ∧
      (toOpen s x st).pending = s.pending ∧
      (toOpen s x st).power.serial = s.power.serial ∧
      (toOpen s x st).power.ident = s.power.ident := by
  exact ⟨rfl, rfl, rfl, rfl⟩

theorem execPrechargeGuardOpen_keep (x : Str) (s : State) {t' : State} (h : execPrechargeGuardOpen x s = .next t') :
    t'.net.dram = s.net.dram ∧
      t'.pending = s.pending ∧
      t'.power.serial = s.power.serial ∧
      t'.power.ident = s.power.ident := by
  simp only [execPrechargeGuardOpen] at h; (repeat' split at h) <;> injection h with h <;> subst h <;> simp

theorem execPrechargeOverlapOpen_keep (x : Str) (s : State) {t' : State} (h : execPrechargeOverlapOpen x s = .next t') :
    t'.net.dram = s.net.dram ∧
      t'.pending = s.pending ∧
      t'.power.serial = s.power.serial ∧
      t'.power.ident = s.power.ident := by
  simp only [execPrechargeOverlapOpen] at h; (repeat' split at h) <;> injection h with h <;> subst h <;> simp

@[simp] theorem equalise_keep (s : State) (x : Str) :
    (equalise s x).net.dram = s.net.dram ∧
      (equalise s x).pending = s.pending ∧
      (equalise s x).power.serial = s.power.serial ∧
      (equalise s x).power.ident = s.power.ident := by
  unfold equalise; simp

@[simp] theorem enterPrecharge_keep (s : State) (x : Str) :
    (enterPrecharge s x).net.dram = s.net.dram ∧
      (enterPrecharge s x).pending = s.pending ∧
      (enterPrecharge s x).power.serial = s.power.serial ∧
      (enterPrecharge s x).power.ident = s.power.ident := by
  unfold enterPrecharge; simp

theorem execLinkDischargeDone_keep (x : Str) (s : State) {t' : State} (h : execLinkDischargeDone x s = .next t') :
    t'.net.dram = s.net.dram ∧
      t'.pending = s.pending ∧
      t'.power.serial = s.power.serial ∧
      t'.power.ident = s.power.ident := by
  simp only [execLinkDischargeDone] at h; (repeat' split at h) <;> injection h with h <;> subst h <;> simp

theorem execPrechargeComplete_keep (x : Str) (s : State) {t' : State} (h : execPrechargeComplete x s = .next t') :
    t'.net.dram = s.net.dram ∧
      t'.pending = s.pending ∧
      t'.power.serial = s.power.serial ∧
      t'.power.ident = s.power.ident := by
  simp only [execPrechargeComplete] at h; (repeat' split at h) <;> injection h with h <;> subst h <;> simp

theorem execPrechargeTimeout_keep (x : Str) (s : State) {t' : State} (h : execPrechargeTimeout x s = .next t') :
    t'.net.dram = s.net.dram ∧
      t'.pending = s.pending ∧
      t'.power.serial = s.power.serial ∧
      t'.power.ident = s.power.ident := by
  simp only [execPrechargeTimeout] at h; (repeat' split at h) <;> injection h with h <;> subst h <;> simp

theorem execContactorConfirmed_keep (x : Str) (k : Contactor) (closed : Bool) (s : State) {t' : State} (h : execContactorConfirmed x k closed s = .next t') :
    t'.net.dram = s.net.dram ∧
      t'.pending = s.pending ∧
      t'.power.serial = s.power.serial ∧
      t'.power.ident = s.power.ident := by
  simp only [execContactorConfirmed] at h; (repeat' split at h) <;> injection h with h <;> subst h <;> simp

@[simp] theorem latchString_keep (s : State) (x : Str) :
    (latchString s x).net.dram = s.net.dram ∧
      (latchString s x).pending = s.pending ∧
      (latchString s x).power.serial = s.power.serial ∧
      (latchString s x).power.ident = s.power.ident := by
  unfold latchString; simp

theorem execContactorDisagree_keep (x : Str) (k : Contactor) (s : State) {t' : State} (h : execContactorDisagree x k s = .next t') :
    t'.net.dram = s.net.dram ∧
      t'.pending = s.pending ∧
      t'.power.serial = s.power.serial ∧
      t'.power.ident = s.power.ident := by
  simp only [execContactorDisagree] at h; (repeat' split at h) <;> injection h with h <;> subst h <;> simp

theorem execZeroingComplete_keep (x : Str) (s : State) {t' : State} (h : execZeroingComplete x s = .next t') :
    t'.net.dram = s.net.dram ∧
      t'.pending = s.pending ∧
      t'.power.serial = s.power.serial ∧
      t'.power.ident = s.power.ident := by
  simp only [execZeroingComplete] at h; (repeat' split at h) <;> injection h with h <;> subst h <;> simp

theorem execZeroingTimeout_keep (x : Str) (s : State) {t' : State} (h : execZeroingTimeout x s = .next t') :
    t'.net.dram = s.net.dram ∧
      t'.pending = s.pending ∧
      t'.power.serial = s.power.serial ∧
      t'.power.ident = s.power.ident := by
  simp only [execZeroingTimeout] at h; (repeat' split at h) <;> injection h with h <;> subst h <;> simp

theorem execCotEna_keep (core : Core5) (x : Str) (on : Bool) (s : State) {t' : State} (h : execCotEna core x on s = .next t') :
    t'.net.dram = s.net.dram ∧
      t'.pending = s.pending ∧
      t'.power.serial = s.power.serial ∧
      t'.power.ident = s.power.ident := by
  simp only [execCotEna] at h; (repeat' split at h) <;> injection h with h <;> subst h <;> simp

@[simp] theorem clearRuns_keep (s : State) (x : Str) :
    (clearRuns s x).net.dram = s.net.dram ∧
      (clearRuns s x).pending = s.pending ∧
      (clearRuns s x).power.serial = s.power.serial ∧
      (clearRuns s x).power.ident = s.power.ident := by
  exact ⟨rfl, rfl, rfl, rfl⟩

theorem execHiccup_keep (x : Str) (s : State) {t' : State} (h : execHiccup x s = .next t') :
    t'.net.dram = s.net.dram ∧
      t'.pending = s.pending ∧
      t'.power.serial = s.power.serial ∧
      t'.power.ident = s.power.ident := by
  simp only [execHiccup] at h; (repeat' split at h) <;> injection h with h <;> subst h <;> simp

theorem execHiccupRetry_keep (x : Str) (s : State) {t' : State} (h : execHiccupRetry x s = .next t') :
    t'.net.dram = s.net.dram ∧
      t'.pending = s.pending ∧
      t'.power.serial = s.power.serial ∧
      t'.power.ident = s.power.ident := by
  simp only [execHiccupRetry] at h; (repeat' split at h) <;> injection h with h <;> subst h <;> simp

theorem execRetryCountReset_keep (x : Str) (s : State) {t' : State} (h : execRetryCountReset x s = .next t') :
    t'.net.dram = s.net.dram ∧
      t'.pending = s.pending ∧
      t'.power.serial = s.power.serial ∧
      t'.power.ident = s.power.ident := by
  simp only [execRetryCountReset] at h; (repeat' split at h) <;> injection h with h <;> subst h <;> simp

@[simp] theorem budgetUpdate_keep (s : State) (x : Str) (mean : Nat) :
    (budgetUpdate s x mean).net.dram = s.net.dram ∧
      (budgetUpdate s x mean).pending = s.pending ∧
      (budgetUpdate s x mean).power.serial = s.power.serial ∧
      (budgetUpdate s x mean).power.ident = s.power.ident := by
  exact ⟨rfl, rfl, rfl, rfl⟩

theorem execFoldBack_keep (x : Str) (s : State) {t' : State} (h : execFoldBack x s = .next t') :
    t'.net.dram = s.net.dram ∧
      t'.pending = s.pending ∧
      t'.power.serial = s.power.serial ∧
      t'.power.ident = s.power.ident := by
  simp only [execFoldBack] at h; (repeat' split at h) <;> injection h with h <;> subst h <;> simp

theorem execFoldBackEnd_keep (x : Str) (s : State) {t' : State} (h : execFoldBackEnd x s = .next t') :
    t'.net.dram = s.net.dram ∧
      t'.pending = s.pending ∧
      t'.power.serial = s.power.serial ∧
      t'.power.ident = s.power.ident := by
  simp only [execFoldBackEnd] at h; (repeat' split at h) <;> injection h with h <;> subst h <;> simp

@[simp] theorem ovString_keep (s : State) (x : Str) :
    (ovString s x).net.dram = s.net.dram ∧
      (ovString s x).pending = s.pending ∧
      (ovString s x).power.serial = s.power.serial ∧
      (ovString s x).power.ident = s.power.ident := by
  unfold ovString; simp

theorem execBusOvervoltageLatch_keep (s : State) {t' : State} (h : execBusOvervoltageLatch s = .next t') :
    t'.net.dram = s.net.dram ∧
      t'.pending = s.pending ∧
      t'.power.serial = s.power.serial ∧
      t'.power.ident = s.power.ident := by
  simp only [execBusOvervoltageLatch] at h; (repeat' split at h) <;> injection h with h <;> subst h <;> simp

theorem execOvPhaseRelease_keep (p : Nat) (crossing : Bool) (s : State) {t' : State} (h : execOvPhaseRelease p crossing s = .next t') :
    t'.net.dram = s.net.dram ∧
      t'.pending = s.pending ∧
      t'.power.serial = s.power.serial ∧
      t'.power.ident = s.power.ident := by
  simp only [execOvPhaseRelease] at h; (repeat' split at h) <;> injection h with h <;> subst h <;> simp

theorem execLinkOvervoltage_keep (x : Str) (s : State) {t' : State} (h : execLinkOvervoltage x s = .next t') :
    t'.net.dram = s.net.dram ∧
      t'.pending = s.pending ∧
      t'.power.serial = s.power.serial ∧
      t'.power.ident = s.power.ident := by
  simp only [execLinkOvervoltage] at h; (repeat' split at h) <;> injection h with h <;> subst h <;> simp

theorem execLinkBelow1150_keep (p : Nat) (s : State) {t' : State} (h : execLinkBelow1150 p s = .next t') :
    t'.net.dram = s.net.dram ∧
      t'.pending = s.pending ∧
      t'.power.serial = s.power.serial ∧
      t'.power.ident = s.power.ident := by
  simp only [execLinkBelow1150] at h; (repeat' split at h) <;> injection h with h <;> subst h <;> simp

@[simp] theorem ovClearString_keep (s : State) (x : Str) :
    (ovClearString s x).net.dram = s.net.dram ∧
      (ovClearString s x).pending = s.pending ∧
      (ovClearString s x).power.serial = s.power.serial ∧
      (ovClearString s x).power.ident = s.power.ident := by
  unfold ovClearString; simp

@[simp] theorem linkCheck_keep (s : State) (x : Str) :
    (linkCheck s x).net.dram = s.net.dram ∧
      (linkCheck s x).pending = s.pending ∧
      (linkCheck s x).power.serial = s.power.serial ∧
      (linkCheck s x).power.ident = s.power.ident := by
  unfold linkCheck; simp

@[simp] theorem clearOvLatch_keep (s : State) :
    (clearOvLatch s).net.dram = s.net.dram ∧
      (clearOvLatch s).pending = s.pending ∧
      (clearOvLatch s).power.serial = s.power.serial ∧
      (clearOvLatch s).power.ident = s.power.ident := by
  unfold clearOvLatch; simp

@[simp] theorem clearStrLatch_keep (s : State) (x : Str) :
    (clearStrLatch s x).net.dram = s.net.dram ∧
      (clearStrLatch s x).pending = s.pending ∧
      (clearStrLatch s x).power.serial = s.power.serial ∧
      (clearStrLatch s x).power.ident = s.power.ident := by
  unfold clearStrLatch; simp

theorem execCotOvclr_keep (core : Core5) (s : State) {t' : State} (h : execCotOvclr core s = .next t') :
    t'.net.dram = s.net.dram ∧
      t'.pending = s.pending ∧
      t'.power.serial = s.power.serial ∧
      t'.power.ident = s.power.ident := by
  simp only [execCotOvclr] at h; (repeat' split at h) <;> injection h with h <;> subst h <;> simp

theorem execCotLatclr_keep (core : Core5) (x : Str) (s : State) {t' : State} (h : execCotLatclr core x s = .next t') :
    t'.net.dram = s.net.dram ∧
      t'.pending = s.pending ∧
      t'.power.serial = s.power.serial ∧
      t'.power.ident = s.power.ident := by
  simp only [execCotLatclr] at h; (repeat' split at h) <;> injection h with h <;> subst h <;> simp

theorem execCotShedEn_keep (core : Core5) (on : Bool) (s : State) {t' : State} (h : execCotShedEn core on s = .next t') :
    t'.net.dram = s.net.dram ∧
      t'.pending = s.pending ∧
      t'.power.serial = s.power.serial ∧
      t'.power.ident = s.power.ident := by
  simp only [execCotShedEn] at h; (repeat' split at h) <;> injection h with h <;> subst h <;> simp

@[simp] theorem refreshActive_keep (s : State) :
    (refreshActive s).net.dram = s.net.dram ∧
      (refreshActive s).pending = s.pending ∧
      (refreshActive s).power.serial = s.power.serial ∧
      (refreshActive s).power.ident = s.power.ident := by
  unfold refreshActive; simp

theorem execCotPhenWrite_keep (core : Core5) (value : Word) (s : State) {t' : State} (h : execCotPhenWrite core value s = .next t') :
    t'.net.dram = s.net.dram ∧
      t'.pending = s.pending ∧
      t'.power.serial = s.power.serial ∧
      t'.power.ident = s.power.ident := by
  simp only [execCotPhenWrite] at h; (repeat' split at h) <;> injection h with h <;> subst h <;> simp

@[simp] theorem inductOne_keep (s : State) (p : Nat) (l : Nat) :
    (inductOne s p l).net.dram = s.net.dram ∧
      (inductOne s p l).pending = s.pending ∧
      (inductOne s p l).power.serial = s.power.serial ∧
      (inductOne s p l).power.ident = s.power.ident := by
  unfold inductOne; simp

@[simp] theorem readInductances_keep (s : State) (l : List Nat) :
    (readInductances s l).net.dram = s.net.dram ∧
      (readInductances s l).pending = s.pending ∧
      (readInductances s l).power.serial = s.power.serial ∧
      (readInductances s l).power.ident = s.power.ident := by
  unfold readInductances; simp

theorem execPowerBoardPresenceChange_keep (inductances : List Nat) (s : State) {t' : State} (h : execPowerBoardPresenceChange inductances s = .next t') :
    t'.net.dram = s.net.dram ∧
      t'.pending = s.pending ∧
      t'.power.serial = s.power.serial ∧
      t'.power.ident = s.power.ident := by
  unfold execPowerBoardPresenceChange at h; injection h with h; subst h; simp

@[simp] theorem dropDrive_keep (s : State) :
    (dropDrive s).net.dram = s.net.dram ∧
      (dropDrive s).pending = s.pending ∧
      (dropDrive s).power.serial = s.power.serial ∧
      (dropDrive s).power.ident = s.power.ident := by
  exact ⟨rfl, rfl, rfl, rfl⟩

theorem execDriveEnLoss_keep (s : State) {t' : State} (h : execDriveEnLoss s = .next t') :
    t'.net.dram = s.net.dram ∧
      t'.pending = s.pending ∧
      t'.power.serial = s.power.serial ∧
      t'.power.ident = s.power.ident := by
  unfold execDriveEnLoss at h; injection h with h; subst h; simp

/-! ## LoopEngine -/

@[simp] theorem setLctx_keep (s : State) (c : Ctx) (x : LoopCtx) :
    (setLctx s c x).net.dram = s.net.dram ∧
      (setLctx s c x).pending = s.pending ∧
      (setLctx s c x).power.serial = s.power.serial ∧
      (setLctx s c x).power.ident = s.power.ident := by
  unfold setLctx; (repeat' split) <;> simp

@[simp] theorem lpeRec_keep (s : State) (severity : Nat) (cause : Nat) :
    (lpeRec s severity cause).net.dram = s.net.dram ∧
      (lpeRec s severity cause).pending = s.pending ∧
      (lpeRec s severity cause).power.serial = s.power.serial ∧
      (lpeRec s severity cause).power.ident = s.power.ident := by
  unfold lpeRec; simp

@[simp] theorem noteSat_keep (s : State) :
    (noteSat s).net.dram = s.net.dram ∧
      (noteSat s).pending = s.pending ∧
      (noteSat s).power.serial = s.power.serial ∧
      (noteSat s).power.ident = s.power.ident := by
  unfold noteSat; simp

@[simp] theorem lstep_keep (s : State) (c : Ctx) (cost : Nat) (f : LoopCtx → LoopCtx × Bool) :
    (lstep s c cost f).net.dram = s.net.dram ∧
      (lstep s c cost f).pending = s.pending ∧
      (lstep s c cost f).power.serial = s.power.serial ∧
      (lstep s c cost f).power.ident = s.power.ident := by
  unfold lstep; simp

theorem execLpMove_keep (c : Ctx) (d : LOp) (a : LOp) (s : State) {t' : State} (h : execLpMove c d a s = .next t') :
    t'.net.dram = s.net.dram ∧
      t'.pending = s.pending ∧
      t'.power.serial = s.power.serial ∧
      t'.power.ident = s.power.ident := by
  unfold execLpMove at h; injection h with h; subst h; simp

theorem execLpAdd_keep (c : Ctx) (d : LOp) (a : LOp) (b : LOp) (s : State) {t' : State} (h : execLpAdd c d a b s = .next t') :
    t'.net.dram = s.net.dram ∧
      t'.pending = s.pending ∧
      t'.power.serial = s.power.serial ∧
      t'.power.ident = s.power.ident := by
  unfold execLpAdd at h; injection h with h; subst h; simp

theorem execLpSubtract_keep (c : Ctx) (d : LOp) (a : LOp) (b : LOp) (s : State) {t' : State} (h : execLpSubtract c d a b s = .next t') :
    t'.net.dram = s.net.dram ∧
      t'.pending = s.pending ∧
      t'.power.serial = s.power.serial ∧
      t'.power.ident = s.power.ident := by
  unfold execLpSubtract at h; injection h with h; subst h; simp

theorem execLpCompare_keep (c : Ctx) (a : LOp) (b : LOp) (s : State) {t' : State} (h : execLpCompare c a b s = .next t') :
    t'.net.dram = s.net.dram ∧
      t'.pending = s.pending ∧
      t'.power.serial = s.power.serial ∧
      t'.power.ident = s.power.ident := by
  unfold execLpCompare at h; injection h with h; subst h; simp

theorem execLpShift_keep (c : Ctx) (d : LOp) (a : LOp) (n : Int) (s : State) {t' : State} (h : execLpShift c d a n s = .next t') :
    t'.net.dram = s.net.dram ∧
      t'.pending = s.pending ∧
      t'.power.serial = s.power.serial ∧
      t'.power.ident = s.power.ident := by
  unfold execLpShift at h; injection h with h; subst h; simp

theorem execLpMin_keep (c : Ctx) (d : LOp) (a : LOp) (b : LOp) (s : State) {t' : State} (h : execLpMin c d a b s = .next t') :
    t'.net.dram = s.net.dram ∧
      t'.pending = s.pending ∧
      t'.power.serial = s.power.serial ∧
      t'.power.ident = s.power.ident := by
  unfold execLpMin at h; injection h with h; subst h; simp

theorem execLpMax_keep (c : Ctx) (d : LOp) (a : LOp) (b : LOp) (s : State) {t' : State} (h : execLpMax c d a b s = .next t') :
    t'.net.dram = s.net.dram ∧
      t'.pending = s.pending ∧
      t'.power.serial = s.power.serial ∧
      t'.power.ident = s.power.ident := by
  unfold execLpMax at h; injection h with h; subst h; simp

theorem execLpClamp_keep (c : Ctx) (d : LOp) (a : LOp) (lo : LOp) (hi : LOp) (s : State) {t' : State} (h : execLpClamp c d a lo hi s = .next t') :
    t'.net.dram = s.net.dram ∧
      t'.pending = s.pending ∧
      t'.power.serial = s.power.serial ∧
      t'.power.ident = s.power.ident := by
  unfold execLpClamp at h; injection h with h; subst h; simp

theorem execLpMac_keep (c : Ctx) (acc : Nat) (a : LOp) (fa : QFmt) (b : LOp) (fb : QFmt) (s : State) {t' : State} (h : execLpMac c acc a fa b fb s = .next t') :
    t'.net.dram = s.net.dram ∧
      t'.pending = s.pending ∧
      t'.power.serial = s.power.serial ∧
      t'.power.ident = s.power.ident := by
  unfold execLpMac at h; injection h with h; subst h; simp

theorem execLpDivide_keep (c : Ctx) (d : LOp) (a : LOp) (b : LOp) (s : State) {t' : State} (h : execLpDivide c d a b s = .next t') :
    t'.net.dram = s.net.dram ∧
      t'.pending = s.pending ∧
      t'.power.serial = s.power.serial ∧
      t'.power.ident = s.power.ident := by
  unfold execLpDivide at h; injection h with h; subst h; simp

theorem execLpBranch_keep (c : Ctx) (onLess : Bool) (target : Nat) (s : State) {t' : State} (h : execLpBranch c onLess target s = .next t') :
    t'.net.dram = s.net.dram ∧
      t'.pending = s.pending ∧
      t'.power.serial = s.power.serial ∧
      t'.power.ident = s.power.ident := by
  unfold execLpBranch at h; injection h with h; subst h; simp

theorem execLpInputLoad_keep (c : Ctx) (d : LOp) (inp : LIn) (s : State) {t' : State} (h : execLpInputLoad c d inp s = .next t') :
    t'.net.dram = s.net.dram ∧
      t'.pending = s.pending ∧
      t'.power.serial = s.power.serial ∧
      t'.power.ident = s.power.ident := by
  unfold execLpInputLoad at h; injection h with h; subst h; simp

theorem execLpOutputStore_keep (c : Ctx) (phase : Nat) (a : LOp) (s : State) {t' : State} (h : execLpOutputStore c phase a s = .next t') :
    t'.net.dram = s.net.dram ∧
      t'.pending = s.pending ∧
      t'.power.serial = s.power.serial ∧
      t'.power.ident = s.power.ident := by
  unfold execLpOutputStore at h; injection h with h; subst h; simp

theorem execLpEnd_keep (c : Ctx) (s : State) {t' : State} (h : execLpEnd c s = .next t') :
    t'.net.dram = s.net.dram ∧
      t'.pending = s.pending ∧
      t'.power.serial = s.power.serial ∧
      t'.power.ident = s.power.ident := by
  simp only [execLpEnd] at h; (repeat' split at h) <;> injection h with h <;> subst h <;> simp

@[simp] theorem abortPass_keep (s : State) :
    (abortPass s).net.dram = s.net.dram ∧
      (abortPass s).pending = s.pending ∧
      (abortPass s).power.serial = s.power.serial ∧
      (abortPass s).power.ident = s.power.ident := by
  unfold abortPass; simp

@[simp] theorem abortShadow_keep (s : State) :
    (abortShadow s).net.dram = s.net.dram ∧
      (abortShadow s).pending = s.pending ∧
      (abortShadow s).power.serial = s.power.serial ∧
      (abortShadow s).power.ident = s.power.ident := by
  unfold abortShadow; simp

theorem execFixedLawTakeover_keep (s : State) {t' : State} (h : execFixedLawTakeover s = .next t') :
    t'.net.dram = s.net.dram ∧
      t'.pending = s.pending ∧
      t'.power.serial = s.power.serial ∧
      t'.power.ident = s.power.ident := by
  simp only [execFixedLawTakeover] at h; (repeat' split at h) <;> injection h with h <;> subst h <;> simp

@[simp] theorem returnProgram_keep (s : State) :
    (returnProgram s).net.dram = s.net.dram ∧
      (returnProgram s).pending = s.pending ∧
      (returnProgram s).power.serial = s.power.serial ∧
      (returnProgram s).power.ident = s.power.ident := by
  unfold returnProgram; simp

theorem execProgramReturn_keep (s : State) {t' : State} (h : execProgramReturn s = .next t') :
    t'.net.dram = s.net.dram ∧
      t'.pending = s.pending ∧
      t'.power.serial = s.power.serial ∧
      t'.power.ident = s.power.ident := by
  simp only [execProgramReturn] at h; (repeat' split at h) <;> injection h with h <;> subst h <;> simp

@[simp] theorem askReturn_keep (s : State) :
    (askReturn s).net.dram = s.net.dram ∧
      (askReturn s).pending = s.pending ∧
      (askReturn s).power.serial = s.power.serial ∧
      (askReturn s).power.ident = s.power.ident := by
  unfold askReturn; simp

@[simp] theorem foreignLpe_keep (s : State) (core : Core5) :
    (foreignLpe s core).net.dram = s.net.dram ∧
      (foreignLpe s core).pending = s.pending ∧
      (foreignLpe s core).power.serial = s.power.serial ∧
      (foreignLpe s core).power.ident = s.power.ident := by
  exact ⟨rfl, rfl, rfl, rfl⟩

theorem execLpeFixrst_keep (core : Core5) (s : State) {t' : State} (h : execLpeFixrst core s = .next t') :
    t'.net.dram = s.net.dram ∧
      t'.pending = s.pending ∧
      t'.power.serial = s.power.serial ∧
      t'.power.ident = s.power.ident := by
  simp only [execLpeFixrst] at h; (repeat' split at h) <;> injection h with h <;> subst h <;> simp

@[simp] theorem selectChannel_keep (s : State) (second : Bool) :
    (selectChannel s second).net.dram = s.net.dram ∧
      (selectChannel s second).pending = s.pending ∧
      (selectChannel s second).power.serial = s.power.serial ∧
      (selectChannel s second).power.ident = s.power.ident := by
  unfold selectChannel; simp

theorem execLpeSelreq_keep (core : Core5) (s : State) {t' : State} (h : execLpeSelreq core s = .next t') :
    t'.net.dram = s.net.dram ∧
      t'.pending = s.pending ∧
      t'.power.serial = s.power.serial ∧
      t'.power.ident = s.power.ident := by
  simp only [execLpeSelreq] at h; (repeat' split at h) <;> injection h with h <;> subst h <;> simp

theorem execLpeRun_keep (core : Core5) (run : Bool) (s : State) {t' : State} (h : execLpeRun core run s = .next t') :
    t'.net.dram = s.net.dram ∧
      t'.pending = s.pending ∧
      t'.power.serial = s.power.serial ∧
      t'.power.ident = s.power.ident := by
  simp only [execLpeRun] at h; (repeat' split at h) <;> injection h with h <;> subst h <;> simp

@[simp] theorem runFixedLaw_keep (s : State) :
    (runFixedLaw s).net.dram = s.net.dram ∧
      (runFixedLaw s).pending = s.pending ∧
      (runFixedLaw s).power.serial = s.power.serial ∧
      (runFixedLaw s).power.ident = s.power.ident := by
  exact ⟨rfl, rfl, rfl, rfl⟩

@[simp] theorem parallax_keep (s : State) :
    (parallax s).net.dram = s.net.dram ∧
      (parallax s).pending = s.pending ∧
      (parallax s).power.serial = s.power.serial ∧
      (parallax s).power.ident = s.power.ident := by
  exact ⟨rfl, rfl, rfl, rfl⟩

@[simp] theorem bandCounts_keep (s : State) :
    (bandCounts s).net.dram = s.net.dram ∧
      (bandCounts s).pending = s.pending ∧
      (bandCounts s).power.serial = s.power.serial ∧
      (bandCounts s).power.ident = s.power.ident := by
  exact ⟨rfl, rfl, rfl, rfl⟩

@[simp] theorem markChannel_keep (s : State) (second : Bool) (v : Bool) :
    (markChannel s second v).net.dram = s.net.dram ∧
      (markChannel s second v).pending = s.pending ∧
      (markChannel s second v).power.serial = s.power.serial ∧
      (markChannel s second v).power.ident = s.power.ident := by
  unfold markChannel; simp

@[simp] theorem switchTo_keep (s : State) (second : Bool) :
    (switchTo s second).net.dram = s.net.dram ∧
      (switchTo s second).pending = s.pending ∧
      (switchTo s second).power.serial = s.power.serial ∧
      (switchTo s second).power.ident = s.power.ident := by
  exact ⟨rfl, rfl, rfl, rfl⟩

theorem execChannelImplausible_keep (second : Bool) (s : State) {t' : State} (h : execChannelImplausible second s = .next t') :
    t'.net.dram = s.net.dram ∧
      t'.pending = s.pending ∧
      t'.power.serial = s.power.serial ∧
      t'.power.ident = s.power.ident := by
  simp only [execChannelImplausible] at h; (repeat' split at h) <;> injection h with h <;> subst h <;> simp

theorem execChannelPlausible_keep (second : Bool) (s : State) {t' : State} (h : execChannelPlausible second s = .next t') :
    t'.net.dram = s.net.dram ∧
      t'.pending = s.pending ∧
      t'.power.serial = s.power.serial ∧
      t'.power.ident = s.power.ident := by
  simp only [execChannelPlausible] at h; (repeat' split at h) <;> injection h with h <;> subst h <;> simp

@[simp] theorem startLoopLoad_keep (s : State) (off : Nat) (len : Nat) :
    (startLoopLoad s off len).net.dram = s.net.dram ∧
      (startLoopLoad s off len).pending = s.pending ∧
      (startLoopLoad s off len).power.serial = s.power.serial ∧
      (startLoopLoad s off len).power.ident = s.power.ident := by
  exact ⟨rfl, rfl, rfl, rfl⟩

/-! ## Interrupts -/

@[simp] theorem setPending_keep (s : State) (t : Core5) (i : Nat) (b : Bool) :
    (setPending s t i b).net.dram = s.net.dram ∧
      (setPending s t i b).pending = s.pending ∧
      (setPending s t i b).power.serial = s.power.serial ∧
      (setPending s t i b).power.ident = s.power.ident := by
  unfold setPending; simp

theorem execInterruptSource_keep (t : Core5) (i : Nat) (level : Bool) (s : State) {t' : State} (h : execInterruptSource t i level s = .next t') :
    t'.net.dram = s.net.dram ∧
      t'.pending = s.pending ∧
      t'.power.serial = s.power.serial ∧
      t'.power.ident = s.power.ident := by
  simp only [execInterruptSource] at h; (repeat' split at h) <;> injection h with h <;> subst h <;> simp

theorem execIcuClaim_keep (t : Core5) (s : State) {t' : State} (h : execIcuClaim t s = .next t') :
    t'.net.dram = s.net.dram ∧
      t'.pending = s.pending ∧
      t'.power.serial = s.power.serial ∧
      t'.power.ident = s.power.ident := by
  simp only [execIcuClaim] at h; (repeat' split at h) <;> injection h with h <;> subst h <;> simp

@[simp] theorem icuFault_keep (s : State) (t : Core5) (cause : Nat) (i : Nat) :
    (icuFault s t cause i).net.dram = s.net.dram ∧
      (icuFault s t cause i).pending = s.pending ∧
      (icuFault s t cause i).power.serial = s.power.serial ∧
      (icuFault s t cause i).power.ident = s.power.ident := by
  unfold icuFault; (repeat' split) <;> simp

theorem execIcuComplete_keep (t : Core5) (source : Nat) (s : State) {t' : State} (h : execIcuComplete t source s = .next t') :
    t'.net.dram = s.net.dram ∧
      t'.pending = s.pending ∧
      t'.power.serial = s.power.serial ∧
      t'.power.ident = s.power.ident := by
  simp only [execIcuComplete] at h; (repeat' split at h) <;> injection h with h <;> subst h <;> simp

@[simp] theorem setPendings_keep (s : State) (t : Core5) (base : Nat) (v : Nat) (ok : Nat → Bool) :
    (setPendings s t base v ok).net.dram = s.net.dram ∧
      (setPendings s t base v ok).pending = s.pending ∧
      (setPendings s t base v ok).power.serial = s.power.serial ∧
      (setPendings s t base v ok).power.ident = s.power.ident := by
  unfold setPendings; simp

theorem execIcuPswp_keep (t : Core5) (value : Word) (s : State) {t' : State} (h : execIcuPswp t value s = .next t') :
    t'.net.dram = s.net.dram ∧
      t'.pending = s.pending ∧
      t'.power.serial = s.power.serial ∧
      t'.power.ident = s.power.ident := by
  unfold execIcuPswp at h; injection h with h; subst h; simp

theorem execIcuSswp_keep (t : Core5) (source : Nat) (s : State) {t' : State} (h : execIcuSswp t source s = .next t') :
    t'.net.dram = s.net.dram ∧
      t'.pending = s.pending ∧
      t'.power.serial = s.power.serial ∧
      t'.power.ident = s.power.ident := by
  simp only [execIcuSswp] at h; (repeat' split at h) <;> injection h with h <;> subst h <;> simp

theorem execIcuXsig_keep (t : Core5) (target : Nat) (source : Nat) (s : State) {t' : State} (h : execIcuXsig t target source s = .next t') :
    t'.net.dram = s.net.dram ∧
      t'.pending = s.pending ∧
      t'.power.serial = s.power.serial ∧
      t'.power.ident = s.power.ident := by
  simp only [execIcuXsig] at h; (repeat' split at h) <;> injection h with h <;> subst h <;> simp

theorem execIcuSwp_keep (core : Core5) (w : Nat) (value : Word) (s : State) {t' : State} (h : execIcuSwp core w value s = .next t') :
    t'.net.dram = s.net.dram ∧
      t'.pending = s.pending ∧
      t'.power.serial = s.power.serial ∧
      t'.power.ident = s.power.ident := by
  simp only [execIcuSwp] at h; (repeat' split at h) <;> injection h with h <;> subst h <;> simp

theorem execIcuRouteWrite_keep (core : Core5) (i : Nat) (target : Nat) (s : State) {t' : State} (h : execIcuRouteWrite core i target s = .next t') :
    t'.net.dram = s.net.dram ∧
      t'.pending = s.pending ∧
      t'.power.serial = s.power.serial ∧
      t'.power.ident = s.power.ident := by
  simp only [execIcuRouteWrite] at h; (repeat' split at h) <;> injection h with h <;> subst h <;> simp

theorem execIcuFaultClear_keep (core : Core5) (s : State) {t' : State} (h : execIcuFaultClear core s = .next t') :
    t'.net.dram = s.net.dram ∧
      t'.pending = s.pending ∧
      t'.power.serial = s.power.serial ∧
      t'.power.ident = s.power.ident := by
  simp only [execIcuFaultClear] at h; (repeat' split at h) <;> injection h with h <;> subst h <;> simp

/-! ## Strings -/

@[simp] theorem setPst_keep (s : State) (g : Nat) (v : Nat) :
    (setPst s g v).net.dram = s.net.dram ∧
      (setPst s g v).pending = s.pending ∧
      (setPst s g v).power.serial = s.power.serial ∧
      (setPst s g v).power.ident = s.power.ident := by
  exact ⟨rfl, rfl, rfl, rfl⟩

@[simp] theorem setWst_keep (s : State) (w : Nat) (v : Nat) :
    (setWst s w v).net.dram = s.net.dram ∧
      (setWst s w v).pending = s.pending ∧
      (setWst s w v).power.serial = s.power.serial ∧
      (setWst s w v).power.ident = s.power.ident := by
  exact ⟨rfl, rfl, rfl, rfl⟩

@[simp] theorem windowBlocks_keep (s : State) (x : Str) :
    (windowBlocks s x).net.dram = s.net.dram ∧
      (windowBlocks s x).pending = s.pending ∧
      (windowBlocks s x).power.serial = s.power.serial ∧
      (windowBlocks s x).power.ident = s.power.ident := by
  exact ⟨rfl, rfl, rfl, rfl⟩

@[simp] theorem energyEpoch_keep (s : State) :
    (energyEpoch s).net.dram = s.net.dram ∧
      (energyEpoch s).pending = s.pending ∧
      (energyEpoch s).power.serial = s.power.serial ∧
      (energyEpoch s).power.ident = s.power.ident := by
  unfold energyEpoch; simp

@[simp] theorem strRec_keep (s : State) (severity : Nat) (cause : Nat) (x : Str) (d : Nat) (k : Nat) (j : Nat) :
    (strRec s severity cause x d k j).net.dram = s.net.dram ∧
      (strRec s severity cause x d k j).pending = s.pending ∧
      (strRec s severity cause x d k j).power.serial = s.power.serial ∧
      (strRec s severity cause x d k j).power.ident = s.power.ident := by
  unfold strRec; simp

@[simp] theorem stopBleeds_keep (s : State) (x : Str) :
    (stopBleeds s x).net.dram = s.net.dram ∧
      (stopBleeds s x).pending = s.pending ∧
      (stopBleeds s x).power.serial = s.power.serial ∧
      (stopBleeds s x).power.ident = s.power.ident := by
  unfold stopBleeds; simp

@[simp] theorem stopDrawerBleeds_keep (s : State) (x : Str) (d : Nat) :
    (stopDrawerBleeds s x d).net.dram = s.net.dram ∧
      (stopDrawerBleeds s x d).pending = s.pending ∧
      (stopDrawerBleeds s x d).power.serial = s.power.serial ∧
      (stopDrawerBleeds s x d).power.ident = s.power.ident := by
  unfold stopDrawerBleeds; simp

@[simp] theorem balance_keep (s : State) :
    (balance s).net.dram = s.net.dram ∧
      (balance s).pending = s.pending ∧
      (balance s).power.serial = s.power.serial ∧
      (balance s).power.ident = s.power.ident := by
  unfold balance; simp

theorem execBleedMaskExpiry_keep (s : State) {t' : State} (h : execBleedMaskExpiry s = .next t') :
    t'.net.dram = s.net.dram ∧
      t'.pending = s.pending ∧
      t'.power.serial = s.power.serial ∧
      t'.power.ident = s.power.ident := by
  simp only [execBleedMaskExpiry] at h; (repeat' split at h) <;> injection h with h <;> subst h <;> simp

@[simp] theorem esrStep_keep (s : State) (g : Nat) (dv : Int) (di : Int) :
    (esrStep s g dv di).net.dram = s.net.dram ∧
      (esrStep s g dv di).pending = s.pending ∧
      (esrStep s g dv di).power.serial = s.power.serial ∧
      (esrStep s g dv di).power.ident = s.power.ident := by
  unfold esrStep; simp

@[simp] theorem strobeOne_keep (i : StrobeIn) (s : State) (g : Nat) :
    (strobeOne i s g).net.dram = s.net.dram ∧
      (strobeOne i s g).pending = s.pending ∧
      (strobeOne i s g).power.serial = s.power.serial ∧
      (strobeOne i s g).power.ident = s.power.ident := by
  unfold strobeOne; (repeat' split) <;> simp

@[simp] theorem capStep_keep (s : State) (g : Nat) :
    (capStep s g).net.dram = s.net.dram ∧
      (capStep s g).pending = s.pending ∧
      (capStep s g).power.serial = s.power.serial ∧
      (capStep s g).power.ident = s.power.ident := by
  unfold capStep; simp

@[simp] theorem publishOne_keep (n : Nat) (s : State) (g : Nat) :
    (publishOne n s g).net.dram = s.net.dram ∧
      (publishOne n s g).pending = s.pending ∧
      (publishOne n s g).power.serial = s.power.serial ∧
      (publishOne n s g).power.ident = s.power.ident := by
  unfold publishOne; simp

@[simp] theorem dueWires_keep (s : State) (l : List (Str × Nat)) :
    (dueWires s l).net.dram = s.net.dram ∧
      (dueWires s l).pending = s.pending ∧
      (dueWires s l).power.serial = s.power.serial ∧
      (dueWires s l).power.ident = s.power.ident := by
  exact ⟨rfl, rfl, rfl, rfl⟩

@[simp] theorem pairStep_keep (x : Str) (med : Int) (s : State) (j : Nat) :
    (pairStep x med s j).net.dram = s.net.dram ∧
      (pairStep x med s j).pending = s.pending ∧
      (pairStep x med s j).power.serial = s.power.serial ∧
      (pairStep x med s j).power.ident = s.power.ident := by
  unfold pairStep; simp

@[simp] theorem singleStep_keep (x : Str) (med : Int) (s : State) (k : Nat) :
    (singleStep x med s k).net.dram = s.net.dram ∧
      (singleStep x med s k).pending = s.pending ∧
      (singleStep x med s k).power.serial = s.power.serial ∧
      (singleStep x med s k).power.ident = s.power.ident := by
  unfold singleStep; simp

@[simp] theorem sumStep_keep (s : State) (x : Str) :
    (sumStep s x).net.dram = s.net.dram ∧
      (sumStep s x).pending = s.pending ∧
      (sumStep s x).power.serial = s.power.serial ∧
      (sumStep s x).power.ident = s.power.ident := by
  unfold sumStep; simp

@[simp] theorem stringChecks_keep (s : State) (x : Str) :
    (stringChecks s x).net.dram = s.net.dram ∧
      (stringChecks s x).pending = s.pending ∧
      (stringChecks s x).power.serial = s.power.serial ∧
      (stringChecks s x).power.ident = s.power.ident := by
  simp only [stringChecks]; simp

@[simp] theorem strobeAll_keep (i : StrobeIn) (s : State) :
    (strobeAll i s).net.dram = s.net.dram ∧
      (strobeAll i s).pending = s.pending ∧
      (strobeAll i s).power.serial = s.power.serial ∧
      (strobeAll i s).power.ident = s.power.ident := by
  unfold strobeAll; simp

@[simp] theorem publishAll_keep (n : Nat) (s : State) :
    (publishAll n s).net.dram = s.net.dram ∧
      (publishAll n s).pending = s.pending ∧
      (publishAll n s).power.serial = s.power.serial ∧
      (publishAll n s).power.ident = s.power.ident := by
  unfold publishAll; simp

@[simp] theorem capAll_keep (s : State) :
    (capAll s).net.dram = s.net.dram ∧
      (capAll s).pending = s.pending ∧
      (capAll s).power.serial = s.power.serial ∧
      (capAll s).power.ident = s.power.ident := by
  unfold capAll; simp

@[simp] theorem clearWindow_keep (s : State) :
    (clearWindow s).net.dram = s.net.dram ∧
      (clearWindow s).pending = s.pending ∧
      (clearWindow s).power.serial = s.power.serial ∧
      (clearWindow s).power.ident = s.power.ident := by
  exact ⟨rfl, rfl, rfl, rfl⟩

@[simp] theorem windowEnd_keep (n : Nat) (s : State) :
    (windowEnd n s).net.dram = s.net.dram ∧
      (windowEnd n s).pending = s.pending ∧
      (windowEnd n s).power.serial = s.power.serial ∧
      (windowEnd n s).power.ident = s.power.ident := by
  simp only [windowEnd]; simp

@[simp] theorem countStrobe_keep (i : StrobeIn) (s : State) :
    (countStrobe i s).net.dram = s.net.dram ∧
      (countStrobe i s).pending = s.pending ∧
      (countStrobe i s).power.serial = s.power.serial ∧
      (countStrobe i s).power.ident = s.power.ident := by
  exact ⟨rfl, rfl, rfl, rfl⟩

theorem execStrobe_keep (i : StrobeIn) (s : State) {t' : State} (h : execStrobe i s = .next t') :
    t'.net.dram = s.net.dram ∧
      t'.pending = s.pending ∧
      t'.power.serial = s.power.serial ∧
      t'.power.ident = s.power.ident := by
  simp only [execStrobe] at h; (repeat' split at h) <;> injection h with h <;> subst h <;> simp

@[simp] theorem setTrip_keep (s : State) (g : Nat) (ov : Bool) :
    (setTrip s g ov).net.dram = s.net.dram ∧
      (setTrip s g ov).pending = s.pending ∧
      (setTrip s g ov).power.serial = s.power.serial ∧
      (setTrip s g ov).power.ident = s.power.ident := by
  unfold setTrip; simp

@[simp] theorem takeOut_keep (s : State) (x : Str) (after : SState) :
    (takeOut s x after).net.dram = s.net.dram ∧
      (takeOut s x after).pending = s.pending ∧
      (takeOut s x after).power.serial = s.power.serial ∧
      (takeOut s x after).power.ident = s.power.ident := by
  unfold takeOut; simp

@[simp] theorem dropSurvey_keep (s : State) (x : Str) :
    (dropSurvey s x).net.dram = s.net.dram ∧
      (dropSurvey s x).pending = s.pending ∧
      (dropSurvey s x).power.serial = s.power.serial ∧
      (dropSurvey s x).power.ident = s.power.ident := by
  unfold dropSurvey; (repeat' split) <;> simp

theorem execPositionTrip_keep (x : Str) (k : Nat) (ov : Bool) (s : State) {t' : State} (h : execPositionTrip x k ov s = .next t') :
    t'.net.dram = s.net.dram ∧
      t'.pending = s.pending ∧
      t'.power.serial = s.power.serial ∧
      t'.power.ident = s.power.ident := by
  simp only [execPositionTrip] at h; (repeat' split at h) <;> injection h with h <;> subst h <;> simp

theorem execTripAutoClear_keep (x : Str) (k : Nat) (s : State) {t' : State} (h : execTripAutoClear x k s = .next t') :
    t'.net.dram = s.net.dram ∧
      t'.pending = s.pending ∧
      t'.power.serial = s.power.serial ∧
      t'.power.ident = s.power.ident := by
  simp only [execTripAutoClear] at h; (repeat' split at h) <;> injection h with h <;> subst h <;> simp

@[simp] theorem ownerTripClear_keep (s : State) (g : Nat) :
    (ownerTripClear s g).net.dram = s.net.dram ∧
      (ownerTripClear s g).pending = s.pending ∧
      (ownerTripClear s g).power.serial = s.power.serial ∧
      (ownerTripClear s g).power.ident = s.power.ident := by
  exact ⟨rfl, rfl, rfl, rfl⟩

theorem execUmbraSurvey_keep (crossings : List (Str × Nat × Bool)) (s : State) {t' : State} (h : execUmbraSurvey crossings s = .next t') :
    t'.net.dram = s.net.dram ∧
      t'.pending = s.pending ∧
      t'.power.serial = s.power.serial ∧
      t'.power.ident = s.power.ident := by
  simp only [execUmbraSurvey] at h; (repeat' split at h) <;> injection h with h <;> subst h <;> simp

@[simp] theorem startSurvey_keep (s : State) (x : Str) (lo : Nat) (hi : Nat) :
    (startSurvey s x lo hi).net.dram = s.net.dram ∧
      (startSurvey s x lo hi).pending = s.pending ∧
      (startSurvey s x lo hi).power.serial = s.power.serial ∧
      (startSurvey s x lo hi).power.ident = s.power.ident := by
  unfold startSurvey; simp

@[simp] theorem storeWire_keep (s : State) (x : Str) (j : Nat) (step : Nat) :
    (storeWire s x j step).net.dram = s.net.dram ∧
      (storeWire s x j step).pending = s.pending ∧
      (storeWire s x j step).power.serial = s.power.serial ∧
      (storeWire s x j step).power.ident = s.power.ident := by
  unfold storeWire; simp

@[simp] theorem surveyWire_keep (s : State) (x : Str) (j : Nat) (step : Nat) :
    (surveyWire s x j step).net.dram = s.net.dram ∧
      (surveyWire s x j step).pending = s.pending ∧
      (surveyWire s x j step).power.serial = s.power.serial ∧
      (surveyWire s x j step).power.ident = s.power.ident := by
  unfold surveyWire; simp

theorem execWireSurveySlot_keep (x : Str) (k : Nat) (below : Int) (above : Int) (own : Int) (s : State) {t' : State} (h : execWireSurveySlot x k below above own s = .next t') :
    t'.net.dram = s.net.dram ∧
      t'.pending = s.pending ∧
      t'.power.serial = s.power.serial ∧
      t'.power.ident = s.power.ident := by
  simp only [execWireSurveySlot] at h; (repeat' split at h) <;> injection h with h <;> subst h <;> simp

@[simp] theorem startOwt_keep (s : State) (x : Str) (wires : List Nat) :
    (startOwt s x wires).net.dram = s.net.dram ∧
      (startOwt s x wires).pending = s.pending ∧
      (startOwt s x wires).power.serial = s.power.serial ∧
      (startOwt s x wires).power.ident = s.power.ident := by
  unfold startOwt; simp

theorem execOpenWireTest_keep (x : Str) (wires : List Nat) (s : State) {t' : State} (h : execOpenWireTest x wires s = .next t') :
    t'.net.dram = s.net.dram ∧
      t'.pending = s.pending ∧
      t'.power.serial = s.power.serial ∧
      t'.power.ident = s.power.ident := by
  unfold execOpenWireTest at h; injection h with h; subst h; simp

@[simp] theorem wireOpen_keep (s : State) (x : Str) (j : Nat) :
    (wireOpen s x j).net.dram = s.net.dram ∧
      (wireOpen s x j).pending = s.pending ∧
      (wireOpen s x j).power.serial = s.power.serial ∧
      (wireOpen s x j).power.ident = s.power.ident := by
  unfold wireOpen; simp

@[simp] theorem wireIntact_keep (s : State) (x : Str) (j : Nat) :
    (wireIntact s x j).net.dram = s.net.dram ∧
      (wireIntact s x j).pending = s.pending ∧
      (wireIntact s x j).power.serial = s.power.serial ∧
      (wireIntact s x j).power.ident = s.power.ident := by
  unfold wireIntact; simp

theorem execOpenWireResult_keep (x : Str) (j : Nat) (dBelow : Nat) (dAbove : Nat) (s : State) {t' : State} (h : execOpenWireResult x j dBelow dAbove s = .next t') :
    t'.net.dram = s.net.dram ∧
      t'.pending = s.pending ∧
      t'.power.serial = s.power.serial ∧
      t'.power.ident = s.power.ident := by
  simp only [execOpenWireResult] at h; (repeat' split at h) <;> injection h with h <;> subst h <;> simp

theorem execDrawerRelease_keep (x : Str) (d : Nat) (s : State) {t' : State} (h : execDrawerRelease x d s = .next t') :
    t'.net.dram = s.net.dram ∧
      t'.pending = s.pending ∧
      t'.power.serial = s.power.serial ∧
      t'.power.ident = s.power.ident := by
  unfold execDrawerRelease at h; injection h with h; subst h; simp

theorem execDrawerInsert_keep (x : Str) (d : Nat) (s : State) {t' : State} (h : execDrawerInsert x d s = .next t') :
    t'.net.dram = s.net.dram ∧
      t'.pending = s.pending ∧
      t'.power.serial = s.power.serial ∧
      t'.power.ident = s.power.ident := by
  unfold execDrawerInsert at h; injection h with h; subst h; simp

@[simp] theorem isolateString_keep (s : State) (x : Str) :
    (isolateString s x).net.dram = s.net.dram ∧
      (isolateString s x).pending = s.pending ∧
      (isolateString s x).power.serial = s.power.serial ∧
      (isolateString s x).power.ident = s.power.ident := by
  unfold isolateString; simp

@[simp] theorem endIsolation_keep (s : State) (x : Str) :
    (endIsolation s x).net.dram = s.net.dram ∧
      (endIsolation s x).pending = s.pending ∧
      (endIsolation s x).power.serial = s.power.serial ∧
      (endIsolation s x).power.ident = s.power.ident := by
  unfold endIsolation; simp

@[simp] theorem drawerTemp_keep (s : State) (x : Str) (d : Nat) :
    (drawerTemp s x d).net.dram = s.net.dram ∧
      (drawerTemp s x d).pending = s.pending ∧
      (drawerTemp s x d).power.serial = s.power.serial ∧
      (drawerTemp s x d).power.ident = s.power.ident := by
  unfold drawerTemp; simp

@[simp] theorem thermOne_keep (s : State) (t : Nat) (raw : Int) :
    (thermOne s t raw).net.dram = s.net.dram ∧
      (thermOne s t raw).pending = s.pending ∧
      (thermOne s t raw).power.serial = s.power.serial ∧
      (thermOne s t raw).power.ident = s.power.ident := by
  unfold thermOne; simp

theorem execThermistorRead_keep (temps : List Int) (s : State) {t' : State} (h : execThermistorRead temps s = .next t') :
    t'.net.dram = s.net.dram ∧
      t'.pending = s.pending ∧
      t'.power.serial = s.power.serial ∧
      t'.power.ident = s.power.ident := by
  unfold execThermistorRead at h; injection h with h; subst h; simp

theorem execAfeLinkLoss_keep (x : Str) (dev : Nat) (s : State) {t' : State} (h : execAfeLinkLoss x dev s = .next t') :
    t'.net.dram = s.net.dram ∧
      t'.pending = s.pending ∧
      t'.power.serial = s.power.serial ∧
      t'.power.ident = s.power.ident := by
  simp only [execAfeLinkLoss] at h; (repeat' split at h) <;> injection h with h <;> subst h <;> simp

theorem execAfeReport_keep (x : Str) (dev : Nat) (s : State) {t' : State} (h : execAfeReport x dev s = .next t') :
    t'.net.dram = s.net.dram ∧
      t'.pending = s.pending ∧
      t'.power.serial = s.power.serial ∧
      t'.power.ident = s.power.ident := by
  simp only [execAfeReport] at h; (repeat' split at h) <;> injection h with h <;> subst h <;> simp

/-! ## Trace -/

@[simp] theorem traceArm_keep (s : State) :
    (traceArm s).net.dram = s.net.dram ∧
      (traceArm s).pending = s.pending ∧
      (traceArm s).power.serial = s.power.serial ∧
      (traceArm s).power.ident = s.power.ident := by
  exact ⟨rfl, rfl, rfl, rfl⟩

@[simp] theorem traceTrig_keep (s : State) :
    (traceTrig s).net.dram = s.net.dram ∧
      (traceTrig s).pending = s.pending ∧
      (traceTrig s).power.serial = s.power.serial ∧
      (traceTrig s).power.ident = s.power.ident := by
  unfold traceTrig; simp

theorem execTraceArm_keep (core : Core5) (s : State) {t' : State} (h : execTraceArm core s = .next t') :
    t'.net.dram = s.net.dram ∧
      t'.pending = s.pending ∧
      t'.power.serial = s.power.serial ∧
      t'.power.ident = s.power.ident := by
  simp only [execTraceArm] at h; (repeat' split at h) <;> injection h with h <;> subst h <;> simp

theorem execTraceSwtrig_keep (core : Core5) (s : State) {t' : State} (h : execTraceSwtrig core s = .next t') :
    t'.net.dram = s.net.dram ∧
      t'.pending = s.pending ∧
      t'.power.serial = s.power.serial ∧
      t'.power.ident = s.power.ident := by
  simp only [execTraceSwtrig] at h; (repeat' split at h) <;> injection h with h <;> subst h <;> simp

theorem execTraceTrigger_keep (s : State) {t' : State} (h : execTraceTrigger s = .next t') :
    t'.net.dram = s.net.dram ∧
      t'.pending = s.pending ∧
      t'.power.serial = s.power.serial ∧
      t'.power.ident = s.power.ident := by
  unfold execTraceTrigger at h; injection h with h; subst h; simp

theorem execTraceDone_keep (s : State) {t' : State} (h : execTraceDone s = .next t') :
    t'.net.dram = s.net.dram ∧
      t'.pending = s.pending ∧
      t'.power.serial = s.power.serial ∧
      t'.power.ident = s.power.ident := by
  simp only [execTraceDone] at h; (repeat' split at h) <;> injection h with h <;> subst h <;> simp

@[simp] theorem traceTake_keep (s : State) (n : Nat) :
    (traceTake s n).net.dram = s.net.dram ∧
      (traceTake s n).pending = s.pending ∧
      (traceTake s n).power.serial = s.power.serial ∧
      (traceTake s n).power.ident = s.power.ident := by
  unfold traceTake; simp

@[simp] theorem traceSample_keep (s : State) :
    (traceSample s).net.dram = s.net.dram ∧
      (traceSample s).pending = s.pending ∧
      (traceSample s).power.serial = s.power.serial ∧
      (traceSample s).power.ident = s.power.ident := by
  unfold traceSample; simp

@[simp] theorem traceClocks_keep (s : State) :
    (traceClocks s).net.dram = s.net.dram ∧
      (traceClocks s).pending = s.pending ∧
      (traceClocks s).power.serial = s.power.serial ∧
      (traceClocks s).power.ident = s.power.ident := by
  unfold traceClocks; simp

@[simp] theorem snapClocks_keep (s : State) :
    (snapClocks s).net.dram = s.net.dram ∧
      (snapClocks s).pending = s.pending ∧
      (snapClocks s).power.serial = s.power.serial ∧
      (snapClocks s).power.ident = s.power.ident := by
  unfold snapClocks; simp

@[simp] theorem writeTrcCtrl_keep (s : State) (v : Nat) :
    (writeTrcCtrl s v).net.dram = s.net.dram ∧
      (writeTrcCtrl s v).pending = s.pending ∧
      (writeTrcCtrl s v).power.serial = s.power.serial ∧
      (writeTrcCtrl s v).power.ident = s.power.ident := by
  unfold writeTrcCtrl; simp

@[simp] theorem writeTrcTrig_keep (s : State) (v : Nat) :
    (writeTrcTrig s v).net.dram = s.net.dram ∧
      (writeTrcTrig s v).pending = s.pending ∧
      (writeTrcTrig s v).power.serial = s.power.serial ∧
      (writeTrcTrig s v).power.ident = s.power.ident := by
  exact ⟨rfl, rfl, rfl, rfl⟩

@[simp] theorem writeTrcSrc_keep (s : State) (c : Nat) (v : Nat) :
    (writeTrcSrc s c v).net.dram = s.net.dram ∧
      (writeTrcSrc s c v).pending = s.pending ∧
      (writeTrcSrc s c v).power.serial = s.power.serial ∧
      (writeTrcSrc s c v).power.ident = s.power.ident := by
  exact ⟨rfl, rfl, rfl, rfl⟩

@[simp] theorem traceSet_keep (s : State) (e : Nat) (v : Nat) :
    (traceSet s e v).net.dram = s.net.dram ∧
      (traceSet s e v).pending = s.pending ∧
      (traceSet s e v).power.serial = s.power.serial ∧
      (traceSet s e v).power.ident = s.power.ident := by
  unfold traceSet; simp

theorem execSnapshotFreeze_keep (s : State) {t' : State} (h : execSnapshotFreeze s = .next t') :
    t'.net.dram = s.net.dram ∧
      t'.pending = s.pending ∧
      t'.power.serial = s.power.serial ∧
      t'.power.ident = s.power.ident := by
  simp only [execSnapshotFreeze] at h; (repeat' split at h) <;> injection h with h <;> subst h <;> simp

@[simp] theorem snapWrite_keep (s : State) (v : Nat) :
    (snapWrite s v).net.dram = s.net.dram ∧
      (snapWrite s v).pending = s.pending ∧
      (snapWrite s v).power.serial = s.power.serial ∧
      (snapWrite s v).power.ident = s.power.ident := by
  exact ⟨rfl, rfl, rfl, rfl⟩

@[simp] theorem segmentClose_keep (s : State) :
    (segmentClose s).net.dram = s.net.dram ∧
      (segmentClose s).pending = s.pending ∧
      (segmentClose s).power.serial = s.power.serial ∧
      (segmentClose s).power.ident = s.power.ident := by
  unfold segmentClose; simp

@[simp] theorem storeFrame_keep (s : State) (v : Nat) :
    (Memory.wf s.net.dram = true → Memory.wf (storeFrame s v).net.dram = true) ∧
      (storeFrame s v).pending = s.pending ∧
      (storeFrame s v).power.serial = s.power.serial ∧
      (storeFrame s v).power.ident = s.power.ident := by
  unfold storeFrame; refine ⟨fun h => ?_, ?_⟩ <;> (repeat' split) <;> simp [*]

@[simp] theorem flushFrames_keep (s : State) :
    (Memory.wf s.net.dram = true → Memory.wf (flushFrames s).net.dram = true) ∧
      (flushFrames s).pending = s.pending ∧
      (flushFrames s).power.serial = s.power.serial ∧
      (flushFrames s).power.ident = s.power.ident := by
  show Kept s (flushFrames s)
  unfold flushFrames
  exact (Kept.foldl _ (fun u p => dramPut_keep u _ _ _) _ s).trans (.of_eq ⟨rfl, rfl, rfl, rfl⟩)

theorem execRecorderFrame_keep (vals : List Word) (s : State) {t' : State} (h : execRecorderFrame vals s = .next t') :
    (Memory.wf s.net.dram = true → Memory.wf t'.net.dram = true) ∧
      t'.pending = s.pending ∧
      t'.power.serial = s.power.serial ∧
      t'.power.ident = s.power.ident := by
  simp only [execRecorderFrame] at h; (repeat' split at h) <;> injection h with h <;> subst h <;> refine ⟨fun h => ?_, ?_⟩ <;> simp [*]

theorem execRecorderAutoStop_keep (s : State) {t' : State} (h : execRecorderAutoStop s = .next t') :
    t'.net.dram = s.net.dram ∧
      t'.pending = s.pending ∧
      t'.power.serial = s.power.serial ∧
      t'.power.ident = s.power.ident := by
  simp only [execRecorderAutoStop] at h; (repeat' split at h) <;> injection h with h <;> subst h <;> simp

@[simp] theorem recResume_keep (s : State) :
    (recResume s).net.dram = s.net.dram ∧
      (recResume s).pending = s.pending ∧
      (recResume s).power.serial = s.power.serial ∧
      (recResume s).power.ident = s.power.ident := by
  exact ⟨rfl, rfl, rfl, rfl⟩

theorem foldl_memWf {α : Type} (f : Memory → α → Memory) (h : ∀ m a, Memory.wf m = true → Memory.wf (f m a) = true)
    (l : List α) : ∀ m : Memory, Memory.wf m = true → Memory.wf (l.foldl f m) = true := by
  induction l with
  | nil => intro m hm; exact hm
  | cons a l ih => intro m hm; rw [List.foldl_cons]; exact ih _ (h _ _ hm)

@[simp] theorem wf_copyRange (m : Memory) (src dst len : Nat) (h : Memory.wf m = true) :
    Memory.wf (copyRange m src dst len) = true :=
  foldl_memWf _ (fun _ _ hm => wf_memWrite _ _ _ hm) _ _ (wf_filter _ _ h)

@[simp] theorem wf_copyTrace (s : State) (c0 n dst : Nat) (h : Memory.wf s.net.dram = true) :
    Memory.wf (copyTrace s c0 n dst) = true :=
  foldl_memWf _ (fun _ _ hm => by split <;> simp [hm]) _ _ (wf_filter _ _ h)

@[simp] theorem exportCopy_keep (s : State) (owner : Bool) (content : Nat) (first : Nat) (count : Nat) (off : Nat) :
    (Memory.wf s.net.dram = true → Memory.wf (exportCopy s owner content first count off).net.dram = true) ∧
      (exportCopy s owner content first count off).pending = s.pending ∧
      (exportCopy s owner content first count off).power.serial = s.power.serial ∧
      (exportCopy s owner content first count off).power.ident = s.power.ident := by
  unfold exportCopy
  refine ⟨fun h => ?_, ?_⟩
  · dsimp only
    split
    · split <;> simp [h]
    · split
      · simp [h]
      · exact foldl_memWf _ (fun _ _ hm => wf_copyRange _ _ _ _ hm) _ _ h
  · dsimp only
    split
    · split <;> simp
    · split <;> simp

end Sys2Proof.Machine
end

