-- ==== Sys2Proof/Laws/KeepShelf.lean ====
section
/-! SUPPORT. What a step keeps, function by function: the canonical form of the DRAM (or the DRAM itself), the queue of
commands and the identity of the module. This file: limits, metering, the shelf lease, power and redundancy. -/
namespace Sys2Proof.Machine

/-! ## Limits -/

@[simp] theorem setShelf_keep (s : State) (k : Nat) (v : ShelfView) :
    (setShelf s k v).net.dram = s.net.dram ∧
      (setShelf s k v).pending = s.pending ∧
      (setShelf s k v).power.serial = s.power.serial ∧
      (setShelf s k v).power.ident = s.power.ident := by
  exact ⟨rfl, rfl, rfl, rfl⟩

@[simp] theorem countClamp_keep (s : State) (q : Nat) :
    (countClamp s q).net.dram = s.net.dram ∧
      (countClamp s q).pending = s.pending ∧
      (countClamp s q).power.serial = s.power.serial ∧
      (countClamp s q).power.ident = s.power.ident := by
  unfold countClamp; simp

/-! ## Metering -/

@[simp] theorem secRec_keep (s : State) (severity : Nat) (cause : Nat) (role : Nat) (target : Nat) :
    (secRec s severity cause role target).net.dram = s.net.dram ∧
      (secRec s severity cause role target).pending = s.pending ∧
      (secRec s severity cause role target).power.serial = s.power.serial ∧
      (secRec s severity cause role target).power.ident = s.power.ident := by
  unfold secRec; simp

@[simp] theorem queueSign_keep (s : State) (j : SignJob) :
    (queueSign s j).net.dram = s.net.dram ∧
      (queueSign s j).pending = s.pending ∧
      (queueSign s j).power.serial = s.power.serial ∧
      (queueSign s j).power.ident = s.power.ident := by
  unfold queueSign; simp

@[simp] theorem queueSeal_keep (s : State) (minute : Nat) (root : Nat) :
    (queueSeal s minute root).net.dram = s.net.dram ∧
      (queueSeal s minute root).pending = s.pending ∧
      (queueSeal s minute root).power.serial = s.power.serial ∧
      (queueSeal s minute root).power.ident = s.power.ident := by
  unfold queueSeal; simp

@[simp] theorem countEmergency_keep (s : State) :
    (countEmergency s).net.dram = s.net.dram ∧
      (countEmergency s).pending = s.pending ∧
      (countEmergency s).power.serial = s.power.serial ∧
      (countEmergency s).power.ident = s.power.ident := by
  unfold countEmergency; simp

@[simp] theorem setCap_keep (s : State) (v : Nat) :
    (setCap s v).net.dram = s.net.dram ∧
      (setCap s v).pending = s.pending ∧
      (setCap s v).power.serial = s.power.serial ∧
      (setCap s v).power.ident = s.power.ident := by
  unfold setCap; simp

@[simp] theorem liftEmergency_keep (s : State) :
    (liftEmergency s).net.dram = s.net.dram ∧
      (liftEmergency s).pending = s.pending ∧
      (liftEmergency s).power.serial = s.power.serial ∧
      (liftEmergency s).power.ident = s.power.ident := by
  unfold liftEmergency; simp

@[simp] theorem contractFlags_keep (s : State) :
    (contractFlags s).net.dram = s.net.dram ∧
      (contractFlags s).pending = s.pending ∧
      (contractFlags s).power.serial = s.power.serial ∧
      (contractFlags s).power.ident = s.power.ident := by
  unfold contractFlags; split <;> simp

@[simp] theorem contractInForce_keep (s : State) (v : Nat) :
    (contractInForce s v).net.dram = s.net.dram ∧
      (contractInForce s v).pending = s.pending ∧
      (contractInForce s v).power.serial = s.power.serial ∧
      (contractInForce s v).power.ident = s.power.ident := by
  unfold contractInForce; simp

@[simp] theorem closeSecond_keep (s : State) :
    (closeSecond s).net.dram = s.net.dram ∧
      (closeSecond s).pending = s.pending ∧
      (closeSecond s).power.serial = s.power.serial ∧
      (closeSecond s).power.ident = s.power.ident := by
  unfold closeSecond; simp

@[simp] theorem meterEpochs_keep (s : State) (e : EpochIn) (n : Nat) :
    (meterEpochs s e n).net.dram = s.net.dram ∧
      (meterEpochs s e n).pending = s.pending ∧
      (meterEpochs s e n).power.serial = s.power.serial ∧
      (meterEpochs s e n).power.ident = s.power.ident := by
  exact ⟨rfl, rfl, rfl, rfl⟩

@[simp] theorem queueMissing_keep (s : State) :
    (queueMissing s).net.dram = s.net.dram ∧
      (queueMissing s).pending = s.pending ∧
      (queueMissing s).power.serial = s.power.serial ∧
      (queueMissing s).power.ident = s.power.ident := by
  exact ⟨rfl, rfl, rfl, rfl⟩

@[simp] theorem closeMinute_keep (s : State) (socEnd : Nat) :
    (closeMinute s socEnd).net.dram = s.net.dram ∧
      (closeMinute s socEnd).pending = s.pending ∧
      (closeMinute s socEnd).power.serial = s.power.serial ∧
      (closeMinute s socEnd).power.ident = s.power.ident := by
  unfold closeMinute; simp

@[simp] theorem openMinute_keep (s : State) (no : Nat) :
    (openMinute s no).net.dram = s.net.dram ∧
      (openMinute s no).pending = s.pending ∧
      (openMinute s no).power.serial = s.power.serial ∧
      (openMinute s no).power.ident = s.power.ident := by
  exact ⟨rfl, rfl, rfl, rfl⟩

@[simp] theorem sealDue_keep (s : State) :
    (sealDue s).net.dram = s.net.dram ∧
      (sealDue s).pending = s.pending ∧
      (sealDue s).power.serial = s.power.serial ∧
      (sealDue s).power.ident = s.power.ident := by
  unfold sealDue; simp

@[simp] theorem endMinute_keep (s : State) :
    (endMinute s).net.dram = s.net.dram ∧
      (endMinute s).pending = s.pending ∧
      (endMinute s).power.serial = s.power.serial ∧
      (endMinute s).power.ident = s.power.ident := by
  unfold endMinute; simp

@[simp] theorem minuteContract_keep (s : State) (n : Nat) :
    (minuteContract s n).net.dram = s.net.dram ∧
      (minuteContract s n).pending = s.pending ∧
      (minuteContract s n).power.serial = s.power.serial ∧
      (minuteContract s n).power.ident = s.power.ident := by
  unfold minuteContract; simp

@[simp] theorem minuteBoundary_keep (s : State) (n : Nat) :
    (minuteBoundary s n).net.dram = s.net.dram ∧
      (minuteBoundary s n).pending = s.pending ∧
      (minuteBoundary s n).power.serial = s.power.serial ∧
      (minuteBoundary s n).power.ident = s.power.ident := by
  unfold minuteBoundary; simp

@[simp] theorem ensureMinute_keep (s : State) (n : Nat) :
    (ensureMinute s n).net.dram = s.net.dram ∧
      (ensureMinute s n).pending = s.pending ∧
      (ensureMinute s n).power.serial = s.power.serial ∧
      (ensureMinute s n).power.ident = s.power.ident := by
  unfold ensureMinute; simp

@[simp] theorem refreshArchive_keep (s : State) :
    (Memory.wf s.net.dram = true → Memory.wf (refreshArchive s).net.dram = true) ∧
      (refreshArchive s).pending = s.pending ∧
      (refreshArchive s).power.serial = s.power.serial ∧
      (refreshArchive s).power.ident = s.power.ident := by
  show Kept s (refreshArchive s)
  unfold refreshArchive
  extract_lets mins hours mr hr s1 s2 s3 q
  have k1 : Kept s s1 := Kept.foldl _ (fun s v => dramPut_keep s _ _ _) _ s
  have k2 : Kept s1 s2 := Kept.foldl _ (fun s v => dramPut_keep s _ _ _) _ s1
  have k3 : Kept s2 s3 := Kept.foldl _ (fun s v => dramPut_keep s _ _ _) _ s2
  have k : Kept s s3 := k1.trans (k2.trans k3)
  clear_value s3
  exact (k.trans (b := s3) (.of_eq ⟨rfl, rfl, rfl, rfl⟩)).trans (dramPut_keep { s3 with net.archiveSeq := q } _ _ _)


/-! ## Lease -/

@[simp] theorem sendWord_keep (s : State) (release : Bool) :
    (sendWord s release).net.dram = s.net.dram ∧
      (sendWord s release).pending = s.pending ∧
      (sendWord s release).power.serial = s.power.serial ∧
      (sendWord s release).power.ident = s.power.ident := by
  exact ⟨rfl, rfl, rfl, rfl⟩

@[simp] theorem loadTimer_keep (s : State) :
    (loadTimer s).net.dram = s.net.dram ∧
      (loadTimer s).pending = s.pending ∧
      (loadTimer s).power.serial = s.power.serial ∧
      (loadTimer s).power.ident = s.power.ident := by
  unfold loadTimer; simp

@[simp] theorem clearTimer_keep (s : State) :
    (clearTimer s).net.dram = s.net.dram ∧
      (clearTimer s).pending = s.pending ∧
      (clearTimer s).power.serial = s.power.serial ∧
      (clearTimer s).power.ident = s.power.ident := by
  exact ⟨rfl, rfl, rfl, rfl⟩

@[simp] theorem updDrive_keep (s : State) :
    (updDrive s).net.dram = s.net.dram ∧
      (updDrive s).pending = s.pending ∧
      (updDrive s).power.serial = s.power.serial ∧
      (updDrive s).power.ident = s.power.ident := by
  unfold updDrive; simp

@[simp] theorem redRec_keep (s : State) (severity : Nat) (cause : Nat) :
    (redRec s severity cause).net.dram = s.net.dram ∧
      (redRec s severity cause).pending = s.pending ∧
      (redRec s severity cause).power.serial = s.power.serial ∧
      (redRec s severity cause).power.ident = s.power.ident := by
  unfold redRec; simp

@[simp] theorem stateRec_keep (s : State) (severity : Nat) (cause : Nat) (before : Nat) (after : Nat) (clock : Nat) :
    (stateRec s severity cause before after clock).net.dram = s.net.dram ∧
      (stateRec s severity cause before after clock).pending = s.pending ∧
      (stateRec s severity cause before after clock).power.serial = s.power.serial ∧
      (stateRec s severity cause before after clock).power.ident = s.power.ident := by
  unfold stateRec; simp

@[simp] theorem decideRole_keep (s : State) (r : RedRole) :
    (decideRole s r).net.dram = s.net.dram ∧
      (decideRole s r).pending = s.pending ∧
      (decideRole s r).power.serial = s.power.serial ∧
      (decideRole s r).power.ident = s.power.ident := by
  unfold decideRole; simp

@[simp] theorem loseLead_keep (s : State) :
    (loseLead s).net.dram = s.net.dram ∧
      (loseLead s).pending = s.pending ∧
      (loseLead s).power.serial = s.power.serial ∧
      (loseLead s).power.ident = s.power.ident := by
  exact ⟨rfl, rfl, rfl, rfl⟩

@[simp] theorem followLead_keep (s : State) :
    (followLead s).net.dram = s.net.dram ∧
      (followLead s).pending = s.pending ∧
      (followLead s).power.serial = s.power.serial ∧
      (followLead s).power.ident = s.power.ident := by
  unfold followLead; simp

@[simp] theorem layerTaken_keep (s : State) :
    (layerTaken s).net.dram = s.net.dram ∧
      (layerTaken s).pending = s.pending ∧
      (layerTaken s).power.serial = s.power.serial ∧
      (layerTaken s).power.ident = s.power.ident := by
  unfold layerTaken; (repeat' split) <;> simp

@[simp] theorem takeover_keep (s : State) (cause : Nat) (kind : Nat) (reason : Nat) :
    (takeover s cause kind reason).net.dram = s.net.dram ∧
      (takeover s cause kind reason).pending = s.pending ∧
      (takeover s cause kind reason).power.serial = s.power.serial ∧
      (takeover s cause kind reason).power.ident = s.power.ident := by
  unfold takeover; simp

@[simp] theorem giveUp_keep (s : State) (kind : Nat) (reason : Nat) :
    (giveUp s kind reason).net.dram = s.net.dram ∧
      (giveUp s kind reason).pending = s.pending ∧
      (giveUp s kind reason).power.serial = s.power.serial ∧
      (giveUp s kind reason).power.ident = s.power.ident := by
  exact ⟨rfl, rfl, rfl, rfl⟩

/-! ## Power -/

@[simp] theorem commitNow_keep (s : State) (flush : Bool) :
    (commitNow s flush).net.dram = s.net.dram ∧
      (commitNow s flush).pending = s.pending ∧
      (commitNow s flush).power.serial = s.power.serial ∧
      (commitNow s flush).power.ident = s.power.ident := by
  exact ⟨rfl, rfl, rfl, rfl⟩

@[simp] theorem commitAttr_keep (s : State) :
    (commitAttr s).net.dram = s.net.dram ∧
      (commitAttr s).pending = s.pending ∧
      (commitAttr s).power.serial = s.power.serial ∧
      (commitAttr s).power.ident = s.power.ident := by
  exact ⟨rfl, rfl, rfl, rfl⟩

@[simp] theorem outOpen_keep (s : State) (x : Str) :
    (outOpen s x).net.dram = s.net.dram ∧
      (outOpen s x).pending = s.pending ∧
      (outOpen s x).power.serial = s.power.serial ∧
      (outOpen s x).power.ident = s.power.ident := by
  unfold outOpen; (repeat' split) <;> simp

@[simp] theorem resetEngineDomain_keep (s : State) :
    (resetEngineDomain s).net.dram = s.net.dram ∧
      (resetEngineDomain s).pending = s.pending ∧
      (resetEngineDomain s).power.serial = s.power.serial ∧
      (resetEngineDomain s).power.ident = s.power.ident := by
  unfold resetEngineDomain; simp

@[simp] theorem engineDark_keep (s : State) :
    (engineDark s).net.dram = s.net.dram ∧
      (engineDark s).pending = s.pending ∧
      (engineDark s).power.serial = s.power.serial ∧
      (engineDark s).power.ident = s.power.ident := by
  unfold engineDark; simp

@[simp] theorem linkDieOff_keep (s : State) :
    (linkDieOff s).net.dram = s.net.dram ∧
      (linkDieOff s).pending = s.pending ∧
      (linkDieOff s).power.serial = s.power.serial ∧
      (linkDieOff s).power.ident = s.power.ident := by
  exact ⟨rfl, rfl, rfl, rfl⟩

@[simp] theorem setMState_keep (s : State) (m : MState) :
    (setMState s m).net.dram = s.net.dram ∧
      (setMState s m).pending = s.pending ∧
      (setMState s m).power.serial = s.power.serial ∧
      (setMState s m).power.ident = s.power.ident := by
  unfold setMState; simp

@[simp] theorem leaveLive_keep (s : State) :
    (leaveLive s).net.dram = s.net.dram ∧
      (leaveLive s).pending = s.pending ∧
      (leaveLive s).power.serial = s.power.serial ∧
      (leaveLive s).power.ident = s.power.ident := by
  unfold leaveLive; simp

@[simp] theorem tryLive_keep (s : State) :
    (tryLive s).net.dram = s.net.dram ∧
      (tryLive s).pending = s.pending ∧
      (tryLive s).power.serial = s.power.serial ∧
      (tryLive s).power.ident = s.power.ident := by
  unfold tryLive; simp

@[simp] theorem losePower_keep (s : State) (m : MState) :
    (Memory.wf s.net.dram = true → Memory.wf (losePower s m).net.dram = true) ∧
      (losePower s m).pending = s.pending ∧
      (losePower s m).power.serial = s.power.serial ∧
      (losePower s m).power.ident = s.power.ident := by
  simp only [losePower]; refine ⟨fun h => ?_, ?_⟩ <;> (repeat' split) <;> simp [*]

theorem execAuxSupplyApplied_keep (s : State) {t' : State} (h : execAuxSupplyApplied s = .next t') :
    t'.net.dram = s.net.dram ∧
      t'.pending = s.pending ∧
      t'.power.serial = s.power.serial ∧
      t'.power.ident = s.power.ident := by
  simp only [execAuxSupplyApplied] at h; (repeat' split at h) <;> injection h with h <;> subst h <;> simp

@[simp] theorem volatile_keep (s : State) :
    (volatile s).net.dram = s.net.dram ∧
      (volatile s).pending = s.pending ∧
      (volatile s).power.serial = s.power.serial ∧
      (volatile s).power.ident = s.power.ident := by
  exact ⟨rfl, rfl, rfl, rfl⟩

@[simp] theorem applyRestart_keep (s : State) :
    (applyRestart s).net.dram = s.net.dram ∧
      (applyRestart s).pending = s.pending ∧
      (applyRestart s).power.serial = s.power.serial ∧
      (applyRestart s).power.ident = s.power.ident := by
  unfold applyRestart; simp

@[simp] theorem restoreCounts_keep (s : State) (b : BootIn) :
    (restoreCounts s b).net.dram = s.net.dram ∧
      (restoreCounts s b).pending = s.pending ∧
      (restoreCounts s b).power.serial = s.power.serial ∧
      (restoreCounts s b).power.ident = s.power.ident := by
  exact ⟨rfl, rfl, rfl, rfl⟩

@[simp] theorem restoreMetering_keep (s : State) :
    (restoreMetering s).net.dram = s.net.dram ∧
      (restoreMetering s).pending = s.pending ∧
      (restoreMetering s).power.serial = s.power.serial ∧
      (restoreMetering s).power.ident = s.power.ident := by
  unfold restoreMetering; (repeat' split) <;> simp

@[simp] theorem restoreAttr_keep (s : State) :
    (restoreAttr s).net.dram = s.net.dram ∧
      (restoreAttr s).pending = s.pending ∧
      (restoreAttr s).power.serial = s.power.serial ∧
      (restoreAttr s).power.ident = s.power.ident := by
  exact ⟨rfl, rfl, rfl, rfl⟩

@[simp] theorem crcRecord_keep (s : State) (f : Nat × Nat) :
    (crcRecord s f).net.dram = s.net.dram ∧
      (crcRecord s f).pending = s.pending ∧
      (crcRecord s f).power.serial = s.power.serial ∧
      (crcRecord s f).power.ident = s.power.ident := by
  unfold crcRecord; simp

@[simp] theorem crcFailure_keep (s : State) (f : Nat × Nat) :
    (crcFailure s f).net.dram = s.net.dram ∧
      (crcFailure s f).pending = s.pending ∧
      (crcFailure s f).power.serial = s.power.serial ∧
      (crcFailure s f).power.ident = s.power.ident := by
  unfold crcFailure; simp

@[simp] theorem closeInterrupted_keep (s : State) (b : BootIn) :
    (closeInterrupted s b).net.dram = s.net.dram ∧
      (closeInterrupted s b).pending = s.pending ∧
      (closeInterrupted s b).power.serial = s.power.serial ∧
      (closeInterrupted s b).power.ident = s.power.ident := by
  unfold closeInterrupted; (repeat' split) <;> simp

@[simp] theorem startStrings_keep (s : State) :
    (startStrings s).net.dram = s.net.dram ∧
      (startStrings s).pending = s.pending ∧
      (startStrings s).power.serial = s.power.serial ∧
      (startStrings s).power.ident = s.power.ident := by
  exact ⟨rfl, rfl, rfl, rfl⟩

@[simp] theorem readStraps_keep (s : State) (v : Nat) :
    (readStraps s v).net.dram = s.net.dram ∧
      (readStraps s v).pending = s.pending ∧
      (readStraps s v).power.serial = s.power.serial ∧
      (readStraps s v).power.ident = s.power.ident := by
  exact ⟨rfl, rfl, rfl, rfl⟩

@[simp] theorem grantLost_keep (s : State) (had : Option Grant) (was : Nat) :
    (grantLost s had was).net.dram = s.net.dram ∧
      (grantLost s had was).pending = s.pending ∧
      (grantLost s had was).power.serial = s.power.serial ∧
      (grantLost s had was).power.ident = s.power.ident := by
  unfold grantLost; (repeat' split) <;> simp

@[simp] theorem setBankState_keep (s : State) (k : Bool) (st : Nat) :
    (setBankState s k st).net.dram = s.net.dram ∧
      (setBankState s k st).pending = s.pending ∧
      (setBankState s k st).power.serial = s.power.serial ∧
      (setBankState s k st).power.ident = s.power.ident := by
  unfold setBankState; simp

@[simp] theorem start_keep (s : State) (b : BootIn) (wake : Nat) :
    (Memory.wf s.net.dram = true → Memory.wf (start s b wake).net.dram = true) ∧
      (start s b wake).pending = s.pending ∧
      (start s b wake).power.serial = s.power.serial ∧
      (start s b wake).power.ident = s.power.ident := by
  unfold start; refine ⟨fun h => ?_, ?_⟩ <;> (repeat' split) <;> simp [*]

theorem execSupply54vInRange_keep (b : BootIn) (s : State) {t' : State} (h : execSupply54vInRange b s = .next t') :
    (Memory.wf s.net.dram = true → Memory.wf t'.net.dram = true) ∧
      t'.pending = s.pending ∧
      t'.power.serial = s.power.serial ∧
      t'.power.ident = s.power.ident := by
  simp only [execSupply54vInRange] at h; (repeat' split at h) <;> injection h with h <;> subst h <;> refine ⟨fun h => ?_, ?_⟩ <;> simp [*]

theorem execModuleRestart_keep (b : BootIn) (s : State) {t' : State} (h : execModuleRestart b s = .next t') :
    (Memory.wf s.net.dram = true → Memory.wf t'.net.dram = true) ∧
      t'.pending = s.pending ∧
      t'.power.serial = s.power.serial ∧
      t'.power.ident = s.power.ident := by
  simp only [execModuleRestart] at h; (repeat' split at h) <;> injection h with h <;> subst h <;> refine ⟨fun h => ?_, ?_⟩ <;> simp [*]

theorem execRoleNegotiationTimeout_keep (s : State) {t' : State} (h : execRoleNegotiationTimeout s = .next t') :
    t'.net.dram = s.net.dram ∧
      t'.pending = s.pending ∧
      t'.power.serial = s.power.serial ∧
      t'.power.ident = s.power.ident := by
  simp only [execRoleNegotiationTimeout] at h; (repeat' split at h) <;> injection h with h <;> subst h <;> simp

theorem execLiveReq_keep (core : Core5) (on : Bool) (s : State) {t' : State} (h : execLiveReq core on s = .next t') :
    t'.net.dram = s.net.dram ∧
      t'.pending = s.pending ∧
      t'.power.serial = s.power.serial ∧
      t'.power.ident = s.power.ident := by
  simp only [execLiveReq] at h; (repeat' split at h) <;> injection h with h <;> subst h <;> simp

theorem execSupply54vOutOfRange_keep (s : State) {t' : State} (h : execSupply54vOutOfRange s = .next t') :
    (Memory.wf s.net.dram = true → Memory.wf t'.net.dram = true) ∧
      t'.pending = s.pending ∧
      t'.power.serial = s.power.serial ∧
      t'.power.ident = s.power.ident := by
  simp only [execSupply54vOutOfRange] at h; (repeat' split at h) <;> injection h with h <;> subst h <;> refine ⟨fun h => ?_, ?_⟩ <;> simp [*]

theorem execStringFedTimeout_keep (s : State) {t' : State} (h : execStringFedTimeout s = .next t') :
    (Memory.wf s.net.dram = true → Memory.wf t'.net.dram = true) ∧
      t'.pending = s.pending ∧
      t'.power.serial = s.power.serial ∧
      t'.power.ident = s.power.ident := by
  simp only [execStringFedTimeout] at h; (repeat' split at h) <;> injection h with h <;> subst h <;> refine ⟨fun h => ?_, ?_⟩ <;> simp [*]

theorem execBusPrebiasCheck_keep (s : State) {t' : State} (h : execBusPrebiasCheck s = .next t') :
    t'.net.dram = s.net.dram ∧
      t'.pending = s.pending ∧
      t'.power.serial = s.power.serial ∧
      t'.power.ident = s.power.ident := by
  simp only [execBusPrebiasCheck] at h; (repeat' split at h) <;> injection h with h <;> subst h <;> simp

theorem execPowerFailWarning_keep (s : State) {t' : State} (h : execPowerFailWarning s = .next t') :
    t'.net.dram = s.net.dram ∧
      t'.pending = s.pending ∧
      t'.power.serial = s.power.serial ∧
      t'.power.ident = s.power.ident := by
  simp only [execPowerFailWarning] at h; (repeat' split at h) <;> injection h with h <;> subst h <;> simp

theorem execHoldupFlushComplete_keep (s : State) {t' : State} (h : execHoldupFlushComplete s = .next t') :
    t'.net.dram = s.net.dram ∧
      t'.pending = s.pending ∧
      t'.power.serial = s.power.serial ∧
      t'.power.ident = s.power.ident := by
  simp only [execHoldupFlushComplete] at h; (repeat' split at h) <;> injection h with h <;> subst h <;> simp

theorem execHoldupCommit_keep (e : EpochIn) (s : State) {t' : State} (h : execHoldupCommit e s = .next t') :
    t'.net.dram = s.net.dram ∧
      t'.pending = s.pending ∧
      t'.power.serial = s.power.serial ∧
      t'.power.ident = s.power.ident := by
  simp only [execHoldupCommit] at h; (repeat' split at h) <;> injection h with h <;> subst h <;> simp

theorem execHoldupCutoff_keep (s : State) {t' : State} (h : execHoldupCutoff s = .next t') :
    (Memory.wf s.net.dram = true → Memory.wf t'.net.dram = true) ∧
      t'.pending = s.pending ∧
      t'.power.serial = s.power.serial ∧
      t'.power.ident = s.power.ident := by
  simp only [execHoldupCutoff] at h; (repeat' split at h) <;> injection h with h <;> subst h <;> refine ⟨fun h => ?_, ?_⟩ <;> simp [*]

theorem execReferenceLoss_keep (s : State) {t' : State} (h : execReferenceLoss s = .next t') :
    t'.net.dram = s.net.dram ∧
      t'.pending = s.pending ∧
      t'.power.serial = s.power.serial ∧
      t'.power.ident = s.power.ident := by
  simp only [execReferenceLoss] at h; (repeat' split at h) <;> injection h with h <;> subst h <;> simp

theorem execReferenceRestored_keep (s : State) {t' : State} (h : execReferenceRestored s = .next t') :
    t'.net.dram = s.net.dram ∧
      t'.pending = s.pending ∧
      t'.power.serial = s.power.serial ∧
      t'.power.ident = s.power.ident := by
  simp only [execReferenceRestored] at h; (repeat' split at h) <;> injection h with h <;> subst h <;> simp

theorem execCrystalLoss_keep (s : State) {t' : State} (h : execCrystalLoss s = .next t') :
    t'.net.dram = s.net.dram ∧
      t'.pending = s.pending ∧
      t'.power.serial = s.power.serial ∧
      t'.power.ident = s.power.ident := by
  simp only [execCrystalLoss] at h; (repeat' split at h) <;> injection h with h <;> subst h <;> simp

theorem execCrystalReturn_keep (s : State) {t' : State} (h : execCrystalReturn s = .next t') :
    t'.net.dram = s.net.dram ∧
      t'.pending = s.pending ∧
      t'.power.serial = s.power.serial ∧
      t'.power.ident = s.power.ident := by
  unfold execCrystalReturn at h; injection h with h; subst h; simp

@[simp] theorem engineFault_keep (s : State) :
    (engineFault s).net.dram = s.net.dram ∧
      (engineFault s).pending = s.pending ∧
      (engineFault s).power.serial = s.power.serial ∧
      (engineFault s).power.ident = s.power.ident := by
  unfold engineFault; simp

@[simp] theorem linkLost_keep (s : State) :
    (linkLost s).net.dram = s.net.dram ∧
      (linkLost s).pending = s.pending ∧
      (linkLost s).power.serial = s.power.serial ∧
      (linkLost s).power.ident = s.power.ident := by
  unfold linkLost; simp

@[simp] theorem bridgeFails_keep (s : State) (k : Nat) :
    (bridgeFails s k).net.dram = s.net.dram ∧
      (bridgeFails s k).pending = s.pending ∧
      (bridgeFails s k).power.serial = s.power.serial ∧
      (bridgeFails s k).power.ident = s.power.ident := by
  unfold bridgeFails; simp

@[simp] theorem retrainBridge_keep (s : State) (k : Nat) :
    (retrainBridge s k).net.dram = s.net.dram ∧
      (retrainBridge s k).pending = s.pending ∧
      (retrainBridge s k).power.serial = s.power.serial ∧
      (retrainBridge s k).power.ident = s.power.ident := by
  unfold retrainBridge; simp

theorem execBridgeCrcFail_keep (k : Nat) (seq : Nat) (data : List Nat) (crc : Nat) (first : Bool) (s : State) {t' : State} (h : execBridgeCrcFail k seq data crc first s = .next t') :
    t'.net.dram = s.net.dram ∧
      t'.pending = s.pending ∧
      t'.power.serial = s.power.serial ∧
      t'.power.ident = s.power.ident := by
  simp only [execBridgeCrcFail] at h; (repeat' split at h) <;> injection h with h <;> subst h <;> simp

theorem execPllLockLoss_keep (p : Pll) (s : State) {t' : State} (h : execPllLockLoss p s = .next t') :
    t'.net.dram = s.net.dram ∧
      t'.pending = s.pending ∧
      t'.power.serial = s.power.serial ∧
      t'.power.ident = s.power.ident := by
  simp only [execPllLockLoss] at h; (repeat' split at h) <;> injection h with h <;> subst h <;> simp

theorem execEnginePllRelock_keep (s : State) {t' : State} (h : execEnginePllRelock s = .next t') :
    t'.net.dram = s.net.dram ∧
      t'.pending = s.pending ∧
      t'.power.serial = s.power.serial ∧
      t'.power.ident = s.power.ident := by
  simp only [execEnginePllRelock] at h; (repeat' split at h) <;> injection h with h <;> subst h <;> simp

@[simp] theorem setEpll_keep (s : State) (on : Bool) :
    (setEpll s on).net.dram = s.net.dram ∧
      (setEpll s on).pending = s.pending ∧
      (setEpll s on).power.serial = s.power.serial ∧
      (setEpll s on).power.ident = s.power.ident := by
  unfold setEpll; simp

theorem execEnginePllEnable_keep (core : Core5) (on : Bool) (s : State) {t' : State} (h : execEnginePllEnable core on s = .next t') :
    t'.net.dram = s.net.dram ∧
      t'.pending = s.pending ∧
      t'.power.serial = s.power.serial ∧
      t'.power.ident = s.power.ident := by
  simp only [execEnginePllEnable] at h; (repeat' split at h) <;> injection h with h <;> subst h <;> simp

theorem execSiderealRead_keep (core : Core5) (s : State) {t' : State} (h : execSiderealRead core s = .next t') :
    t'.net.dram = s.net.dram ∧
      t'.pending = s.pending ∧
      t'.power.serial = s.power.serial ∧
      t'.power.ident = s.power.ident := by
  unfold execSiderealRead at h; injection h with h; subst h; simp

/-! ## Redundancy -/

@[simp] theorem sendBlocks_keep (s : State) (stream : Nat) (n : Nat) :
    (sendBlocks s stream n).net.dram = s.net.dram ∧
      (sendBlocks s stream n).pending = s.pending ∧
      (sendBlocks s stream n).power.serial = s.power.serial ∧
      (sendBlocks s stream n).power.ident = s.power.ident := by
  exact ⟨rfl, rfl, rfl, rfl⟩

@[simp] theorem renew_keep (s : State) :
    (renew s).net.dram = s.net.dram ∧
      (renew s).pending = s.pending ∧
      (renew s).power.serial = s.power.serial ∧
      (renew s).power.ident = s.power.ident := by
  unfold renew; simp

theorem execLeaseRenewal_keep (s : State) {t' : State} (h : execLeaseRenewal s = .next t') :
    t'.net.dram = s.net.dram ∧
      t'.pending = s.pending ∧
      t'.power.serial = s.power.serial ∧
      t'.power.ident = s.power.ident := by
  simp only [execLeaseRenewal] at h; (repeat' split at h) <;> injection h with h <;> subst h <;> simp

@[simp] theorem hearHello_keep (s : State) (h : PeerHello) :
    (hearHello s h).net.dram = s.net.dram ∧
      (hearHello s h).pending = s.pending ∧
      (hearHello s h).power.serial = s.power.serial ∧
      (hearHello s h).power.ident = s.power.ident := by
  unfold hearHello; (repeat' split) <;> simp

@[simp] theorem hearWord_keep (s : State) (onLine : Bool) (w : Word) :
    (hearWord s onLine w).net.dram = s.net.dram ∧
      (hearWord s onLine w).pending = s.pending ∧
      (hearWord s onLine w).power.serial = s.power.serial ∧
      (hearWord s onLine w).power.ident = s.power.ident := by
  exact ⟨rfl, rfl, rfl, rfl⟩

@[simp] theorem claimOnRelease_keep (s : State) :
    (claimOnRelease s).net.dram = s.net.dram ∧
      (claimOnRelease s).pending = s.pending ∧
      (claimOnRelease s).power.serial = s.power.serial ∧
      (claimOnRelease s).power.ident = s.power.ident := by
  unfold claimOnRelease; (repeat' split) <;> simp

theorem execLeaseWordReceived_keep (onLine : Bool) (w : Word) (hello : Option PeerHello) (s : State) {t' : State} (h : execLeaseWordReceived onLine w hello s = .next t') :
    t'.net.dram = s.net.dram ∧
      t'.pending = s.pending ∧
      t'.power.serial = s.power.serial ∧
      t'.power.ident = s.power.ident := by
  simp only [execLeaseWordReceived] at h; (repeat' split at h) <;> injection h with h <;> subst h <;> simp

theorem execLeaseClaim_keep (s : State) {t' : State} (h : execLeaseClaim s = .next t') :
    t'.net.dram = s.net.dram ∧
      t'.pending = s.pending ∧
      t'.power.serial = s.power.serial ∧
      t'.power.ident = s.power.ident := by
  simp only [execLeaseClaim] at h; (repeat' split at h) <;> injection h with h <;> subst h <;> simp

theorem execDriveEnTimeout_keep (s : State) {t' : State} (h : execDriveEnTimeout s = .next t') :
    t'.net.dram = s.net.dram ∧
      t'.pending = s.pending ∧
      t'.power.serial = s.power.serial ∧
      t'.power.ident = s.power.ident := by
  simp only [execDriveEnTimeout] at h; (repeat' split at h) <;> injection h with h <;> subst h <;> simp

theorem execLockstepMismatch_keep (s : State) {t' : State} (h : execLockstepMismatch s = .next t') :
    t'.net.dram = s.net.dram ∧
      t'.pending = s.pending ∧
      t'.power.serial = s.power.serial ∧
      t'.power.ident = s.power.ident := by
  simp only [execLockstepMismatch] at h; (repeat' split at h) <;> injection h with h <;> subst h <;> simp

theorem execDriveConflict_keep (both : Bool) (s : State) {t' : State} (h : execDriveConflict both s = .next t') :
    t'.net.dram = s.net.dram ∧
      t'.pending = s.pending ∧
      t'.power.serial = s.power.serial ∧
      t'.power.ident = s.power.ident := by
  simp only [execDriveConflict] at h; (repeat' split at h) <;> injection h with h <;> subst h <;> simp

@[simp] theorem release_keep (s : State) (kind : Nat) (reason : Nat) :
    (release s kind reason).net.dram = s.net.dram ∧
      (release s kind reason).pending = s.pending ∧
      (release s kind reason).power.serial = s.power.serial ∧
      (release s kind reason).power.ident = s.power.ident := by
  exact ⟨rfl, rfl, rfl, rfl⟩

theorem execExplicitRelease_keep (why : RelReason) (s : State) {t' : State} (h : execExplicitRelease why s = .next t') :
    t'.net.dram = s.net.dram ∧
      t'.pending = s.pending ∧
      t'.power.serial = s.power.serial ∧
      t'.power.ident = s.power.ident := by
  simp only [execExplicitRelease] at h; (repeat' split at h) <;> injection h with h <;> subst h <;> simp

@[simp] theorem setLane_keep (s : State) (i : Nat) (l : Lane) :
    (setLane s i l).net.dram = s.net.dram ∧
      (setLane s i l).pending = s.pending ∧
      (setLane s i l).power.serial = s.power.serial ∧
      (setLane s i l).power.ident = s.power.ident := by
  exact ⟨rfl, rfl, rfl, rfl⟩

theorem execSisterAckTimeout_keep (lane : Nat) (s : State) {t' : State} (h : execSisterAckTimeout lane s = .next t') :
    t'.net.dram = s.net.dram ∧
      t'.pending = s.pending ∧
      t'.power.serial = s.power.serial ∧
      t'.power.ident = s.power.ident := by
  simp only [execSisterAckTimeout] at h; (repeat' split at h) <;> injection h with h <;> subst h <;> simp

theorem execSisterIdleBlock_keep (lane : Nat) (s : State) {t' : State} (h : execSisterIdleBlock lane s = .next t') :
    t'.net.dram = s.net.dram ∧
      t'.pending = s.pending ∧
      t'.power.serial = s.power.serial ∧
      t'.power.ident = s.power.ident := by
  unfold execSisterIdleBlock at h; injection h with h; subst h; simp

theorem execLaneDown_keep (lane : Nat) (s : State) {t' : State} (h : execLaneDown lane s = .next t') :
    t'.net.dram = s.net.dram ∧
      t'.pending = s.pending ∧
      t'.power.serial = s.power.serial ∧
      t'.power.ident = s.power.ident := by
  simp only [execLaneDown] at h; (repeat' split at h) <;> injection h with h <;> subst h <;> simp

theorem execLaneRetrained_keep (lane : Nat) (s : State) {t' : State} (h : execLaneRetrained lane s = .next t') :
    t'.net.dram = s.net.dram ∧
      t'.pending = s.pending ∧
      t'.power.serial = s.power.serial ∧
      t'.power.ident = s.power.ident := by
  simp only [execLaneRetrained] at h; (repeat' split at h) <;> injection h with h <;> subst h <;> simp

theorem execSisterLinkLost_keep (s : State) {t' : State} (h : execSisterLinkLost s = .next t') :
    t'.net.dram = s.net.dram ∧
      t'.pending = s.pending ∧
      t'.power.serial = s.power.serial ∧
      t'.power.ident = s.power.ident := by
  simp only [execSisterLinkLost] at h; (repeat' split at h) <;> injection h with h <;> subst h <;> simp

@[simp] theorem freezeRecord_keep (s : State) :
    (freezeRecord s).net.dram = s.net.dram ∧
      (freezeRecord s).pending = s.pending ∧
      (freezeRecord s).power.serial = s.power.serial ∧
      (freezeRecord s).power.ident = s.power.ident := by
  unfold freezeRecord; simp

@[simp] theorem compareInputs_keep (s : State) (k : RecordIn) :
    (compareInputs s k).net.dram = s.net.dram ∧
      (compareInputs s k).pending = s.pending ∧
      (compareInputs s k).power.serial = s.power.serial ∧
      (compareInputs s k).power.ident = s.power.ident := by
  unfold compareInputs; simp

@[simp] theorem compareState_keep (s : State) (k : RecordIn) :
    (compareState s k).net.dram = s.net.dram ∧
      (compareState s k).pending = s.pending ∧
      (compareState s k).power.serial = s.power.serial ∧
      (compareState s k).power.ident = s.power.ident := by
  unfold compareState; simp

theorem execStateRecord_keep (k : RecordIn) (s : State) {t' : State} (h : execStateRecord k s = .next t') :
    t'.net.dram = s.net.dram ∧
      t'.pending = s.pending ∧
      t'.power.serial = s.power.serial ∧
      t'.power.ident = s.power.ident := by
  simp only [execStateRecord] at h; (repeat' split at h) <;> injection h with h <;> subst h <;> simp

theorem execStateRecordDeadlineMiss_keep (s : State) {t' : State} (h : execStateRecordDeadlineMiss s = .next t') :
    t'.net.dram = s.net.dram ∧
      t'.pending = s.pending ∧
      t'.power.serial = s.power.serial ∧
      t'.power.ident = s.power.ident := by
  simp only [execStateRecordDeadlineMiss] at h; (repeat' split at h) <;> injection h with h <;> subst h <;> simp

theorem execEpochImageSend_keep (s : State) {t' : State} (h : execEpochImageSend s = .next t') :
    t'.net.dram = s.net.dram ∧
      t'.pending = s.pending ∧
      t'.power.serial = s.power.serial ∧
      t'.power.ident = s.power.ident := by
  simp only [execEpochImageSend] at h; (repeat' split at h) <;> injection h with h <;> subst h <;> simp

@[simp] theorem takeObject_keep (s : State) (p : Nat × Nat) :
    (takeObject s p).net.dram = s.net.dram ∧
      (takeObject s p).pending = s.pending ∧
      (takeObject s p).power.serial = s.power.serial ∧
      (takeObject s p).power.ident = s.power.ident := by
  unfold takeObject; split <;> simp

@[simp] theorem takePlans_keep (s : State) (k : ImageIn) :
    (takePlans s k).net.dram = s.net.dram ∧
      (takePlans s k).pending = s.pending ∧
      (takePlans s k).power.serial = s.power.serial ∧
      (takePlans s k).power.ident = s.power.ident := by
  unfold takePlans; simp

@[simp] theorem takeEvents_keep (s : State) (l : List Nat) :
    (takeEvents s l).net.dram = s.net.dram ∧
      (takeEvents s l).pending = s.pending ∧
      (takeEvents s l).power.serial = s.power.serial ∧
      (takeEvents s l).power.ident = s.power.ident := by
  unfold takeEvents; simp

@[simp] theorem takeMapping_keep (s : State) (k : ImageIn) :
    (takeMapping s k).net.dram = s.net.dram ∧
      (takeMapping s k).pending = s.pending ∧
      (takeMapping s k).power.serial = s.power.serial ∧
      (takeMapping s k).power.ident = s.power.ident := by
  exact ⟨rfl, rfl, rfl, rfl⟩

@[simp] theorem takeImage_keep (s : State) (k : ImageIn) :
    (takeImage s k).net.dram = s.net.dram ∧
      (takeImage s k).pending = s.pending ∧
      (takeImage s k).power.serial = s.power.serial ∧
      (takeImage s k).power.ident = s.power.ident := by
  unfold takeImage; simp

theorem execEpochImageReceived_keep (k : ImageIn) (s : State) {t' : State} (h : execEpochImageReceived k s = .next t') :
    t'.net.dram = s.net.dram ∧
      t'.pending = s.pending ∧
      t'.power.serial = s.power.serial ∧
      t'.power.ident = s.power.ident := by
  simp only [execEpochImageReceived] at h; (repeat' split at h) <;> injection h with h <;> subst h <;> simp

@[simp] theorem planHandover_keep (s : State) (kind : Nat) (reason : Nat) :
    (planHandover s kind reason).net.dram = s.net.dram ∧
      (planHandover s kind reason).pending = s.pending ∧
      (planHandover s kind reason).power.serial = s.power.serial ∧
      (planHandover s kind reason).power.ident = s.power.ident := by
  exact ⟨rfl, rfl, rfl, rfl⟩

theorem execRevertHandover_keep (s : State) {t' : State} (h : execRevertHandover s = .next t') :
    t'.net.dram = s.net.dram ∧
      t'.pending = s.pending ∧
      t'.power.serial = s.power.serial ∧
      t'.power.ident = s.power.ident := by
  simp only [execRevertHandover] at h; (repeat' split at h) <;> injection h with h <;> subst h <;> simp

theorem execSwapDrill_keep (s : State) {t' : State} (h : execSwapDrill s = .next t') :
    t'.net.dram = s.net.dram ∧
      t'.pending = s.pending ∧
      t'.power.serial = s.power.serial ∧
      t'.power.ident = s.power.ident := by
  simp only [execSwapDrill] at h; (repeat' split at h) <;> injection h with h <;> subst h <;> simp

theorem execDrillEnd_keep (s : State) {t' : State} (h : execDrillEnd s = .next t') :
    t'.net.dram = s.net.dram ∧
      t'.pending = s.pending ∧
      t'.power.serial = s.power.serial ∧
      t'.power.ident = s.power.ident := by
  simp only [execDrillEnd] at h; (repeat' split at h) <;> injection h with h <;> subst h <;> simp

theorem execPhaseCheckComplete_keep (s : State) {t' : State} (h : execPhaseCheckComplete s = .next t') :
    t'.net.dram = s.net.dram ∧
      t'.pending = s.pending ∧
      t'.power.serial = s.power.serial ∧
      t'.power.ident = s.power.ident := by
  simp only [execPhaseCheckComplete] at h; (repeat' split at h) <;> injection h with h <;> subst h <;> simp

@[simp] theorem phaseEpoch_keep (s : State) :
    (phaseEpoch s).net.dram = s.net.dram ∧
      (phaseEpoch s).pending = s.pending ∧
      (phaseEpoch s).power.serial = s.power.serial ∧
      (phaseEpoch s).power.ident = s.power.ident := by
  exact ⟨rfl, rfl, rfl, rfl⟩

@[simp] theorem comparePwm_keep (s : State) (seen : Option (List (Nat × Nat))) :
    (comparePwm s seen).net.dram = s.net.dram ∧
      (comparePwm s seen).pending = s.pending ∧
      (comparePwm s seen).power.serial = s.power.serial ∧
      (comparePwm s seen).power.ident = s.power.ident := by
  unfold comparePwm; (repeat' split) <;> simp

@[simp] theorem pwmEpoch_keep (s : State) (seen : Option (List (Nat × Nat))) :
    (pwmEpoch s seen).net.dram = s.net.dram ∧
      (pwmEpoch s seen).pending = s.pending ∧
      (pwmEpoch s seen).power.serial = s.power.serial ∧
      (pwmEpoch s seen).power.ident = s.power.ident := by
  unfold pwmEpoch; simp

theorem execPeerAbsent_keep (s : State) {t' : State} (h : execPeerAbsent s = .next t') :
    t'.net.dram = s.net.dram ∧
      t'.pending = s.pending ∧
      t'.power.serial = s.power.serial ∧
      t'.power.ident = s.power.ident := by
  simp only [execPeerAbsent] at h; (repeat' split at h) <;> injection h with h <;> subst h <;> simp

end Sys2Proof.Machine
end

