-- ==== Sys2Proof/Laws/KeepNet.lean ====
section
/-! SUPPORT. What a step keeps, function by function: the canonical form of the DRAM (or the DRAM itself), the queue of commands
and the identity of the module. This file: the Ephemeris engine, the plan, the field network, the lead, epochs and attribution. -/
namespace Sys2Proof.Machine

/-! ## Engine -/

@[simp] theorem setSlot_keep (s : State) (k : Nat) (v : Slot) :
    (setSlot s k v).net.dram = s.net.dram ∧
      (setSlot s k v).pending = s.pending ∧
      (setSlot s k v).power.serial = s.power.serial ∧
      (setSlot s k v).power.ident = s.power.ident := by
  exact ⟨rfl, rfl, rfl, rfl⟩

@[simp] theorem slotState_keep (s : State) (k : Nat) (st : Nat) :
    (slotState s k st).net.dram = s.net.dram ∧
      (slotState s k st).pending = s.pending ∧
      (slotState s k st).power.serial = s.power.serial ∧
      (slotState s k st).power.ident = s.power.ident := by
  exact ⟨rfl, rfl, rfl, rfl⟩

@[simp] theorem engRecAt_keep (s : State) (body : Nat) :
    (engRecAt s body).net.dram = s.net.dram ∧
      (engRecAt s body).pending = s.pending ∧
      (engRecAt s body).power.serial = s.power.serial ∧
      (engRecAt s body).power.ident = s.power.ident := by
  unfold engRecAt; simp

@[simp] theorem engRec_keep (s : State) :
    (engRec s).net.dram = s.net.dram ∧
      (engRec s).pending = s.pending ∧
      (engRec s).power.serial = s.power.serial ∧
      (engRec s).power.ident = s.power.ident := by
  unfold engRec; simp

@[simp] theorem settleEng_keep (s : State) :
    (settleEng s).net.dram = s.net.dram ∧
      (settleEng s).pending = s.pending ∧
      (settleEng s).power.serial = s.power.serial ∧
      (settleEng s).power.ident = s.power.ident := by
  unfold settleEng; simp

@[simp] theorem cancelSwap_keep (s : State) :
    (cancelSwap s).net.dram = s.net.dram ∧
      (cancelSwap s).pending = s.pending ∧
      (cancelSwap s).power.serial = s.power.serial ∧
      (cancelSwap s).power.ident = s.power.ident := by
  exact ⟨rfl, rfl, rfl, rfl⟩

@[simp] theorem abandonBuild_keep (s : State) :
    (abandonBuild s).net.dram = s.net.dram ∧
      (abandonBuild s).pending = s.pending ∧
      (abandonBuild s).power.serial = s.power.serial ∧
      (abandonBuild s).power.ident = s.power.ident := by
  unfold abandonBuild; (repeat' split) <;> simp

@[simp] theorem laneMeans_keep (s : State) :
    (laneMeans s).net.dram = s.net.dram ∧
      (laneMeans s).pending = s.pending ∧
      (laneMeans s).power.serial = s.power.serial ∧
      (laneMeans s).power.ident = s.power.ident := by
  unfold laneMeans; simp

@[simp] theorem engineFrame_keep (s : State) (v : List Word) :
    (engineFrame s v).net.dram = s.net.dram ∧
      (engineFrame s v).pending = s.pending ∧
      (engineFrame s v).power.serial = s.power.serial ∧
      (engineFrame s v).power.ident = s.power.ident := by
  exact ⟨rfl, rfl, rfl, rfl⟩

@[simp] theorem feedFrame_keep (s : State) (v : List Word) :
    (feedFrame s v).net.dram = s.net.dram ∧
      (feedFrame s v).pending = s.pending ∧
      (feedFrame s v).power.serial = s.power.serial ∧
      (feedFrame s v).power.ident = s.power.ident := by
  unfold feedFrame; simp

@[simp] theorem releaseEngine_keep (s : State) :
    (Memory.wf s.net.dram = true → Memory.wf (releaseEngine s).net.dram = true) ∧
      (releaseEngine s).pending = s.pending ∧
      (releaseEngine s).power.serial = s.power.serial ∧
      (releaseEngine s).power.ident = s.power.ident := by
  unfold releaseEngine; refine ⟨fun h => ?_, ?_⟩ <;> simp [*]

theorem execFeatureFrame_keep (f : FeatIn) (s : State) {t' : State} (h : execFeatureFrame f s = .next t') :
    t'.net.dram = s.net.dram ∧
      t'.pending = s.pending ∧
      t'.power.serial = s.power.serial ∧
      t'.power.ident = s.power.ident := by
  simp only [execFeatureFrame] at h; (repeat' split at h) <;> injection h with h <;> subst h <;> simp

@[simp] theorem epochLanes_keep (s : State) :
    (epochLanes s).net.dram = s.net.dram ∧
      (epochLanes s).pending = s.pending ∧
      (epochLanes s).power.serial = s.power.serial ∧
      (epochLanes s).power.ident = s.power.ident := by
  unfold epochLanes; simp

@[simp] theorem epochMeans_keep (s : State) :
    (epochMeans s).net.dram = s.net.dram ∧
      (epochMeans s).pending = s.pending ∧
      (epochMeans s).power.serial = s.power.serial ∧
      (epochMeans s).power.ident = s.power.ident := by
  unfold epochMeans; simp

theorem viewFrame_eq (s : State) (f : Forecast) : ∃ c a n v b m w, viewFrame s f = { dramPut (dramPut s a n v) b m w with net.viewCount := c, eng.frame := f } := ⟨_, _, _, _, _, _, _, rfl⟩

@[simp] theorem viewFrame_keep (s : State) (f : Forecast) :
    (Memory.wf s.net.dram = true → Memory.wf (viewFrame s f).net.dram = true) ∧
      (viewFrame s f).pending = s.pending ∧
      (viewFrame s f).power.serial = s.power.serial ∧
      (viewFrame s f).power.ident = s.power.ident := by
  obtain ⟨c, a, n, v, b, m, w, h⟩ := viewFrame_eq s f
  rw [h]
  exact ⟨fun h => wf_memWriteAll _ _ _ (wf_memWriteAll _ _ _ h), rfl, rfl, rfl⟩


theorem burstFrame_eq (s : State) (f : Forecast) : ∃ c a n v b m w, burstFrame s f = { dramPut (dramPut s a n v) b m w with net.burstCount := c, eng.burst := f } := ⟨_, _, _, _, _, _, _, rfl⟩

@[simp] theorem burstFrame_keep (s : State) (f : Forecast) :
    (Memory.wf s.net.dram = true → Memory.wf (burstFrame s f).net.dram = true) ∧
      (burstFrame s f).pending = s.pending ∧
      (burstFrame s f).power.serial = s.power.serial ∧
      (burstFrame s f).power.ident = s.power.ident := by
  obtain ⟨c, a, n, v, b, m, w, h⟩ := burstFrame_eq s f
  rw [h]
  exact ⟨fun h => wf_memWriteAll _ _ _ (wf_memWriteAll _ _ _ h), rfl, rfl, rfl⟩


@[simp] theorem publishHold_keep (s : State) :
    (Memory.wf s.net.dram = true → Memory.wf (publishHold s).net.dram = true) ∧
      (publishHold s).pending = s.pending ∧
      (publishHold s).power.serial = s.power.serial ∧
      (publishHold s).power.ident = s.power.ident := by
  unfold publishHold; refine ⟨fun h => ?_, ?_⟩ <;> simp [*]

theorem execHoldForecast_keep (s : State) {t' : State} (h : execHoldForecast s = .next t') :
    (Memory.wf s.net.dram = true → Memory.wf t'.net.dram = true) ∧
      t'.pending = s.pending ∧
      t'.power.serial = s.power.serial ∧
      t'.power.ident = s.power.ident := by
  simp only [execHoldForecast] at h; (repeat' split at h) <;> injection h with h <;> subst h <;> refine ⟨fun h => ?_, ?_⟩ <;> simp [*]

@[simp] theorem invalidRefresh_keep (s : State) :
    (invalidRefresh s).net.dram = s.net.dram ∧
      (invalidRefresh s).pending = s.pending ∧
      (invalidRefresh s).power.serial = s.power.serial ∧
      (invalidRefresh s).power.ident = s.power.ident := by
  unfold invalidRefresh; simp

@[simp] theorem discardRefresh_keep (s : State) :
    (discardRefresh s).net.dram = s.net.dram ∧
      (discardRefresh s).pending = s.pending ∧
      (discardRefresh s).power.serial = s.power.serial ∧
      (discardRefresh s).power.ident = s.power.ident := by
  unfold discardRefresh; simp

theorem execRefreshStart_keep (s : State) {t' : State} (h : execRefreshStart s = .next t') :
    t'.net.dram = s.net.dram ∧
      t'.pending = s.pending ∧
      t'.power.serial = s.power.serial ∧
      t'.power.ident = s.power.ident := by
  simp only [execRefreshStart] at h; (repeat' split at h) <;> injection h with h <;> subst h <;> simp

theorem execRefreshDeadlineMiss_keep (s : State) {t' : State} (h : execRefreshDeadlineMiss s = .next t') :
    t'.net.dram = s.net.dram ∧
      t'.pending = s.pending ∧
      t'.power.serial = s.power.serial ∧
      t'.power.ident = s.power.ident := by
  unfold execRefreshDeadlineMiss at h; injection h with h; subst h; simp

@[simp] theorem publish_keep (s : State) (epoch : Nat) (start : Nat) (own : List Word) (burst : Bool) :
    (Memory.wf s.net.dram = true → Memory.wf (publish s epoch start own burst).net.dram = true) ∧
      (publish s epoch start own burst).pending = s.pending ∧
      (publish s epoch start own burst).power.serial = s.power.serial ∧
      (publish s epoch start own burst).power.ident = s.power.ident := by
  simp only [publish]; refine ⟨fun h => ?_, ?_⟩ <;> (repeat' split) <;> simp [*]

@[simp] theorem inferPhases_keep (s : State) (l : List (Nat × Nat)) :
    (inferPhases s l).net.dram = s.net.dram ∧
      (inferPhases s l).pending = s.pending ∧
      (inferPhases s l).power.serial = s.power.serial ∧
      (inferPhases s l).power.ident = s.power.ident := by
  unfold inferPhases; simp

@[simp] theorem noteRef_keep (s : State) (epoch : Nat) (start : Nat) :
    (noteRef s epoch start).net.dram = s.net.dram ∧
      (noteRef s epoch start).pending = s.pending ∧
      (noteRef s epoch start).power.serial = s.power.serial ∧
      (noteRef s epoch start).power.ident = s.power.ident := by
  exact ⟨rfl, rfl, rfl, rfl⟩

@[simp] theorem refreshOut_keep (s : State) (epoch : Nat) (start : Nat) (out : List Word) (carried : List (Nat × Nat × List Exact)) :
    (Memory.wf s.net.dram = true → Memory.wf (refreshOut s epoch start out carried).net.dram = true) ∧
      (refreshOut s epoch start out carried).pending = s.pending ∧
      (refreshOut s epoch start out carried).power.serial = s.power.serial ∧
      (refreshOut s epoch start out carried).power.ident = s.power.ident := by
  simp only [refreshOut]; refine ⟨fun h => ?_, ?_⟩ <;> (repeat' split) <;> simp [*]

theorem execRefreshDone_keep (sramFixed : Nat) (dramFixed : Nat) (inferred : List (Nat × Nat)) (s : State) {t' : State} (h : execRefreshDone sramFixed dramFixed inferred s = .next t') :
    (Memory.wf s.net.dram = true → Memory.wf t'.net.dram = true) ∧
      t'.pending = s.pending ∧
      t'.power.serial = s.power.serial ∧
      t'.power.ident = s.power.ident := by
  simp only [execRefreshDone] at h; (repeat' split at h) <;> injection h with h <;> subst h <;> refine ⟨fun h => ?_, ?_⟩ <;> simp [*]

@[simp] theorem revertWeights_keep (s : State) :
    (revertWeights s).net.dram = s.net.dram ∧
      (revertWeights s).pending = s.pending ∧
      (revertWeights s).power.serial = s.power.serial ∧
      (revertWeights s).power.ident = s.power.ident := by
  exact ⟨rfl, rfl, rfl, rfl⟩

@[simp] theorem swapIn_keep (s : State) (k : Nat) :
    (swapIn s k).net.dram = s.net.dram ∧
      (swapIn s k).pending = s.pending ∧
      (swapIn s k).power.serial = s.power.serial ∧
      (swapIn s k).power.ident = s.power.ident := by
  unfold swapIn; simp

@[simp] theorem selectAccepted_keep (s : State) :
    (selectAccepted s).net.dram = s.net.dram ∧
      (selectAccepted s).pending = s.pending ∧
      (selectAccepted s).power.serial = s.power.serial ∧
      (selectAccepted s).power.ident = s.power.ident := by
  unfold selectAccepted; (repeat' split) <;> simp

@[simp] theorem startLoad_keep (s : State) (role : Role) (v : Nat) :
    (startLoad s role v).net.dram = s.net.dram ∧
      (startLoad s role v).pending = s.pending ∧
      (startLoad s role v).power.serial = s.power.serial ∧
      (startLoad s role v).power.ident = s.power.ident := by
  exact ⟨rfl, rfl, rfl, rfl⟩

@[simp] theorem sendMirror_keep (s : State) :
    (sendMirror s).net.dram = s.net.dram ∧
      (sendMirror s).pending = s.pending ∧
      (sendMirror s).power.serial = s.power.serial ∧
      (sendMirror s).power.ident = s.power.ident := by
  unfold sendMirror; simp

theorem execModelLoadDone_keep (k : Nat) (sig : Sig) (s : State) {t' : State} (h : execModelLoadDone k sig s = .next t') :
    t'.net.dram = s.net.dram ∧
      t'.pending = s.pending ∧
      t'.power.serial = s.power.serial ∧
      t'.power.ident = s.power.ident := by
  simp only [execModelLoadDone] at h; (repeat' split at h) <;> injection h with h <;> subst h <;> simp

@[simp] theorem slotGone_keep (s : State) (k : Nat) :
    (slotGone s k).net.dram = s.net.dram ∧
      (slotGone s k).pending = s.pending ∧
      (slotGone s k).power.serial = s.power.serial ∧
      (slotGone s k).power.ident = s.power.ident := by
  unfold slotGone; (repeat' split) <;> simp

@[simp] theorem clearSlot_keep (s : State) (k : Nat) :
    (clearSlot s k).net.dram = s.net.dram ∧
      (clearSlot s k).pending = s.pending ∧
      (clearSlot s k).power.serial = s.power.serial ∧
      (clearSlot s k).power.ident = s.power.ident := by
  unfold clearSlot; simp

theorem execDamagedSlotFetch_keep (k : Nat) (mirror : Option Nat) (s : State) {t' : State} (h : execDamagedSlotFetch k mirror s = .next t') :
    t'.net.dram = s.net.dram ∧
      t'.pending = s.pending ∧
      t'.power.serial = s.power.serial ∧
      t'.power.ident = s.power.ident := by
  simp only [execDamagedSlotFetch] at h; (repeat' split at h) <;> injection h with h <;> subst h <;> simp

@[simp] theorem cxlRec_keep (s : State) (severity : Nat) (cause : Nat) (ld : Nat) (offset : Nat) :
    (cxlRec s severity cause ld offset).net.dram = s.net.dram ∧
      (cxlRec s severity cause ld offset).pending = s.pending ∧
      (cxlRec s severity cause ld offset).power.serial = s.power.serial ∧
      (cxlRec s severity cause ld offset).power.ident = s.power.ident := by
  unfold cxlRec; simp

@[simp] theorem windowError_keep (s : State) (ld : Nat) (offset : Nat) :
    (windowError s ld offset).net.dram = s.net.dram ∧
      (windowError s ld offset).pending = s.pending ∧
      (windowError s ld offset).power.serial = s.power.serial ∧
      (windowError s ld offset).power.ident = s.power.ident := by
  unfold windowError; simp

@[simp] theorem hostReadError_keep (s : State) (ld : Nat) (offset : Nat) :
    (hostReadError s ld offset).net.dram = s.net.dram ∧
      (hostReadError s ld offset).pending = s.pending ∧
      (hostReadError s ld offset).power.serial = s.power.serial ∧
      (hostReadError s ld offset).power.ident = s.power.ident := by
  unfold hostReadError; simp

@[simp] theorem mailInternal_keep (s : State) (ld : Nat) :
    (mailInternal s ld).net.dram = s.net.dram ∧
      (mailInternal s ld).pending = s.pending ∧
      (mailInternal s ld).power.serial = s.power.serial ∧
      (mailInternal s ld).power.ident = s.power.ident := by
  unfold mailInternal; (repeat' split) <;> simp

@[simp] theorem errEffect_keep (s : State) (x1 : ErrHeld) :
    (errEffect s x1).net.dram = s.net.dram ∧
      (errEffect s x1).pending = s.pending ∧
      (errEffect s x1).power.serial = s.power.serial ∧
      (errEffect s x1).power.ident = s.power.ident := by
  unfold errEffect; (repeat' split) <;> simp

@[simp] theorem errorIn_keep (s : State) (held : ErrHeld) (place : ErrAt) :
    (errorIn s held place).net.dram = s.net.dram ∧
      (errorIn s held place).pending = s.pending ∧
      (errorIn s held place).power.serial = s.power.serial ∧
      (errorIn s held place).power.ident = s.power.ident := by
  unfold errorIn; split <;> simp

theorem execUncorrectableError_keep (held : ErrHeld) (place : ErrAt) (s : State) {t' : State} (h : execUncorrectableError held place s = .next t') :
    t'.net.dram = s.net.dram ∧
      t'.pending = s.pending ∧
      t'.power.serial = s.power.serial ∧
      t'.power.ident = s.power.ident := by
  unfold execUncorrectableError at h; injection h with h; subst h; simp

theorem execScrubRead_keep (corrected : Bool) (s : State) {t' : State} (h : execScrubRead corrected s = .next t') :
    t'.net.dram = s.net.dram ∧
      t'.pending = s.pending ∧
      t'.power.serial = s.power.serial ∧
      t'.power.ident = s.power.ident := by
  simp only [execScrubRead] at h; (repeat' split at h) <;> injection h with h <;> subst h <;> simp

@[simp] theorem retrain_keep (s : State) (c : Nat) :
    (retrain s c).net.dram = s.net.dram ∧
      (retrain s c).pending = s.pending ∧
      (retrain s c).power.serial = s.power.serial ∧
      (retrain s c).power.ident = s.power.ident := by
  unfold retrain; simp

theorem execBondCrcFail_keep (c : Nat) (addr : Nat) (data : List Nat) (crc : Nat) (first : Bool) (held : ErrHeld) (s : State) {t' : State} (h : execBondCrcFail c addr data crc first held s = .next t') :
    t'.net.dram = s.net.dram ∧
      t'.pending = s.pending ∧
      t'.power.serial = s.power.serial ∧
      t'.power.ident = s.power.ident := by
  simp only [execBondCrcFail] at h; (repeat' split at h) <;> injection h with h <;> subst h <;> simp

theorem execEngineTemperature_keep (m : EngMeas) (s : State) {t' : State} (h : execEngineTemperature m s = .next t') :
    t'.net.dram = s.net.dram ∧
      t'.pending = s.pending ∧
      t'.power.serial = s.power.serial ∧
      t'.power.ident = s.power.ident := by
  simp only [execEngineTemperature] at h; (repeat' split at h) <;> injection h with h <;> subst h <;> simp

theorem execEngineWakeComplete_keep (s : State) {t' : State} (h : execEngineWakeComplete s = .next t') :
    (Memory.wf s.net.dram = true → Memory.wf t'.net.dram = true) ∧
      t'.pending = s.pending ∧
      t'.power.serial = s.power.serial ∧
      t'.power.ident = s.power.ident := by
  show Kept s t'
  simp only [execEngineWakeComplete] at h; (repeat' split at h) <;> injection h with h <;> subst h <;> refine ⟨fun h => ?_, ?_⟩ <;> simp [*]

theorem execFastModeExit_keep (s : State) {t' : State} (h : execFastModeExit s = .next t') :
    t'.net.dram = s.net.dram ∧
      t'.pending = s.pending ∧
      t'.power.serial = s.power.serial ∧
      t'.power.ident = s.power.ident := by
  simp only [execFastModeExit] at h; (repeat' split at h) <;> injection h with h <;> subst h <;> simp

@[simp] theorem startBuild_keep (s : State) (m : Nat) :
    (startBuild s m).net.dram = s.net.dram ∧
      (startBuild s m).pending = s.pending ∧
      (startBuild s m).power.serial = s.power.serial ∧
      (startBuild s m).power.ident = s.power.ident := by
  unfold startBuild; simp

@[simp] theorem decideReshard_keep (s : State) (trigger : Bool) :
    (decideReshard s trigger).net.dram = s.net.dram ∧
      (decideReshard s trigger).pending = s.pending ∧
      (decideReshard s trigger).power.serial = s.power.serial ∧
      (decideReshard s trigger).power.ident = s.power.ident := by
  unfold decideReshard; simp

@[simp] theorem switchMap_keep (s : State) :
    (switchMap s).net.dram = s.net.dram ∧
      (switchMap s).pending = s.pending ∧
      (switchMap s).power.serial = s.power.serial ∧
      (switchMap s).power.ident = s.power.ident := by
  unfold switchMap; (repeat' split) <;> simp

theorem execReshardBuildDone_keep (s : State) {t' : State} (h : execReshardBuildDone s = .next t') :
    t'.net.dram = s.net.dram ∧
      t'.pending = s.pending ∧
      t'.power.serial = s.power.serial ∧
      t'.power.ident = s.power.ident := by
  unfold execReshardBuildDone at h; injection h with h; subst h; simp

theorem execReshardShadowCompare_keep (upset : Bool) (s : State) {t' : State} (h : execReshardShadowCompare upset s = .next t') :
    t'.net.dram = s.net.dram ∧
      t'.pending = s.pending ∧
      t'.power.serial = s.power.serial ∧
      t'.power.ident = s.power.ident := by
  simp only [execReshardShadowCompare] at h; (repeat' split at h) <;> injection h with h <;> subst h <;> simp

/-! ## Learn -/

theorem execTrainingPair_keep (s : State) {t' : State} (h : execTrainingPair s = .next t') :
    t'.net.dram = s.net.dram ∧
      t'.pending = s.pending ∧
      t'.power.serial = s.power.serial ∧
      t'.power.ident = s.power.ident := by
  simp only [execTrainingPair] at h; (repeat' split at h) <;> injection h with h <;> subst h <;> simp

theorem execLearningStep_keep (s : State) {t' : State} (h : execLearningStep s = .next t') :
    t'.net.dram = s.net.dram ∧
      t'.pending = s.pending ∧
      t'.power.serial = s.power.serial ∧
      t'.power.ident = s.power.ident := by
  simp only [execLearningStep] at h; (repeat' split at h) <;> injection h with h <;> subst h <;> simp

theorem execCandidateEvaluation_keep (s : State) {t' : State} (h : execCandidateEvaluation s = .next t') :
    t'.net.dram = s.net.dram ∧
      t'.pending = s.pending ∧
      t'.power.serial = s.power.serial ∧
      t'.power.ident = s.power.ident := by
  simp only [execCandidateEvaluation] at h; (repeat' split at h) <;> injection h with h <;> subst h <;> simp

@[simp] theorem mirrorLearning_keep (s : State) :
    (mirrorLearning s).net.dram = s.net.dram ∧
      (mirrorLearning s).pending = s.pending ∧
      (mirrorLearning s).power.serial = s.power.serial ∧
      (mirrorLearning s).power.ident = s.power.ident := by
  unfold mirrorLearning; simp

@[simp] theorem adoptCandidate_keep (s : State) :
    (adoptCandidate s).net.dram = s.net.dram ∧
      (adoptCandidate s).pending = s.pending ∧
      (adoptCandidate s).power.serial = s.power.serial ∧
      (adoptCandidate s).power.ident = s.power.ident := by
  unfold adoptCandidate; simp

@[simp] theorem mirrorDue_keep (s : State) :
    (mirrorDue s).net.dram = s.net.dram ∧
      (mirrorDue s).pending = s.pending ∧
      (mirrorDue s).power.serial = s.power.serial ∧
      (mirrorDue s).power.ident = s.power.ident := by
  unfold mirrorDue; simp

theorem execLearningStateMirror_keep (s : State) {t' : State} (h : execLearningStateMirror s = .next t') :
    t'.net.dram = s.net.dram ∧
      t'.pending = s.pending ∧
      t'.power.serial = s.power.serial ∧
      t'.power.ident = s.power.ident := by
  simp only [execLearningStateMirror] at h; (repeat' split at h) <;> injection h with h <;> subst h <;> simp

@[simp] theorem takeSlot_keep (s : State) (p : Nat × Slot) :
    (takeSlot s p).net.dram = s.net.dram ∧
      (takeSlot s p).pending = s.pending ∧
      (takeSlot s p).power.serial = s.power.serial ∧
      (takeSlot s p).power.ident = s.power.ident := by
  unfold takeSlot; simp

@[simp] theorem takeStack_keep (s : State) (p : Nat × List Nat) :
    (Memory.wf s.net.dram = true → Memory.wf (takeStack s p).net.dram = true) ∧
      (takeStack s p).pending = s.pending ∧
      (takeStack s p).power.serial = s.power.serial ∧
      (takeStack s p).power.ident = s.power.ident := by
  unfold takeStack; refine ⟨fun h => ?_, ?_⟩ <;> (repeat' split) <;> simp [*]

@[simp] theorem takeLearning_keep (s : State) (l : LearnState) (ver : Nat) :
    (takeLearning s l ver).net.dram = s.net.dram ∧
      (takeLearning s l ver).pending = s.pending ∧
      (takeLearning s l ver).power.serial = s.power.serial ∧
      (takeLearning s l ver).power.ident = s.power.ident := by
  unfold takeLearning; simp

@[simp] theorem takeArchive_keep (s : State) (p : Nat × Nat × Nat) :
    (takeArchive s p).net.dram = s.net.dram ∧
      (takeArchive s p).pending = s.pending ∧
      (takeArchive s p).power.serial = s.power.serial ∧
      (takeArchive s p).power.ident = s.power.ident := by
  unfold takeArchive; simp

@[simp] theorem takeMirror_keep (s : State) (k : BlockIn) :
    (Memory.wf s.net.dram = true → Memory.wf (takeMirror s k).net.dram = true) ∧
      (takeMirror s k).pending = s.pending ∧
      (takeMirror s k).power.serial = s.power.serial ∧
      (takeMirror s k).power.ident = s.power.ident := by
  show Kept s (takeMirror s k)
  unfold takeMirror
  extract_lets ver u
  have k1 : Kept s u :=
    ((Kept.foldl _ (fun a p => .of_eq (takeSlot_keep a p)) _ s).trans (Kept.foldl _ takeStack_keep _ _)).trans
      (Kept.foldl _ (fun a p => .of_eq (takeArchive_keep a p)) _ _)
  clear_value u
  split
  · exact k1.trans (.of_eq (takeLearning_keep _ _ _))
  · exact k1

@[simp] theorem deliverHash_keep (s : State) (k : BlockIn) :
    (Memory.wf s.net.dram = true → Memory.wf (deliverHash s k).net.dram = true) ∧
      (deliverHash s k).pending = s.pending ∧
      (deliverHash s k).power.serial = s.power.serial ∧
      (deliverHash s k).power.ident = s.power.ident := by
  unfold deliverHash; refine ⟨fun h => ?_, ?_⟩ <;> (repeat' split) <;> simp [*]

theorem execSisterBlockReceived_keep (lane : Nat) (k : BlockIn) (s : State) {t' : State} (h : execSisterBlockReceived lane k s = .next t') :
    (Memory.wf s.net.dram = true → Memory.wf t'.net.dram = true) ∧
      t'.pending = s.pending ∧
      t'.power.serial = s.power.serial ∧
      t'.power.ident = s.power.ident := by
  unfold execSisterBlockReceived at h
  dsimp only at h
  (repeat' split at h) <;> injection h with h <;> subst h <;> refine ⟨fun h => ?_, ?_⟩ <;> simp [*]

/-! ## Plan -/

@[simp] theorem notePhases_keep (s : State) (ph : List Nat) :
    (notePhases s ph).net.dram = s.net.dram ∧
      (notePhases s ph).pending = s.pending ∧
      (notePhases s ph).power.serial = s.power.serial ∧
      (notePhases s ph).power.ident = s.power.ident := by
  exact ⟨rfl, rfl, rfl, rfl⟩

@[simp] theorem inferPlan_keep (s : State) (hints : List (Nat × Nat)) :
    (inferPlan s hints).net.dram = s.net.dram ∧
      (inferPlan s hints).pending = s.pending ∧
      (inferPlan s hints).power.serial = s.power.serial ∧
      (inferPlan s hints).power.ident = s.power.ident := by
  exact ⟨rfl, rfl, rfl, rfl⟩

@[simp] theorem stepPhases_keep (s : State) (hints : List (Nat × Nat)) :
    (stepPhases s hints).net.dram = s.net.dram ∧
      (stepPhases s hints).pending = s.pending ∧
      (stepPhases s hints).power.serial = s.power.serial ∧
      (stepPhases s hints).power.ident = s.power.ident := by
  exact ⟨rfl, rfl, rfl, rfl⟩

theorem execHintMismatch_keep (c : Nat) (s : State) {t' : State} (h : execHintMismatch c s = .next t') :
    t'.net.dram = s.net.dram ∧
      t'.pending = s.pending ∧
      t'.power.serial = s.power.serial ∧
      t'.power.ident = s.power.ident := by
  unfold execHintMismatch at h; injection h with h; subst h; simp

@[simp] theorem snapMembers_keep (s : State) :
    (snapMembers s).net.dram = s.net.dram ∧
      (snapMembers s).pending = s.pending ∧
      (snapMembers s).power.serial = s.power.serial ∧
      (snapMembers s).power.ident = s.power.ident := by
  exact ⟨rfl, rfl, rfl, rfl⟩

@[simp] theorem applyMembers_keep (s : State) :
    (applyMembers s).net.dram = s.net.dram ∧
      (applyMembers s).pending = s.pending ∧
      (applyMembers s).power.serial = s.power.serial ∧
      (applyMembers s).power.ident = s.power.ident := by
  unfold applyMembers; simp

@[simp] theorem formG1_keep (s : State) :
    (formG1 s).net.dram = s.net.dram ∧
      (formG1 s).pending = s.pending ∧
      (formG1 s).power.serial = s.power.serial ∧
      (formG1 s).power.ident = s.power.ident := by
  unfold formG1; simp

@[simp] theorem stepHold_keep (s : State) :
    (stepHold s).net.dram = s.net.dram ∧
      (stepHold s).pending = s.pending ∧
      (stepHold s).power.serial = s.power.serial ∧
      (stepHold s).power.ident = s.power.ident := by
  unfold stepHold; (repeat' split) <;> simp

@[simp] theorem countRelease_keep (s : State) (load : Int) :
    (countRelease s load).net.dram = s.net.dram ∧
      (countRelease s load).pending = s.pending ∧
      (countRelease s load).power.serial = s.power.serial ∧
      (countRelease s load).power.ident = s.power.ident := by
  unfold countRelease; (repeat' split) <;> simp

theorem execHoldRelease_keep (s : State) {t' : State} (h : execHoldRelease s = .next t') :
    t'.net.dram = s.net.dram ∧
      t'.pending = s.pending ∧
      t'.power.serial = s.power.serial ∧
      t'.power.ident = s.power.ident := by
  simp only [execHoldRelease] at h; (repeat' split at h) <;> injection h with h <;> subst h <;> simp

@[simp] theorem setAllowance_keep (s : State) :
    (setAllowance s).net.dram = s.net.dram ∧
      (setAllowance s).pending = s.pending ∧
      (setAllowance s).power.serial = s.power.serial ∧
      (setAllowance s).power.ident = s.power.ident := by
  exact ⟨rfl, rfl, rfl, rfl⟩

@[simp] theorem countTables_keep (s : State) (n : Nat) :
    (countTables s n).net.dram = s.net.dram ∧
      (countTables s n).pending = s.pending ∧
      (countTables s n).power.serial = s.power.serial ∧
      (countTables s n).power.ident = s.power.ident := by
  unfold countTables; simp

@[simp] theorem formPlan_keep (s : State) (n : Nat) :
    (formPlan s n).net.dram = s.net.dram ∧
      (formPlan s n).pending = s.pending ∧
      (formPlan s n).power.serial = s.power.serial ∧
      (formPlan s n).power.ident = s.power.ident := by
  unfold formPlan; simp

@[simp] theorem noteReserve_keep (s : State) :
    (noteReserve s).net.dram = s.net.dram ∧
      (noteReserve s).pending = s.pending ∧
      (noteReserve s).power.serial = s.power.serial ∧
      (noteReserve s).power.ident = s.power.ident := by
  unfold noteReserve; simp

/-! ## Field -/

@[simp] theorem fnRec_keep (s : State) (severity : Nat) (cause : Nat) (body : Nat) :
    (fnRec s severity cause body).net.dram = s.net.dram ∧
      (fnRec s severity cause body).pending = s.pending ∧
      (fnRec s severity cause body).power.serial = s.power.serial ∧
      (fnRec s severity cause body).power.ident = s.power.ident := by
  unfold fnRec; simp

@[simp] theorem setTxQ_keep (s : State) (c : Chan) (l : List Frame) :
    (setTxQ s c l).net.dram = s.net.dram ∧
      (setTxQ s c l).pending = s.pending ∧
      (setTxQ s c l).power.serial = s.power.serial ∧
      (setTxQ s c l).power.ident = s.power.ident := by
  unfold setTxQ; (repeat' split) <;> simp

@[simp] theorem setOn_keep (s : State) (c : Chan) (f : Option Frame) :
    (setOn s c f).net.dram = s.net.dram ∧
      (setOn s c f).pending = s.pending ∧
      (setOn s c f).power.serial = s.power.serial ∧
      (setOn s c f).power.ident = s.power.ident := by
  unfold setOn; (repeat' split) <;> simp

@[simp] theorem queueFrame_keep (s : State) (f : Frame) :
    (queueFrame s f).net.dram = s.net.dram ∧
      (queueFrame s f).pending = s.pending ∧
      (queueFrame s f).power.serial = s.power.serial ∧
      (queueFrame s f).power.ident = s.power.ident := by
  unfold queueFrame; simp

@[simp] theorem newFrame_keep (s : State) (ident : Nat) (size : Nat) (dest : Nat) (tag : Tag) (body : Body) :
    (newFrame s ident size dest tag body).1.net.dram = s.net.dram ∧
      (newFrame s ident size dest tag body).1.pending = s.pending ∧
      (newFrame s ident size dest tag body).1.power.serial = s.power.serial ∧
      (newFrame s ident size dest tag body).1.power.ident = s.power.ident := by
  exact ⟨rfl, rfl, rfl, rfl⟩

@[simp] theorem queueOn_keep (s : State) (c : Chan) (f : Frame) :
    (queueOn s c f).net.dram = s.net.dram ∧
      (queueOn s c f).pending = s.pending ∧
      (queueOn s c f).power.serial = s.power.serial ∧
      (queueOn s c f).power.ident = s.power.ident := by
  unfold queueOn; simp

@[simp] theorem replyFrame_keep (s : State) (c : Chan) (size : Nat) (dest : Nat) (tag : Tag) (body : Body) :
    (replyFrame s c size dest tag body).net.dram = s.net.dram ∧
      (replyFrame s c size dest tag body).pending = s.pending ∧
      (replyFrame s c size dest tag body).power.serial = s.power.serial ∧
      (replyFrame s c size dest tag body).power.ident = s.power.ident := by
  unfold replyFrame; simp

@[simp] theorem sendFrame_keep (s : State) (ident : Nat) (size : Nat) (dest : Nat) (tag : Tag) (body : Body) :
    (sendFrame s ident size dest tag body).net.dram = s.net.dram ∧
      (sendFrame s ident size dest tag body).pending = s.pending ∧
      (sendFrame s ident size dest tag body).power.serial = s.power.serial ∧
      (sendFrame s ident size dest tag body).power.ident = s.power.ident := by
  unfold sendFrame; simp

@[simp] theorem noteWaited_keep (s : State) (c : Chan) (t : Nat) :
    (noteWaited s c t).net.dram = s.net.dram ∧
      (noteWaited s c t).pending = s.pending ∧
      (noteWaited s c t).power.serial = s.power.serial ∧
      (noteWaited s c t).power.ident = s.power.ident := by
  unfold noteWaited; simp

theorem execFrameTransmit_keep (c : Chan) (clock : Nat) (s : State) {t' : State} (h : execFrameTransmit c clock s = .next t') :
    t'.net.dram = s.net.dram ∧
      t'.pending = s.pending ∧
      t'.power.serial = s.power.serial ∧
      t'.power.ident = s.power.ident := by
  simp only [execFrameTransmit] at h; (repeat' split at h) <;> injection h with h <;> subst h <;> simp

@[simp] theorem drawn16_keep (s : State) :
    (drawn16 s).net.dram = s.net.dram ∧
      (drawn16 s).pending = s.pending ∧
      (drawn16 s).power.serial = s.power.serial ∧
      (drawn16 s).power.ident = s.power.ident := by
  exact ⟨rfl, rfl, rfl, rfl⟩

@[simp] theorem applyOwnCap_keep (s : State) (p : Cap) :
    (applyOwnCap s p).net.dram = s.net.dram ∧
      (applyOwnCap s p).pending = s.pending ∧
      (applyOwnCap s p).power.serial = s.power.serial ∧
      (applyOwnCap s p).power.ident = s.power.ident := by
  exact ⟨rfl, rfl, rfl, rfl⟩

@[simp] theorem periodicCap_keep (s : State) (c : Chan) :
    (periodicCap s c).net.dram = s.net.dram ∧
      (periodicCap s c).pending = s.pending ∧
      (periodicCap s c).power.serial = s.power.serial ∧
      (periodicCap s c).power.ident = s.power.ident := by
  unfold periodicCap; (repeat' split) <;> simp

theorem execFrameTransmitComplete_keep (c : Chan) (s : State) {t' : State} (h : execFrameTransmitComplete c s = .next t') :
    t'.net.dram = s.net.dram ∧
      t'.pending = s.pending ∧
      t'.power.serial = s.power.serial ∧
      t'.power.ident = s.power.ident := by
  simp only [execFrameTransmitComplete] at h; (repeat' split at h) <;> injection h with h <;> subst h <;> simp

@[simp] theorem reallow_keep (s : State) (cause : Nat) :
    (reallow s cause).net.dram = s.net.dram ∧
      (reallow s cause).pending = s.pending ∧
      (reallow s cause).power.serial = s.power.serial ∧
      (reallow s cause).power.ident = s.power.ident := by
  unfold reallow; simp

@[simp] theorem applyMarks_keep (s : State) :
    (applyMarks s).net.dram = s.net.dram ∧
      (applyMarks s).pending = s.pending ∧
      (applyMarks s).power.serial = s.power.serial ∧
      (applyMarks s).power.ident = s.power.ident := by
  simp only [applyMarks]; (repeat' split) <;> simp

@[simp] theorem urgentCap_keep (s : State) (cause : Nat) :
    (urgentCap s cause).net.dram = s.net.dram ∧
      (urgentCap s cause).pending = s.pending ∧
      (urgentCap s cause).power.serial = s.power.serial ∧
      (urgentCap s cause).power.ident = s.power.ident := by
  unfold urgentCap; dsimp only; (repeat' split) <;> simp

@[simp] theorem cutBits_keep (s : State) (c : Chan) :
    (cutBits s c).net.dram = s.net.dram ∧
      (cutBits s c).pending = s.pending ∧
      (cutBits s c).power.serial = s.power.serial ∧
      (cutBits s c).power.ident = s.power.ident := by
  exact ⟨rfl, rfl, rfl, rfl⟩

theorem execBabbleCut_keep (c : Chan) (s : State) {t' : State} (h : execBabbleCut c s = .next t') :
    t'.net.dram = s.net.dram ∧
      t'.pending = s.pending ∧
      t'.power.serial = s.power.serial ∧
      t'.power.ident = s.power.ident := by
  simp only [execBabbleCut] at h; (repeat' split at h) <;> injection h with h <;> subst h <;> simp

theorem execCutEnd_keep (c : Chan) (s : State) {t' : State} (h : execCutEnd c s = .next t') :
    t'.net.dram = s.net.dram ∧
      t'.pending = s.pending ∧
      t'.power.serial = s.power.serial ∧
      t'.power.ident = s.power.ident := by
  unfold execCutEnd at h; injection h with h; subst h; simp

theorem execBusOffRecovery_keep (c : Chan) (s : State) {t' : State} (h : execBusOffRecovery c s = .next t') :
    t'.net.dram = s.net.dram ∧
      t'.pending = s.pending ∧
      t'.power.serial = s.power.serial ∧
      t'.power.ident = s.power.ident := by
  unfold execBusOffRecovery at h; injection h with h; subst h; simp

theorem execExtraMeridianEdge_keep (s : State) {t' : State} (h : execExtraMeridianEdge s = .next t') :
    t'.net.dram = s.net.dram ∧
      t'.pending = s.pending ∧
      t'.power.serial = s.power.serial ∧
      t'.power.ident = s.power.ident := by
  simp only [execExtraMeridianEdge] at h; (repeat' split at h) <;> injection h with h <;> subst h <;> simp

@[simp] theorem ackUpdate_keep (s : State) :
    (ackUpdate s).net.dram = s.net.dram ∧
      (ackUpdate s).pending = s.pending ∧
      (ackUpdate s).power.serial = s.power.serial ∧
      (ackUpdate s).power.ident = s.power.ident := by
  unfold ackUpdate; simp

@[simp] theorem rxNote_keep (s : State) (c : Chan) (n : Nat) :
    (rxNote s c n).net.dram = s.net.dram ∧
      (rxNote s c n).pending = s.pending ∧
      (rxNote s c n).power.serial = s.power.serial ∧
      (rxNote s c n).power.ident = s.power.ident := by
  unfold rxNote; simp

@[simp] theorem badFrame_keep (s : State) (h : Hdr) (kind : Nat) :
    (badFrame s h kind).net.dram = s.net.dram ∧
      (badFrame s h kind).pending = s.pending ∧
      (badFrame s h kind).power.serial = s.power.serial ∧
      (badFrame s h kind).power.ident = s.power.ident := by
  unfold badFrame; simp

theorem receive_keep (s : State) (h : Hdr) (size : Nat) (known full zero exempt : Bool) (f : State → Nat → State)
    (hf : ∀ u e, (f u e).net.dram = u.net.dram ∧ (f u e).pending = u.pending ∧ (f u e).power.serial = u.power.serial ∧
      (f u e).power.ident = u.power.ident) :
    (receive s h size known full zero exempt f).net.dram = s.net.dram ∧
      (receive s h size known full zero exempt f).pending = s.pending ∧
      (receive s h size known full zero exempt f).power.serial = s.power.serial ∧
      (receive s h size known full zero exempt f).power.ident = s.power.ident := by
  unfold receive
  dsimp only
  (repeat' split) <;> simp [hf]

@[simp] theorem dictIn_keep (s : State) (can : Option Hdr) (size : Nat) (plain : Bool) :
    (dictIn s can size plain).1.net.dram = s.net.dram ∧
      (dictIn s can size plain).1.pending = s.pending ∧
      (dictIn s can size plain).1.power.serial = s.power.serial ∧
      (dictIn s can size plain).1.power.ident = s.power.ident := by
  simp only [dictIn]; (repeat' split) <;> simp

theorem execUnknownFrame_keep (h : Hdr) (s : State) {t' : State} (h : execUnknownFrame h s = .next t') :
    t'.net.dram = s.net.dram ∧
      t'.pending = s.pending ∧
      t'.power.serial = s.power.serial ∧
      t'.power.ident = s.power.ident := by
  simp only [execUnknownFrame] at h; (repeat' split at h) <;> injection h with h <;> subst h <;> simp

@[simp] theorem keyFramesTo_keep (s : State) (key : Nat) (switch : Nat) (node : Nat) :
    (keyFramesTo s key switch node).net.dram = s.net.dram ∧
      (keyFramesTo s key switch node).pending = s.pending ∧
      (keyFramesTo s key switch node).power.serial = s.power.serial ∧
      (keyFramesTo s key switch node).power.ident = s.power.ident := by
  unfold keyFramesTo; simp

@[simp] theorem keyInForce_keep (s : State) (e : Nat) :
    (keyInForce s e).net.dram = s.net.dram ∧
      (keyInForce s e).pending = s.pending ∧
      (keyInForce s e).power.serial = s.power.serial ∧
      (keyInForce s e).power.ident = s.power.ident := by
  unfold keyInForce; simp

@[simp] theorem startKeys_keep (s : State) (key : Nat) :
    (startKeys s key).net.dram = s.net.dram ∧
      (startKeys s key).pending = s.pending ∧
      (startKeys s key).power.serial = s.power.serial ∧
      (startKeys s key).power.ident = s.power.ident := by
  unfold startKeys; simp

theorem execGroupKeyDistribution_keep (newKey : Nat) (s : State) {t' : State} (h : execGroupKeyDistribution newKey s = .next t') :
    t'.net.dram = s.net.dram ∧
      t'.pending = s.pending ∧
      t'.power.serial = s.power.serial ∧
      t'.power.ident = s.power.ident := by
  simp only [execGroupKeyDistribution] at h; (repeat' split at h) <;> injection h with h <;> subst h <;> simp

@[simp] theorem switchKey_keep (s : State) :
    (switchKey s).net.dram = s.net.dram ∧
      (switchKey s).pending = s.pending ∧
      (switchKey s).power.serial = s.power.serial ∧
      (switchKey s).power.ident = s.power.ident := by
  unfold switchKey; (repeat' split) <;> simp

@[simp] theorem keyMissing_keep (s : State) :
    (keyMissing s).net.dram = s.net.dram ∧
      (keyMissing s).pending = s.pending ∧
      (keyMissing s).power.serial = s.power.serial ∧
      (keyMissing s).power.ident = s.power.ident := by
  unfold keyMissing; simp

@[simp] theorem acceptKey_keep (s : State) (key : Nat) (switch : Nat) :
    (acceptKey s key switch).net.dram = s.net.dram ∧
      (acceptKey s key switch).pending = s.pending ∧
      (acceptKey s key switch).power.serial = s.power.serial ∧
      (acceptKey s key switch).power.ident = s.power.ident := by
  unfold acceptKey; simp

@[simp] theorem takeChunk_keep (s : State) (p : KeyChunk) :
    (takeChunk s p).net.dram = s.net.dram ∧
      (takeChunk s p).pending = s.pending ∧
      (takeChunk s p).power.serial = s.power.serial ∧
      (takeChunk s p).power.ident = s.power.ident := by
  unfold takeChunk; (repeat' split) <;> simp

theorem execKeyFrame_keep (h : Hdr) (p : KeyChunk) (s : State) {t' : State} (h1 : execKeyFrame h p s = .next t') :
    t'.net.dram = s.net.dram ∧
      t'.pending = s.pending ∧
      t'.power.serial = s.power.serial ∧
      t'.power.ident = s.power.ident := by
  unfold execKeyFrame at h1
  injection h1 with h1
  subst h1
  refine receive_keep _ _ _ _ _ _ _ _ fun u e => ?_
  (repeat' split) <;> simp

theorem execKeyRequest_keep (h : Hdr) (node : Nat) (s : State) {t' : State} (h : execKeyRequest h node s = .next t') :
    t'.net.dram = s.net.dram ∧
      t'.pending = s.pending ∧
      t'.power.serial = s.power.serial ∧
      t'.power.ident = s.power.ident := by
  simp only [execKeyRequest] at h; (repeat' split at h) <;> injection h with h <;> subst h <;> simp

/-! ## Lead -/

@[simp] theorem afterBeat_keep (s : State) :
    (afterBeat s).net.dram = s.net.dram ∧
      (afterBeat s).pending = s.pending ∧
      (afterBeat s).power.serial = s.power.serial ∧
      (afterBeat s).power.ident = s.power.ident := by
  unfold afterBeat; simp

@[simp] theorem askKey_keep (s : State) :
    (askKey s).net.dram = s.net.dram ∧
      (askKey s).pending = s.pending ∧
      (askKey s).power.serial = s.power.serial ∧
      (askKey s).power.ident = s.power.ident := by
  unfold askKey; simp

theorem execHeartbeatSend_keep (s : State) {t' : State} (h : execHeartbeatSend s = .next t') :
    t'.net.dram = s.net.dram ∧
      t'.pending = s.pending ∧
      t'.power.serial = s.power.serial ∧
      t'.power.ident = s.power.ident := by
  simp only [execHeartbeatSend] at h; (repeat' split at h) <;> injection h with h <;> subst h <;> simp

@[simp] theorem takeFigures_keep (s : State) (p : Beat) (e : Nat) :
    (takeFigures s p e).net.dram = s.net.dram ∧
      (takeFigures s p e).pending = s.pending ∧
      (takeFigures s p e).power.serial = s.power.serial ∧
      (takeFigures s p e).power.ident = s.power.ident := by
  unfold takeFigures; simp

@[simp] theorem follow_keep (s : State) (slot : Nat) (expiry : Nat) :
    (follow s slot expiry).net.dram = s.net.dram ∧
      (follow s slot expiry).pending = s.pending ∧
      (follow s slot expiry).power.serial = s.power.serial ∧
      (follow s slot expiry).power.ident = s.power.ident := by
  exact ⟨rfl, rfl, rfl, rfl⟩

@[simp] theorem hearLead_keep (s : State) (slot : Nat) (expiry : Nat) :
    (hearLead s slot expiry).net.dram = s.net.dram ∧
      (hearLead s slot expiry).pending = s.pending ∧
      (hearLead s slot expiry).power.serial = s.power.serial ∧
      (hearLead s slot expiry).power.ident = s.power.ident := by
  unfold hearLead; (repeat' split) <;> simp

@[simp] theorem hearLease_keep (s : State) (p : Beat) (e : Nat) :
    (hearLease s p e).net.dram = s.net.dram ∧
      (hearLease s p e).pending = s.pending ∧
      (hearLease s p e).power.serial = s.power.serial ∧
      (hearLease s p e).power.ident = s.power.ident := by
  unfold hearLease; simp

@[simp] theorem takeBeat_keep (s : State) (p : Beat) (e : Nat) :
    (takeBeat s p e).net.dram = s.net.dram ∧
      (takeBeat s p e).pending = s.pending ∧
      (takeBeat s p e).power.serial = s.power.serial ∧
      (takeBeat s p e).power.ident = s.power.ident := by
  unfold takeBeat; simp

theorem execHeartbeat_keep (h : Hdr) (p : Beat) (s : State) {t' : State} (h1 : execHeartbeat h p s = .next t') :
    t'.net.dram = s.net.dram ∧
      t'.pending = s.pending ∧
      t'.power.serial = s.power.serial ∧
      t'.power.ident = s.power.ident := by
  unfold execHeartbeat at h1
  injection h1 with h1
  subst h1
  refine receive_keep _ _ _ _ _ _ _ _ fun u e => ?_
  simp

theorem execShelfLeavesService_keep (k : Nat) (s : State) {t' : State} (h : execShelfLeavesService k s = .next t') :
    t'.net.dram = s.net.dram ∧
      t'.pending = s.pending ∧
      t'.power.serial = s.power.serial ∧
      t'.power.ident = s.power.ident := by
  simp only [execShelfLeavesService] at h; (repeat' split at h) <;> injection h with h <;> subst h <;> simp

theorem execRectifierHealthChange_keep (mask : Nat) (ratings : List Nat) (s : State) {t' : State} (h : execRectifierHealthChange mask ratings s = .next t') :
    t'.net.dram = s.net.dram ∧
      t'.pending = s.pending ∧
      t'.power.serial = s.power.serial ∧
      t'.power.ident = s.power.ident := by
  unfold execRectifierHealthChange at h; injection h with h; subst h; simp

theorem execFeedLost_keep (volts : List Nat) (s : State) {t' : State} (h : execFeedLost volts s = .next t') :
    t'.net.dram = s.net.dram ∧
      t'.pending = s.pending ∧
      t'.power.serial = s.power.serial ∧
      t'.power.ident = s.power.ident := by
  simp only [execFeedLost] at h; (repeat' split at h) <;> injection h with h <;> subst h <;> simp

theorem execFeedRestored_keep (volts : List Nat) (s : State) {t' : State} (h : execFeedRestored volts s = .next t') :
    t'.net.dram = s.net.dram ∧
      t'.pending = s.pending ∧
      t'.power.serial = s.power.serial ∧
      t'.power.ident = s.power.ident := by
  simp only [execFeedRestored] at h; (repeat' split at h) <;> injection h with h <;> subst h <;> simp

@[simp] theorem sendPace_keep (s : State) :
    (sendPace s).net.dram = s.net.dram ∧
      (sendPace s).pending = s.pending ∧
      (sendPace s).power.serial = s.power.serial ∧
      (sendPace s).power.ident = s.power.ident := by
  unfold sendPace; (repeat' split) <;> simp

@[simp] theorem noteMismatch_keep (s : State) (p : Pace) (e : Nat) :
    (noteMismatch s p e).net.dram = s.net.dram ∧
      (noteMismatch s p e).pending = s.pending ∧
      (noteMismatch s p e).power.serial = s.power.serial ∧
      (noteMismatch s p e).power.ident = s.power.ident := by
  unfold noteMismatch; simp

@[simp] theorem gapMinute_keep (s : State) :
    (gapMinute s).net.dram = s.net.dram ∧
      (gapMinute s).pending = s.pending ∧
      (gapMinute s).power.serial = s.power.serial ∧
      (gapMinute s).power.ident = s.power.ident := by
  unfold gapMinute; simp

@[simp] theorem endWindow_keep (s : State) :
    (endWindow s).net.dram = s.net.dram ∧
      (endWindow s).pending = s.pending ∧
      (endWindow s).power.serial = s.power.serial ∧
      (endWindow s).power.ident = s.power.ident := by
  exact ⟨rfl, rfl, rfl, rfl⟩

@[simp] theorem adoptEpoch_keep (s : State) (e : Nat) :
    (adoptEpoch s e).net.dram = s.net.dram ∧
      (adoptEpoch s e).pending = s.pending ∧
      (adoptEpoch s e).power.serial = s.power.serial ∧
      (adoptEpoch s e).power.ident = s.power.ident := by
  unfold adoptEpoch; simp

@[simp] theorem newLeadIn_keep (s : State) (p : Pace) :
    (newLeadIn s p).net.dram = s.net.dram ∧
      (newLeadIn s p).pending = s.pending ∧
      (newLeadIn s p).power.serial = s.power.serial ∧
      (newLeadIn s p).power.ident = s.power.ident := by
  unfold newLeadIn; simp

@[simp] theorem takePace_keep (s : State) (p : Pace) (e : Nat) :
    (takePace s p e).net.dram = s.net.dram ∧
      (takePace s p e).pending = s.pending ∧
      (takePace s p e).power.serial = s.power.serial ∧
      (takePace s p e).power.ident = s.power.ident := by
  unfold takePace; simp

theorem execPaceFrame_keep (h : Hdr) (p : Pace) (s : State) {t' : State} (h1 : execPaceFrame h p s = .next t') :
    t'.net.dram = s.net.dram ∧
      t'.pending = s.pending ∧
      t'.power.serial = s.power.serial ∧
      t'.power.ident = s.power.ident := by
  unfold execPaceFrame at h1
  injection h1 with h1
  subst h1
  refine receive_keep _ _ _ _ _ _ _ _ fun u e => ?_
  (repeat' split) <;> simp

@[simp] theorem takeUrgent_keep (s : State) (h : Hdr) (p : Cap) (e : Nat) :
    (takeUrgent s h p e).net.dram = s.net.dram ∧
      (takeUrgent s h p e).pending = s.pending ∧
      (takeUrgent s h p e).power.serial = s.power.serial ∧
      (takeUrgent s h p e).power.ident = s.power.ident := by
  unfold takeUrgent; simp

@[simp] theorem takePeriodic_keep (s : State) (p : Cap) (e : Nat) :
    (takePeriodic s p e).net.dram = s.net.dram ∧
      (takePeriodic s p e).pending = s.pending ∧
      (takePeriodic s p e).power.serial = s.power.serial ∧
      (takePeriodic s p e).power.ident = s.power.ident := by
  unfold takePeriodic; simp

theorem execCapFrame_keep (h : Hdr) (p : Cap) (s : State) {t' : State} (h1 : execCapFrame h p s = .next t') :
    t'.net.dram = s.net.dram ∧
      t'.pending = s.pending ∧
      t'.power.serial = s.power.serial ∧
      t'.power.ident = s.power.ident := by
  unfold execCapFrame at h1
  injection h1 with h1
  subst h1
  refine receive_keep _ _ _ _ _ _ _ _ fun u e => ?_
  (repeat' split) <;> simp

theorem execLeadLeaseLapse_keep (s : State) {t' : State} (h : execLeadLeaseLapse s = .next t') :
    t'.net.dram = s.net.dram ∧
      t'.pending = s.pending ∧
      t'.power.serial = s.power.serial ∧
      t'.power.ident = s.power.ident := by
  simp only [execLeadLeaseLapse] at h; (repeat' split at h) <;> injection h with h <;> subst h <;> simp

@[simp] theorem winLead_keep (s : State) (newKey : Nat) :
    (winLead s newKey).net.dram = s.net.dram ∧
      (winLead s newKey).pending = s.pending ∧
      (winLead s newKey).power.serial = s.power.serial ∧
      (winLead s newKey).power.ident = s.power.ident := by
  unfold winLead; simp

theorem execLeadElection_keep (newKey : Nat) (s : State) {t' : State} (h : execLeadElection newKey s = .next t') :
    t'.net.dram = s.net.dram ∧
      t'.pending = s.pending ∧
      t'.power.serial = s.power.serial ∧
      t'.power.ident = s.power.ident := by
  simp only [execLeadElection] at h; (repeat' split at h) <;> injection h with h <;> subst h <;> simp

theorem execLeadMeridianDrive_keep (s : State) {t' : State} (h : execLeadMeridianDrive s = .next t') :
    t'.net.dram = s.net.dram ∧
      t'.pending = s.pending ∧
      t'.power.serial = s.power.serial ∧
      t'.power.ident = s.power.ident := by
  simp only [execLeadMeridianDrive] at h; (repeat' split at h) <;> injection h with h <;> subst h <;> simp

@[simp] theorem throttleOne_keep (s : State) (c : Nat) :
    (throttleOne s c).net.dram = s.net.dram ∧
      (throttleOne s c).pending = s.pending ∧
      (throttleOne s c).power.serial = s.power.serial ∧
      (throttleOne s c).power.ident = s.power.ident := by
  unfold throttleOne; (repeat' split) <;> simp

@[simp] theorem takeReport_keep (s : State) (h : Hdr) (p : Report) :
    (takeReport s h p).net.dram = s.net.dram ∧
      (takeReport s h p).pending = s.pending ∧
      (takeReport s h p).power.serial = s.power.serial ∧
      (takeReport s h p).power.ident = s.power.ident := by
  unfold takeReport; simp

theorem execTrayReport_keep (h : Hdr) (p : Report) (s : State) {t' : State} (h1 : execTrayReport h p s = .next t') :
    t'.net.dram = s.net.dram ∧
      t'.pending = s.pending ∧
      t'.power.serial = s.power.serial ∧
      t'.power.ident = s.power.ident := by
  unfold execTrayReport at h1
  injection h1 with h1
  subst h1
  refine receive_keep _ _ _ _ _ _ _ _ fun u e => ?_
  simp

theorem execThrottleRestore_keep (c : Nat) (s : State) {t' : State} (h : execThrottleRestore c s = .next t') :
    t'.net.dram = s.net.dram ∧
      t'.pending = s.pending ∧
      t'.power.serial = s.power.serial ∧
      t'.power.ident = s.power.ident := by
  simp only [execThrottleRestore] at h; (repeat' split at h) <;> injection h with h <;> subst h <;> simp

@[simp] theorem takeJoin_keep (s : State) (p : Join) :
    (takeJoin s p).net.dram = s.net.dram ∧
      (takeJoin s p).pending = s.pending ∧
      (takeJoin s p).power.serial = s.power.serial ∧
      (takeJoin s p).power.ident = s.power.ident := by
  unfold takeJoin; simp

theorem execJoinFrame_keep (h : Hdr) (p : Join) (s : State) {t' : State} (h1 : execJoinFrame h p s = .next t') :
    t'.net.dram = s.net.dram ∧
      t'.pending = s.pending ∧
      t'.power.serial = s.power.serial ∧
      t'.power.ident = s.power.ident := by
  unfold execJoinFrame at h1
  injection h1 with h1
  subst h1
  refine receive_keep _ _ _ _ _ _ _ _ fun u e => ?_
  simp

theorem execTrayAbsenceLeave_keep (tray : Nat) (s : State) {t' : State} (h : execTrayAbsenceLeave tray s = .next t') :
    t'.net.dram = s.net.dram ∧
      t'.pending = s.pending ∧
      t'.power.serial = s.power.serial ∧
      t'.power.ident = s.power.ident := by
  simp only [execTrayAbsenceLeave] at h; (repeat' split at h) <;> injection h with h <;> subst h <;> simp

/-! ## Sample -/

@[simp] theorem adoptConv_keep (s : State) (x : Str) (k : RecordIn) :
    (adoptConv s x k).net.dram = s.net.dram ∧
      (adoptConv s x k).pending = s.pending ∧
      (adoptConv s x k).power.serial = s.power.serial ∧
      (adoptConv s x k).power.ident = s.power.ident := by
  unfold adoptConv; simp

@[simp] theorem adoptRecord_keep (s : State) (k : RecordIn) :
    (adoptRecord s k).net.dram = s.net.dram ∧
      (adoptRecord s k).pending = s.pending ∧
      (adoptRecord s k).power.serial = s.power.serial ∧
      (adoptRecord s k).power.ident = s.power.ident := by
  unfold adoptRecord; simp

@[simp] theorem adoptDueRecord_keep (s : State) :
    (adoptDueRecord s).net.dram = s.net.dram ∧
      (adoptDueRecord s).pending = s.pending ∧
      (adoptDueRecord s).power.serial = s.power.serial ∧
      (adoptDueRecord s).power.ident = s.power.ident := by
  unfold adoptDueRecord; (repeat' split) <;> simp

@[simp] theorem handoverRelease_keep (s : State) (k : Nat) :
    (handoverRelease s k).net.dram = s.net.dram ∧
      (handoverRelease s k).pending = s.pending ∧
      (handoverRelease s k).power.serial = s.power.serial ∧
      (handoverRelease s k).power.ident = s.power.ident := by
  unfold handoverRelease; (repeat' split) <;> simp

@[simp] theorem finishRelease_keep (s : State) :
    (finishRelease s).net.dram = s.net.dram ∧
      (finishRelease s).pending = s.pending ∧
      (finishRelease s).power.serial = s.power.serial ∧
      (finishRelease s).power.ident = s.power.ident := by
  unfold finishRelease; simp

theorem foldl_fst_keep {α β : Type} (f : State × β → α → State × β)
    (h : ∀ a x, (f a x).1.net.dram = a.1.net.dram ∧ (f a x).1.pending = a.1.pending ∧
      (f a x).1.power.serial = a.1.power.serial ∧ (f a x).1.power.ident = a.1.power.ident) (l : List α) :
    ∀ a : State × β, (l.foldl f a).1.net.dram = a.1.net.dram ∧ (l.foldl f a).1.pending = a.1.pending ∧
      (l.foldl f a).1.power.serial = a.1.power.serial ∧ (l.foldl f a).1.power.ident = a.1.power.ident := by
  induction l with
  | nil => intro a; exact ⟨rfl, rfl, rfl, rfl⟩
  | cons x l ih =>
    intro a
    rw [List.foldl_cons]
    obtain ⟨h1, h2, h3, h4⟩ := ih (f a x)
    obtain ⟨k1, k2, k3, k4⟩ := h a x
    exact ⟨h1.trans k1, h2.trans k2, h3.trans k3, h4.trans k4⟩

@[simp] theorem clampPhases_keep (s : State) (refs : List Int) :
    (clampPhases s refs).1.net.dram = s.net.dram ∧
      (clampPhases s refs).1.pending = s.pending ∧
      (clampPhases s refs).1.power.serial = s.power.serial ∧
      (clampPhases s refs).1.power.ident = s.power.ident := by
  unfold clampPhases
  refine foldl_fst_keep _ (fun a x => ?_) refs _
  dsimp only
  split <;> simp

theorem clampSum_cases (a : State × List Int × Bool) (x : Str) :
    clampSum a x = a ∨ ∃ c q v l, clampSum a x = (violation a.1 c q v, l, true) := by
  unfold clampSum
  dsimp only
  split
  · exact .inl rfl
  · exact .inr ⟨_, _, _, _, rfl⟩

@[simp] theorem clampSum_keep (a : State × List Int × Bool) (x : Str) :
    (clampSum a x).1.net.dram = a.1.net.dram ∧
      (clampSum a x).1.pending = a.1.pending ∧
      (clampSum a x).1.power.serial = a.1.power.serial ∧
      (clampSum a x).1.power.ident = a.1.power.ident := by
  rcases clampSum_cases a x with h | ⟨c, q, v, l, h⟩
  · rw [h]; exact ⟨rfl, rfl, rfl, rfl⟩
  · rw [h]; simp

@[simp] theorem guardRefs_keep (s : State) (refs : List Int) :
    (guardRefs s refs).1.net.dram = s.net.dram ∧
      (guardRefs s refs).1.pending = s.pending ∧
      (guardRefs s refs).1.power.serial = s.power.serial ∧
      (guardRefs s refs).1.power.ident = s.power.ident := by
  simp only [guardRefs]; simp

@[simp] theorem countClean_keep (s : State) (clamped : Bool) :
    (countClean s clamped).net.dram = s.net.dram ∧
      (countClean s clamped).pending = s.pending ∧
      (countClean s clamped).power.serial = s.power.serial ∧
      (countClean s clamped).power.ident = s.power.ident := by
  unfold countClean; simp

theorem latchRefs_shape (s : State) : ∃ u, (u = (guardRefs s s.cot.irefBuf).1 ∨ u = s) ∧
    ∃ (b : List Int) (c : Bool) (l r : List Int), ∃ w, w = countClean { u with cot.irefBuf := b } c ∧
      ∃ g, g = (guardRefs w l).1 ∧ (latchRefs s = w ∨ latchRefs s = g ∨ latchRefs s = { w with cot.iref := r } ∨
        latchRefs s = { g with cot.iref := r }) := by
  unfold latchRefs
  by_cases h : s.lpe.src = 0
  · refine ⟨_, .inl rfl, (guardRefs s s.cot.irefBuf).2.1, (guardRefs s s.cot.irefBuf).2.2, ?_⟩
    simp only [h, if_true]
    generalize countClean _ _ = w
    refine ⟨w.lpe.law, ?_⟩
    (repeat' split)
    all_goals first
      | exact ⟨[], w, rfl, _, rfl, .inl rfl⟩
      | exact ⟨[], w, rfl, _, rfl, .inr (.inl rfl)⟩
      | exact ⟨_, w, rfl, _, rfl, .inr (.inr (.inl rfl))⟩
      | exact ⟨_, w, rfl, _, rfl, .inr (.inr (.inr rfl))⟩
  · refine ⟨_, .inr rfl, s.cot.irefBuf, (guardRefs s s.cot.irefBuf).2.2, ?_⟩
    simp only [h, if_false]
    generalize countClean _ _ = w
    refine ⟨w.lpe.law, ?_⟩
    (repeat' split)
    all_goals first
      | exact ⟨[], w, rfl, _, rfl, .inl rfl⟩
      | exact ⟨[], w, rfl, _, rfl, .inr (.inl rfl)⟩
      | exact ⟨_, w, rfl, _, rfl, .inr (.inr (.inl rfl))⟩
      | exact ⟨_, w, rfl, _, rfl, .inr (.inr (.inr rfl))⟩

@[simp] theorem latchRefs_keep (s : State) :
    (latchRefs s).net.dram = s.net.dram ∧
      (latchRefs s).pending = s.pending ∧
      (latchRefs s).power.serial = s.power.serial ∧
      (latchRefs s).power.ident = s.power.ident := by
  obtain ⟨u, hu, b, c, l, r, w, hw, g, hg, h⟩ := latchRefs_shape s
  have h1 : u.net.dram = s.net.dram ∧ u.pending = s.pending ∧ u.power.serial = s.power.serial ∧
      u.power.ident = s.power.ident := by
    rcases hu with hu | hu <;> rw [hu]
    · exact guardRefs_keep _ _
    · exact ⟨rfl, rfl, rfl, rfl⟩
  have h2 : w.net.dram = s.net.dram ∧ w.pending = s.pending ∧ w.power.serial = s.power.serial ∧
      w.power.ident = s.power.ident := by rw [hw]; simp [h1]
  have h3 : g.net.dram = w.net.dram ∧ g.pending = w.pending ∧ g.power.serial = w.power.serial ∧
      g.power.ident = w.power.ident := by rw [hg]; exact guardRefs_keep _ _
  rcases h with h | h | h | h <;> rw [h] <;> simp [h2, h3]


@[simp] theorem riseVss_keep (s : State) (x : Str) :
    (riseVss s x).net.dram = s.net.dram ∧
      (riseVss s x).pending = s.pending ∧
      (riseVss s x).power.serial = s.power.serial ∧
      (riseVss s x).power.ident = s.power.ident := by
  unfold riseVss; simp

@[simp] theorem rampVnow_keep (s : State) :
    (rampVnow s).net.dram = s.net.dram ∧
      (rampVnow s).pending = s.pending ∧
      (rampVnow s).power.serial = s.power.serial ∧
      (rampVnow s).power.ident = s.power.ident := by
  simp only [rampVnow]; (repeat' split) <;> simp

@[simp] theorem latchInputs_keep (s : State) (i : SampleIn) :
    (latchInputs s i).net.dram = s.net.dram ∧
      (latchInputs s i).pending = s.pending ∧
      (latchInputs s i).power.serial = s.power.serial ∧
      (latchInputs s i).power.ident = s.power.ident := by
  unfold latchInputs; simp

@[simp] theorem blendSample_keep (s : State) (k : Nat) :
    (blendSample s k).net.dram = s.net.dram ∧
      (blendSample s k).pending = s.pending ∧
      (blendSample s k).power.serial = s.power.serial ∧
      (blendSample s k).power.ident = s.power.ident := by
  unfold blendSample; simp

@[simp] theorem rampLimiter_keep (s : State) :
    (rampLimiter s).net.dram = s.net.dram ∧
      (rampLimiter s).pending = s.pending ∧
      (rampLimiter s).power.serial = s.power.serial ∧
      (rampLimiter s).power.ident = s.power.ident := by
  unfold rampLimiter; simp

@[simp] theorem rectWord_keep (s : State) :
    (rectWord s).net.dram = s.net.dram ∧
      (rectWord s).pending = s.pending ∧
      (rectWord s).power.serial = s.power.serial ∧
      (rectWord s).power.ident = s.power.ident := by
  unfold rectWord; simp

@[simp] theorem countDir_keep (s : State) (x : Str) :
    (countDir s x).net.dram = s.net.dram ∧
      (countDir s x).pending = s.pending ∧
      (countDir s x).power.serial = s.power.serial ∧
      (countDir s x).power.ident = s.power.ident := by
  unfold countDir; simp

@[simp] theorem shedSample_keep (s : State) (x : Str) :
    (shedSample s x).net.dram = s.net.dram ∧
      (shedSample s x).pending = s.pending ∧
      (shedSample s x).power.serial = s.power.serial ∧
      (shedSample s x).power.ident = s.power.ident := by
  unfold shedSample; simp

@[simp] theorem shareWarn_keep (s : State) (x : Str) (p : Nat) :
    (shareWarn s x p).net.dram = s.net.dram ∧
      (shareWarn s x p).pending = s.pending ∧
      (shareWarn s x p).power.serial = s.power.serial ∧
      (shareWarn s x p).power.ident = s.power.ident := by
  unfold shareWarn; simp

@[simp] theorem shareString_keep (s : State) (x : Str) :
    (shareString s x).net.dram = s.net.dram ∧
      (shareString s x).pending = s.pending ∧
      (shareString s x).power.serial = s.power.serial ∧
      (shareString s x).power.ident = s.power.ident := by
  unfold shareString; simp

@[simp] theorem shareSample_keep (s : State) :
    (shareSample s).net.dram = s.net.dram ∧
      (shareSample s).pending = s.pending ∧
      (shareSample s).power.serial = s.power.serial ∧
      (shareSample s).power.ident = s.power.ident := by
  unfold shareSample; simp

@[simp] theorem phaseSample_keep (s : State) :
    (phaseSample s).net.dram = s.net.dram ∧
      (phaseSample s).pending = s.pending ∧
      (phaseSample s).power.serial = s.power.serial ∧
      (phaseSample s).power.ident = s.power.ident := by
  unfold phaseSample; simp

@[simp] theorem startPasses_keep (s : State) :
    (startPasses s).net.dram = s.net.dram ∧
      (startPasses s).pending = s.pending ∧
      (startPasses s).power.serial = s.power.serial ∧
      (startPasses s).power.ident = s.power.ident := by
  unfold startPasses; simp

@[simp] theorem sampleWork_keep (s : State) (i : SampleIn) (k : Nat) :
    (sampleWork s i k).net.dram = s.net.dram ∧
      (sampleWork s i k).pending = s.pending ∧
      (sampleWork s i k).power.serial = s.power.serial ∧
      (sampleWork s i k).power.ident = s.power.ident := by
  unfold sampleWork; simp

theorem execLoopSample_keep (i : SampleIn) (s : State) {t' : State} (h : execLoopSample i s = .next t') :
    t'.net.dram = s.net.dram ∧
      t'.pending = s.pending ∧
      t'.power.serial = s.power.serial ∧
      t'.power.ident = s.power.ident := by
  simp only [execLoopSample] at h; (repeat' split at h) <;> injection h with h <;> subst h <;> simp

theorem execPassDeadline_keep (s : State) {t' : State} (h : execPassDeadline s = .next t') :
    t'.net.dram = s.net.dram ∧
      t'.pending = s.pending ∧
      t'.power.serial = s.power.serial ∧
      t'.power.ident = s.power.ident := by
  simp only [execPassDeadline] at h; (repeat' split at h) <;> injection h with h <;> subst h <;> simp

/-! ## Epoch -/

@[simp] theorem exchangePrograms_keep (s : State) (k : Nat) :
    (exchangePrograms s k).net.dram = s.net.dram ∧
      (exchangePrograms s k).pending = s.pending ∧
      (exchangePrograms s k).power.serial = s.power.serial ∧
      (exchangePrograms s k).power.ident = s.power.ident := by
  unfold exchangePrograms; simp

@[simp] theorem applyE_keep (s : State) (p : Pend) :
    (applyE s p).net.dram = s.net.dram ∧
      (applyE s p).pending = s.pending ∧
      (applyE s p).power.serial = s.power.serial ∧
      (applyE s p).power.ident = s.power.ident := by
  unfold applyE; simp

@[simp] theorem classE_keep (s : State) :
    (classE s).net.dram = s.net.dram ∧
      (classE s).pending = s.pending ∧
      (classE s).power.serial = s.power.serial ∧
      (classE s).power.ident = s.power.ident := by
  unfold classE; simp

@[simp] theorem applyM_keep (s : State) (p : Pend) :
    (applyM s p).net.dram = s.net.dram ∧
      (applyM s p).pending = s.pending ∧
      (applyM s p).power.serial = s.power.serial ∧
      (applyM s p).power.ident = s.power.ident := by
  unfold applyM; simp

@[simp] theorem classM_keep (s : State) :
    (classM s).net.dram = s.net.dram ∧
      (classM s).pending = s.pending ∧
      (classM s).power.serial = s.power.serial ∧
      (classM s).power.ident = s.power.ident := by
  unfold classM; simp

@[simp] theorem switchPlan_keep (s : State) :
    (switchPlan s).net.dram = s.net.dram ∧
      (switchPlan s).pending = s.pending ∧
      (switchPlan s).power.serial = s.power.serial ∧
      (switchPlan s).power.ident = s.power.ident := by
  unfold switchPlan; (repeat' split) <;> simp

@[simp] theorem engineBoundary_keep (s : State) (tw : Bool) :
    (engineBoundary s tw).net.dram = s.net.dram ∧
      (engineBoundary s tw).pending = s.pending ∧
      (engineBoundary s tw).power.serial = s.power.serial ∧
      (engineBoundary s tw).power.ident = s.power.ident := by
  unfold engineBoundary; (repeat' split) <;> simp

@[simp] theorem readHost_keep (s : State) :
    (readHost s).net.dram = s.net.dram ∧
      (readHost s).pending = s.pending ∧
      (readHost s).power.serial = s.power.serial ∧
      (readHost s).power.ident = s.power.ident := by
  unfold readHost; simp

@[simp] theorem checkHost_keep (s : State) (e : Nat) :
    (Memory.wf s.net.dram = true → Memory.wf (checkHost s e).net.dram = true) ∧
      (checkHost s e).pending = s.pending ∧
      (checkHost s e).power.serial = s.power.serial ∧
      (checkHost s e).power.ident = s.power.ident := by
  unfold checkHost; refine ⟨fun h => ?_, ?_⟩ <;> (repeat' split) <;> simp [*]

theorem telemetry_cases (s : State) (e : Nat) :
    telemetry s e = s ∨ ∃ a n v k, telemetry s e = { dramPut s a n v with net.telemetry := k } := by
  unfold telemetry
  split
  · exact .inr ⟨_, _, _, _, rfl⟩
  · exact .inl rfl

@[simp] theorem telemetry_keep (s : State) (e : Nat) :
    (Memory.wf s.net.dram = true → Memory.wf (telemetry s e).net.dram = true) ∧
      (telemetry s e).pending = s.pending ∧
      (telemetry s e).power.serial = s.power.serial ∧
      (telemetry s e).power.ident = s.power.ident := by
  rcases telemetry_cases s e with h | ⟨a, n, v, k, h⟩ <;> rw [h]
  · exact ⟨id, rfl, rfl, rfl⟩
  · exact ⟨fun h => wf_memWriteAll _ _ _ h, rfl, rfl, rfl⟩


@[simp] theorem stepSidereal_keep (s : State) :
    (stepSidereal s).net.dram = s.net.dram ∧
      (stepSidereal s).pending = s.pending ∧
      (stepSidereal s).power.serial = s.power.serial ∧
      (stepSidereal s).power.ident = s.power.ident := by
  unfold stepSidereal; simp

@[simp] theorem missBeats_keep (s : State) (n : Nat) :
    (missBeats s n).net.dram = s.net.dram ∧
      (missBeats s n).pending = s.pending ∧
      (missBeats s n).power.serial = s.power.serial ∧
      (missBeats s n).power.ident = s.power.ident := by
  unfold missBeats; simp

@[simp] theorem ageFrozen_keep (s : State) :
    (ageFrozen s).net.dram = s.net.dram ∧
      (ageFrozen s).pending = s.pending ∧
      (ageFrozen s).power.serial = s.power.serial ∧
      (ageFrozen s).power.ident = s.power.ident := by
  unfold ageFrozen; simp

@[simp] theorem turnWindow_keep (s : State) :
    (turnWindow s).net.dram = s.net.dram ∧
      (turnWindow s).pending = s.pending ∧
      (turnWindow s).power.serial = s.power.serial ∧
      (turnWindow s).power.ident = s.power.ident := by
  unfold turnWindow; simp

@[simp] theorem isolatedFlag_keep (s : State) :
    (isolatedFlag s).net.dram = s.net.dram ∧
      (isolatedFlag s).pending = s.pending ∧
      (isolatedFlag s).power.serial = s.power.serial ∧
      (isolatedFlag s).power.ident = s.power.ident := by
  unfold isolatedFlag; simp

@[simp] theorem dueTests_keep (s : State) :
    (dueTests s).net.dram = s.net.dram ∧
      (dueTests s).pending = s.pending ∧
      (dueTests s).power.serial = s.power.serial ∧
      (dueTests s).power.ident = s.power.ident := by
  unfold dueTests; simp

@[simp] theorem fitMinutes_keep (s : State) (minute : Bool) :
    (fitMinutes s minute).net.dram = s.net.dram ∧
      (fitMinutes s minute).pending = s.pending ∧
      (fitMinutes s minute).power.serial = s.power.serial ∧
      (fitMinutes s minute).power.ident = s.power.ident := by
  unfold fitMinutes; simp

@[simp] theorem freshEpoch_keep (s : State) :
    (freshEpoch s).net.dram = s.net.dram ∧
      (freshEpoch s).pending = s.pending ∧
      (freshEpoch s).power.serial = s.power.serial ∧
      (freshEpoch s).power.ident = s.power.ident := by
  unfold freshEpoch; simp

@[simp] theorem meterBoundary_keep (s : State) (e : EpochIn) :
    (meterBoundary s e).net.dram = s.net.dram ∧
      (meterBoundary s e).pending = s.pending ∧
      (meterBoundary s e).power.serial = s.power.serial ∧
      (meterBoundary s e).power.ident = s.power.ident := by
  unfold meterBoundary; simp

@[simp] theorem minuteStep_keep (s : State) :
    (minuteStep s).net.dram = s.net.dram ∧
      (minuteStep s).pending = s.pending ∧
      (minuteStep s).power.serial = s.power.serial ∧
      (minuteStep s).power.ident = s.power.ident := by
  unfold minuteStep; simp

@[simp] theorem periodicCommit_keep (s : State) :
    (periodicCommit s).net.dram = s.net.dram ∧
      (periodicCommit s).pending = s.pending ∧
      (periodicCommit s).power.serial = s.power.serial ∧
      (periodicCommit s).power.ident = s.power.ident := by
  unfold periodicCommit; simp

@[simp] theorem budgets_keep (s : State) (e : EpochIn) :
    (budgets s e).net.dram = s.net.dram ∧
      (budgets s e).pending = s.pending ∧
      (budgets s e).power.serial = s.power.serial ∧
      (budgets s e).power.ident = s.power.ident := by
  unfold budgets; simp

@[simp] theorem formBoundary_keep (s : State) (old : State) (hints : List (Nat × Nat)) :
    (Memory.wf s.net.dram = true → Memory.wf (formBoundary s old hints).net.dram = true) ∧
      (formBoundary s old hints).pending = s.pending ∧
      (formBoundary s old hints).power.serial = s.power.serial ∧
      (formBoundary s old hints).power.ident = s.power.ident := by
  unfold formBoundary; refine ⟨fun h => ?_, ?_⟩ <;> (repeat' split) <;> simp [*]

@[simp] theorem holdEpoch_keep (s : State) :
    (Memory.wf s.net.dram = true → Memory.wf (holdEpoch s).net.dram = true) ∧
      (holdEpoch s).pending = s.pending ∧
      (holdEpoch s).power.serial = s.power.serial ∧
      (holdEpoch s).power.ident = s.power.ident := by
  unfold holdEpoch; refine ⟨fun h => ?_, ?_⟩ <;> (repeat' split) <;> simp [*]

@[simp] theorem advance_keep (s : State) :
    (advance s).net.dram = s.net.dram ∧
      (advance s).pending = s.pending ∧
      (advance s).power.serial = s.power.serial ∧
      (advance s).power.ident = s.power.ident := by
  unfold advance; simp

@[simp] theorem closeEpoch_keep (s : State) (seen : Option (List (Nat × Nat))) :
    (Memory.wf s.net.dram = true → Memory.wf (closeEpoch s seen).net.dram = true) ∧
      (closeEpoch s seen).pending = s.pending ∧
      (closeEpoch s seen).power.serial = s.power.serial ∧
      (closeEpoch s seen).power.ident = s.power.ident := by
  unfold closeEpoch; refine ⟨fun h => ?_, ?_⟩ <;> simp [*]

@[simp] theorem openHoldup_keep (s : State) :
    (openHoldup s).net.dram = s.net.dram ∧
      (openHoldup s).pending = s.pending ∧
      (openHoldup s).power.serial = s.power.serial ∧
      (openHoldup s).power.ident = s.power.ident := by
  unfold openHoldup; simp

@[simp] theorem openEpoch_keep (s : State) (e : EpochIn) :
    (Memory.wf s.net.dram = true → Memory.wf (openEpoch s e).net.dram = true) ∧
      (openEpoch s e).pending = s.pending ∧
      (openEpoch s e).power.serial = s.power.serial ∧
      (openEpoch s e).power.ident = s.power.ident := by
  show Kept s (openEpoch s e)
  unfold openEpoch
  split
  · exact .of_eq (by simp)
  · extract_lets old closed tw s1 hints s2 s3 s4 s5 s6 s7 ld s8 s9 s10 s11 s12 s13 s14 s15 s16
    have k1 : Kept s s1 := .trans (closeEpoch_keep s e.pwm) (.of_eq (by simp [s1]))
    clear_value s1
    have k2 : Kept s1 s2 := .of_eq (by simp [s2])
    clear_value s2
    have k3 : Kept s2 s3 := .of_eq (by simp [s3])
    clear_value s3
    have k4 : Kept s3 s4 := .of_eq (by simp [s4])
    clear_value s4
    have k5 : Kept s4 s5 := .of_eq (by simp [s5])
    clear_value s5
    have k6 : Kept s5 s6 := .of_eq (by simp [s6])
    clear_value s6
    have k7 : Kept s6 s7 := .of_eq (by simp [s7])
    clear_value s7
    have k8 : Kept s7 s8 := .ite _ (.of_eq ⟨rfl, rfl, rfl, rfl⟩) (.refl _)
    clear_value s8
    have k9 : Kept s8 s9 := .of_eq (by simp [s9])
    clear_value s9
    have k10 : Kept s9 s10 := .of_eq (by simp [s10])
    clear_value s10
    have k11 : Kept s10 s11 := .of_eq (by simp [s11])
    clear_value s11
    have k12 : Kept s11 s12 :=
      Kept.trans (b := checkHost s11 closed) (checkHost_keep s11 closed) (Kept.of_eq (readHost_keep (checkHost s11 closed)))
    clear_value s12
    have k13 : Kept s12 s13 := holdEpoch_keep s12
    clear_value s13
    have k14 : Kept s13 s14 := formBoundary_keep s13 old hints
    clear_value s14
    have k15 : Kept s14 s15 := .of_eq (by simp [s15])
    clear_value s15
    have k16 : Kept s15 s16 := .of_eq (by simp [s16])
    clear_value s16
    have k : Kept s s16 := k1.trans (k2.trans (k3.trans (k4.trans (k5.trans (k6.trans (k7.trans (k8.trans (k9.trans
      (k10.trans (k11.trans (k12.trans (k13.trans (k14.trans (k15.trans k16))))))))))))))
    exact k.trans (.of_eq (by simp))

@[simp] theorem correctGrid_keep (s : State) (err : Int) :
    (correctGrid s err).net.dram = s.net.dram ∧
      (correctGrid s err).pending = s.pending ∧
      (correctGrid s err).power.serial = s.power.serial ∧
      (correctGrid s err).power.ident = s.power.ident := by
  unfold correctGrid; simp

@[simp] theorem firstPulse_keep (s : State) (p : PulseIn) :
    (Memory.wf s.net.dram = true → Memory.wf (firstPulse s p).net.dram = true) ∧
      (firstPulse s p).pending = s.pending ∧
      (firstPulse s p).power.serial = s.power.serial ∧
      (firstPulse s p).power.ident = s.power.ident := by
  unfold firstPulse; refine ⟨fun h => ?_, ?_⟩ <;> (repeat' split) <;> simp [*]

theorem execMeridianPulse_keep (p : PulseIn) (s : State) {t' : State} (h : execMeridianPulse p s = .next t') :
    (Memory.wf s.net.dram = true → Memory.wf t'.net.dram = true) ∧
      t'.pending = s.pending ∧
      t'.power.serial = s.power.serial ∧
      t'.power.ident = s.power.ident := by
  simp only [execMeridianPulse] at h; (repeat' split at h) <;> injection h with h <;> subst h <;> refine ⟨fun h => ?_, ?_⟩ <;> simp [*]

theorem execMissedPulse_keep (e : EpochIn) (s : State) {t' : State} (h : execMissedPulse e s = .next t') :
    (Memory.wf s.net.dram = true → Memory.wf t'.net.dram = true) ∧
      t'.pending = s.pending ∧
      t'.power.serial = s.power.serial ∧
      t'.power.ident = s.power.ident := by
  simp only [execMissedPulse] at h; (repeat' split at h) <;> injection h with h <;> subst h <;> refine ⟨fun h => ?_, ?_⟩ <;> simp [*]

theorem execEpochOwnGridOpen_keep (e : EpochIn) (s : State) {t' : State} (h : execEpochOwnGridOpen e s = .next t') :
    (Memory.wf s.net.dram = true → Memory.wf t'.net.dram = true) ∧
      t'.pending = s.pending ∧
      t'.power.serial = s.power.serial ∧
      t'.power.ident = s.power.ident := by
  simp only [execEpochOwnGridOpen] at h; (repeat' split at h) <;> injection h with h <;> subst h <;> refine ⟨fun h => ?_, ?_⟩ <;> simp [*]

@[simp] theorem engineTwilight_keep (s : State) :
    (engineTwilight s).net.dram = s.net.dram ∧
      (engineTwilight s).pending = s.pending ∧
      (engineTwilight s).power.serial = s.power.serial ∧
      (engineTwilight s).power.ident = s.power.ident := by
  unfold engineTwilight; simp

@[simp] theorem settle_keep (s : State) :
    (settle s).net.dram = s.net.dram ∧
      (settle s).pending = s.pending ∧
      (settle s).power.serial = s.power.serial ∧
      (settle s).power.ident = s.power.ident := by
  unfold settle; simp

theorem execTwilightStart_keep (s : State) {t' : State} (h : execTwilightStart s = .next t') :
    (Memory.wf s.net.dram = true → Memory.wf t'.net.dram = true) ∧
      t'.pending = s.pending ∧
      t'.power.serial = s.power.serial ∧
      t'.power.ident = s.power.ident := by
  simp only [execTwilightStart] at h; (repeat' split at h) <;> injection h with h <;> subst h <;> refine ⟨fun h => ?_, ?_⟩ <;> simp [*]

/-! ## Attribution -/

@[simp] theorem addCounter_keep (s : State) (k : Nat) (n : Nat) :
    (addCounter s k n).net.dram = s.net.dram ∧
      (addCounter s k n).pending = s.pending ∧
      (addCounter s k n).power.serial = s.power.serial ∧
      (addCounter s k n).power.ident = s.power.ident := by
  unfold addCounter; simp

@[simp] theorem lateSlot_keep (s : State) (t : Nat) (k : Nat) :
    (Memory.wf s.net.dram = true → Memory.wf (lateSlot s t k).net.dram = true) ∧
      (lateSlot s t k).pending = s.pending ∧
      (lateSlot s t k).power.serial = s.power.serial ∧
      (lateSlot s t k).power.ident = s.power.ident := by
  unfold lateSlot; refine ⟨fun h => ?_, ?_⟩ <;> (repeat' split) <;> simp [*]

@[simp] theorem clearTray_keep (s : State) (t : Nat) (w : Nat) :
    (Memory.wf s.net.dram = true → Memory.wf (clearTray s t w).net.dram = true) ∧
      (clearTray s t w).pending = s.pending ∧
      (clearTray s t w).power.serial = s.power.serial ∧
      (clearTray s t w).power.ident = s.power.ident :=
  Kept.trans (b := dramBytes s (inboxSlot t w) [0#8]) (dramBytes_keep s (inboxSlot t w) [0#8])
    (Kept.foldl (fun s k => lateSlot s t k) (fun s k => lateSlot_keep s t k) [w + 1, w + 2, w + 3]
      (dramBytes s (inboxSlot t w) [0#8]))


@[simp] theorem takeRecord_keep (s : State) (t : Nat) (w : Nat) :
    (takeRecord s t w).net.dram = s.net.dram ∧
      (takeRecord s t w).pending = s.pending ∧
      (takeRecord s t w).power.serial = s.power.serial ∧
      (takeRecord s t w).power.ident = s.power.ident := by
  unfold takeRecord; simp

@[simp] theorem missRecord_keep (s : State) (t : Nat) :
    (missRecord s t).net.dram = s.net.dram ∧
      (missRecord s t).pending = s.pending ∧
      (missRecord s t).power.serial = s.power.serial ∧
      (missRecord s t).power.ident = s.power.ident := by
  unfold missRecord; simp

@[simp] theorem setEntry_keep (s : State) (i : Nat) (flags : Nat) (report : Option Nat) :
    (setEntry s i flags report).net.dram = s.net.dram ∧
      (setEntry s i flags report).pending = s.pending ∧
      (setEntry s i flags report).power.serial = s.power.serial ∧
      (setEntry s i flags report).power.ident = s.power.ident := by
  unfold setEntry; simp

@[simp] theorem flagSlot_keep (s : State) (slot : Nat) (flags : Nat) (report : Option Nat) :
    (flagSlot s slot flags report).net.dram = s.net.dram ∧
      (flagSlot s slot flags report).pending = s.pending ∧
      (flagSlot s slot flags report).power.serial = s.power.serial ∧
      (flagSlot s slot flags report).power.ident = s.power.ident := by
  unfold flagSlot; simp

@[simp] theorem flagTray_keep (s : State) (moved : SMap) (t : Nat) (w : Nat) :
    (flagTray s moved t w).net.dram = s.net.dram ∧
      (flagTray s moved t w).pending = s.pending ∧
      (flagTray s moved t w).power.serial = s.power.serial ∧
      (flagTray s moved t w).power.ident = s.power.ident := by
  unfold flagTray; simp

@[simp] theorem addEntry_keep (s : State) (i : Nat) (e : Nat) :
    (addEntry s i e).net.dram = s.net.dram ∧
      (addEntry s i e).pending = s.pending ∧
      (addEntry s i e).power.serial = s.power.serial ∧
      (addEntry s i e).power.ident = s.power.ident := by
  unfold addEntry; simp

@[simp] theorem setCounter_keep (s : State) (k : Nat) (v : Int) :
    (setCounter s k v).net.dram = s.net.dram ∧
      (setCounter s k v).pending = s.pending ∧
      (setCounter s k v).power.serial = s.power.serial ∧
      (setCounter s k v).power.ident = s.power.ident := by
  unfold setCounter; simp

@[simp] theorem distribute_keep (s : State) (m : SMap) :
    (distribute s m).net.dram = s.net.dram ∧
      (distribute s m).pending = s.pending ∧
      (distribute s m).power.serial = s.power.serial ∧
      (distribute s m).power.ident = s.power.ident := by
  unfold distribute; simp

@[simp] theorem chipPowers_keep (s : State) (m : SMap) :
    (chipPowers s m).net.dram = s.net.dram ∧
      (chipPowers s m).pending = s.pending ∧
      (chipPowers s m).power.serial = s.power.serial ∧
      (chipPowers s m).power.ident = s.power.ident := by
  unfold chipPowers; simp

@[simp] theorem observe_keep (s : State) (c : Nat) (n : Nat) :
    (observe s c n).net.dram = s.net.dram ∧
      (observe s c n).pending = s.pending ∧
      (observe s c n).power.serial = s.power.serial ∧
      (observe s c n).power.ident = s.power.ident := by
  unfold observe; simp

@[simp] theorem learnSteps_keep (s : State) (c : Nat) :
    (learnSteps s c).net.dram = s.net.dram ∧
      (learnSteps s c).pending = s.pending ∧
      (learnSteps s c).power.serial = s.power.serial ∧
      (learnSteps s c).power.ident = s.power.ident := by
  unfold learnSteps; simp

@[simp] theorem ratesPerSecond_keep (s : State) :
    (ratesPerSecond s).net.dram = s.net.dram ∧
      (ratesPerSecond s).pending = s.pending ∧
      (ratesPerSecond s).power.serial = s.power.serial ∧
      (ratesPerSecond s).power.ident = s.power.ident := by
  unfold ratesPerSecond; simp

@[simp] theorem attrView_keep (s : State) (stop : Nat) :
    (Memory.wf s.net.dram = true → Memory.wf (attrView s stop).net.dram = true) ∧
      (attrView s stop).pending = s.pending ∧
      (attrView s stop).power.serial = s.power.serial ∧
      (attrView s stop).power.ident = s.power.ident := by
  show Kept s (attrView s stop)
  unfold attrView
  refine Kept.trans ?_ (Kept.foldl _ (fun s p => dramPut_keep s _ _ _) _ _)
  refine Kept.trans ?_ (Kept.foldl _ (fun s p => dramPut_keep s _ _ _) _ _)
  exact Kept.trans (dramPut_keep s _ _ _) (dramPut_keep _ _ _ _)


@[simp] theorem foldTray_keep (s : State) (w : Nat) (t : Nat) :
    (Memory.wf s.net.dram = true → Memory.wf (foldTray s w t).net.dram = true) ∧
      (foldTray s w t).pending = s.pending ∧
      (foldTray s w t).power.serial = s.power.serial ∧
      (foldTray s w t).power.ident = s.power.ident := by
  unfold foldTray; refine ⟨fun h => ?_, ?_⟩ <;> (repeat' split) <;> simp [*]

@[simp] theorem foldTrays_keep (s : State) (w : Nat) :
    (Memory.wf s.net.dram = true → Memory.wf (foldTrays s w).net.dram = true) ∧
      (foldTrays s w).pending = s.pending ∧
      (foldTrays s w).power.serial = s.power.serial ∧
      (foldTrays s w).power.ident = s.power.ident := by
  show Kept s (foldTrays s w)
  unfold foldTrays
  generalize upTo 128 = l
  have h : ∀ (l : List Nat) (s : State), Kept s (l.foldl (fun s t => foldTray s w t) s) :=
    Kept.foldl (fun s t => foldTray s w t) (fun s t => foldTray_keep s w t)
  exact Kept.trans (b := { s with lead.stepRate := List.replicate 16 0 }) (Kept.of_eq ⟨rfl, rfl, rfl, rfl⟩) (h l _)


@[simp] theorem flagTrays_keep (s : State) (moved : SMap) (w : Nat) :
    (flagTrays s moved w).net.dram = s.net.dram ∧
      (flagTrays s moved w).pending = s.pending ∧
      (flagTrays s moved w).power.serial = s.power.serial ∧
      (flagTrays s moved w).power.ident = s.power.ident := by
  unfold flagTrays
  generalize List.filter (trayKnown s) (upTo 128) = l
  induction l generalizing s with
  | nil => exact ⟨rfl, rfl, rfl, rfl⟩
  | cons a l ih => rw [List.foldl_cons]; simp [ih]


@[simp] theorem learnAll_keep (s : State) :
    (learnAll s).net.dram = s.net.dram ∧
      (learnAll s).pending = s.pending ∧
      (learnAll s).power.serial = s.power.serial ∧
      (learnAll s).power.ident = s.power.ident := by
  unfold learnAll
  generalize upTo 16 = l
  have h : ∀ s : State, (l.foldl learnSteps s).net.dram = s.net.dram ∧ (l.foldl learnSteps s).pending = s.pending ∧
      (l.foldl learnSteps s).power.serial = s.power.serial ∧ (l.foldl learnSteps s).power.ident = s.power.ident := by
    induction l with
    | nil => intro s; exact ⟨rfl, rfl, rfl, rfl⟩
    | cons a l ih => intro s; rw [List.foldl_cons]; simp [ih]
  simp [h]


@[simp] theorem foldedTo_keep (s : State) (stop : Nat) :
    (Memory.wf s.net.dram = true → Memory.wf (foldedTo s stop).net.dram = true) ∧
      (foldedTo s stop).pending = s.pending ∧
      (foldedTo s stop).power.serial = s.power.serial ∧
      (foldedTo s stop).power.ident = s.power.ident :=
  attrView_keep { s with lead.foldEnd := stop } stop


@[simp] theorem foldWindow_keep (s : State) (w : Nat) :
    (Memory.wf s.net.dram = true → Memory.wf (foldWindow s w).net.dram = true) ∧
      (foldWindow s w).pending = s.pending ∧
      (foldWindow s w).power.serial = s.power.serial ∧
      (foldWindow s w).power.ident = s.power.ident := by
  have h : ∃ moved m n, foldWindow s w =
      foldedTo (learnAll (distribute (chipPowers (addCounter (flagTrays (foldTrays s w) moved w) 3 n) m) m)) (10 * w + 10) :=
    ⟨_, _, _, rfl⟩
  obtain ⟨moved, m, n, h⟩ := h
  rw [h]
  have h1 : Kept (foldTrays s w)
      (learnAll (distribute (chipPowers (addCounter (flagTrays (foldTrays s w) moved w) 3 n) m) m)) := .of_eq (by simp)
  exact (Kept.trans (foldTrays_keep s w) h1).trans (foldedTo_keep _ _)


theorem execAttributionFold_keep (s : State) {t' : State} (h : execAttributionFold s = .next t') :
    (Memory.wf s.net.dram = true → Memory.wf t'.net.dram = true) ∧
      t'.pending = s.pending ∧
      t'.power.serial = s.power.serial ∧
      t'.power.ident = s.power.ident := by
  simp only [execAttributionFold] at h; (repeat' split at h) <;> injection h with h <;> subst h <;> refine ⟨fun h => ?_, ?_⟩ <;> simp [*]

end Sys2Proof.Machine
end

