-- ==== Sys2Proof/Laws/KeepDictionary.lean ====
section
/-! SUPPORT. What a step keeps, function by function: the canonical form of the DRAM (or the DRAM itself), the queue of
commands and the identity of the module. This file: security, the dictionary, the CXL port and the registers. -/
namespace Sys2Proof.Machine

/-! ## Security -/

@[simp] theorem countVerify_keep (s : State) (code : Nat) :
    (countVerify s code).net.dram = s.net.dram ∧
      (countVerify s code).pending = s.pending ∧
      (countVerify s code).power.serial = s.power.serial ∧
      (countVerify s code).power.ident = s.power.ident := by
  unfold countVerify; simp

@[simp] theorem reserveBlock_keep (s : State) :
    (reserveBlock s).net.dram = s.net.dram ∧
      (reserveBlock s).pending = s.pending ∧
      (reserveBlock s).power.serial = s.power.serial ∧
      (reserveBlock s).power.ident = s.power.ident := by
  unfold reserveBlock; simp

@[simp] theorem leafRecords_keep (s : State) :
    (leafRecords s).net.dram = s.net.dram ∧
      (leafRecords s).pending = s.pending ∧
      (leafRecords s).power.serial = s.power.serial ∧
      (leafRecords s).power.ident = s.power.ident := by
  unfold leafRecords; simp

@[simp] theorem publishSigned_keep (s : State) (j : SignJob) :
    (publishSigned s j).net.dram = s.net.dram ∧
      (publishSigned s j).pending = s.pending ∧
      (publishSigned s j).power.serial = s.power.serial ∧
      (publishSigned s j).power.ident = s.power.ident := by
  unfold publishSigned; simp

theorem execSignatureComplete_keep (s : State) {t' : State} (h : execSignatureComplete s = .next t') :
    t'.net.dram = s.net.dram ∧
      t'.pending = s.pending ∧
      t'.power.serial = s.power.serial ∧
      t'.power.ident = s.power.ident := by
  simp only [execSignatureComplete] at h; (repeat' split at h) <;> injection h with h <;> subst h <;> simp

theorem execLowerTreeBuild_keep (s : State) {t' : State} (h : execLowerTreeBuild s = .next t') :
    t'.net.dram = s.net.dram ∧
      t'.pending = s.pending ∧
      t'.power.serial = s.power.serial ∧
      t'.power.ident = s.power.ident := by
  unfold execLowerTreeBuild at h; injection h with h; subst h; simp

@[simp] theorem countDay_keep (s : State) (role : Role) :
    (countDay s role).net.dram = s.net.dram ∧
      (countDay s role).pending = s.pending ∧
      (countDay s role).power.serial = s.power.serial ∧
      (countDay s role).power.ident = s.power.ident := by
  unfold countDay; simp

@[simp] theorem requestEvidence_keep (s : State) (role : Role) (nonce : Nat) :
    (requestEvidence s role nonce).net.dram = s.net.dram ∧
      (requestEvidence s role nonce).pending = s.pending ∧
      (requestEvidence s role nonce).power.serial = s.power.serial ∧
      (requestEvidence s role nonce).power.ident = s.power.ident := by
  unfold requestEvidence; simp

@[simp] theorem requestSeal_keep (s : State) (role : Role) (v : Nat) :
    (requestSeal s role v).net.dram = s.net.dram ∧
      (requestSeal s role v).pending = s.pending ∧
      (requestSeal s role v).power.serial = s.power.serial ∧
      (requestSeal s role v).power.ident = s.power.ident := by
  unfold requestSeal; simp

@[simp] theorem passEnd_keep (s : State) :
    (passEnd s).net.dram = s.net.dram ∧
      (passEnd s).pending = s.pending ∧
      (passEnd s).power.serial = s.power.serial ∧
      (passEnd s).power.ident = s.power.ident := by
  unfold passEnd; simp

@[simp] theorem closeSessions_keep (s : State) (f : Session → Bool) :
    (closeSessions s f).net.dram = s.net.dram ∧
      (closeSessions s f).pending = s.pending ∧
      (closeSessions s f).power.serial = s.power.serial ∧
      (closeSessions s f).power.ident = s.power.ident := by
  unfold closeSessions; simp

@[simp] theorem contractEnds_keep (s : State) :
    (contractEnds s).net.dram = s.net.dram ∧
      (contractEnds s).pending = s.pending ∧
      (contractEnds s).power.serial = s.power.serial ∧
      (contractEnds s).power.ident = s.power.ident := by
  exact ⟨rfl, rfl, rfl, rfl⟩

@[simp] theorem enrolKey_keep (s : State) (v : Nat) :
    (enrolKey s v).net.dram = s.net.dram ∧
      (enrolKey s v).pending = s.pending ∧
      (enrolKey s v).power.serial = s.power.serial ∧
      (enrolKey s v).power.ident = s.power.ident := by
  unfold enrolKey; simp

@[simp] theorem adoptPeer_keep (s : State) (v : Nat) :
    (adoptPeer s v).net.dram = s.net.dram ∧
      (adoptPeer s v).pending = s.pending ∧
      (adoptPeer s v).power.serial = s.power.serial ∧
      (adoptPeer s v).power.ident = s.power.ident := by
  unfold adoptPeer; simp

@[simp] theorem setBank_keep (s : State) (b : Bool) (k : Bank) :
    (setBank s b k).net.dram = s.net.dram ∧
      (setBank s b k).pending = s.pending ∧
      (setBank s b k).power.serial = s.power.serial ∧
      (setBank s b k).power.ident = s.power.ident := by
  unfold setBank; simp

@[simp] theorem loadBank_keep (s : State) (r : Reader) (len : Nat) :
    (loadBank s r len).net.dram = s.net.dram ∧
      (loadBank s r len).pending = s.pending ∧
      (loadBank s r len).power.serial = s.power.serial ∧
      (loadBank s r len).power.ident = s.power.ident := by
  unfold loadBank; simp

@[simp] theorem activate_keep (s : State) (b : Bool) :
    (activate s b).net.dram = s.net.dram ∧
      (activate s b).pending = s.pending ∧
      (activate s b).power.serial = s.power.serial ∧
      (activate s b).power.ident = s.power.ident := by
  unfold activate; simp

@[simp] theorem endTrial_keep (s : State) :
    (endTrial s).net.dram = s.net.dram ∧
      (endTrial s).pending = s.pending ∧
      (endTrial s).power.serial = s.power.serial ∧
      (endTrial s).power.ident = s.power.ident := by
  unfold endTrial; simp

theorem execTrialBootFailed_keep (s : State) {t' : State} (h : execTrialBootFailed s = .next t') :
    t'.net.dram = s.net.dram ∧
      t'.pending = s.pending ∧
      t'.power.serial = s.power.serial ∧
      t'.power.ident = s.power.ident := by
  simp only [execTrialBootFailed] at h; (repeat' split at h) <;> injection h with h <;> subst h <;> simp

theorem execTrialAutoCommit_keep (s : State) {t' : State} (h : execTrialAutoCommit s = .next t') :
    t'.net.dram = s.net.dram ∧
      t'.pending = s.pending ∧
      t'.power.serial = s.power.serial ∧
      t'.power.ident = s.power.ident := by
  simp only [execTrialAutoCommit] at h; (repeat' split at h) <;> injection h with h <;> subst h <;> simp

@[simp] theorem openSession_keep (s : State) (q : SessIn) (r : Role) :
    (openSession s q r).net.dram = s.net.dram ∧
      (openSession s q r).pending = s.pending ∧
      (openSession s q r).power.serial = s.power.serial ∧
      (openSession s q r).power.ident = s.power.ident := by
  unfold openSession; simp

@[simp] theorem refuseSession_keep (s : State) (q : SessIn) (c : Nat) :
    (refuseSession s q c).net.dram = s.net.dram ∧
      (refuseSession s q c).pending = s.pending ∧
      (refuseSession s q c).power.serial = s.power.serial ∧
      (refuseSession s q c).power.ident = s.power.ident := by
  unfold refuseSession; simp

@[simp] theorem keepSegment_keep (s : State) (q : SessIn) :
    (keepSegment s q).net.dram = s.net.dram ∧
      (keepSegment s q).pending = s.pending ∧
      (keepSegment s q).power.serial = s.power.serial ∧
      (keepSegment s q).power.ident = s.power.ident := by
  unfold keepSegment; (repeat' split) <;> simp

@[simp] theorem sendOpened_keep (s : State) (q : SessIn) :
    (sendOpened s q).net.dram = s.net.dram ∧
      (sendOpened s q).pending = s.pending ∧
      (sendOpened s q).power.serial = s.power.serial ∧
      (sendOpened s q).power.ident = s.power.ident := by
  unfold sendOpened; (repeat' split) <;> simp

theorem execSessionOpen_keep (q : SessIn) (s : State) {t' : State} (h : execSessionOpen q s = .next t') :
    t'.net.dram = s.net.dram ∧
      t'.pending = s.pending ∧
      t'.power.serial = s.power.serial ∧
      t'.power.ident = s.power.ident := by
  simp only [execSessionOpen] at h; (repeat' split at h) <;> injection h with h <;> subst h <;> simp

theorem execSessionOpenReassemblyTimeout_keep (s : State) {t' : State} (h : execSessionOpenReassemblyTimeout s = .next t') :
    t'.net.dram = s.net.dram ∧
      t'.pending = s.pending ∧
      t'.power.serial = s.power.serial ∧
      t'.power.ident = s.power.ident := by
  unfold execSessionOpenReassemblyTimeout at h; injection h with h; subst h; simp

theorem execSessionExpiry_keep (n : Nat) (s : State) {t' : State} (h : execSessionExpiry n s = .next t') :
    t'.net.dram = s.net.dram ∧
      t'.pending = s.pending ∧
      t'.power.serial = s.power.serial ∧
      t'.power.ident = s.power.ident := by
  unfold execSessionExpiry at h; injection h with h; subst h; simp

@[simp] theorem updSession_keep (s : State) (n : Nat) (f : Session → Session) :
    (updSession s n f).net.dram = s.net.dram ∧
      (updSession s n f).pending = s.pending ∧
      (updSession s n f).power.serial = s.power.serial ∧
      (updSession s n f).power.ident = s.power.ident := by
  unfold updSession; simp

@[simp] theorem authFailed_keep (s : State) (k : Session) :
    (authFailed s k).net.dram = s.net.dram ∧
      (authFailed s k).pending = s.pending ∧
      (authFailed s k).power.serial = s.power.serial ∧
      (authFailed s k).power.ident = s.power.ident := by
  unfold authFailed; simp

@[simp] theorem closeUnlocked_keep (s : State) :
    (closeUnlocked s).net.dram = s.net.dram ∧
      (closeUnlocked s).pending = s.pending ∧
      (closeUnlocked s).power.serial = s.power.serial ∧
      (closeUnlocked s).power.ident = s.power.ident := by
  unfold closeUnlocked; simp

@[simp] theorem endGrant_keep (s : State) (role : Nat) :
    (endGrant s role).net.dram = s.net.dram ∧
      (endGrant s role).pending = s.pending ∧
      (endGrant s role).power.serial = s.power.serial ∧
      (endGrant s role).power.ident = s.power.ident := by
  unfold endGrant; (repeat' split) <;> simp

@[simp] theorem newChallenge_keep (s : State) :
    (newChallenge s).net.dram = s.net.dram ∧
      (newChallenge s).pending = s.pending ∧
      (newChallenge s).power.serial = s.power.serial ∧
      (newChallenge s).power.ident = s.power.ident := by
  unfold newChallenge; simp

@[simp] theorem beginGrant_keep (s : State) (v : Nat) (len : Nat) :
    (beginGrant s v len).net.dram = s.net.dram ∧
      (beginGrant s v len).pending = s.pending ∧
      (beginGrant s v len).power.serial = s.power.serial ∧
      (beginGrant s v len).power.ident = s.power.ident := by
  unfold beginGrant; simp

theorem execUnlockExpiry_keep (s : State) {t' : State} (h : execUnlockExpiry s = .next t') :
    t'.net.dram = s.net.dram ∧
      t'.pending = s.pending ∧
      t'.power.serial = s.power.serial ∧
      t'.power.ident = s.power.ident := by
  simp only [execUnlockExpiry] at h; (repeat' split at h) <;> injection h with h <;> subst h <;> simp

theorem execChallengeExpiry_keep (s : State) {t' : State} (h : execChallengeExpiry s = .next t') :
    t'.net.dram = s.net.dram ∧
      t'.pending = s.pending ∧
      t'.power.serial = s.power.serial ∧
      t'.power.ident = s.power.ident := by
  simp only [execChallengeExpiry] at h; (repeat' split at h) <;> injection h with h <;> subst h <;> simp

@[simp] theorem attemptFailed_keep (s : State) :
    (attemptFailed s).net.dram = s.net.dram ∧
      (attemptFailed s).pending = s.pending ∧
      (attemptFailed s).power.serial = s.power.serial ∧
      (attemptFailed s).power.ident = s.power.ident := by
  unfold attemptFailed; simp

@[simp] theorem promote_keep (s : State) (n : Nat) :
    (promote s n).net.dram = s.net.dram ∧
      (promote s n).pending = s.pending ∧
      (promote s n).power.serial = s.power.serial ∧
      (promote s n).power.ident = s.power.ident := by
  unfold promote; simp

theorem execPassphraseRefusalEnd_keep (s : State) {t' : State} (h : execPassphraseRefusalEnd s = .next t') :
    t'.net.dram = s.net.dram ∧
      t'.pending = s.pending ∧
      t'.power.serial = s.power.serial ∧
      t'.power.ident = s.power.ident := by
  simp only [execPassphraseRefusalEnd] at h; (repeat' split at h) <;> injection h with h <;> subst h <;> simp

theorem execPassphraseDurationEnd_keep (n : Nat) (s : State) {t' : State} (h : execPassphraseDurationEnd n s = .next t') :
    t'.net.dram = s.net.dram ∧
      t'.pending = s.pending ∧
      t'.power.serial = s.power.serial ∧
      t'.power.ident = s.power.ident := by
  simp only [execPassphraseDurationEnd] at h; (repeat' split at h) <;> injection h with h <;> subst h <;> simp

theorem execEntropyStop_keep (s : State) {t' : State} (h : execEntropyStop s = .next t') :
    t'.net.dram = s.net.dram ∧
      t'.pending = s.pending ∧
      t'.power.serial = s.power.serial ∧
      t'.power.ident = s.power.ident := by
  simp only [execEntropyStop] at h; (repeat' split at h) <;> injection h with h <;> subst h <;> simp

theorem execEntropyResume_keep (s : State) {t' : State} (h : execEntropyResume s = .next t') :
    t'.net.dram = s.net.dram ∧
      t'.pending = s.pending ∧
      t'.power.serial = s.power.serial ∧
      t'.power.ident = s.power.ident := by
  unfold execEntropyResume at h; injection h with h; subst h; simp

/-! ## Effects -/

@[simp] theorem storeAll_keep (s : State) (o : Nat) (first : Nat) (vals : List Nat) :
    (storeAll s o first vals).net.dram = s.net.dram ∧
      (storeAll s o first vals).pending = s.pending ∧
      (storeAll s o first vals).power.serial = s.power.serial ∧
      (storeAll s o first vals).power.ident = s.power.ident := by
  unfold storeAll; simp

@[simp] theorem pendAll_keep (s : State) (o : Nat) (first : Nat) (cls : Nat) (vals : List Nat) :
    (pendAll s o first cls vals).net.dram = s.net.dram ∧
      (pendAll s o first cls vals).pending = s.pending ∧
      (pendAll s o first cls vals).power.serial = s.power.serial ∧
      (pendAll s o first cls vals).power.ident = s.power.ident := by
  unfold pendAll; simp

@[simp] theorem grantAuth_keep (s : State) (b : Nat) :
    (grantAuth s b).net.dram = s.net.dram ∧
      (grantAuth s b).pending = s.pending ∧
      (grantAuth s b).power.serial = s.power.serial ∧
      (grantAuth s b).power.ident = s.power.ident := by
  unfold grantAuth; simp

@[simp] theorem acceptCap_keep (s : State) (role : Nat) (v : Nat) :
    (acceptCap s role v).net.dram = s.net.dram ∧
      (acceptCap s role v).pending = s.pending ∧
      (acceptCap s role v).power.serial = s.power.serial ∧
      (acceptCap s role v).power.ident = s.power.ident := by
  unfold acceptCap; simp

@[simp] theorem acceptAnnouncement_keep (s : State) (role : Nat) (v : Nat) :
    (acceptAnnouncement s role v).net.dram = s.net.dram ∧
      (acceptAnnouncement s role v).pending = s.pending ∧
      (acceptAnnouncement s role v).power.serial = s.power.serial ∧
      (acceptAnnouncement s role v).power.ident = s.power.ident := by
  unfold acceptAnnouncement; simp

@[simp] theorem acceptAnswer_keep (s : State) (v : Nat) :
    (acceptAnswer s v).net.dram = s.net.dram ∧
      (acceptAnswer s v).pending = s.pending ∧
      (acceptAnswer s v).power.serial = s.power.serial ∧
      (acceptAnswer s v).power.ident = s.power.ident := by
  unfold acceptAnswer; simp

@[simp] theorem acceptLatchClear_keep (s : State) (v : Nat) :
    (acceptLatchClear s v).net.dram = s.net.dram ∧
      (acceptLatchClear s v).pending = s.pending ∧
      (acceptLatchClear s v).power.serial = s.power.serial ∧
      (acceptLatchClear s v).power.ident = s.power.ident := by
  unfold acceptLatchClear; simp

@[simp] theorem acceptIntLayer_keep (s : State) (v : Nat) :
    (acceptIntLayer s v).net.dram = s.net.dram ∧
      (acceptIntLayer s v).pending = s.pending ∧
      (acceptIntLayer s v).power.serial = s.power.serial ∧
      (acceptIntLayer s v).power.ident = s.power.ident := by
  unfold acceptIntLayer; simp

@[simp] theorem acceptOwnLayer_keep (s : State) (v : Nat) :
    (acceptOwnLayer s v).net.dram = s.net.dram ∧
      (acceptOwnLayer s v).pending = s.pending ∧
      (acceptOwnLayer s v).power.serial = s.power.serial ∧
      (acceptOwnLayer s v).power.ident = s.power.ident := by
  unfold acceptOwnLayer; simp

@[simp] theorem acceptTripClear_keep (s : State) (v : Nat) :
    (acceptTripClear s v).net.dram = s.net.dram ∧
      (acceptTripClear s v).pending = s.pending ∧
      (acceptTripClear s v).power.serial = s.power.serial ∧
      (acceptTripClear s v).power.ident = s.power.ident := by
  unfold acceptTripClear; simp

@[simp] theorem acceptIso_keep (s : State) (e : Nat) (v : Nat) :
    (acceptIso s e v).net.dram = s.net.dram ∧
      (acceptIso s e v).pending = s.pending ∧
      (acceptIso s e v).power.serial = s.power.serial ∧
      (acceptIso s e v).power.ident = s.power.ident := by
  unfold acceptIso; simp

@[simp] theorem acceptMasks_keep (s : State) (v : Nat) :
    (acceptMasks s v).net.dram = s.net.dram ∧
      (acceptMasks s v).pending = s.pending ∧
      (acceptMasks s v).power.serial = s.power.serial ∧
      (acceptMasks s v).power.ident = s.power.ident := by
  unfold acceptMasks; simp

@[simp] theorem acceptHandover_keep (s : State) (v : Nat) :
    (acceptHandover s v).net.dram = s.net.dram ∧
      (acceptHandover s v).pending = s.pending ∧
      (acceptHandover s v).power.serial = s.power.serial ∧
      (acceptHandover s v).power.ident = s.power.ident := by
  unfold acceptHandover; simp

@[simp] theorem copyStaged_keep (s : State) (v : Nat) :
    (Memory.wf s.net.dram = true → Memory.wf (copyStaged s v).net.dram = true) ∧
      (copyStaged s v).pending = s.pending ∧
      (copyStaged s v).power.serial = s.power.serial ∧
      (copyStaged s v).power.ident = s.power.ident := by
  unfold copyStaged; refine ⟨fun h => ?_, ?_⟩ <;> simp [*]

theorem Kept.of_if {s t : State} {p : Prop} [Decidable p] {x y : Option State} (h : (if p then x else y) = some t)
    (hx : x = some t → Kept s t) (hy : y = some t → Kept s t) : Kept s t := by
  split at h
  · exact hx h
  · exact hy h

theorem effectLow_keep (s : State) (w : Wr) (vals : List Nat) {t : State} (h : effectLow s w vals = some t) : Kept s t := by
  unfold effectLow at h
  dsimp only at h
  repeat' (refine Kept.of_if h ?_ ?_ <;> clear h <;> intro h)
  all_goals first
    | contradiction
    | (obtain rfl := Option.some.inj h; refine .of_eq ?_; simp; done)
    | (obtain rfl := Option.some.inj h; split <;> first | exact Kept.refl _ | (refine .of_eq ?_; simp; done))
    | (obtain rfl := Option.some.inj h
       exact Kept.trans (b := startLoad s w.role (at0 vals 0)) (.of_eq (startLoad_keep _ _ _)) (copyStaged_keep _ _))

theorem effectShelf_keep (s : State) (w : Wr) (vals : List Nat) {t : State} (h : effectShelf s w vals = some t) :
    Kept s t := by
  unfold effectShelf at h
  dsimp only at h
  repeat' (refine Kept.of_if h ?_ ?_ <;> clear h <;> intro h)
  all_goals first
    | contradiction
    | (obtain rfl := Option.some.inj h; refine .of_eq ?_; simp; done)
    | (obtain rfl := Option.some.inj h; split <;> first | exact Kept.refl _ | (refine .of_eq ?_; simp; done))

theorem effectHigh_keep (s : State) (w : Wr) (vals : List Nat) {t : State} (h : effectHigh s w vals = some t) :
    Kept s t := by
  unfold effectHigh at h
  dsimp only at h
  repeat' (refine Kept.of_if h ?_ ?_ <;> clear h <;> intro h)
  all_goals first
    | contradiction
    | (obtain rfl := Option.some.inj h; refine .of_eq ?_; simp; done)
    | (obtain rfl := Option.some.inj h; split <;> first | exact Kept.refl _ | (refine .of_eq ?_; simp; done))
    | (obtain rfl := Option.some.inj h; exact exportCopy_keep _ _ _ _ _ _)

@[simp] theorem effectI_keep (s : State) (w : Wr) (vals : List Nat) :
    (Memory.wf s.net.dram = true → Memory.wf (effectI s w vals).net.dram = true) ∧
      (effectI s w vals).pending = s.pending ∧
      (effectI s w vals).power.serial = s.power.serial ∧
      (effectI s w vals).power.ident = s.power.ident := by
  show Kept s (effectI s w vals)
  unfold effectI
  split
  · rename_i t h
    split at h
    · exact effectLow_keep s w vals h
    · split at h
      · exact effectShelf_keep s w vals h
      · exact effectHigh_keep s w vals h
  · exact .of_eq (by simp)


@[simp] theorem onAccept_keep (s : State) (w : Wr) (v : Nat) :
    (onAccept s w v).net.dram = s.net.dram ∧
      (onAccept s w v).pending = s.pending ∧
      (onAccept s w v).power.serial = s.power.serial ∧
      (onAccept s w v).power.ident = s.power.ident := by
  unfold onAccept; simp

@[simp] theorem acceptWrite_keep (s : State) (w : Wr) (d : Desc) (vals : List Nat) :
    (Memory.wf s.net.dram = true → Memory.wf (acceptWrite s w d vals).net.dram = true) ∧
      (acceptWrite s w d vals).pending = s.pending ∧
      (acceptWrite s w d vals).power.serial = s.power.serial ∧
      (acceptWrite s w d vals).power.ident = s.power.ident := by
  unfold acceptWrite; refine ⟨fun h => ?_, ?_⟩ <;> (repeat' split) <;> simp [*]

@[simp] theorem refuseWrite_keep (s : State) (w : Wr) (code : Nat) :
    (refuseWrite s w code).net.dram = s.net.dram ∧
      (refuseWrite s w code).pending = s.pending ∧
      (refuseWrite s w code).power.serial = s.power.serial ∧
      (refuseWrite s w code).power.ident = s.power.ident := by
  unfold refuseWrite; simp

/-! ## Dictionary -/

@[simp] theorem wholeWrite_keep (s : State) (r : Req) (k : Option Session) (role : Role) (d : Desc) (bytes : List Nat) (img : Option Sig) (badOffset : Bool) (resv : Bool) (p : Resp) :
    (Memory.wf s.net.dram = true → Memory.wf (wholeWrite s r k role d bytes img badOffset resv p).1.net.dram = true) ∧
      (wholeWrite s r k role d bytes img badOffset resv p).1.pending = s.pending ∧
      (wholeWrite s r k role d bytes img badOffset resv p).1.power.serial = s.power.serial ∧
      (wholeWrite s r k role d bytes img badOffset resv p).1.power.ident = s.power.ident := by
  simp only [wholeWrite]; refine ⟨fun h => ?_, ?_⟩ <;> (repeat' split) <;> simp [*]

@[simp] theorem unstage_keep (s : State) (o : Nat) :
    (unstage s o).net.dram = s.net.dram ∧
      (unstage s o).pending = s.pending ∧
      (unstage s o).power.serial = s.power.serial ∧
      (unstage s o).power.ident = s.power.ident := by
  unfold unstage; simp

@[simp] theorem segment_keep (s : State) (r : Req) (k : Option Session) (role : Role) (d : Desc) (img : Option Sig) (p : Resp) :
    (Memory.wf s.net.dram = true → Memory.wf (segment s r k role d img p).1.net.dram = true) ∧
      (segment s r k role d img p).1.pending = s.pending ∧
      (segment s r k role d img p).1.power.serial = s.power.serial ∧
      (segment s r k role d img p).1.power.ident = s.power.ident := by
  simp only [segment]; refine ⟨fun h => ?_, ?_⟩ <;> (repeat' split) <;> simp [*]

@[simp] theorem answerWrite_keep (s : State) (r : Req) (k : Option Session) (role : Role) (d : Desc) (img : Option Sig) (p : Resp) :
    (Memory.wf s.net.dram = true → Memory.wf (answerWrite s r k role d img p).1.net.dram = true) ∧
      (answerWrite s r k role d img p).1.pending = s.pending ∧
      (answerWrite s r k role d img p).1.power.serial = s.power.serial ∧
      (answerWrite s r k role d img p).1.power.ident = s.power.ident := by
  unfold answerWrite; refine ⟨fun h => ?_, ?_⟩ <;> (repeat' split) <;> simp [*]

@[simp] theorem answer_keep (s : State) (r : Req) (k : Option Session) (role : Role) (img : Option Sig) :
    (Memory.wf s.net.dram = true → Memory.wf (answer s r k role img).1.net.dram = true) ∧
      (answer s r k role img).1.pending = s.pending ∧
      (answer s r k role img).1.power.serial = s.power.serial ∧
      (answer s r k role img).1.power.ident = s.power.ident := by
  unfold answer; refine ⟨fun h => ?_, ?_⟩ <;> (repeat' split) <;> simp [*]

@[simp] theorem sendResp_keep (s : State) (key : Nat) (l : Link) (dest : Nat) (p : Resp) :
    (sendResp s key l dest p).net.dram = s.net.dram ∧
      (sendResp s key l dest p).pending = s.pending ∧
      (sendResp s key l dest p).power.serial = s.power.serial ∧
      (sendResp s key l dest p).power.ident = s.power.ident := by
  unfold sendResp; (repeat' split) <;> simp

@[simp] theorem deliver_keep (s : State) (r : Req) (p : Resp) (waits : Bool) :
    (deliver s r p waits).net.dram = s.net.dram ∧
      (deliver s r p waits).pending = s.pending ∧
      (deliver s r p waits).power.serial = s.power.serial ∧
      (deliver s r p waits).power.ident = s.power.ident := by
  unfold deliver; simp

@[simp] theorem countCode_keep (s : State) (c : Nat) :
    (countCode s c).net.dram = s.net.dram ∧
      (countCode s c).pending = s.pending ∧
      (countCode s c).power.serial = s.power.serial ∧
      (countCode s c).power.ident = s.power.ident := by
  unfold countCode; simp

@[simp] theorem serve_keep (s : State) (r : Req) (k : Option Session) (role : Role) (img : Option Sig) :
    (Memory.wf s.net.dram = true → Memory.wf (serve s r k role img).net.dram = true) ∧
      (serve s r k role img).pending = s.pending ∧
      (serve s r k role img).power.serial = s.power.serial ∧
      (serve s r k role img).power.ident = s.power.ident := by
  simp only [serve]; refine ⟨fun h => ?_, ?_⟩ <;> (repeat' split) <;> simp [*]

@[simp] theorem serveRecovery_keep (s : State) (r : Req) (img : Option Sig) :
    (Memory.wf s.net.dram = true → Memory.wf (serveRecovery s r img).net.dram = true) ∧
      (serveRecovery s r img).pending = s.pending ∧
      (serveRecovery s r img).power.serial = s.power.serial ∧
      (serveRecovery s r img).power.ident = s.power.ident := by
  unfold serveRecovery; refine ⟨fun h => ?_, ?_⟩ <;> (repeat' split) <;> simp [*]

theorem requestIn_keep (r : Req) (img : Option Sig) (s : State) {t' : State} (h : requestIn r img s = .next t') :
    (Memory.wf s.net.dram = true → Memory.wf t'.net.dram = true) ∧
      t'.pending = s.pending ∧
      t'.power.serial = s.power.serial ∧
      t'.power.ident = s.power.ident := by
  simp only [requestIn] at h; (repeat' split at h) <;> injection h with h <;> subst h <;> refine ⟨fun h => ?_, ?_⟩ <;> simp [*]

theorem request_keep (r : Req) (img : Option Sig) (s : State) {t' : State} (h : request r img s = .next t') :
    (Memory.wf s.net.dram = true → Memory.wf t'.net.dram = true) ∧
      t'.pending = s.pending ∧
      t'.power.serial = s.power.serial ∧
      t'.power.ident = s.power.ident := by
  show Kept s t'
  unfold request at h
  split at h
  · injection h with h; subst h; exact .refl s
  · split at h
    · injection h with h; subst h; exact .of_eq (mailLost_keep s r.link _)
    · split at h
      · injection h with h; subst h; exact .of_eq (by simp)
      · dsimp only at h
        split at h
        · exact Kept.trans (.of_eq (by simp)) (requestIn_keep r img _ h)
        · injection h with h; subst h; exact .of_eq (by simp)

@[simp] theorem releaseHeld_keep (s : State) :
    (releaseHeld s).net.dram = s.net.dram ∧
      (releaseHeld s).pending = s.pending ∧
      (releaseHeld s).power.serial = s.power.serial ∧
      (releaseHeld s).power.ident = s.power.ident := by
  unfold releaseHeld; simp

/-! ## DictRows -/

theorem execRead_keep (r : Req) (s : State) {t' : State} (h : execRead r s = .next t') :
    (Memory.wf s.net.dram = true → Memory.wf t'.net.dram = true) ∧
      t'.pending = s.pending ∧
      t'.power.serial = s.power.serial ∧
      t'.power.ident = s.power.ident :=
  request_keep _ _ _ h


theorem execReadPending_keep (r : Req) (s : State) {t' : State} (h : execReadPending r s = .next t') :
    (Memory.wf s.net.dram = true → Memory.wf t'.net.dram = true) ∧
      t'.pending = s.pending ∧
      t'.power.serial = s.power.serial ∧
      t'.power.ident = s.power.ident :=
  request_keep _ _ _ h


theorem execWrite_keep (r : Req) (s : State) {t' : State} (h : execWrite r s = .next t') :
    (Memory.wf s.net.dram = true → Memory.wf t'.net.dram = true) ∧
      t'.pending = s.pending ∧
      t'.power.serial = s.power.serial ∧
      t'.power.ident = s.power.ident :=
  request_keep _ _ _ h


theorem execDescribe_keep (r : Req) (s : State) {t' : State} (h : execDescribe r s = .next t') :
    (Memory.wf s.net.dram = true → Memory.wf t'.net.dram = true) ∧
      t'.pending = s.pending ∧
      t'.power.serial = s.power.serial ∧
      t'.power.ident = s.power.ident :=
  request_keep _ _ _ h


theorem execMalformedRequest_keep (r : Req) (s : State) {t' : State} (h : execMalformedRequest r s = .next t') :
    (Memory.wf s.net.dram = true → Memory.wf t'.net.dram = true) ∧
      t'.pending = s.pending ∧
      t'.power.serial = s.power.serial ∧
      t'.power.ident = s.power.ident :=
  request_keep _ _ _ h


theorem execFixedLawReturn_keep (r : Req) (s : State) {t' : State} (h : execFixedLawReturn r s = .next t') :
    (Memory.wf s.net.dram = true → Memory.wf t'.net.dram = true) ∧
      t'.pending = s.pending ∧
      t'.power.serial = s.power.serial ∧
      t'.power.ident = s.power.ident :=
  request_keep _ _ _ h


theorem execChannelSelection_keep (r : Req) (s : State) {t' : State} (h : execChannelSelection r s = .next t') :
    (Memory.wf s.net.dram = true → Memory.wf t'.net.dram = true) ∧
      t'.pending = s.pending ∧
      t'.power.serial = s.power.serial ∧
      t'.power.ident = s.power.ident :=
  request_keep _ _ _ h


theorem execLoopProgramLoad_keep (r : Req) (s : State) {t' : State} (h : execLoopProgramLoad r s = .next t') :
    (Memory.wf s.net.dram = true → Memory.wf t'.net.dram = true) ∧
      t'.pending = s.pending ∧
      t'.power.serial = s.power.serial ∧
      t'.power.ident = s.power.ident :=
  request_keep _ _ _ h


theorem execLoopProgramSelect_keep (r : Req) (s : State) {t' : State} (h : execLoopProgramSelect r s = .next t') :
    (Memory.wf s.net.dram = true → Memory.wf t'.net.dram = true) ∧
      t'.pending = s.pending ∧
      t'.power.serial = s.power.serial ∧
      t'.power.ident = s.power.ident :=
  request_keep _ _ _ h


theorem execStringLatchClear_keep (r : Req) (s : State) {t' : State} (h : execStringLatchClear r s = .next t') :
    (Memory.wf s.net.dram = true → Memory.wf t'.net.dram = true) ∧
      t'.pending = s.pending ∧
      t'.power.serial = s.power.serial ∧
      t'.power.ident = s.power.ident :=
  request_keep _ _ _ h


theorem execOvervoltageLatchClear_keep (r : Req) (s : State) {t' : State} (h : execOvervoltageLatchClear r s = .next t') :
    (Memory.wf s.net.dram = true → Memory.wf t'.net.dram = true) ∧
      t'.pending = s.pending ∧
      t'.power.serial = s.power.serial ∧
      t'.power.ident = s.power.ident :=
  request_keep _ _ _ h


theorem execBusReferenceTarget_keep (r : Req) (s : State) {t' : State} (h : execBusReferenceTarget r s = .next t') :
    (Memory.wf s.net.dram = true → Memory.wf t'.net.dram = true) ∧
      t'.pending = s.pending ∧
      t'.power.serial = s.power.serial ∧
      t'.power.ident = s.power.ident :=
  request_keep _ _ _ h


theorem execReferenceSlew_keep (r : Req) (s : State) {t' : State} (h : execReferenceSlew r s = .next t') :
    (Memory.wf s.net.dram = true → Memory.wf t'.net.dram = true) ∧
      t'.pending = s.pending ∧
      t'.power.serial = s.power.serial ∧
      t'.power.ident = s.power.ident :=
  request_keep _ _ _ h


theorem execTripClear_keep (r : Req) (s : State) {t' : State} (h : execTripClear r s = .next t') :
    (Memory.wf s.net.dram = true → Memory.wf t'.net.dram = true) ∧
      t'.pending = s.pending ∧
      t'.power.serial = s.power.serial ∧
      t'.power.ident = s.power.ident :=
  request_keep _ _ _ h


theorem execHostBleedMasks_keep (r : Req) (s : State) {t' : State} (h : execHostBleedMasks r s = .next t') :
    (Memory.wf s.net.dram = true → Memory.wf t'.net.dram = true) ∧
      t'.pending = s.pending ∧
      t'.power.serial = s.power.serial ∧
      t'.power.ident = s.power.ident :=
  request_keep _ _ _ h


theorem execWireSurveyRequest_keep (r : Req) (s : State) {t' : State} (h : execWireSurveyRequest r s = .next t') :
    (Memory.wf s.net.dram = true → Memory.wf t'.net.dram = true) ∧
      t'.pending = s.pending ∧
      t'.power.serial = s.power.serial ∧
      t'.power.ident = s.power.ident :=
  request_keep _ _ _ h


theorem execOpenWireTestRequest_keep (r : Req) (s : State) {t' : State} (h : execOpenWireTestRequest r s = .next t') :
    (Memory.wf s.net.dram = true → Memory.wf t'.net.dram = true) ∧
      t'.pending = s.pending ∧
      t'.power.serial = s.power.serial ∧
      t'.power.ident = s.power.ident :=
  request_keep _ _ _ h


theorem execStringIsolate_keep (r : Req) (s : State) {t' : State} (h : execStringIsolate r s = .next t') :
    (Memory.wf s.net.dram = true → Memory.wf t'.net.dram = true) ∧
      t'.pending = s.pending ∧
      t'.power.serial = s.power.serial ∧
      t'.power.ident = s.power.ident :=
  request_keep _ _ _ h


theorem execEndIsolation_keep (r : Req) (s : State) {t' : State} (h : execEndIsolation r s = .next t') :
    (Memory.wf s.net.dram = true → Memory.wf t'.net.dram = true) ∧
      t'.pending = s.pending ∧
      t'.power.serial = s.power.serial ∧
      t'.power.ident = s.power.ident :=
  request_keep _ _ _ h


theorem execIntegratorLayerWrite_keep (r : Req) (s : State) {t' : State} (h : execIntegratorLayerWrite r s = .next t') :
    (Memory.wf s.net.dram = true → Memory.wf t'.net.dram = true) ∧
      t'.pending = s.pending ∧
      t'.power.serial = s.power.serial ∧
      t'.power.ident = s.power.ident :=
  request_keep _ _ _ h


theorem execOwnerLayerWrite_keep (r : Req) (s : State) {t' : State} (h : execOwnerLayerWrite r s = .next t') :
    (Memory.wf s.net.dram = true → Memory.wf t'.net.dram = true) ∧
      t'.pending = s.pending ∧
      t'.power.serial = s.power.serial ∧
      t'.power.ident = s.power.ident :=
  request_keep _ _ _ h


theorem execLeadRelease_keep (r : Req) (s : State) {t' : State} (h : execLeadRelease r s = .next t') :
    (Memory.wf s.net.dram = true → Memory.wf t'.net.dram = true) ∧
      t'.pending = s.pending ∧
      t'.power.serial = s.power.serial ∧
      t'.power.ident = s.power.ident :=
  request_keep _ _ _ h


theorem execContractWrite_keep (r : Req) (s : State) {t' : State} (h : execContractWrite r s = .next t') :
    (Memory.wf s.net.dram = true → Memory.wf t'.net.dram = true) ∧
      t'.pending = s.pending ∧
      t'.power.serial = s.power.serial ∧
      t'.power.ident = s.power.ident :=
  request_keep _ _ _ h


theorem execBreakerCapWrite_keep (r : Req) (s : State) {t' : State} (h : execBreakerCapWrite r s = .next t') :
    (Memory.wf s.net.dram = true → Memory.wf t'.net.dram = true) ∧
      t'.pending = s.pending ∧
      t'.power.serial = s.power.serial ∧
      t'.power.ident = s.power.ident :=
  request_keep _ _ _ h


theorem execRampLimitWrite_keep (r : Req) (s : State) {t' : State} (h : execRampLimitWrite r s = .next t') :
    (Memory.wf s.net.dram = true → Memory.wf t'.net.dram = true) ∧
      t'.pending = s.pending ∧
      t'.power.serial = s.power.serial ∧
      t'.power.ident = s.power.ident :=
  request_keep _ _ _ h


theorem execEmergencyAnnouncement_keep (r : Req) (s : State) {t' : State} (h : execEmergencyAnnouncement r s = .next t') :
    (Memory.wf s.net.dram = true → Memory.wf t'.net.dram = true) ∧
      t'.pending = s.pending ∧
      t'.power.serial = s.power.serial ∧
      t'.power.ident = s.power.ident :=
  request_keep _ _ _ h


theorem execHostAllocationTable_keep (r : Req) (s : State) {t' : State} (h : execHostAllocationTable r s = .next t') :
    (Memory.wf s.net.dram = true → Memory.wf t'.net.dram = true) ∧
      t'.pending = s.pending ∧
      t'.power.serial = s.power.serial ∧
      t'.power.ident = s.power.ident :=
  request_keep _ _ _ h


theorem execHostFillerAnswer_keep (r : Req) (s : State) {t' : State} (h : execHostFillerAnswer r s = .next t') :
    (Memory.wf s.net.dram = true → Memory.wf t'.net.dram = true) ∧
      t'.pending = s.pending ∧
      t'.power.serial = s.power.serial ∧
      t'.power.ident = s.power.ident :=
  request_keep _ _ _ h


theorem execHostSocTarget_keep (r : Req) (s : State) {t' : State} (h : execHostSocTarget r s = .next t') :
    (Memory.wf s.net.dram = true → Memory.wf t'.net.dram = true) ∧
      t'.pending = s.pending ∧
      t'.power.serial = s.power.serial ∧
      t'.power.ident = s.power.ident :=
  request_keep _ _ _ h


theorem execModelLoad_keep (r : Req) (s : State) {t' : State} (h : execModelLoad r s = .next t') :
    (Memory.wf s.net.dram = true → Memory.wf t'.net.dram = true) ∧
      t'.pending = s.pending ∧
      t'.power.serial = s.power.serial ∧
      t'.power.ident = s.power.ident :=
  request_keep _ _ _ h


theorem execModelSelect_keep (r : Req) (s : State) {t' : State} (h : execModelSelect r s = .next t') :
    (Memory.wf s.net.dram = true → Memory.wf t'.net.dram = true) ∧
      t'.pending = s.pending ∧
      t'.power.serial = s.power.serial ∧
      t'.power.ident = s.power.ident :=
  request_keep _ _ _ h


theorem execClearSlot_keep (r : Req) (s : State) {t' : State} (h : execClearSlot r s = .next t') :
    (Memory.wf s.net.dram = true → Memory.wf t'.net.dram = true) ∧
      t'.pending = s.pending ∧
      t'.power.serial = s.power.serial ∧
      t'.power.ident = s.power.ident :=
  request_keep _ _ _ h


theorem execRevertSignedWeights_keep (r : Req) (s : State) {t' : State} (h : execRevertSignedWeights r s = .next t') :
    (Memory.wf s.net.dram = true → Memory.wf t'.net.dram = true) ∧
      t'.pending = s.pending ∧
      t'.power.serial = s.power.serial ∧
      t'.power.ident = s.power.ident :=
  request_keep _ _ _ h


theorem execHandoverCommand_keep (r : Req) (s : State) {t' : State} (h : execHandoverCommand r s = .next t') :
    (Memory.wf s.net.dram = true → Memory.wf t'.net.dram = true) ∧
      t'.pending = s.pending ∧
      t'.power.serial = s.power.serial ∧
      t'.power.ident = s.power.ident :=
  request_keep _ _ _ h


theorem execClearDriveFault_keep (r : Req) (s : State) {t' : State} (h : execClearDriveFault r s = .next t') :
    (Memory.wf s.net.dram = true → Memory.wf t'.net.dram = true) ∧
      t'.pending = s.pending ∧
      t'.power.serial = s.power.serial ∧
      t'.power.ident = s.power.ident :=
  request_keep _ _ _ h


theorem execReplacementAdoption_keep (r : Req) (s : State) {t' : State} (h : execReplacementAdoption r s = .next t') :
    (Memory.wf s.net.dram = true → Memory.wf t'.net.dram = true) ∧
      t'.pending = s.pending ∧
      t'.power.serial = s.power.serial ∧
      t'.power.ident = s.power.ident :=
  request_keep _ _ _ h


theorem execKeyEnrolment_keep (r : Req) (s : State) {t' : State} (h : execKeyEnrolment r s = .next t') :
    (Memory.wf s.net.dram = true → Memory.wf t'.net.dram = true) ∧
      t'.pending = s.pending ∧
      t'.power.serial = s.power.serial ∧
      t'.power.ident = s.power.ident :=
  request_keep _ _ _ h


theorem execNodeTableWrite_keep (r : Req) (s : State) {t' : State} (h : execNodeTableWrite r s = .next t') :
    (Memory.wf s.net.dram = true → Memory.wf t'.net.dram = true) ∧
      t'.pending = s.pending ∧
      t'.power.serial = s.power.serial ∧
      t'.power.ident = s.power.ident :=
  request_keep _ _ _ h


theorem execActivateBank_keep (r : Req) (s : State) {t' : State} (h : execActivateBank r s = .next t') :
    (Memory.wf s.net.dram = true → Memory.wf t'.net.dram = true) ∧
      t'.pending = s.pending ∧
      t'.power.serial = s.power.serial ∧
      t'.power.ident = s.power.ident :=
  request_keep _ _ _ h


theorem execCommitTrial_keep (r : Req) (s : State) {t' : State} (h : execCommitTrial r s = .next t') :
    (Memory.wf s.net.dram = true → Memory.wf t'.net.dram = true) ∧
      t'.pending = s.pending ∧
      t'.power.serial = s.power.serial ∧
      t'.power.ident = s.power.ident :=
  request_keep _ _ _ h


theorem execEvidenceRequest_keep (r : Req) (s : State) {t' : State} (h : execEvidenceRequest r s = .next t') :
    (Memory.wf s.net.dram = true → Memory.wf t'.net.dram = true) ∧
      t'.pending = s.pending ∧
      t'.power.serial = s.power.serial ∧
      t'.power.ident = s.power.ident :=
  request_keep _ _ _ h


theorem execOnDemandSeal_keep (r : Req) (s : State) {t' : State} (h : execOnDemandSeal r s = .next t') :
    (Memory.wf s.net.dram = true → Memory.wf t'.net.dram = true) ∧
      t'.pending = s.pending ∧
      t'.power.serial = s.power.serial ∧
      t'.power.ident = s.power.ident :=
  request_keep _ _ _ h


theorem execUnlockGrant_keep (r : Req) (s : State) {t' : State} (h : execUnlockGrant r s = .next t') :
    (Memory.wf s.net.dram = true → Memory.wf t'.net.dram = true) ∧
      t'.pending = s.pending ∧
      t'.power.serial = s.power.serial ∧
      t'.power.ident = s.power.ident :=
  request_keep _ _ _ h


theorem execEndUnlock_keep (r : Req) (s : State) {t' : State} (h : execEndUnlock r s = .next t') :
    (Memory.wf s.net.dram = true → Memory.wf t'.net.dram = true) ∧
      t'.pending = s.pending ∧
      t'.power.serial = s.power.serial ∧
      t'.power.ident = s.power.ident :=
  request_keep _ _ _ h


theorem execPassphraseVerifier_keep (r : Req) (s : State) {t' : State} (h : execPassphraseVerifier r s = .next t') :
    (Memory.wf s.net.dram = true → Memory.wf t'.net.dram = true) ∧
      t'.pending = s.pending ∧
      t'.power.serial = s.power.serial ∧
      t'.power.ident = s.power.ident :=
  request_keep _ _ _ h


theorem execPassphraseAttempt_keep (r : Req) (s : State) {t' : State} (h : execPassphraseAttempt r s = .next t') :
    (Memory.wf s.net.dram = true → Memory.wf t'.net.dram = true) ∧
      t'.pending = s.pending ∧
      t'.power.serial = s.power.serial ∧
      t'.power.ident = s.power.ident :=
  request_keep _ _ _ h


theorem execUserCalibrationWrite_keep (r : Req) (s : State) {t' : State} (h : execUserCalibrationWrite r s = .next t') :
    (Memory.wf s.net.dram = true → Memory.wf t'.net.dram = true) ∧
      t'.pending = s.pending ∧
      t'.power.serial = s.power.serial ∧
      t'.power.ident = s.power.ident :=
  request_keep _ _ _ h


theorem execSnapshotRearm_keep (r : Req) (s : State) {t' : State} (h : execSnapshotRearm r s = .next t') :
    (Memory.wf s.net.dram = true → Memory.wf t'.net.dram = true) ∧
      t'.pending = s.pending ∧
      t'.power.serial = s.power.serial ∧
      t'.power.ident = s.power.ident :=
  request_keep _ _ _ h


theorem execTraceConfiguration_keep (r : Req) (s : State) {t' : State} (h : execTraceConfiguration r s = .next t') :
    (Memory.wf s.net.dram = true → Memory.wf t'.net.dram = true) ∧
      t'.pending = s.pending ∧
      t'.power.serial = s.power.serial ∧
      t'.power.ident = s.power.ident :=
  request_keep _ _ _ h


theorem execRecorderResume_keep (r : Req) (s : State) {t' : State} (h : execRecorderResume r s = .next t') :
    (Memory.wf s.net.dram = true → Memory.wf t'.net.dram = true) ∧
      t'.pending = s.pending ∧
      t'.power.serial = s.power.serial ∧
      t'.power.ident = s.power.ident :=
  request_keep _ _ _ h


theorem execExportContent_keep (r : Req) (s : State) {t' : State} (h : execExportContent r s = .next t') :
    (Memory.wf s.net.dram = true → Memory.wf t'.net.dram = true) ∧
      t'.pending = s.pending ∧
      t'.power.serial = s.power.serial ∧
      t'.power.ident = s.power.ident :=
  request_keep _ _ _ h


theorem execFirstFaultClear_keep (r : Req) (s : State) {t' : State} (h : execFirstFaultClear r s = .next t') :
    (Memory.wf s.net.dram = true → Memory.wf t'.net.dram = true) ∧
      t'.pending = s.pending ∧
      t'.power.serial = s.power.serial ∧
      t'.power.ident = s.power.ident :=
  request_keep _ _ _ h


theorem execAuxSyncFunction_keep (r : Req) (s : State) {t' : State} (h : execAuxSyncFunction r s = .next t') :
    (Memory.wf s.net.dram = true → Memory.wf t'.net.dram = true) ∧
      t'.pending = s.pending ∧
      t'.power.serial = s.power.serial ∧
      t'.power.ident = s.power.ident :=
  request_keep _ _ _ h


theorem execFirmwareLoad_keep (r : Req) (sig : Sig) (s : State) {t' : State} (h : execFirmwareLoad r sig s = .next t') :
    (Memory.wf s.net.dram = true → Memory.wf t'.net.dram = true) ∧
      t'.pending = s.pending ∧
      t'.power.serial = s.power.serial ∧
      t'.power.ident = s.power.ident :=
  request_keep _ _ _ h


theorem execSessionMessage_keep (n : Nat) (counter : Nat) (authOk : Bool) (r : Req) (s : State) {t' : State} (h : execSessionMessage n counter authOk r s = .next t') :
    (Memory.wf s.net.dram = true → Memory.wf t'.net.dram = true) ∧
      t'.pending = s.pending ∧
      t'.power.serial = s.power.serial ∧
      t'.power.ident = s.power.ident := by
  show Kept s t'
  unfold execSessionMessage at h
  split at h
  · injection h with h; subst h; exact .refl s
  · split at h
    · injection h with h; subst h; exact .of_eq (mailLost_keep s r.link _)
    · dsimp only at h
      repeat' split at h
      all_goals first
        | (injection h with h; subst h; exact .of_eq (by simp))
        | exact Kept.trans (.of_eq (by simp)) (requestIn_keep _ _ _ h)

theorem execSegmentTimeout_keep (o : Nat) (s : State) {t' : State} (h : execSegmentTimeout o s = .next t') :
    t'.net.dram = s.net.dram ∧
      t'.pending = s.pending ∧
      t'.power.serial = s.power.serial ∧
      t'.power.ident = s.power.ident := by
  simp only [execSegmentTimeout] at h; (repeat' split at h) <;> injection h with h <;> subst h <;> simp

theorem execWriteForwardAck_keep (s : State) {t' : State} (h : execWriteForwardAck s = .next t') :
    t'.net.dram = s.net.dram ∧
      t'.pending = s.pending ∧
      t'.power.serial = s.power.serial ∧
      t'.power.ident = s.power.ident := by
  unfold execWriteForwardAck at h; injection h with h; subst h; simp

theorem execWriteForwardTimeout_keep (s : State) {t' : State} (h : execWriteForwardTimeout s = .next t') :
    t'.net.dram = s.net.dram ∧
      t'.pending = s.pending ∧
      t'.power.serial = s.power.serial ∧
      t'.power.ident = s.power.ident := by
  simp only [execWriteForwardTimeout] at h; (repeat' split at h) <;> injection h with h <;> subst h <;> simp

theorem execLoopProgramLoadDone_keep (sig : Sig) (s : State) {t' : State} (h : execLoopProgramLoadDone sig s = .next t') :
    t'.net.dram = s.net.dram ∧
      t'.pending = s.pending ∧
      t'.power.serial = s.power.serial ∧
      t'.power.ident = s.power.ident := by
  simp only [execLoopProgramLoadDone] at h; (repeat' split at h) <;> injection h with h <;> subst h <;> simp

theorem execHostSocTargetExpiry_keep (s : State) {t' : State} (h : execHostSocTargetExpiry s = .next t') :
    t'.net.dram = s.net.dram ∧
      t'.pending = s.pending ∧
      t'.power.serial = s.power.serial ∧
      t'.power.ident = s.power.ident := by
  simp only [execHostSocTargetExpiry] at h; (repeat' split at h) <;> injection h with h <;> subst h <;> simp

/-! ## Cxl -/

theorem mailCmd_keep (ld op : Nat) (lenOk : Bool) (f : State → State) (hf : ∀ u, Kept u (f u)) (s : State) {t' : State}
    (h : mailCmd ld op lenOk f s = .next t') : Kept s t' := by
  unfold mailCmd at h
  dsimp only at h
  split at h
  · injection h with h; subst h; exact .refl s
  · split at h
    · injection h with h; subst h; exact .of_eq (mailLost_keep s (.ld ld) op)
    split at h
    · injection h with h; subst h; exact .of_eq (by simp)
    · split at h
      · injection h with h; subst h; exact .of_eq (by simp)
      · injection h with h; subst h
        exact Kept.trans (.of_eq (mailCount_keep s (.ld ld))) (hf _)


@[simp] theorem mailStandard_keep (ld : Nat) (op : Nat) (s : State) :
    (mailStandard ld op s).net.dram = s.net.dram ∧
      (mailStandard ld op s).pending = s.pending ∧
      (mailStandard ld op s).power.serial = s.power.serial ∧
      (mailStandard ld op s).power.ident = s.power.ident := by
  unfold mailStandard; simp

theorem execIdentify_keep (ld : Nat) (lenOk : Bool) (s : State) {t' : State} (h : execIdentify ld lenOk s = .next t') :
    (Memory.wf s.net.dram = true → Memory.wf t'.net.dram = true) ∧
      t'.pending = s.pending ∧
      t'.power.serial = s.power.serial ∧
      t'.power.ident = s.power.ident := 
  mailCmd_keep _ _ _ _ (fun u => .of_eq (mailStandard_keep _ _ u)) s h


theorem execGetEventRecords_keep (ld : Nat) (lenOk : Bool) (s : State) {t' : State} (h : execGetEventRecords ld lenOk s = .next t') :
    (Memory.wf s.net.dram = true → Memory.wf t'.net.dram = true) ∧
      t'.pending = s.pending ∧
      t'.power.serial = s.power.serial ∧
      t'.power.ident = s.power.ident := 
  mailCmd_keep _ _ _ _ (fun u => .of_eq (mailDone_keep u _ _ _ _)) s h


@[simp] theorem clearEvents_keep (ld : Nat) (handles : List Nat) (s : State) :
    (clearEvents ld handles s).net.dram = s.net.dram ∧
      (clearEvents ld handles s).pending = s.pending ∧
      (clearEvents ld handles s).power.serial = s.power.serial ∧
      (clearEvents ld handles s).power.ident = s.power.ident := by
  unfold clearEvents; simp

theorem execClearEventRecords_keep (ld : Nat) (lenOk : Bool) (handles : List Nat) (s : State) {t' : State} (h : execClearEventRecords ld lenOk handles s = .next t') :
    (Memory.wf s.net.dram = true → Memory.wf t'.net.dram = true) ∧
      t'.pending = s.pending ∧
      t'.power.serial = s.power.serial ∧
      t'.power.ident = s.power.ident := 
  mailCmd_keep _ _ _ _ (fun u => .of_eq (clearEvents_keep _ _ u)) s h


theorem execGetEventInterruptPolicy_keep (ld : Nat) (lenOk : Bool) (s : State) {t' : State} (h : execGetEventInterruptPolicy ld lenOk s = .next t') :
    (Memory.wf s.net.dram = true → Memory.wf t'.net.dram = true) ∧
      t'.pending = s.pending ∧
      t'.power.serial = s.power.serial ∧
      t'.power.ident = s.power.ident := 
  mailCmd_keep _ _ _ _ (fun u => .of_eq (mailDone_keep u _ _ _ _)) s h


theorem execSetEventInterruptPolicy_keep (ld : Nat) (lenOk : Bool) (policy : Word) (s : State) {t' : State} (h : execSetEventInterruptPolicy ld lenOk policy s = .next t') :
    (Memory.wf s.net.dram = true → Memory.wf t'.net.dram = true) ∧
      t'.pending = s.pending ∧
      t'.power.serial = s.power.serial ∧
      t'.power.ident = s.power.ident := 
  mailCmd_keep _ _ _ _ (fun u => .of_eq (by simp)) s h


theorem execGetFwInfo_keep (ld : Nat) (lenOk : Bool) (s : State) {t' : State} (h : execGetFwInfo ld lenOk s = .next t') :
    (Memory.wf s.net.dram = true → Memory.wf t'.net.dram = true) ∧
      t'.pending = s.pending ∧
      t'.power.serial = s.power.serial ∧
      t'.power.ident = s.power.ident := 
  mailCmd_keep _ _ _ _ (fun u => .of_eq (mailDone_keep u _ _ _ _)) s h


theorem execGetSupportedLogs_keep (ld : Nat) (lenOk : Bool) (s : State) {t' : State} (h : execGetSupportedLogs ld lenOk s = .next t') :
    (Memory.wf s.net.dram = true → Memory.wf t'.net.dram = true) ∧
      t'.pending = s.pending ∧
      t'.power.serial = s.power.serial ∧
      t'.power.ident = s.power.ident := 
  mailCmd_keep _ _ _ _ (fun u => .of_eq (mailDone_keep u _ _ _ _)) s h


theorem execGetLog_keep (ld : Nat) (lenOk : Bool) (s : State) {t' : State} (h : execGetLog ld lenOk s = .next t') :
    (Memory.wf s.net.dram = true → Memory.wf t'.net.dram = true) ∧
      t'.pending = s.pending ∧
      t'.power.serial = s.power.serial ∧
      t'.power.ident = s.power.ident := 
  mailCmd_keep _ _ _ _ (fun u => .of_eq (mailDone_keep u _ _ _ _)) s h


theorem execIdentifyMemoryDevice_keep (ld : Nat) (lenOk : Bool) (s : State) {t' : State} (h : execIdentifyMemoryDevice ld lenOk s = .next t') :
    (Memory.wf s.net.dram = true → Memory.wf t'.net.dram = true) ∧
      t'.pending = s.pending ∧
      t'.power.serial = s.power.serial ∧
      t'.power.ident = s.power.ident := 
  mailCmd_keep _ _ _ _ (fun u => .of_eq (mailDone_keep u _ _ _ _)) s h


theorem execGetHealthInfo_keep (ld : Nat) (lenOk : Bool) (s : State) {t' : State} (h : execGetHealthInfo ld lenOk s = .next t') :
    (Memory.wf s.net.dram = true → Memory.wf t'.net.dram = true) ∧
      t'.pending = s.pending ∧
      t'.power.serial = s.power.serial ∧
      t'.power.ident = s.power.ident := 
  mailCmd_keep _ _ _ _ (fun u => .of_eq (mailStandard_keep _ _ u)) s h


theorem execGetPoisonList_keep (ld : Nat) (lenOk : Bool) (s : State) {t' : State} (h : execGetPoisonList ld lenOk s = .next t') :
    (Memory.wf s.net.dram = true → Memory.wf t'.net.dram = true) ∧
      t'.pending = s.pending ∧
      t'.power.serial = s.power.serial ∧
      t'.power.ident = s.power.ident := 
  mailCmd_keep _ _ _ _ (fun u => .of_eq (mailDone_keep u _ _ _ _)) s h


theorem execDictionaryPlain_keep (ld : Nat) (lenOk : Bool) (r : Req) (s : State) {t' : State} (h : execDictionaryPlain ld lenOk r s = .next t') :
    (Memory.wf s.net.dram = true → Memory.wf t'.net.dram = true) ∧
      t'.pending = s.pending ∧
      t'.power.serial = s.power.serial ∧
      t'.power.ident = s.power.ident := by
  unfold execDictionaryPlain at h
  split at h
  · exact request_keep _ _ _ h
  · exact mailCmd_keep _ _ _ _ (fun u => Kept.refl u) s h


@[simp] theorem stagingWrite_keep (ld : Nat) (n : Option Nat) (counter : Nat) (authOk : Bool) (offset : Nat) (data : List Byte) (s : State) :
    (Memory.wf s.net.dram = true → Memory.wf (stagingWrite ld n counter authOk offset data s).net.dram = true) ∧
      (stagingWrite ld n counter authOk offset data s).pending = s.pending ∧
      (stagingWrite ld n counter authOk offset data s).power.serial = s.power.serial ∧
      (stagingWrite ld n counter authOk offset data s).power.ident = s.power.ident := by
  simp only [stagingWrite]; refine ⟨fun h => ?_, ?_⟩ <;> (repeat' split) <;> simp [*]

theorem execOwnerStagingWrite_keep (ld : Nat) (lenOk : Bool) (n : Option Nat) (counter : Nat) (authOk : Bool) (offset : Nat)
    (data : List Byte) (s : State) {t' : State} (h : execOwnerStagingWrite ld lenOk n counter authOk offset data s = .next t') :
    (Memory.wf s.net.dram = true → Memory.wf t'.net.dram = true) ∧
      t'.pending = s.pending ∧
      t'.power.serial = s.power.serial ∧
      t'.power.ident = s.power.ident :=
  mailCmd_keep _ _ _ _ (fun u => stagingWrite_keep _ _ _ _ _ _ u) s h

theorem execUnsupportedCommand_keep (ld : Nat) (op : Nat) (s : State) {t' : State} (h : execUnsupportedCommand ld op s = .next t') :
    (Memory.wf s.net.dram = true → Memory.wf t'.net.dram = true) ∧
      t'.pending = s.pending ∧
      t'.power.serial = s.power.serial ∧
      t'.power.ident = s.power.ident := by
  unfold execUnsupportedCommand at h
  split at h
  · injection h with h; subst h; exact Kept.refl s
  · exact mailCmd_keep _ _ _ _ (fun u => .of_eq (mailRefused_keep u _ _ _)) s h


@[simp] theorem memDone_keep (s : State) (ld : Nat) (data : List Byte) (err : Bool) :
    (memDone s ld data err).net.dram = s.net.dram ∧
      (memDone s ld data err).pending = s.pending ∧
      (memDone s ld data err).power.serial = s.power.serial ∧
      (memDone s ld data err).power.ident = s.power.ident := by
  unfold memDone; simp

@[simp] theorem readError_keep (s : State) (ld : Nat) (offset : Nat) (len : Nat) :
    (readError s ld offset len).net.dram = s.net.dram ∧
      (readError s ld offset len).pending = s.pending ∧
      (readError s ld offset len).power.serial = s.power.serial ∧
      (readError s ld offset len).power.ident = s.power.ident := by
  unfold readError; simp

theorem execCxlMemRead_keep (ld : Nat) (offset : Nat) (len : Nat) (bad : Bool) (s : State) {t' : State} (h : execCxlMemRead ld offset len bad s = .next t') :
    (Memory.wf s.net.dram = true → Memory.wf t'.net.dram = true) ∧
      t'.pending = s.pending ∧
      t'.power.serial = s.power.serial ∧
      t'.power.ident = s.power.ident := by
  show Kept s t'
  unfold execCxlMemRead at h
  (repeat' split at h) <;> first
    | contradiction
    | (injection h with h; subst h; refine .of_eq ?_; simp; done)
    | (injection h with h; subst h; exact .refl s)


@[simp] theorem discardWrite_keep (s : State) (ld : Nat) (offset : Nat) :
    (discardWrite s ld offset).net.dram = s.net.dram ∧
      (discardWrite s ld offset).pending = s.pending ∧
      (discardWrite s ld offset).power.serial = s.power.serial ∧
      (discardWrite s ld offset).power.ident = s.power.ident := by
  unfold discardWrite; (repeat' split) <;> simp

theorem execCxlMemWrite_keep (ld : Nat) (offset : Nat) (data : List Byte) (s : State) {t' : State} (h : execCxlMemWrite ld offset data s = .next t') :
    (Memory.wf s.net.dram = true → Memory.wf t'.net.dram = true) ∧
      t'.pending = s.pending ∧
      t'.power.serial = s.power.serial ∧
      t'.power.ident = s.power.ident := by
  show Kept s t'
  unfold execCxlMemWrite at h
  (repeat' split at h) <;> first
    | contradiction
    | (injection h with h; subst h; exact dramBytes_keep _ _ _)
    | (injection h with h; subst h; refine .of_eq ?_; simp; done)
    | (injection h with h; subst h; exact .refl s)


@[simp] theorem linkFell_keep (s : State) (state : Nat) :
    (linkFell s state).net.dram = s.net.dram ∧
      (linkFell s state).pending = s.pending ∧
      (linkFell s state).power.serial = s.power.serial ∧
      (linkFell s state).power.ident = s.power.ident := by
  unfold linkFell; simp

theorem execCxlLinkChange_keep (ev : CxlEvent) (s : State) {t' : State} (h : execCxlLinkChange ev s = .next t') :
    t'.net.dram = s.net.dram ∧
      t'.pending = s.pending ∧
      t'.power.serial = s.power.serial ∧
      t'.power.ident = s.power.ident := by
  simp only [execCxlLinkChange] at h; (repeat' split at h) <;> injection h with h <;> subst h <;> simp

@[simp] theorem mirrorObj_keep (base : Nat) (st : State × Nat) (p : Nat × Desc) : Kept st.1 (mirrorObj base st p).1 := by
  unfold mirrorObj
  dsimp only
  exact Kept.trans (dramPut_keep st.1 _ _ _) (dramBytes_keep _ _ _)

theorem foldl_fst_kept {α β : Type} (f : State × β → α → State × β) (h : ∀ a x, Kept a.1 (f a x).1) (l : List α) :
    ∀ a : State × β, Kept a.1 (l.foldl f a).1 := by
  induction l with
  | nil => intro a; exact .refl _
  | cons x l ih => intro a; rw [List.foldl_cons]; exact (h a x).trans (ih _)

@[simp] theorem mirror_keep (s : State) (base : Nat) (role : Nat) :
    (Memory.wf s.net.dram = true → Memory.wf (mirror s base role).net.dram = true) ∧
      (mirror s base role).pending = s.pending ∧
      (mirror s base role).power.serial = s.power.serial ∧
      (mirror s base role).power.ident = s.power.ident := by
  show Kept s (mirror s base role)
  unfold mirror
  generalize List.filter _ objTable = l
  have h := foldl_fst_kept (mirrorObj base) (mirrorObj_keep base) l (dramPut s (base + 8) 6 s.epo.count, 0x81000)
  exact Kept.trans (dramPut_keep s _ _ _) h

theorem Kept.mirrorStamp (w : State) (a b : Nat) : Kept w { w with net.mirrorSeq := a, net.mirrorEpoch := b } :=
  .of_eq ⟨rfl, rfl, rfl, rfl⟩

@[simp] theorem mirrorsAt_keep (s : State) :
    (Memory.wf s.net.dram = true → Memory.wf (mirrorsAt s).net.dram = true) ∧
      (mirrorsAt s).pending = s.pending ∧
      (mirrorsAt s).power.serial = s.power.serial ∧
      (mirrorsAt s).power.ident = s.power.ident := by
  show Kept s (mirrorsAt s)
  have h2 : ∀ w a n x, Kept w (dramPut w a n x) := dramPut_keep
  have h : ∀ u b r, Kept u (mirror u b r) := mirror_keep
  have h1 : ∀ u q e, Kept u { dramPut (dramPut u ld0Base 8 q) ld2Base 8 q with net.mirrorSeq := q, net.mirrorEpoch := e } :=
    fun u q e => (h2 u ld0Base 8 q).trans ((h2 (dramPut u ld0Base 8 q) ld2Base 8 q).trans (Kept.mirrorStamp _ q e))
  exact ((h s ld0Base 0).trans (h (mirror s ld0Base 0) ld2Base 2)).trans (h1 _ _ _)

theorem execDictionaryMirrorRefresh_keep (s : State) {t' : State} (h : execDictionaryMirrorRefresh s = .next t') :
    (Memory.wf s.net.dram = true → Memory.wf t'.net.dram = true) ∧
      t'.pending = s.pending ∧
      t'.power.serial = s.power.serial ∧
      t'.power.ident = s.power.ident := by
  unfold execDictionaryMirrorRefresh at h
  split at h
  · obtain rfl := Host.Outcome.next.inj h
    exact Kept.trans (mirrorsAt_keep s) (refreshArchive_keep _)
  · obtain rfl := Host.Outcome.next.inj h
    exact Kept.refl s

/-! ## Registers -/

@[simp] theorem readEffect_keep (s : State) (addr : Nat) :
    (readEffect s addr).net.dram = s.net.dram ∧
      (readEffect s addr).pending = s.pending ∧
      (readEffect s addr).power.serial = s.power.serial ∧
      (readEffect s addr).power.ident = s.power.ident := by
  unfold readEffect; simp

@[simp] theorem readGives_keep (s : State) (v : Nat) :
    (readGives s v).net.dram = s.net.dram ∧
      (readGives s v).pending = s.pending ∧
      (readGives s v).power.serial = s.power.serial ∧
      (readGives s v).power.ident = s.power.ident := by
  unfold readGives; simp

@[simp] theorem readFree_keep (s : State) :
    (readFree s).net.dram = s.net.dram ∧
      (readFree s).pending = s.pending ∧
      (readFree s).power.serial = s.power.serial ∧
      (readFree s).power.ident = s.power.ident := by
  unfold readFree; simp

/-- An outcome keeps what every step keeps of `s`, if it is a next state. -/
def KeptO (s : State) (o : Out) : Prop := ∀ t, o = .next t → Kept s t

theorem KeptO.next {s t : State} (h : Kept s t) : KeptO s (.next t) := fun _ e => by injection e with e; exact e ▸ h

theorem KeptO.ite {s : State} {p : Prop} [Decidable p] {x y : Out} (hx : KeptO s x) (hy : KeptO s y) :
    KeptO s (if p then x else y) := by
  split
  · exact hx
  · exact hy

theorem KeptO.from {s u : State} {o : Out} (h : Kept s u) (ho : KeptO u o) : KeptO s o :=
  fun t e => h.trans (ho t e)

theorem KeptO.andThen {s : State} {o : Out} {f : State → Out} (ho : KeptO s o) (hf : ∀ u, KeptO u (f u)) :
    KeptO s (andThen o f) := by
  cases o with
  | next u => exact .from (ho u rfl) (hf u)
  | fault r => intro t e; cases e
  | refused r => intro t e; cases e

theorem csrRead_keep (s : State) (core : Core5) (addr : Nat) : KeptO s (csrRead s core addr) := by
  unfold csrRead
  refine .ite (fun t h => .of_eq (execIcuClaim_keep _ _ h)) ?_
  refine .ite (.next (.of_eq (by simp))) (.ite (.next (.of_eq (by simp))) (.ite (.next (.of_eq (by simp))) ?_))
  exact .next (.of_eq (by simp))

@[simp] theorem readMap_keep (s : State) (addr : Nat) :
    (readMap s addr).net.dram = s.net.dram ∧
      (readMap s addr).pending = s.pending ∧
      (readMap s addr).power.serial = s.power.serial ∧
      (readMap s addr).power.ident = s.power.ident := by
  unfold readMap; simp

theorem execReadClearRegister_keep (core : Core5) (addr : Nat) (s : State) :
    KeptO s (execReadClearRegister core addr s) := by
  unfold execReadClearRegister
  exact .ite (csrRead_keep _ _ _) (.ite (.next (.of_eq (by simp))) (.next (.of_eq (by simp))))

theorem writeCtrlStr_keep {s : State} {o : Out} (x : Str) (v : Nat) (h : KeptO s o) : KeptO s (writeCtrlStr x v o) := by
  unfold writeCtrlStr
  have h1 := h.andThen (f := execCotEna .rt x (bit v x.idx)) fun u t e => .of_eq (execCotEna_keep _ _ _ _ e)
  have h2 : KeptO s (if bit v (2 + x.idx) then Sys2Proof.Machine.andThen
      (Sys2Proof.Machine.andThen o (execCotEna .rt x (bit v x.idx))) (execCotStart .rt x)
      else Sys2Proof.Machine.andThen o (execCotEna .rt x (bit v x.idx))) :=
    .ite (h1.andThen fun u t e => .of_eq (execCotStart_keep _ _ _ e)) h1
  exact .ite (h2.andThen fun u t e => .of_eq (execCotLatclr_keep _ _ _ e)) h2

theorem writeCotCtrl_keep (s : State) (v : Nat) : KeptO s (writeCotCtrl s v) := by
  unfold writeCotCtrl
  have h : KeptO s (writeCtrlStr .B v (writeCtrlStr .A v (execCotShedEn .rt (bit v 4) s))) :=
    writeCtrlStr_keep _ _ (writeCtrlStr_keep _ _ fun t e => .of_eq (execCotShedEn_keep _ _ _ e))
  exact .ite (h.andThen fun u t e => .of_eq (execCotOvclr_keep _ _ e)) h

@[simp] theorem writeVref_keep (s : State) (v : Nat) :
    (writeVref s v).net.dram = s.net.dram ∧
      (writeVref s v).pending = s.pending ∧
      (writeVref s v).power.serial = s.power.serial ∧
      (writeVref s v).power.ident = s.power.ident := by
  unfold writeVref; simp

@[simp] theorem writeSlew_keep (s : State) (v : Nat) :
    (writeSlew s v).net.dram = s.net.dram ∧
      (writeSlew s v).pending = s.pending ∧
      (writeSlew s v).power.serial = s.power.serial ∧
      (writeSlew s v).power.ident = s.power.ident := by
  unfold writeSlew; simp

theorem writeCont_keep {s : State} {o : Out} (v : Nat) (x : Str) (h : KeptO s o) : KeptO s (writeCont v x o) := by
  unfold writeCont
  refine KeptO.andThen (h.andThen fun u => .ite (.next (.refl u)) ?_) fun u => .ite (.next (.refl u)) ?_
  · exact fun t e => .of_eq (execContactorPrechargeCommand_keep _ _ _ _ e)
  · exact fun t e => .of_eq (execContactorMainCommand_keep _ _ _ _ e)

theorem writeCot_keep (s : State) (off v : Nat) : KeptO s (writeCot s off v) := by
  unfold writeCot
  refine .ite (writeCotCtrl_keep s v) (.ite (.next (.of_eq (by simp))) (.ite (.next (.of_eq (by simp))) ?_))
  refine .ite (fun t e => .of_eq (execCotPhenWrite_keep _ _ _ e)) (.ite (.next (.of_eq (by simp))) ?_)
  refine .ite (writeCont_keep _ _ (writeCont_keep _ _ (.next (.refl s)))) (.ite (.next (.of_eq (by simp))) ?_)
  exact .next (.refl s)

theorem writeLpeCtrl_keep (s : State) (v : Nat) : KeptO s (writeLpeCtrl s v) := by
  unfold writeLpeCtrl
  have h : KeptO s (execLpeRun .rt (bit v 0) { s with lpe.shadowEn := bit v 2, lpe.selCh := bit v 3 }) :=
    .from (u := { s with lpe.shadowEn := bit v 2, lpe.selCh := bit v 3 }) (.of_eq ⟨rfl, rfl, rfl, rfl⟩)
      fun t e => .of_eq (execLpeRun_keep _ _ _ e)
  have h2 : KeptO s (if bit v 4 then Sys2Proof.Machine.andThen
      (execLpeRun .rt (bit v 0) { s with lpe.shadowEn := bit v 2, lpe.selCh := bit v 3 }) (execLpeSelreq .rt)
      else execLpeRun .rt (bit v 0) { s with lpe.shadowEn := bit v 2, lpe.selCh := bit v 3 }) :=
    .ite (h.andThen fun u t e => .of_eq (execLpeSelreq_keep _ _ e)) h
  exact .ite (h2.andThen fun u t e => .of_eq (execLpeFixrst_keep _ _ e)) h2

theorem writeLpe_keep (s : State) (off v : Nat) : KeptO s (writeLpe s off v) := by
  unfold writeLpe
  exact .ite (writeLpeCtrl_keep s v) (.ite (.next (.of_eq ⟨rfl, rfl, rfl, rfl⟩)) (.next (.refl s)))

theorem writeGrd_keep (s : State) (off v : Nat) : KeptO s (writeGrd s off v) := by
  unfold writeGrd
  refine .ite (.next (.of_eq ⟨rfl, rfl, rfl, rfl⟩)) (.ite ?_ (.next (.refl s)))
  exact fun t e => .of_eq (execGuardNarrowing_keep _ _ _ _ e)

theorem writeAonClk_keep (s : State) (v : Nat) {t' : State} (h : writeAonClk s v = .next t') :
    t'.net.dram = s.net.dram ∧
      t'.pending = s.pending ∧
      t'.power.serial = s.power.serial ∧
      t'.power.ident = s.power.ident := by
  simp only [writeAonClk] at h; (repeat' split at h) <;> injection h with h <;> subst h <;> simp

theorem writeAon_keep (s : State) (off v : Nat) : KeptO s (writeAon s off v) := by
  unfold writeAon
  refine .ite (fun t e => .of_eq (execLiveReq_keep _ _ _ e)) ?_
  refine .ite (fun t e => .of_eq (writeAonClk_keep _ _ e)) (.ite (.next (.of_eq (by split <;> simp))) ?_)
  exact .ite (.next (.of_eq ⟨rfl, rfl, rfl, rfl⟩)) (.next (.refl s))

@[simp] theorem writeTrc_keep (s : State) (off : Nat) (v : Nat) :
    (writeTrc s off v).net.dram = s.net.dram ∧
      (writeTrc s off v).pending = s.pending ∧
      (writeTrc s off v).power.serial = s.power.serial ∧
      (writeTrc s off v).power.ident = s.power.ident := by
  unfold writeTrc; simp

theorem writeIcu_keep (s : State) (off v : Nat) : KeptO s (writeIcu s off v) := by
  unfold writeIcu
  refine .ite (.ite (fun t e => .of_eq (execIcuFaultClear_keep _ _ e)) (.next (.refl s))) ?_
  refine .ite (.next (.of_eq ⟨rfl, rfl, rfl, rfl⟩)) (.ite (fun t e => .of_eq (execIcuSwp_keep _ _ _ _ e)) ?_)
  exact .ite (fun t e => .of_eq (execIcuRouteWrite_keep _ _ _ _ e)) (.next (.refl s))

theorem blockWrite_keep (s : State) (addr v : Nat) : KeptO s (blockWrite s addr v) := by
  unfold blockWrite
  refine .ite (writeIcu_keep _ _ _) (.ite (writeCot_keep _ _ _) (.ite (writeLpe_keep _ _ _) ?_))
  exact .ite (writeGrd_keep _ _ _) (.ite (writeAon_keep _ _ _) (.next (.of_eq (by simp))))

theorem execEngAperWrite_keep (core : Core5) (value : Word) (s : State) {t' : State} (h : execEngAperWrite core value s = .next t') :
    t'.net.dram = s.net.dram ∧
      t'.pending = s.pending ∧
      t'.power.serial = s.power.serial ∧
      t'.power.ident = s.power.ident := by
  simp only [execEngAperWrite] at h; (repeat' split at h) <;> injection h with h <;> subst h <;> simp

theorem csrWrite_keep (s : State) (core : Core5) (addr v : Nat) : KeptO s (csrWrite s core addr v) := by
  unfold csrWrite
  refine .ite (fun t e => .of_eq (execIcuComplete_keep _ _ _ e)) (.ite (.next (.of_eq (by simp))) ?_)
  refine .ite (fun t e => .of_eq (execIcuPswp_keep _ _ _ e)) ?_
  refine .ite (fun t e => .of_eq (execIcuSswp_keep _ _ _ e)) ?_
  exact .ite (fun t e => .of_eq (execIcuXsig_keep _ _ _ _ e)) (.next (.of_eq (by simp)))

@[simp] theorem attrWrite_keep (s : State) (addr : Nat) (v : Nat) :
    (attrWrite s addr v).net.dram = s.net.dram ∧
      (attrWrite s addr v).pending = s.pending ∧
      (attrWrite s addr v).power.serial = s.power.serial ∧
      (attrWrite s addr v).power.ident = s.power.ident := by
  unfold attrWrite; simp

theorem writeMap_keep (s : State) (core : Core5) (addr v : Nat) : KeptO s (writeMap s core addr v) := by
  unfold writeMap
  refine .ite (blockWrite_keep _ _ _) (.ite (.next (.of_eq ⟨rfl, rfl, rfl, rfl⟩)) ?_)
  refine .ite (.next (.of_eq (by simp))) (.ite (fun t e => .of_eq (execEngAperWrite_keep _ _ _ e)) ?_)
  exact .ite (.next ⟨fun h => wf_memWriteAll _ _ _ h, rfl, rfl, rfl⟩) (.next (.refl s))

@[simp] theorem foreignWrite_keep (s : State) (core : Core5) (addr : Nat) :
    (foreignWrite s core addr).net.dram = s.net.dram ∧
      (foreignWrite s core addr).pending = s.pending ∧
      (foreignWrite s core addr).power.serial = s.power.serial ∧
      (foreignWrite s core addr).power.ident = s.power.ident := by
  unfold foreignWrite; simp

theorem execRegisterWrite_keep (core : Core5) (addr : Nat) (value : Word) (s : State) :
    KeptO s (execRegisterWrite core addr value s) := by
  unfold execRegisterWrite
  refine .ite (csrWrite_keep _ _ _ _) (.ite (.from (.of_eq (by simp)) (writeMap_keep _ _ _ _)) ?_)
  exact .next (.of_eq (by simp))

end Sys2Proof.Machine
end

