-- ==== Sys2Proof/Laws/State.lean ====
section
/-! SUPPORT. What the shared updates leave alone: one law per update and per group of State, and per field of the groups an
update touches; and what the dictionary store reads after a write. -/
namespace Sys2Proof.Machine

/-! ## dset -/

@[simp] theorem dset_power (s : State) (o e v : Nat) : (dset s o e v).power = s.power := rfl
@[simp] theorem dset_epo (s : State) (o e v : Nat) : (dset s o e v).epo = s.epo := rfl
@[simp] theorem dset_lead (s : State) (o e v : Nat) : (dset s o e v).lead = s.lead := rfl
@[simp] theorem dset_fac (s : State) (o e v : Nat) : (dset s o e v).fac = s.fac := rfl
@[simp] theorem dset_eng (s : State) (o e v : Nat) : (dset s o e v).eng = s.eng := rfl
@[simp] theorem dset_cot (s : State) (o e v : Nat) : (dset s o e v).cot = s.cot := rfl
@[simp] theorem dset_lpe (s : State) (o e v : Nat) : (dset s o e v).lpe = s.lpe := rfl
@[simp] theorem dset_trc (s : State) (o e v : Nat) : (dset s o e v).trc = s.trc := rfl
@[simp] theorem dset_strs (s : State) (o e v : Nat) : (dset s o e v).strs = s.strs := rfl
@[simp] theorem dset_grd (s : State) (o e v : Nat) : (dset s o e v).grd = s.grd := rfl
@[simp] theorem dset_red (s : State) (o e v : Nat) : (dset s o e v).red = s.red := rfl
@[simp] theorem dset_sec (s : State) (o e v : Nat) : (dset s o e v).sec = s.sec := rfl
@[simp] theorem dset_net (s : State) (o e v : Nat) : (dset s o e v).net = s.net := rfl
@[simp] theorem dset_icu (s : State) (o e v : Nat) : (dset s o e v).icu = s.icu := rfl
@[simp] theorem dset_recs (s : State) (o e v : Nat) : (dset s o e v).recs = s.recs := rfl
@[simp] theorem dset_dic_pend (s : State) (o e v : Nat) : (dset s o e v).dic.pend = s.dic.pend := rfl
@[simp] theorem dset_dic_staged (s : State) (o e v : Nat) : (dset s o e v).dic.staged = s.dic.staged := rfl
@[simp] theorem dset_dic_resp (s : State) (o e v : Nat) : (dset s o e v).dic.resp = s.dic.resp := rfl
@[simp] theorem dset_dic_respTo (s : State) (o e v : Nat) : (dset s o e v).dic.respTo = s.dic.respTo := rfl
@[simp] theorem dset_dic_kept (s : State) (o e v : Nat) : (dset s o e v).dic.kept = s.dic.kept := rfl
@[simp] theorem dset_dic_reg (s : State) (o e v : Nat) : (dset s o e v).dic.reg = s.dic.reg := rfl
@[simp] theorem dset_dic_busErr (s : State) (o e v : Nat) : (dset s o e v).dic.busErr = s.dic.busErr := rfl
@[simp] theorem dset_dic_free (s : State) (o e v : Nat) : (dset s o e v).dic.free = s.dic.free := rfl
@[simp] theorem dset_pending (s : State) (o e v : Nat) : (dset s o e v).pending = s.pending := rfl

/-! ## bump -/

@[simp] theorem bump_power (s : State) (o e : Nat) : (bump s o e).power = s.power := rfl
@[simp] theorem bump_epo (s : State) (o e : Nat) : (bump s o e).epo = s.epo := rfl
@[simp] theorem bump_lead (s : State) (o e : Nat) : (bump s o e).lead = s.lead := rfl
@[simp] theorem bump_fac (s : State) (o e : Nat) : (bump s o e).fac = s.fac := rfl
@[simp] theorem bump_eng (s : State) (o e : Nat) : (bump s o e).eng = s.eng := rfl
@[simp] theorem bump_cot (s : State) (o e : Nat) : (bump s o e).cot = s.cot := rfl
@[simp] theorem bump_lpe (s : State) (o e : Nat) : (bump s o e).lpe = s.lpe := rfl
@[simp] theorem bump_trc (s : State) (o e : Nat) : (bump s o e).trc = s.trc := rfl
@[simp] theorem bump_strs (s : State) (o e : Nat) : (bump s o e).strs = s.strs := rfl
@[simp] theorem bump_grd (s : State) (o e : Nat) : (bump s o e).grd = s.grd := rfl
@[simp] theorem bump_red (s : State) (o e : Nat) : (bump s o e).red = s.red := rfl
@[simp] theorem bump_sec (s : State) (o e : Nat) : (bump s o e).sec = s.sec := rfl
@[simp] theorem bump_net (s : State) (o e : Nat) : (bump s o e).net = s.net := rfl
@[simp] theorem bump_icu (s : State) (o e : Nat) : (bump s o e).icu = s.icu := rfl
@[simp] theorem bump_recs (s : State) (o e : Nat) : (bump s o e).recs = s.recs := rfl
@[simp] theorem bump_dic_pend (s : State) (o e : Nat) : (bump s o e).dic.pend = s.dic.pend := rfl
@[simp] theorem bump_dic_staged (s : State) (o e : Nat) : (bump s o e).dic.staged = s.dic.staged := rfl
@[simp] theorem bump_dic_resp (s : State) (o e : Nat) : (bump s o e).dic.resp = s.dic.resp := rfl
@[simp] theorem bump_dic_respTo (s : State) (o e : Nat) : (bump s o e).dic.respTo = s.dic.respTo := rfl
@[simp] theorem bump_dic_kept (s : State) (o e : Nat) : (bump s o e).dic.kept = s.dic.kept := rfl
@[simp] theorem bump_dic_reg (s : State) (o e : Nat) : (bump s o e).dic.reg = s.dic.reg := rfl
@[simp] theorem bump_dic_busErr (s : State) (o e : Nat) : (bump s o e).dic.busErr = s.dic.busErr := rfl
@[simp] theorem bump_dic_free (s : State) (o e : Nat) : (bump s o e).dic.free = s.dic.free := rfl
@[simp] theorem bump_pending (s : State) (o e : Nat) : (bump s o e).pending = s.pending := rfl

/-! ## bumpN -/

@[simp] theorem bumpN_power (s : State) (o e n : Nat) : (bumpN s o e n).power = s.power := rfl
@[simp] theorem bumpN_epo (s : State) (o e n : Nat) : (bumpN s o e n).epo = s.epo := rfl
@[simp] theorem bumpN_lead (s : State) (o e n : Nat) : (bumpN s o e n).lead = s.lead := rfl
@[simp] theorem bumpN_fac (s : State) (o e n : Nat) : (bumpN s o e n).fac = s.fac := rfl
@[simp] theorem bumpN_eng (s : State) (o e n : Nat) : (bumpN s o e n).eng = s.eng := rfl
@[simp] theorem bumpN_cot (s : State) (o e n : Nat) : (bumpN s o e n).cot = s.cot := rfl
@[simp] theorem bumpN_lpe (s : State) (o e n : Nat) : (bumpN s o e n).lpe = s.lpe := rfl
@[simp] theorem bumpN_trc (s : State) (o e n : Nat) : (bumpN s o e n).trc = s.trc := rfl
@[simp] theorem bumpN_strs (s : State) (o e n : Nat) : (bumpN s o e n).strs = s.strs := rfl
@[simp] theorem bumpN_grd (s : State) (o e n : Nat) : (bumpN s o e n).grd = s.grd := rfl
@[simp] theorem bumpN_red (s : State) (o e n : Nat) : (bumpN s o e n).red = s.red := rfl
@[simp] theorem bumpN_sec (s : State) (o e n : Nat) : (bumpN s o e n).sec = s.sec := rfl
@[simp] theorem bumpN_net (s : State) (o e n : Nat) : (bumpN s o e n).net = s.net := rfl
@[simp] theorem bumpN_icu (s : State) (o e n : Nat) : (bumpN s o e n).icu = s.icu := rfl
@[simp] theorem bumpN_recs (s : State) (o e n : Nat) : (bumpN s o e n).recs = s.recs := rfl
@[simp] theorem bumpN_dic_pend (s : State) (o e n : Nat) : (bumpN s o e n).dic.pend = s.dic.pend := rfl
@[simp] theorem bumpN_dic_staged (s : State) (o e n : Nat) : (bumpN s o e n).dic.staged = s.dic.staged := rfl
@[simp] theorem bumpN_dic_resp (s : State) (o e n : Nat) : (bumpN s o e n).dic.resp = s.dic.resp := rfl
@[simp] theorem bumpN_dic_respTo (s : State) (o e n : Nat) : (bumpN s o e n).dic.respTo = s.dic.respTo := rfl
@[simp] theorem bumpN_dic_kept (s : State) (o e n : Nat) : (bumpN s o e n).dic.kept = s.dic.kept := rfl
@[simp] theorem bumpN_dic_reg (s : State) (o e n : Nat) : (bumpN s o e n).dic.reg = s.dic.reg := rfl
@[simp] theorem bumpN_dic_busErr (s : State) (o e n : Nat) : (bumpN s o e n).dic.busErr = s.dic.busErr := rfl
@[simp] theorem bumpN_dic_free (s : State) (o e n : Nat) : (bumpN s o e n).dic.free = s.dic.free := rfl
@[simp] theorem bumpN_pending (s : State) (o e n : Nat) : (bumpN s o e n).pending = s.pending := rfl

/-! ## dropPend -/

@[simp] theorem dropPend_power (s : State) (o e : Nat) : (dropPend s o e).power = s.power := rfl
@[simp] theorem dropPend_epo (s : State) (o e : Nat) : (dropPend s o e).epo = s.epo := rfl
@[simp] theorem dropPend_lead (s : State) (o e : Nat) : (dropPend s o e).lead = s.lead := rfl
@[simp] theorem dropPend_fac (s : State) (o e : Nat) : (dropPend s o e).fac = s.fac := rfl
@[simp] theorem dropPend_eng (s : State) (o e : Nat) : (dropPend s o e).eng = s.eng := rfl
@[simp] theorem dropPend_cot (s : State) (o e : Nat) : (dropPend s o e).cot = s.cot := rfl
@[simp] theorem dropPend_lpe (s : State) (o e : Nat) : (dropPend s o e).lpe = s.lpe := rfl
@[simp] theorem dropPend_trc (s : State) (o e : Nat) : (dropPend s o e).trc = s.trc := rfl
@[simp] theorem dropPend_strs (s : State) (o e : Nat) : (dropPend s o e).strs = s.strs := rfl
@[simp] theorem dropPend_grd (s : State) (o e : Nat) : (dropPend s o e).grd = s.grd := rfl
@[simp] theorem dropPend_red (s : State) (o e : Nat) : (dropPend s o e).red = s.red := rfl
@[simp] theorem dropPend_sec (s : State) (o e : Nat) : (dropPend s o e).sec = s.sec := rfl
@[simp] theorem dropPend_net (s : State) (o e : Nat) : (dropPend s o e).net = s.net := rfl
@[simp] theorem dropPend_icu (s : State) (o e : Nat) : (dropPend s o e).icu = s.icu := rfl
@[simp] theorem dropPend_recs (s : State) (o e : Nat) : (dropPend s o e).recs = s.recs := rfl
@[simp] theorem dropPend_dic_vals (s : State) (o e : Nat) : (dropPend s o e).dic.vals = s.dic.vals := rfl
@[simp] theorem dropPend_dic_staged (s : State) (o e : Nat) : (dropPend s o e).dic.staged = s.dic.staged := rfl
@[simp] theorem dropPend_dic_resp (s : State) (o e : Nat) : (dropPend s o e).dic.resp = s.dic.resp := rfl
@[simp] theorem dropPend_dic_respTo (s : State) (o e : Nat) : (dropPend s o e).dic.respTo = s.dic.respTo := rfl
@[simp] theorem dropPend_dic_kept (s : State) (o e : Nat) : (dropPend s o e).dic.kept = s.dic.kept := rfl
@[simp] theorem dropPend_dic_reg (s : State) (o e : Nat) : (dropPend s o e).dic.reg = s.dic.reg := rfl
@[simp] theorem dropPend_dic_busErr (s : State) (o e : Nat) : (dropPend s o e).dic.busErr = s.dic.busErr := rfl
@[simp] theorem dropPend_dic_free (s : State) (o e : Nat) : (dropPend s o e).dic.free = s.dic.free := rfl
@[simp] theorem dropPend_pending (s : State) (o e : Nat) : (dropPend s o e).pending = s.pending := rfl

/-! ## setPend -/

@[simp] theorem setPend_power (s : State) (o e v c : Nat) : (setPend s o e v c).power = s.power := rfl
@[simp] theorem setPend_epo (s : State) (o e v c : Nat) : (setPend s o e v c).epo = s.epo := rfl
@[simp] theorem setPend_lead (s : State) (o e v c : Nat) : (setPend s o e v c).lead = s.lead := rfl
@[simp] theorem setPend_fac (s : State) (o e v c : Nat) : (setPend s o e v c).fac = s.fac := rfl
@[simp] theorem setPend_eng (s : State) (o e v c : Nat) : (setPend s o e v c).eng = s.eng := rfl
@[simp] theorem setPend_cot (s : State) (o e v c : Nat) : (setPend s o e v c).cot = s.cot := rfl
@[simp] theorem setPend_lpe (s : State) (o e v c : Nat) : (setPend s o e v c).lpe = s.lpe := rfl
@[simp] theorem setPend_trc (s : State) (o e v c : Nat) : (setPend s o e v c).trc = s.trc := rfl
@[simp] theorem setPend_strs (s : State) (o e v c : Nat) : (setPend s o e v c).strs = s.strs := rfl
@[simp] theorem setPend_grd (s : State) (o e v c : Nat) : (setPend s o e v c).grd = s.grd := rfl
@[simp] theorem setPend_red (s : State) (o e v c : Nat) : (setPend s o e v c).red = s.red := rfl
@[simp] theorem setPend_sec (s : State) (o e v c : Nat) : (setPend s o e v c).sec = s.sec := rfl
@[simp] theorem setPend_net (s : State) (o e v c : Nat) : (setPend s o e v c).net = s.net := rfl
@[simp] theorem setPend_icu (s : State) (o e v c : Nat) : (setPend s o e v c).icu = s.icu := rfl
@[simp] theorem setPend_recs (s : State) (o e v c : Nat) : (setPend s o e v c).recs = s.recs := rfl
@[simp] theorem setPend_dic_vals (s : State) (o e v c : Nat) : (setPend s o e v c).dic.vals = s.dic.vals := rfl
@[simp] theorem setPend_dic_staged (s : State) (o e v c : Nat) : (setPend s o e v c).dic.staged = s.dic.staged := rfl
@[simp] theorem setPend_dic_resp (s : State) (o e v c : Nat) : (setPend s o e v c).dic.resp = s.dic.resp := rfl
@[simp] theorem setPend_dic_respTo (s : State) (o e v c : Nat) : (setPend s o e v c).dic.respTo = s.dic.respTo := rfl
@[simp] theorem setPend_dic_kept (s : State) (o e v c : Nat) : (setPend s o e v c).dic.kept = s.dic.kept := rfl
@[simp] theorem setPend_dic_reg (s : State) (o e v c : Nat) : (setPend s o e v c).dic.reg = s.dic.reg := rfl
@[simp] theorem setPend_dic_busErr (s : State) (o e v c : Nat) : (setPend s o e v c).dic.busErr = s.dic.busErr := rfl
@[simp] theorem setPend_dic_free (s : State) (o e v c : Nat) : (setPend s o e v c).dic.free = s.dic.free := rfl
@[simp] theorem setPend_pending (s : State) (o e v c : Nat) : (setPend s o e v c).pending = s.pending := rfl

/-! ## drawn -/

@[simp] theorem drawn_power (s : State) : (drawn s).power = s.power := rfl
@[simp] theorem drawn_epo (s : State) : (drawn s).epo = s.epo := rfl
@[simp] theorem drawn_lead (s : State) : (drawn s).lead = s.lead := rfl
@[simp] theorem drawn_fac (s : State) : (drawn s).fac = s.fac := rfl
@[simp] theorem drawn_eng (s : State) : (drawn s).eng = s.eng := rfl
@[simp] theorem drawn_cot (s : State) : (drawn s).cot = s.cot := rfl
@[simp] theorem drawn_lpe (s : State) : (drawn s).lpe = s.lpe := rfl
@[simp] theorem drawn_trc (s : State) : (drawn s).trc = s.trc := rfl
@[simp] theorem drawn_strs (s : State) : (drawn s).strs = s.strs := rfl
@[simp] theorem drawn_grd (s : State) : (drawn s).grd = s.grd := rfl
@[simp] theorem drawn_red (s : State) : (drawn s).red = s.red := rfl
@[simp] theorem drawn_sec (s : State) : (drawn s).sec = s.sec := rfl
@[simp] theorem drawn_net (s : State) : (drawn s).net = s.net := rfl
@[simp] theorem drawn_icu (s : State) : (drawn s).icu = s.icu := rfl
@[simp] theorem drawn_recs (s : State) : (drawn s).recs = s.recs := rfl
@[simp] theorem drawn_dic_vals (s : State) : (drawn s).dic.vals = s.dic.vals := rfl
@[simp] theorem drawn_dic_pend (s : State) : (drawn s).dic.pend = s.dic.pend := rfl
@[simp] theorem drawn_dic_staged (s : State) : (drawn s).dic.staged = s.dic.staged := rfl
@[simp] theorem drawn_dic_resp (s : State) : (drawn s).dic.resp = s.dic.resp := rfl
@[simp] theorem drawn_dic_respTo (s : State) : (drawn s).dic.respTo = s.dic.respTo := rfl
@[simp] theorem drawn_dic_kept (s : State) : (drawn s).dic.kept = s.dic.kept := rfl
@[simp] theorem drawn_dic_reg (s : State) : (drawn s).dic.reg = s.dic.reg := rfl
@[simp] theorem drawn_dic_busErr (s : State) : (drawn s).dic.busErr = s.dic.busErr := rfl
@[simp] theorem drawn_pending (s : State) : (drawn s).pending = s.pending := rfl

/-! ## logEvent -/

@[simp] theorem logEvent_power (s : State) (k r v p : Nat) : (logEvent s k r v p).power = s.power := rfl
@[simp] theorem logEvent_epo (s : State) (k r v p : Nat) : (logEvent s k r v p).epo = s.epo := rfl
@[simp] theorem logEvent_lead (s : State) (k r v p : Nat) : (logEvent s k r v p).lead = s.lead := rfl
@[simp] theorem logEvent_fac_emCount (s : State) (k r v p : Nat) : (logEvent s k r v p).fac.emCount = s.fac.emCount := rfl
@[simp] theorem logEvent_fac_emThis (s : State) (k r v p : Nat) : (logEvent s k r v p).fac.emThis = s.fac.emThis := rfl
@[simp] theorem logEvent_fac_announcedAt (s : State) (k r v p : Nat) : (logEvent s k r v p).fac.announcedAt = s.fac.announcedAt := rfl
@[simp] theorem logEvent_fac_cum (s : State) (k r v p : Nat) : (logEvent s k r v p).fac.cum = s.fac.cum := rfl
@[simp] theorem logEvent_fac_cumUJ (s : State) (k r v p : Nat) : (logEvent s k r v p).fac.cumUJ = s.fac.cumUJ := rfl
@[simp] theorem logEvent_fac_cumStr (s : State) (k r v p : Nat) : (logEvent s k r v p).fac.cumStr = s.fac.cumStr := rfl
@[simp] theorem logEvent_fac_minuteNo (s : State) (k r v p : Nat) : (logEvent s k r v p).fac.minuteNo = s.fac.minuteNo := rfl
@[simp] theorem logEvent_fac_mOpen (s : State) (k r v p : Nat) : (logEvent s k r v p).fac.mOpen = s.fac.mOpen := rfl
@[simp] theorem logEvent_fac_mStart (s : State) (k r v p : Nat) : (logEvent s k r v p).fac.mStart = s.fac.mStart := rfl
@[simp] theorem logEvent_fac_mPeak (s : State) (k r v p : Nat) : (logEvent s k r v p).fac.mPeak = s.fac.mPeak := rfl
@[simp] theorem logEvent_fac_mOver (s : State) (k r v p : Nat) : (logEvent s k r v p).fac.mOver = s.fac.mOver := rfl
@[simp] theorem logEvent_fac_mEmSec (s : State) (k r v p : Nat) : (logEvent s k r v p).fac.mEmSec = s.fac.mEmSec := rfl
@[simp] theorem logEvent_fac_mSoc (s : State) (k r v p : Nat) : (logEvent s k r v p).fac.mSoc = s.fac.mSoc := rfl
@[simp] theorem logEvent_fac_mMinAllow (s : State) (k r v p : Nat) : (logEvent s k r v p).fac.mMinAllow = s.fac.mMinAllow := rfl
@[simp] theorem logEvent_fac_mFill (s : State) (k r v p : Nat) : (logEvent s k r v p).fac.mFill = s.fac.mFill := rfl
@[simp] theorem logEvent_fac_mStr (s : State) (k r v p : Nat) : (logEvent s k r v p).fac.mStr = s.fac.mStr := rfl
@[simp] theorem logEvent_fac_mFlags (s : State) (k r v p : Nat) : (logEvent s k r v p).fac.mFlags = s.fac.mFlags := rfl
@[simp] theorem logEvent_fac_secE (s : State) (k r v p : Nat) : (logEvent s k r v p).fac.secE = s.fac.secE := rfl
@[simp] theorem logEvent_fac_secN (s : State) (k r v p : Nat) : (logEvent s k r v p).fac.secN = s.fac.secN := rfl
@[simp] theorem logEvent_fac_secCeil (s : State) (k r v p : Nat) : (logEvent s k r v p).fac.secCeil = s.fac.secCeil := rfl
@[simp] theorem logEvent_fac_secEm (s : State) (k r v p : Nat) : (logEvent s k r v p).fac.secEm = s.fac.secEm := rfl
@[simp] theorem logEvent_fac_metroSec (s : State) (k r v p : Nat) : (logEvent s k r v p).fac.metroSec = s.fac.metroSec := rfl
@[simp] theorem logEvent_fac_chain (s : State) (k r v p : Nat) : (logEvent s k r v p).fac.chain = s.fac.chain := rfl
@[simp] theorem logEvent_fac_minutes (s : State) (k r v p : Nat) : (logEvent s k r v p).fac.minutes = s.fac.minutes := rfl
@[simp] theorem logEvent_fac_minuteN (s : State) (k r v p : Nat) : (logEvent s k r v p).fac.minuteN = s.fac.minuteN := rfl
@[simp] theorem logEvent_fac_latest (s : State) (k r v p : Nat) : (logEvent s k r v p).fac.latest = s.fac.latest := rfl
@[simp] theorem logEvent_fac_seals (s : State) (k r v p : Nat) : (logEvent s k r v p).fac.seals = s.fac.seals := rfl
@[simp] theorem logEvent_fac_sealN (s : State) (k r v p : Nat) : (logEvent s k r v p).fac.sealN = s.fac.sealN := rfl
@[simp] theorem logEvent_fac_hourHash (s : State) (k r v p : Nat) : (logEvent s k r v p).fac.hourHash = s.fac.hourHash := rfl
@[simp] theorem logEvent_fac_lost (s : State) (k r v p : Nat) : (logEvent s k r v p).fac.lost = s.fac.lost := rfl
@[simp] theorem logEvent_fac_nextFlags (s : State) (k r v p : Nat) : (logEvent s k r v p).fac.nextFlags = s.fac.nextFlags := rfl
@[simp] theorem logEvent_fac_feedLost (s : State) (k r v p : Nat) : (logEvent s k r v p).fac.feedLost = s.fac.feedLost := rfl
@[simp] theorem logEvent_fac_un (s : State) (k r v p : Nat) : (logEvent s k r v p).fac.un = s.fac.un := rfl
@[simp] theorem logEvent_fac_rectOk (s : State) (k r v p : Nat) : (logEvent s k r v p).fac.rectOk = s.fac.rectOk := rfl
@[simp] theorem logEvent_fac_ceiling (s : State) (k r v p : Nat) : (logEvent s k r v p).fac.ceiling = s.fac.ceiling := rfl
@[simp] theorem logEvent_fac_y (s : State) (k r v p : Nat) : (logEvent s k r v p).fac.y = s.fac.y := rfl
@[simp] theorem logEvent_fac_cu (s : State) (k r v p : Nat) : (logEvent s k r v p).fac.cu = s.fac.cu := rfl
@[simp] theorem logEvent_fac_cd (s : State) (k r v p : Nat) : (logEvent s k r v p).fac.cd = s.fac.cd := rfl
@[simp] theorem logEvent_fac_rectSeq (s : State) (k r v p : Nat) : (logEvent s k r v p).fac.rectSeq = s.fac.rectSeq := rfl
@[simp] theorem logEvent_fac_rectWord (s : State) (k r v p : Nat) : (logEvent s k r v p).fac.rectWord = s.fac.rectWord := rfl
@[simp] theorem logEvent_fac_lastIn (s : State) (k r v p : Nat) : (logEvent s k r v p).fac.lastIn = s.fac.lastIn := rfl
@[simp] theorem logEvent_fac_lastStr (s : State) (k r v p : Nat) : (logEvent s k r v p).fac.lastStr = s.fac.lastStr := rfl
@[simp] theorem logEvent_fac_lastStr2 (s : State) (k r v p : Nat) : (logEvent s k r v p).fac.lastStr2 = s.fac.lastStr2 := rfl
@[simp] theorem logEvent_fac_contractHash (s : State) (k r v p : Nat) : (logEvent s k r v p).fac.contractHash = s.fac.contractHash := rfl
@[simp] theorem logEvent_fac_stepDue (s : State) (k r v p : Nat) : (logEvent s k r v p).fac.stepDue = s.fac.stepDue := rfl
@[simp] theorem logEvent_eng (s : State) (k r v p : Nat) : (logEvent s k r v p).eng = s.eng := rfl
@[simp] theorem logEvent_cot (s : State) (k r v p : Nat) : (logEvent s k r v p).cot = s.cot := rfl
@[simp] theorem logEvent_lpe (s : State) (k r v p : Nat) : (logEvent s k r v p).lpe = s.lpe := rfl
@[simp] theorem logEvent_trc (s : State) (k r v p : Nat) : (logEvent s k r v p).trc = s.trc := rfl
@[simp] theorem logEvent_strs (s : State) (k r v p : Nat) : (logEvent s k r v p).strs = s.strs := rfl
@[simp] theorem logEvent_grd (s : State) (k r v p : Nat) : (logEvent s k r v p).grd = s.grd := rfl
@[simp] theorem logEvent_red (s : State) (k r v p : Nat) : (logEvent s k r v p).red = s.red := rfl
@[simp] theorem logEvent_sec (s : State) (k r v p : Nat) : (logEvent s k r v p).sec = s.sec := rfl
@[simp] theorem logEvent_net (s : State) (k r v p : Nat) : (logEvent s k r v p).net = s.net := rfl
@[simp] theorem logEvent_icu (s : State) (k r v p : Nat) : (logEvent s k r v p).icu = s.icu := rfl
@[simp] theorem logEvent_recs (s : State) (k r v p : Nat) : (logEvent s k r v p).recs = s.recs := rfl
@[simp] theorem logEvent_dic (s : State) (k r v p : Nat) : (logEvent s k r v p).dic = s.dic := rfl
@[simp] theorem logEvent_pending (s : State) (k r v p : Nat) : (logEvent s k r v p).pending = s.pending := rfl

/-! ## minuteFlag -/

@[simp] theorem minuteFlag_power (s : State) (i : Nat) : (minuteFlag s i).power = s.power := rfl
@[simp] theorem minuteFlag_epo (s : State) (i : Nat) : (minuteFlag s i).epo = s.epo := rfl
@[simp] theorem minuteFlag_lead (s : State) (i : Nat) : (minuteFlag s i).lead = s.lead := rfl
@[simp] theorem minuteFlag_fac_emCount (s : State) (i : Nat) : (minuteFlag s i).fac.emCount = s.fac.emCount := rfl
@[simp] theorem minuteFlag_fac_emThis (s : State) (i : Nat) : (minuteFlag s i).fac.emThis = s.fac.emThis := rfl
@[simp] theorem minuteFlag_fac_announcedAt (s : State) (i : Nat) : (minuteFlag s i).fac.announcedAt = s.fac.announcedAt := rfl
@[simp] theorem minuteFlag_fac_cum (s : State) (i : Nat) : (minuteFlag s i).fac.cum = s.fac.cum := rfl
@[simp] theorem minuteFlag_fac_cumUJ (s : State) (i : Nat) : (minuteFlag s i).fac.cumUJ = s.fac.cumUJ := rfl
@[simp] theorem minuteFlag_fac_cumStr (s : State) (i : Nat) : (minuteFlag s i).fac.cumStr = s.fac.cumStr := rfl
@[simp] theorem minuteFlag_fac_minuteNo (s : State) (i : Nat) : (minuteFlag s i).fac.minuteNo = s.fac.minuteNo := rfl
@[simp] theorem minuteFlag_fac_mOpen (s : State) (i : Nat) : (minuteFlag s i).fac.mOpen = s.fac.mOpen := rfl
@[simp] theorem minuteFlag_fac_mStart (s : State) (i : Nat) : (minuteFlag s i).fac.mStart = s.fac.mStart := rfl
@[simp] theorem minuteFlag_fac_mPeak (s : State) (i : Nat) : (minuteFlag s i).fac.mPeak = s.fac.mPeak := rfl
@[simp] theorem minuteFlag_fac_mOver (s : State) (i : Nat) : (minuteFlag s i).fac.mOver = s.fac.mOver := rfl
@[simp] theorem minuteFlag_fac_mEmSec (s : State) (i : Nat) : (minuteFlag s i).fac.mEmSec = s.fac.mEmSec := rfl
@[simp] theorem minuteFlag_fac_mSoc (s : State) (i : Nat) : (minuteFlag s i).fac.mSoc = s.fac.mSoc := rfl
@[simp] theorem minuteFlag_fac_mMinAllow (s : State) (i : Nat) : (minuteFlag s i).fac.mMinAllow = s.fac.mMinAllow := rfl
@[simp] theorem minuteFlag_fac_mFill (s : State) (i : Nat) : (minuteFlag s i).fac.mFill = s.fac.mFill := rfl
@[simp] theorem minuteFlag_fac_mStr (s : State) (i : Nat) : (minuteFlag s i).fac.mStr = s.fac.mStr := rfl
@[simp] theorem minuteFlag_fac_secE (s : State) (i : Nat) : (minuteFlag s i).fac.secE = s.fac.secE := rfl
@[simp] theorem minuteFlag_fac_secN (s : State) (i : Nat) : (minuteFlag s i).fac.secN = s.fac.secN := rfl
@[simp] theorem minuteFlag_fac_secCeil (s : State) (i : Nat) : (minuteFlag s i).fac.secCeil = s.fac.secCeil := rfl
@[simp] theorem minuteFlag_fac_secEm (s : State) (i : Nat) : (minuteFlag s i).fac.secEm = s.fac.secEm := rfl
@[simp] theorem minuteFlag_fac_metroSec (s : State) (i : Nat) : (minuteFlag s i).fac.metroSec = s.fac.metroSec := rfl
@[simp] theorem minuteFlag_fac_chain (s : State) (i : Nat) : (minuteFlag s i).fac.chain = s.fac.chain := rfl
@[simp] theorem minuteFlag_fac_events (s : State) (i : Nat) : (minuteFlag s i).fac.events = s.fac.events := rfl
@[simp] theorem minuteFlag_fac_eventN (s : State) (i : Nat) : (minuteFlag s i).fac.eventN = s.fac.eventN := rfl
@[simp] theorem minuteFlag_fac_minutes (s : State) (i : Nat) : (minuteFlag s i).fac.minutes = s.fac.minutes := rfl
@[simp] theorem minuteFlag_fac_minuteN (s : State) (i : Nat) : (minuteFlag s i).fac.minuteN = s.fac.minuteN := rfl
@[simp] theorem minuteFlag_fac_latest (s : State) (i : Nat) : (minuteFlag s i).fac.latest = s.fac.latest := rfl
@[simp] theorem minuteFlag_fac_seals (s : State) (i : Nat) : (minuteFlag s i).fac.seals = s.fac.seals := rfl
@[simp] theorem minuteFlag_fac_sealN (s : State) (i : Nat) : (minuteFlag s i).fac.sealN = s.fac.sealN := rfl
@[simp] theorem minuteFlag_fac_hourHash (s : State) (i : Nat) : (minuteFlag s i).fac.hourHash = s.fac.hourHash := rfl
@[simp] theorem minuteFlag_fac_lost (s : State) (i : Nat) : (minuteFlag s i).fac.lost = s.fac.lost := rfl
@[simp] theorem minuteFlag_fac_nextFlags (s : State) (i : Nat) : (minuteFlag s i).fac.nextFlags = s.fac.nextFlags := rfl
@[simp] theorem minuteFlag_fac_feedLost (s : State) (i : Nat) : (minuteFlag s i).fac.feedLost = s.fac.feedLost := rfl
@[simp] theorem minuteFlag_fac_un (s : State) (i : Nat) : (minuteFlag s i).fac.un = s.fac.un := rfl
@[simp] theorem minuteFlag_fac_rectOk (s : State) (i : Nat) : (minuteFlag s i).fac.rectOk = s.fac.rectOk := rfl
@[simp] theorem minuteFlag_fac_ceiling (s : State) (i : Nat) : (minuteFlag s i).fac.ceiling = s.fac.ceiling := rfl
@[simp] theorem minuteFlag_fac_y (s : State) (i : Nat) : (minuteFlag s i).fac.y = s.fac.y := rfl
@[simp] theorem minuteFlag_fac_cu (s : State) (i : Nat) : (minuteFlag s i).fac.cu = s.fac.cu := rfl
@[simp] theorem minuteFlag_fac_cd (s : State) (i : Nat) : (minuteFlag s i).fac.cd = s.fac.cd := rfl
@[simp] theorem minuteFlag_fac_rectSeq (s : State) (i : Nat) : (minuteFlag s i).fac.rectSeq = s.fac.rectSeq := rfl
@[simp] theorem minuteFlag_fac_rectWord (s : State) (i : Nat) : (minuteFlag s i).fac.rectWord = s.fac.rectWord := rfl
@[simp] theorem minuteFlag_fac_lastIn (s : State) (i : Nat) : (minuteFlag s i).fac.lastIn = s.fac.lastIn := rfl
@[simp] theorem minuteFlag_fac_lastStr (s : State) (i : Nat) : (minuteFlag s i).fac.lastStr = s.fac.lastStr := rfl
@[simp] theorem minuteFlag_fac_lastStr2 (s : State) (i : Nat) : (minuteFlag s i).fac.lastStr2 = s.fac.lastStr2 := rfl
@[simp] theorem minuteFlag_fac_contractHash (s : State) (i : Nat) : (minuteFlag s i).fac.contractHash = s.fac.contractHash := rfl
@[simp] theorem minuteFlag_fac_stepDue (s : State) (i : Nat) : (minuteFlag s i).fac.stepDue = s.fac.stepDue := rfl
@[simp] theorem minuteFlag_eng (s : State) (i : Nat) : (minuteFlag s i).eng = s.eng := rfl
@[simp] theorem minuteFlag_cot (s : State) (i : Nat) : (minuteFlag s i).cot = s.cot := rfl
@[simp] theorem minuteFlag_lpe (s : State) (i : Nat) : (minuteFlag s i).lpe = s.lpe := rfl
@[simp] theorem minuteFlag_trc (s : State) (i : Nat) : (minuteFlag s i).trc = s.trc := rfl
@[simp] theorem minuteFlag_strs (s : State) (i : Nat) : (minuteFlag s i).strs = s.strs := rfl
@[simp] theorem minuteFlag_grd (s : State) (i : Nat) : (minuteFlag s i).grd = s.grd := rfl
@[simp] theorem minuteFlag_red (s : State) (i : Nat) : (minuteFlag s i).red = s.red := rfl
@[simp] theorem minuteFlag_sec (s : State) (i : Nat) : (minuteFlag s i).sec = s.sec := rfl
@[simp] theorem minuteFlag_net (s : State) (i : Nat) : (minuteFlag s i).net = s.net := rfl
@[simp] theorem minuteFlag_icu (s : State) (i : Nat) : (minuteFlag s i).icu = s.icu := rfl
@[simp] theorem minuteFlag_recs (s : State) (i : Nat) : (minuteFlag s i).recs = s.recs := rfl
@[simp] theorem minuteFlag_dic (s : State) (i : Nat) : (minuteFlag s i).dic = s.dic := rfl
@[simp] theorem minuteFlag_pending (s : State) (i : Nat) : (minuteFlag s i).pending = s.pending := rfl

/-! ## accessOk -/

@[simp] theorem accessOk_power (s : State) : (accessOk s).power = s.power := rfl
@[simp] theorem accessOk_epo (s : State) : (accessOk s).epo = s.epo := rfl
@[simp] theorem accessOk_lead (s : State) : (accessOk s).lead = s.lead := rfl
@[simp] theorem accessOk_fac (s : State) : (accessOk s).fac = s.fac := rfl
@[simp] theorem accessOk_eng (s : State) : (accessOk s).eng = s.eng := rfl
@[simp] theorem accessOk_cot (s : State) : (accessOk s).cot = s.cot := rfl
@[simp] theorem accessOk_lpe (s : State) : (accessOk s).lpe = s.lpe := rfl
@[simp] theorem accessOk_trc (s : State) : (accessOk s).trc = s.trc := rfl
@[simp] theorem accessOk_strs (s : State) : (accessOk s).strs = s.strs := rfl
@[simp] theorem accessOk_grd (s : State) : (accessOk s).grd = s.grd := rfl
@[simp] theorem accessOk_red (s : State) : (accessOk s).red = s.red := rfl
@[simp] theorem accessOk_sec (s : State) : (accessOk s).sec = s.sec := rfl
@[simp] theorem accessOk_net (s : State) : (accessOk s).net = s.net := rfl
@[simp] theorem accessOk_icu (s : State) : (accessOk s).icu = s.icu := rfl
@[simp] theorem accessOk_recs (s : State) : (accessOk s).recs = s.recs := rfl
@[simp] theorem accessOk_dic_vals (s : State) : (accessOk s).dic.vals = s.dic.vals := rfl
@[simp] theorem accessOk_dic_pend (s : State) : (accessOk s).dic.pend = s.dic.pend := rfl
@[simp] theorem accessOk_dic_staged (s : State) : (accessOk s).dic.staged = s.dic.staged := rfl
@[simp] theorem accessOk_dic_resp (s : State) : (accessOk s).dic.resp = s.dic.resp := rfl
@[simp] theorem accessOk_dic_respTo (s : State) : (accessOk s).dic.respTo = s.dic.respTo := rfl
@[simp] theorem accessOk_dic_kept (s : State) : (accessOk s).dic.kept = s.dic.kept := rfl
@[simp] theorem accessOk_dic_reg (s : State) : (accessOk s).dic.reg = s.dic.reg := rfl
@[simp] theorem accessOk_dic_free (s : State) : (accessOk s).dic.free = s.dic.free := rfl
@[simp] theorem accessOk_pending (s : State) : (accessOk s).pending = s.pending := rfl

/-! ## busError -/

@[simp] theorem busError_power_mstate (s : State) (c : Core5) (b : Nat) : (busError s c b).power.mstate = s.power.mstate := rfl
@[simp] theorem busError_power_dieC (s : State) (c : Core5) (b : Nat) : (busError s c b).power.dieC = s.power.dieC := rfl
@[simp] theorem busError_power_hold (s : State) (c : Core5) (b : Nat) : (busError s c b).power.hold = s.power.hold := rfl
@[simp] theorem busError_power_wake (s : State) (c : Core5) (b : Nat) : (busError s c b).power.wake = s.power.wake := rfl
@[simp] theorem busError_power_pfw (s : State) (c : Core5) (b : Nat) : (busError s c b).power.pfw = s.power.pfw := rfl
@[simp] theorem busError_power_supStr (s : State) (c : Core5) (b : Nat) : (busError s c b).power.supStr = s.power.supStr := rfl
@[simp] theorem busError_power_sup54 (s : State) (c : Core5) (b : Nat) : (busError s c b).power.sup54 = s.power.sup54 := rfl
@[simp] theorem busError_power_liveReq (s : State) (c : Core5) (b : Nat) : (busError s c b).power.liveReq = s.power.liveReq := rfl
@[simp] theorem busError_power_flushed (s : State) (c : Core5) (b : Nat) : (busError s c b).power.flushed = s.power.flushed := rfl
@[simp] theorem busError_power_sidereal (s : State) (c : Core5) (b : Nat) : (busError s c b).power.sidereal = s.power.sidereal := rfl
@[simp] theorem busError_power_sidh (s : State) (c : Core5) (b : Nat) : (busError s c b).power.sidh = s.power.sidh := rfl
@[simp] theorem busError_power_sidHold (s : State) (c : Core5) (b : Nat) : (busError s c b).power.sidHold = s.power.sidHold := rfl
@[simp] theorem busError_power_holdover (s : State) (c : Core5) (b : Nat) : (busError s c b).power.holdover = s.power.holdover := rfl
@[simp] theorem busError_power_eplLock (s : State) (c : Core5) (b : Nat) : (busError s c b).power.eplLock = s.power.eplLock := rfl
@[simp] theorem busError_power_eplEn (s : State) (c : Core5) (b : Nat) : (busError s c b).power.eplEn = s.power.eplEn := rfl
@[simp] theorem busError_power_yplLock (s : State) (c : Core5) (b : Nat) : (busError s c b).power.yplLock = s.power.yplLock := rfl
@[simp] theorem busError_power_cplLock (s : State) (c : Core5) (b : Nat) : (busError s c b).power.cplLock = s.power.cplLock := rfl
@[simp] theorem busError_power_crysLoss (s : State) (c : Core5) (b : Nat) : (busError s c b).power.crysLoss = s.power.crysLoss := rfl
@[simp] theorem busError_power_refLoss (s : State) (c : Core5) (b : Nat) : (busError s c b).power.refLoss = s.power.refLoss := rfl
@[simp] theorem busError_power_refGone (s : State) (c : Core5) (b : Nat) : (busError s c b).power.refGone = s.power.refGone := rfl
@[simp] theorem busError_power_lsmm (s : State) (c : Core5) (b : Nat) : (busError s c b).power.lsmm = s.power.lsmm := rfl
@[simp] theorem busError_power_xlost (s : State) (c : Core5) (b : Nat) : (busError s c b).power.xlost = s.power.xlost := rfl
@[simp] theorem busError_power_pulseCount (s : State) (c : Core5) (b : Nat) : (busError s c b).power.pulseCount = s.power.pulseCount := rfl
@[simp] theorem busError_power_xdrop (s : State) (c : Core5) (b : Nat) : (busError s c b).power.xdrop = s.power.xdrop := rfl
@[simp] theorem busError_power_xTicks (s : State) (c : Core5) (b : Nat) : (busError s c b).power.xTicks = s.power.xTicks := rfl
@[simp] theorem busError_power_bridgeTries (s : State) (c : Core5) (b : Nat) : (busError s c b).power.bridgeTries = s.power.bridgeTries := rfl
@[simp] theorem busError_power_bridgeTrains (s : State) (c : Core5) (b : Nat) : (busError s c b).power.bridgeTrains = s.power.bridgeTrains := rfl
@[simp] theorem busError_power_bridgeFailed (s : State) (c : Core5) (b : Nat) : (busError s c b).power.bridgeFailed = s.power.bridgeFailed := rfl
@[simp] theorem busError_power_pllRecord (s : State) (c : Core5) (b : Nat) : (busError s c b).power.pllRecord = s.power.pllRecord := rfl
@[simp] theorem busError_power_liveTick (s : State) (c : Core5) (b : Nat) : (busError s c b).power.liveTick = s.power.liveTick := rfl
@[simp] theorem busError_power_prebiasRec (s : State) (c : Core5) (b : Nat) : (busError s c b).power.prebiasRec = s.power.prebiasRec := rfl
@[simp] theorem busError_power_aper (s : State) (c : Core5) (b : Nat) : (busError s c b).power.aper = s.power.aper := rfl
@[simp] theorem busError_power_ram (s : State) (c : Core5) (b : Nat) : (busError s c b).power.ram = s.power.ram := rfl
@[simp] theorem busError_power_wakeNext (s : State) (c : Core5) (b : Nat) : (busError s c b).power.wakeNext = s.power.wakeNext := rfl
@[simp] theorem busError_power_strapShelf (s : State) (c : Core5) (b : Nat) : (busError s c b).power.strapShelf = s.power.strapShelf := rfl
@[simp] theorem busError_power_strapB (s : State) (c : Core5) (b : Nat) : (busError s c b).power.strapB = s.power.strapB := rfl
@[simp] theorem busError_power_strapsOk (s : State) (c : Core5) (b : Nat) : (busError s c b).power.strapsOk = s.power.strapsOk := rfl
@[simp] theorem busError_power_serial (s : State) (c : Core5) (b : Nat) : (busError s c b).power.serial = s.power.serial := rfl
@[simp] theorem busError_power_ident (s : State) (c : Core5) (b : Nat) : (busError s c b).power.ident = s.power.ident := rfl
@[simp] theorem busError_power_commit (s : State) (c : Core5) (b : Nat) : (busError s c b).power.commit = s.power.commit := rfl
@[simp] theorem busError_power_attrCommit (s : State) (c : Core5) (b : Nat) : (busError s c b).power.attrCommit = s.power.attrCommit := rfl
@[simp] theorem busError_epo (s : State) (c : Core5) (b : Nat) : (busError s c b).epo = s.epo := rfl
@[simp] theorem busError_lead (s : State) (c : Core5) (b : Nat) : (busError s c b).lead = s.lead := rfl
@[simp] theorem busError_fac (s : State) (c : Core5) (b : Nat) : (busError s c b).fac = s.fac := rfl
@[simp] theorem busError_eng (s : State) (c : Core5) (b : Nat) : (busError s c b).eng = s.eng := rfl
@[simp] theorem busError_cot (s : State) (c : Core5) (b : Nat) : (busError s c b).cot = s.cot := rfl
@[simp] theorem busError_lpe (s : State) (c : Core5) (b : Nat) : (busError s c b).lpe = s.lpe := rfl
@[simp] theorem busError_trc (s : State) (c : Core5) (b : Nat) : (busError s c b).trc = s.trc := rfl
@[simp] theorem busError_strs (s : State) (c : Core5) (b : Nat) : (busError s c b).strs = s.strs := rfl
@[simp] theorem busError_grd (s : State) (c : Core5) (b : Nat) : (busError s c b).grd = s.grd := rfl
@[simp] theorem busError_red (s : State) (c : Core5) (b : Nat) : (busError s c b).red = s.red := rfl
@[simp] theorem busError_sec (s : State) (c : Core5) (b : Nat) : (busError s c b).sec = s.sec := rfl
@[simp] theorem busError_net (s : State) (c : Core5) (b : Nat) : (busError s c b).net = s.net := rfl
@[simp] theorem busError_icu_en (s : State) (c : Core5) (b : Nat) : (busError s c b).icu.en = s.icu.en := rfl
@[simp] theorem busError_icu_swp (s : State) (c : Core5) (b : Nat) : (busError s c b).icu.swp = s.icu.swp := rfl
@[simp] theorem busError_icu_lvl (s : State) (c : Core5) (b : Nat) : (busError s c b).icu.lvl = s.icu.lvl := rfl
@[simp] theorem busError_icu_pen (s : State) (c : Core5) (b : Nat) : (busError s c b).icu.pen = s.icu.pen := rfl
@[simp] theorem busError_icu_pswp (s : State) (c : Core5) (b : Nat) : (busError s c b).icu.pswp = s.icu.pswp := rfl
@[simp] theorem busError_icu_route (s : State) (c : Core5) (b : Nat) : (busError s c b).icu.route = s.icu.route := rfl
@[simp] theorem busError_icu_active (s : State) (c : Core5) (b : Nat) : (busError s c b).icu.active = s.icu.active := rfl
@[simp] theorem busError_icu_spur (s : State) (c : Core5) (b : Nat) : (busError s c b).icu.spur = s.icu.spur := rfl
@[simp] theorem busError_icu_fault (s : State) (c : Core5) (b : Nat) : (busError s c b).icu.fault = s.icu.fault := rfl
@[simp] theorem busError_icu_routeRej (s : State) (c : Core5) (b : Nat) : (busError s c b).icu.routeRej = s.icu.routeRej := rfl
@[simp] theorem busError_recs (s : State) (c : Core5) (b : Nat) : (busError s c b).recs = s.recs := rfl
@[simp] theorem busError_dic_vals (s : State) (c : Core5) (b : Nat) : (busError s c b).dic.vals = s.dic.vals := rfl
@[simp] theorem busError_dic_pend (s : State) (c : Core5) (b : Nat) : (busError s c b).dic.pend = s.dic.pend := rfl
@[simp] theorem busError_dic_staged (s : State) (c : Core5) (b : Nat) : (busError s c b).dic.staged = s.dic.staged := rfl
@[simp] theorem busError_dic_resp (s : State) (c : Core5) (b : Nat) : (busError s c b).dic.resp = s.dic.resp := rfl
@[simp] theorem busError_dic_respTo (s : State) (c : Core5) (b : Nat) : (busError s c b).dic.respTo = s.dic.respTo := rfl
@[simp] theorem busError_dic_kept (s : State) (c : Core5) (b : Nat) : (busError s c b).dic.kept = s.dic.kept := rfl
@[simp] theorem busError_dic_reg (s : State) (c : Core5) (b : Nat) : (busError s c b).dic.reg = s.dic.reg := rfl
@[simp] theorem busError_dic_free (s : State) (c : Core5) (b : Nat) : (busError s c b).dic.free = s.dic.free := rfl
@[simp] theorem busError_pending (s : State) (c : Core5) (b : Nat) : (busError s c b).pending = s.pending := rfl

/-! ## dramBytes -/

@[simp] theorem dramBytes_power (s : State) (a : Nat) (l : List Byte) : (dramBytes s a l).power = s.power := rfl
@[simp] theorem dramBytes_epo (s : State) (a : Nat) (l : List Byte) : (dramBytes s a l).epo = s.epo := rfl
@[simp] theorem dramBytes_lead (s : State) (a : Nat) (l : List Byte) : (dramBytes s a l).lead = s.lead := rfl
@[simp] theorem dramBytes_fac (s : State) (a : Nat) (l : List Byte) : (dramBytes s a l).fac = s.fac := rfl
@[simp] theorem dramBytes_eng (s : State) (a : Nat) (l : List Byte) : (dramBytes s a l).eng = s.eng := rfl
@[simp] theorem dramBytes_cot (s : State) (a : Nat) (l : List Byte) : (dramBytes s a l).cot = s.cot := rfl
@[simp] theorem dramBytes_lpe (s : State) (a : Nat) (l : List Byte) : (dramBytes s a l).lpe = s.lpe := rfl
@[simp] theorem dramBytes_trc (s : State) (a : Nat) (l : List Byte) : (dramBytes s a l).trc = s.trc := rfl
@[simp] theorem dramBytes_strs (s : State) (a : Nat) (l : List Byte) : (dramBytes s a l).strs = s.strs := rfl
@[simp] theorem dramBytes_grd (s : State) (a : Nat) (l : List Byte) : (dramBytes s a l).grd = s.grd := rfl
@[simp] theorem dramBytes_red (s : State) (a : Nat) (l : List Byte) : (dramBytes s a l).red = s.red := rfl
@[simp] theorem dramBytes_sec (s : State) (a : Nat) (l : List Byte) : (dramBytes s a l).sec = s.sec := rfl
@[simp] theorem dramBytes_net_txA (s : State) (a : Nat) (l : List Byte) : (dramBytes s a l).net.txA = s.net.txA := rfl
@[simp] theorem dramBytes_net_txB (s : State) (a : Nat) (l : List Byte) : (dramBytes s a l).net.txB = s.net.txB := rfl
@[simp] theorem dramBytes_net_onA (s : State) (a : Nat) (l : List Byte) : (dramBytes s a l).net.onA = s.net.onA := rfl
@[simp] theorem dramBytes_net_onB (s : State) (a : Nat) (l : List Byte) : (dramBytes s a l).net.onB = s.net.onB := rfl
@[simp] theorem dramBytes_net_sent (s : State) (a : Nat) (l : List Byte) : (dramBytes s a l).net.sent = s.net.sent := rfl
@[simp] theorem dramBytes_net_txLog (s : State) (a : Nat) (l : List Byte) : (dramBytes s a l).net.txLog = s.net.txLog := rfl
@[simp] theorem dramBytes_net_rxLog (s : State) (a : Nat) (l : List Byte) : (dramBytes s a l).net.rxLog = s.net.rxLog := rfl
@[simp] theorem dramBytes_net_waited (s : State) (a : Nat) (l : List Byte) : (dramBytes s a l).net.waited = s.net.waited := rfl
@[simp] theorem dramBytes_net_waitTick (s : State) (a : Nat) (l : List Byte) : (dramBytes s a l).net.waitTick = s.net.waitTick := rfl
@[simp] theorem dramBytes_net_txCtr (s : State) (a : Nat) (l : List Byte) : (dramBytes s a l).net.txCtr = s.net.txCtr := rfl
@[simp] theorem dramBytes_net_capFrame (s : State) (a : Nat) (l : List Byte) : (dramBytes s a l).net.capFrame = s.net.capFrame := rfl
@[simp] theorem dramBytes_net_capGone (s : State) (a : Nat) (l : List Byte) : (dramBytes s a l).net.capGone = s.net.capGone := rfl
@[simp] theorem dramBytes_net_capCause (s : State) (a : Nat) (l : List Byte) : (dramBytes s a l).net.capCause = s.net.capCause := rfl
@[simp] theorem dramBytes_net_beatAt (s : State) (a : Nat) (l : List Byte) : (dramBytes s a l).net.beatAt = s.net.beatAt := rfl
@[simp] theorem dramBytes_net_askTick (s : State) (a : Nat) (l : List Byte) : (dramBytes s a l).net.askTick = s.net.askTick := rfl
@[simp] theorem dramBytes_net_chans (s : State) (a : Nat) (l : List Byte) : (dramBytes s a l).net.chans = s.net.chans := rfl
@[simp] theorem dramBytes_net_fast (s : State) (a : Nat) (l : List Byte) : (dramBytes s a l).net.fast = s.net.fast := rfl
@[simp] theorem dramBytes_net_badLog (s : State) (a : Nat) (l : List Byte) : (dramBytes s a l).net.badLog = s.net.badLog := rfl
@[simp] theorem dramBytes_net_badTick (s : State) (a : Nat) (l : List Byte) : (dramBytes s a l).net.badTick = s.net.badTick := rfl
@[simp] theorem dramBytes_net_heard (s : State) (a : Nat) (l : List Byte) : (dramBytes s a l).net.heard = s.net.heard := rfl
@[simp] theorem dramBytes_net_peerBeat (s : State) (a : Nat) (l : List Byte) : (dramBytes s a l).net.peerBeat = s.net.peerBeat := rfl
@[simp] theorem dramBytes_net_reasm (s : State) (a : Nat) (l : List Byte) : (dramBytes s a l).net.reasm = s.net.reasm := rfl
@[simp] theorem dramBytes_net_cxl (s : State) (a : Nat) (l : List Byte) : (dramBytes s a l).net.cxl = s.net.cxl := rfl
@[simp] theorem dramBytes_net_cxlWidth (s : State) (a : Nat) (l : List Byte) : (dramBytes s a l).net.cxlWidth = s.net.cxlWidth := rfl
@[simp] theorem dramBytes_net_cxlRate (s : State) (a : Nat) (l : List Byte) : (dramBytes s a l).net.cxlRate = s.net.cxlRate := rfl
@[simp] theorem dramBytes_net_cxlBound (s : State) (a : Nat) (l : List Byte) : (dramBytes s a l).net.cxlBound = s.net.cxlBound := rfl
@[simp] theorem dramBytes_net_retrains (s : State) (a : Nat) (l : List Byte) : (dramBytes s a l).net.retrains = s.net.retrains := rfl
@[simp] theorem dramBytes_net_evRecords (s : State) (a : Nat) (l : List Byte) : (dramBytes s a l).net.evRecords = s.net.evRecords := rfl
@[simp] theorem dramBytes_net_evHandle (s : State) (a : Nat) (l : List Byte) : (dramBytes s a l).net.evHandle = s.net.evHandle := rfl
@[simp] theorem dramBytes_net_policy (s : State) (a : Nat) (l : List Byte) : (dramBytes s a l).net.policy = s.net.policy := rfl
@[simp] theorem dramBytes_net_roTick (s : State) (a : Nat) (l : List Byte) : (dramBytes s a l).net.roTick = s.net.roTick := rfl
@[simp] theorem dramBytes_net_mirrorSeq (s : State) (a : Nat) (l : List Byte) : (dramBytes s a l).net.mirrorSeq = s.net.mirrorSeq := rfl
@[simp] theorem dramBytes_net_mirrorEpoch (s : State) (a : Nat) (l : List Byte) : (dramBytes s a l).net.mirrorEpoch = s.net.mirrorEpoch := rfl
@[simp] theorem dramBytes_net_archiveSeq (s : State) (a : Nat) (l : List Byte) : (dramBytes s a l).net.archiveSeq = s.net.archiveSeq := rfl
@[simp] theorem dramBytes_net_viewCount (s : State) (a : Nat) (l : List Byte) : (dramBytes s a l).net.viewCount = s.net.viewCount := rfl
@[simp] theorem dramBytes_net_burstCount (s : State) (a : Nat) (l : List Byte) : (dramBytes s a l).net.burstCount = s.net.burstCount := rfl
@[simp] theorem dramBytes_net_telemetry (s : State) (a : Nat) (l : List Byte) : (dramBytes s a l).net.telemetry = s.net.telemetry := rfl
@[simp] theorem dramBytes_net_mailOut (s : State) (a : Nat) (l : List Byte) : (dramBytes s a l).net.mailOut = s.net.mailOut := rfl
@[simp] theorem dramBytes_net_memOut (s : State) (a : Nat) (l : List Byte) : (dramBytes s a l).net.memOut = s.net.memOut := rfl
@[simp] theorem dramBytes_icu (s : State) (a : Nat) (l : List Byte) : (dramBytes s a l).icu = s.icu := rfl
@[simp] theorem dramBytes_recs (s : State) (a : Nat) (l : List Byte) : (dramBytes s a l).recs = s.recs := rfl
@[simp] theorem dramBytes_dic (s : State) (a : Nat) (l : List Byte) : (dramBytes s a l).dic = s.dic := rfl
@[simp] theorem dramBytes_pending (s : State) (a : Nat) (l : List Byte) : (dramBytes s a l).pending = s.pending := rfl

/-! ## dramPut -/

@[simp] theorem dramPut_power (s : State) (a n v : Nat) : (dramPut s a n v).power = s.power := rfl
@[simp] theorem dramPut_epo (s : State) (a n v : Nat) : (dramPut s a n v).epo = s.epo := rfl
@[simp] theorem dramPut_lead (s : State) (a n v : Nat) : (dramPut s a n v).lead = s.lead := rfl
@[simp] theorem dramPut_fac (s : State) (a n v : Nat) : (dramPut s a n v).fac = s.fac := rfl
@[simp] theorem dramPut_eng (s : State) (a n v : Nat) : (dramPut s a n v).eng = s.eng := rfl
@[simp] theorem dramPut_cot (s : State) (a n v : Nat) : (dramPut s a n v).cot = s.cot := rfl
@[simp] theorem dramPut_lpe (s : State) (a n v : Nat) : (dramPut s a n v).lpe = s.lpe := rfl
@[simp] theorem dramPut_trc (s : State) (a n v : Nat) : (dramPut s a n v).trc = s.trc := rfl
@[simp] theorem dramPut_strs (s : State) (a n v : Nat) : (dramPut s a n v).strs = s.strs := rfl
@[simp] theorem dramPut_grd (s : State) (a n v : Nat) : (dramPut s a n v).grd = s.grd := rfl
@[simp] theorem dramPut_red (s : State) (a n v : Nat) : (dramPut s a n v).red = s.red := rfl
@[simp] theorem dramPut_sec (s : State) (a n v : Nat) : (dramPut s a n v).sec = s.sec := rfl
@[simp] theorem dramPut_net_txA (s : State) (a n v : Nat) : (dramPut s a n v).net.txA = s.net.txA := rfl
@[simp] theorem dramPut_net_txB (s : State) (a n v : Nat) : (dramPut s a n v).net.txB = s.net.txB := rfl
@[simp] theorem dramPut_net_onA (s : State) (a n v : Nat) : (dramPut s a n v).net.onA = s.net.onA := rfl
@[simp] theorem dramPut_net_onB (s : State) (a n v : Nat) : (dramPut s a n v).net.onB = s.net.onB := rfl
@[simp] theorem dramPut_net_sent (s : State) (a n v : Nat) : (dramPut s a n v).net.sent = s.net.sent := rfl
@[simp] theorem dramPut_net_txLog (s : State) (a n v : Nat) : (dramPut s a n v).net.txLog = s.net.txLog := rfl
@[simp] theorem dramPut_net_rxLog (s : State) (a n v : Nat) : (dramPut s a n v).net.rxLog = s.net.rxLog := rfl
@[simp] theorem dramPut_net_waited (s : State) (a n v : Nat) : (dramPut s a n v).net.waited = s.net.waited := rfl
@[simp] theorem dramPut_net_waitTick (s : State) (a n v : Nat) : (dramPut s a n v).net.waitTick = s.net.waitTick := rfl
@[simp] theorem dramPut_net_txCtr (s : State) (a n v : Nat) : (dramPut s a n v).net.txCtr = s.net.txCtr := rfl
@[simp] theorem dramPut_net_capFrame (s : State) (a n v : Nat) : (dramPut s a n v).net.capFrame = s.net.capFrame := rfl
@[simp] theorem dramPut_net_capGone (s : State) (a n v : Nat) : (dramPut s a n v).net.capGone = s.net.capGone := rfl
@[simp] theorem dramPut_net_capCause (s : State) (a n v : Nat) : (dramPut s a n v).net.capCause = s.net.capCause := rfl
@[simp] theorem dramPut_net_beatAt (s : State) (a n v : Nat) : (dramPut s a n v).net.beatAt = s.net.beatAt := rfl
@[simp] theorem dramPut_net_askTick (s : State) (a n v : Nat) : (dramPut s a n v).net.askTick = s.net.askTick := rfl
@[simp] theorem dramPut_net_chans (s : State) (a n v : Nat) : (dramPut s a n v).net.chans = s.net.chans := rfl
@[simp] theorem dramPut_net_fast (s : State) (a n v : Nat) : (dramPut s a n v).net.fast = s.net.fast := rfl
@[simp] theorem dramPut_net_badLog (s : State) (a n v : Nat) : (dramPut s a n v).net.badLog = s.net.badLog := rfl
@[simp] theorem dramPut_net_badTick (s : State) (a n v : Nat) : (dramPut s a n v).net.badTick = s.net.badTick := rfl
@[simp] theorem dramPut_net_heard (s : State) (a n v : Nat) : (dramPut s a n v).net.heard = s.net.heard := rfl
@[simp] theorem dramPut_net_peerBeat (s : State) (a n v : Nat) : (dramPut s a n v).net.peerBeat = s.net.peerBeat := rfl
@[simp] theorem dramPut_net_reasm (s : State) (a n v : Nat) : (dramPut s a n v).net.reasm = s.net.reasm := rfl
@[simp] theorem dramPut_net_cxl (s : State) (a n v : Nat) : (dramPut s a n v).net.cxl = s.net.cxl := rfl
@[simp] theorem dramPut_net_cxlWidth (s : State) (a n v : Nat) : (dramPut s a n v).net.cxlWidth = s.net.cxlWidth := rfl
@[simp] theorem dramPut_net_cxlRate (s : State) (a n v : Nat) : (dramPut s a n v).net.cxlRate = s.net.cxlRate := rfl
@[simp] theorem dramPut_net_cxlBound (s : State) (a n v : Nat) : (dramPut s a n v).net.cxlBound = s.net.cxlBound := rfl
@[simp] theorem dramPut_net_retrains (s : State) (a n v : Nat) : (dramPut s a n v).net.retrains = s.net.retrains := rfl
@[simp] theorem dramPut_net_evRecords (s : State) (a n v : Nat) : (dramPut s a n v).net.evRecords = s.net.evRecords := rfl
@[simp] theorem dramPut_net_evHandle (s : State) (a n v : Nat) : (dramPut s a n v).net.evHandle = s.net.evHandle := rfl
@[simp] theorem dramPut_net_policy (s : State) (a n v : Nat) : (dramPut s a n v).net.policy = s.net.policy := rfl
@[simp] theorem dramPut_net_roTick (s : State) (a n v : Nat) : (dramPut s a n v).net.roTick = s.net.roTick := rfl
@[simp] theorem dramPut_net_mirrorSeq (s : State) (a n v : Nat) : (dramPut s a n v).net.mirrorSeq = s.net.mirrorSeq := rfl
@[simp] theorem dramPut_net_mirrorEpoch (s : State) (a n v : Nat) : (dramPut s a n v).net.mirrorEpoch = s.net.mirrorEpoch := rfl
@[simp] theorem dramPut_net_archiveSeq (s : State) (a n v : Nat) : (dramPut s a n v).net.archiveSeq = s.net.archiveSeq := rfl
@[simp] theorem dramPut_net_viewCount (s : State) (a n v : Nat) : (dramPut s a n v).net.viewCount = s.net.viewCount := rfl
@[simp] theorem dramPut_net_burstCount (s : State) (a n v : Nat) : (dramPut s a n v).net.burstCount = s.net.burstCount := rfl
@[simp] theorem dramPut_net_telemetry (s : State) (a n v : Nat) : (dramPut s a n v).net.telemetry = s.net.telemetry := rfl
@[simp] theorem dramPut_net_mailOut (s : State) (a n v : Nat) : (dramPut s a n v).net.mailOut = s.net.mailOut := rfl
@[simp] theorem dramPut_net_memOut (s : State) (a n v : Nat) : (dramPut s a n v).net.memOut = s.net.memOut := rfl
@[simp] theorem dramPut_icu (s : State) (a n v : Nat) : (dramPut s a n v).icu = s.icu := rfl
@[simp] theorem dramPut_recs (s : State) (a n v : Nat) : (dramPut s a n v).recs = s.recs := rfl
@[simp] theorem dramPut_dic (s : State) (a n v : Nat) : (dramPut s a n v).dic = s.dic := rfl
@[simp] theorem dramPut_pending (s : State) (a n v : Nat) : (dramPut s a n v).pending = s.pending := rfl

/-! ## setConv -/

@[simp] theorem setConv_power (s : State) (x : Str) (c : Conv) : (setConv s x c).power = s.power := rfl
@[simp] theorem setConv_epo (s : State) (x : Str) (c : Conv) : (setConv s x c).epo = s.epo := rfl
@[simp] theorem setConv_lead (s : State) (x : Str) (c : Conv) : (setConv s x c).lead = s.lead := rfl
@[simp] theorem setConv_fac (s : State) (x : Str) (c : Conv) : (setConv s x c).fac = s.fac := rfl
@[simp] theorem setConv_eng (s : State) (x : Str) (c : Conv) : (setConv s x c).eng = s.eng := rfl
@[simp] theorem setConv_cot_vTgt (s : State) (x : Str) (c : Conv) : (setConv s x c).cot.vTgt = s.cot.vTgt := rfl
@[simp] theorem setConv_cot_vNow (s : State) (x : Str) (c : Conv) : (setConv s x c).cot.vNow = s.cot.vNow := rfl
@[simp] theorem setConv_cot_slew (s : State) (x : Str) (c : Conv) : (setConv s x c).cot.slew = s.cot.slew := rfl
@[simp] theorem setConv_cot_vFollow (s : State) (x : Str) (c : Conv) : (setConv s x c).cot.vFollow = s.cot.vFollow := rfl
@[simp] theorem setConv_cot_shedEn (s : State) (x : Str) (c : Conv) : (setConv s x c).cot.shedEn = s.cot.shedEn := rfl
@[simp] theorem setConv_cot_phen (s : State) (x : Str) (c : Conv) : (setConv s x c).cot.phen = s.cot.phen := rfl
@[simp] theorem setConv_cot_refused (s : State) (x : Str) (c : Conv) : (setConv s x c).cot.refused = s.cot.refused := rfl
@[simp] theorem setConv_cot_checkedOff (s : State) (x : Str) (c : Conv) : (setConv s x c).cot.checkedOff = s.cot.checkedOff := rfl
@[simp] theorem setConv_cot_active (s : State) (x : Str) (c : Conv) : (setConv s x c).cot.active = s.cot.active := rfl
@[simp] theorem setConv_cot_emu (s : State) (x : Str) (c : Conv) : (setConv s x c).cot.emu = s.cot.emu := rfl
@[simp] theorem setConv_cot_emuMid (s : State) (x : Str) (c : Conv) : (setConv s x c).cot.emuMid = s.cot.emuMid := rfl
@[simp] theorem setConv_cot_emuClk (s : State) (x : Str) (c : Conv) : (setConv s x c).cot.emuClk = s.cot.emuClk := rfl
@[simp] theorem setConv_cot_edge (s : State) (x : Str) (c : Conv) : (setConv s x c).cot.edge = s.cot.edge := rfl
@[simp] theorem setConv_cot_onCnt (s : State) (x : Str) (c : Conv) : (setConv s x c).cot.onCnt = s.cot.onCnt := rfl
@[simp] theorem setConv_cot_onSum (s : State) (x : Str) (c : Conv) : (setConv s x c).cot.onSum = s.cot.onSum := rfl
@[simp] theorem setConv_cot_onClk (s : State) (x : Str) (c : Conv) : (setConv s x c).cot.onClk = s.cot.onClk := rfl
@[simp] theorem setConv_cot_followAt (s : State) (x : Str) (c : Conv) : (setConv s x c).cot.followAt = s.cot.followAt := rfl
@[simp] theorem setConv_cot_onTime (s : State) (x : Str) (c : Conv) : (setConv s x c).cot.onTime = s.cot.onTime := rfl
@[simp] theorem setConv_cot_flt (s : State) (x : Str) (c : Conv) : (setConv s x c).cot.flt = s.cot.flt := rfl
@[simp] theorem setConv_cot_cmd (s : State) (x : Str) (c : Conv) : (setConv s x c).cot.cmd = s.cot.cmd := rfl
@[simp] theorem setConv_cot_fb (s : State) (x : Str) (c : Conv) : (setConv s x c).cot.fb = s.cot.fb := rfl
@[simp] theorem setConv_cot_iref (s : State) (x : Str) (c : Conv) : (setConv s x c).cot.iref = s.cot.iref := rfl
@[simp] theorem setConv_cot_irefBuf (s : State) (x : Str) (c : Conv) : (setConv s x c).cot.irefBuf = s.cot.irefBuf := rfl
@[simp] theorem setConv_cot_shareSum (s : State) (x : Str) (c : Conv) : (setConv s x c).cot.shareSum = s.cot.shareSum := rfl
@[simp] theorem setConv_cot_shareN (s : State) (x : Str) (c : Conv) : (setConv s x c).cot.shareN = s.cot.shareN := rfl
@[simp] theorem setConv_cot_imeas (s : State) (x : Str) (c : Conv) : (setConv s x c).cot.imeas = s.cot.imeas := rfl
@[simp] theorem setConv_cot_limitedRun (s : State) (x : Str) (c : Conv) : (setConv s x c).cot.limitedRun = s.cot.limitedRun := rfl
@[simp] theorem setConv_cot_lastLim (s : State) (x : Str) (c : Conv) : (setConv s x c).cot.lastLim = s.cot.lastLim := rfl
@[simp] theorem setConv_cot_ovLatch (s : State) (x : Str) (c : Conv) : (setConv s x c).cot.ovLatch = s.cot.ovLatch := rfl
@[simp] theorem setConv_cot_ovOff (s : State) (x : Str) (c : Conv) : (setConv s x c).cot.ovOff = s.cot.ovOff := rfl
@[simp] theorem setConv_cot_linkOff (s : State) (x : Str) (c : Conv) : (setConv s x c).cot.linkOff = s.cot.linkOff := rfl
@[simp] theorem setConv_cot_induct (s : State) (x : Str) (c : Conv) : (setConv s x c).cot.induct = s.cot.induct := rfl
@[simp] theorem setConv_cot_bus1 (s : State) (x : Str) (c : Conv) : (setConv s x c).cot.bus1 = s.cot.bus1 := rfl
@[simp] theorem setConv_cot_bus2 (s : State) (x : Str) (c : Conv) : (setConv s x c).cot.bus2 = s.cot.bus2 := rfl
@[simp] theorem setConv_cot_strV (s : State) (x : Str) (c : Conv) : (setConv s x c).cot.strV = s.cot.strV := rfl
@[simp] theorem setConv_cot_linkV (s : State) (x : Str) (c : Conv) : (setConv s x c).cot.linkV = s.cot.linkV := rfl
@[simp] theorem setConv_lpe (s : State) (x : Str) (c : Conv) : (setConv s x c).lpe = s.lpe := rfl
@[simp] theorem setConv_trc (s : State) (x : Str) (c : Conv) : (setConv s x c).trc = s.trc := rfl
@[simp] theorem setConv_strs (s : State) (x : Str) (c : Conv) : (setConv s x c).strs = s.strs := rfl
@[simp] theorem setConv_grd (s : State) (x : Str) (c : Conv) : (setConv s x c).grd = s.grd := rfl
@[simp] theorem setConv_red (s : State) (x : Str) (c : Conv) : (setConv s x c).red = s.red := rfl
@[simp] theorem setConv_sec (s : State) (x : Str) (c : Conv) : (setConv s x c).sec = s.sec := rfl
@[simp] theorem setConv_net (s : State) (x : Str) (c : Conv) : (setConv s x c).net = s.net := rfl
@[simp] theorem setConv_icu (s : State) (x : Str) (c : Conv) : (setConv s x c).icu = s.icu := rfl
@[simp] theorem setConv_recs (s : State) (x : Str) (c : Conv) : (setConv s x c).recs = s.recs := rfl
@[simp] theorem setConv_dic (s : State) (x : Str) (c : Conv) : (setConv s x c).dic = s.dic := rfl
@[simp] theorem setConv_pending (s : State) (x : Str) (c : Conv) : (setConv s x c).pending = s.pending := rfl

/-! ## setSlot -/

@[simp] theorem setSlot_power (s : State) (k : Nat) (v : Slot) : (setSlot s k v).power = s.power := rfl
@[simp] theorem setSlot_epo (s : State) (k : Nat) (v : Slot) : (setSlot s k v).epo = s.epo := rfl
@[simp] theorem setSlot_lead (s : State) (k : Nat) (v : Slot) : (setSlot s k v).lead = s.lead := rfl
@[simp] theorem setSlot_fac (s : State) (k : Nat) (v : Slot) : (setSlot s k v).fac = s.fac := rfl
@[simp] theorem setSlot_eng_state (s : State) (k : Nat) (v : Slot) : (setSlot s k v).eng.state = s.eng.state := rfl
@[simp] theorem setSlot_eng_waking (s : State) (k : Nat) (v : Slot) : (setSlot s k v).eng.waking = s.eng.waking := rfl
@[simp] theorem setSlot_eng_hot (s : State) (k : Nat) (v : Slot) : (setSlot s k v).eng.hot = s.eng.hot := rfl
@[simp] theorem setSlot_eng_hotFault (s : State) (k : Nat) (v : Slot) : (setSlot s k v).eng.hotFault = s.eng.hotFault := rfl
@[simp] theorem setSlot_eng_temp (s : State) (k : Nat) (v : Slot) : (setSlot s k v).eng.temp = s.eng.temp := rfl
@[simp] theorem setSlot_eng_power (s : State) (k : Nat) (v : Slot) : (setSlot s k v).eng.power = s.eng.power := rfl
@[simp] theorem setSlot_eng_tiles (s : State) (k : Nat) (v : Slot) : (setSlot s k v).eng.tiles = s.eng.tiles := rfl
@[simp] theorem setSlot_eng_dramUse (s : State) (k : Nat) (v : Slot) : (setSlot s k v).eng.dramUse = s.eng.dramUse := rfl
@[simp] theorem setSlot_eng_corrupt (s : State) (k : Nat) (v : Slot) : (setSlot s k v).eng.corrupt = s.eng.corrupt := rfl
@[simp] theorem setSlot_eng_sram (s : State) (k : Nat) (v : Slot) : (setSlot s k v).eng.sram = s.eng.sram := rfl
@[simp] theorem setSlot_eng_stripes (s : State) (k : Nat) (v : Slot) : (setSlot s k v).eng.stripes = s.eng.stripes := rfl
@[simp] theorem setSlot_eng_bondTries (s : State) (k : Nat) (v : Slot) : (setSlot s k v).eng.bondTries = s.eng.bondTries := rfl
@[simp] theorem setSlot_eng_bondTrains (s : State) (k : Nat) (v : Slot) : (setSlot s k v).eng.bondTrains = s.eng.bondTrains := rfl
@[simp] theorem setSlot_eng_scrubAddr (s : State) (k : Nat) (v : Slot) : (setSlot s k v).eng.scrubAddr = s.eng.scrubAddr := rfl
@[simp] theorem setSlot_eng_scrubTick (s : State) (k : Nat) (v : Slot) : (setSlot s k v).eng.scrubTick = s.eng.scrubTick := rfl
@[simp] theorem setSlot_eng_swapTo (s : State) (k : Nat) (v : Slot) : (setSlot s k v).eng.swapTo = s.eng.swapTo := rfl
@[simp] theorem setSlot_eng_swapRun (s : State) (k : Nat) (v : Slot) : (setSlot s k v).eng.swapRun = s.eng.swapRun := rfl
@[simp] theorem setSlot_eng_swapAlone (s : State) (k : Nat) (v : Slot) : (setSlot s k v).eng.swapAlone = s.eng.swapAlone := rfl
@[simp] theorem setSlot_eng_adoptDue (s : State) (k : Nat) (v : Slot) : (setSlot s k v).eng.adoptDue = s.eng.adoptDue := rfl
@[simp] theorem setSlot_eng_swapCancels (s : State) (k : Nat) (v : Slot) : (setSlot s k v).eng.swapCancels = s.eng.swapCancels := rfl
@[simp] theorem setSlot_eng_loaders (s : State) (k : Nat) (v : Slot) : (setSlot s k v).eng.loaders = s.eng.loaders := rfl
@[simp] theorem setSlot_eng_mapping (s : State) (k : Nat) (v : Slot) : (setSlot s k v).eng.mapping = s.eng.mapping := rfl
@[simp] theorem setSlot_eng_mapNext (s : State) (k : Nat) (v : Slot) : (setSlot s k v).eng.mapNext = s.eng.mapNext := rfl
@[simp] theorem setSlot_eng_rebuild (s : State) (k : Nat) (v : Slot) : (setSlot s k v).eng.rebuild = s.eng.rebuild := rfl
@[simp] theorem setSlot_eng_built (s : State) (k : Nat) (v : Slot) : (setSlot s k v).eng.built = s.eng.built := rfl
@[simp] theorem setSlot_eng_switchAt (s : State) (k : Nat) (v : Slot) : (setSlot s k v).eng.switchAt = s.eng.switchAt := rfl
@[simp] theorem setSlot_eng_noShardBefore (s : State) (k : Nat) (v : Slot) : (setSlot s k v).eng.noShardBefore = s.eng.noShardBefore := rfl
@[simp] theorem setSlot_eng_calm (s : State) (k : Nat) (v : Slot) : (setSlot s k v).eng.calm = s.eng.calm := rfl
@[simp] theorem setSlot_eng_started (s : State) (k : Nat) (v : Slot) : (setSlot s k v).eng.started = s.eng.started := rfl
@[simp] theorem setSlot_eng_since (s : State) (k : Nat) (v : Slot) : (setSlot s k v).eng.since = s.eng.since := rfl
@[simp] theorem setSlot_eng_lastGrid (s : State) (k : Nat) (v : Slot) : (setSlot s k v).eng.lastGrid = s.eng.lastGrid := rfl
@[simp] theorem setSlot_eng_carried (s : State) (k : Nat) (v : Slot) : (setSlot s k v).eng.carried = s.eng.carried := rfl
@[simp] theorem setSlot_eng_refreshNo (s : State) (k : Nat) (v : Slot) : (setSlot s k v).eng.refreshNo = s.eng.refreshNo := rfl
@[simp] theorem setSlot_eng_frame (s : State) (k : Nat) (v : Slot) : (setSlot s k v).eng.frame = s.eng.frame := rfl
@[simp] theorem setSlot_eng_burst (s : State) (k : Nat) (v : Slot) : (setSlot s k v).eng.burst = s.eng.burst := rfl
@[simp] theorem setSlot_eng_recent (s : State) (k : Nat) (v : Slot) : (setSlot s k v).eng.recent = s.eng.recent := rfl
@[simp] theorem setSlot_eng_serveAt (s : State) (k : Nat) (v : Slot) : (setSlot s k v).eng.serveAt = s.eng.serveAt := rfl
@[simp] theorem setSlot_eng_returning (s : State) (k : Nat) (v : Slot) : (setSlot s k v).eng.returning = s.eng.returning := rfl
@[simp] theorem setSlot_eng_frameN (s : State) (k : Nat) (v : Slot) : (setSlot s k v).eng.frameN = s.eng.frameN := rfl
@[simp] theorem setSlot_eng_frameE (s : State) (k : Nat) (v : Slot) : (setSlot s k v).eng.frameE = s.eng.frameE := rfl
@[simp] theorem setSlot_eng_feedQ (s : State) (k : Nat) (v : Slot) : (setSlot s k v).eng.feedQ = s.eng.feedQ := rfl
@[simp] theorem setSlot_eng_partSum (s : State) (k : Nat) (v : Slot) : (setSlot s k v).eng.partSum = s.eng.partSum := rfl
@[simp] theorem setSlot_eng_lastMeans (s : State) (k : Nat) (v : Slot) : (setSlot s k v).eng.lastMeans = s.eng.lastMeans := rfl
@[simp] theorem setSlot_eng_coarse (s : State) (k : Nat) (v : Slot) : (setSlot s k v).eng.coarse = s.eng.coarse := rfl
@[simp] theorem setSlot_eng_serveVals (s : State) (k : Nat) (v : Slot) : (setSlot s k v).eng.serveVals = s.eng.serveVals := rfl
@[simp] theorem setSlot_eng_validRun (s : State) (k : Nat) (v : Slot) : (setSlot s k v).eng.validRun = s.eng.validRun := rfl
@[simp] theorem setSlot_eng_lastValid (s : State) (k : Nat) (v : Slot) : (setSlot s k v).eng.lastValid = s.eng.lastValid := rfl
@[simp] theorem setSlot_eng_holdFc (s : State) (k : Nat) (v : Slot) : (setSlot s k v).eng.holdFc = s.eng.holdFc := rfl
@[simp] theorem setSlot_eng_feats (s : State) (k : Nat) (v : Slot) : (setSlot s k v).eng.feats = s.eng.feats := rfl
@[simp] theorem setSlot_eng_featHist (s : State) (k : Nat) (v : Slot) : (setSlot s k v).eng.featHist = s.eng.featHist := rfl
@[simp] theorem setSlot_eng_laneSums (s : State) (k : Nat) (v : Slot) : (setSlot s k v).eng.laneSums = s.eng.laneSums := rfl
@[simp] theorem setSlot_eng_rackMeans (s : State) (k : Nat) (v : Slot) : (setSlot s k v).eng.rackMeans = s.eng.rackMeans := rfl
@[simp] theorem setSlot_eng_blendW (s : State) (k : Nat) (v : Slot) : (setSlot s k v).eng.blendW = s.eng.blendW := rfl
@[simp] theorem setSlot_eng_blendMiss (s : State) (k : Nat) (v : Slot) : (setSlot s k v).eng.blendMiss = s.eng.blendMiss := rfl
@[simp] theorem setSlot_eng_missRun (s : State) (k : Nat) (v : Slot) : (setSlot s k v).eng.missRun = s.eng.missRun := rfl
@[simp] theorem setSlot_eng_goodRun (s : State) (k : Nat) (v : Slot) : (setSlot s k v).eng.goodRun = s.eng.goodRun := rfl
@[simp] theorem setSlot_eng_hostFrame (s : State) (k : Nat) (v : Slot) : (setSlot s k v).eng.hostFrame = s.eng.hostFrame := rfl
@[simp] theorem setSlot_eng_hostEpoch (s : State) (k : Nat) (v : Slot) : (setSlot s k v).eng.hostEpoch = s.eng.hostEpoch := rfl
@[simp] theorem setSlot_eng_hostFrom (s : State) (k : Nat) (v : Slot) : (setSlot s k v).eng.hostFrom = s.eng.hostFrom := rfl
@[simp] theorem setSlot_eng_hostOk (s : State) (k : Nat) (v : Slot) : (setSlot s k v).eng.hostOk = s.eng.hostOk := rfl
@[simp] theorem setSlot_eng_lastDiff (s : State) (k : Nat) (v : Slot) : (setSlot s k v).eng.lastDiff = s.eng.lastDiff := rfl
@[simp] theorem setSlot_eng_refs (s : State) (k : Nat) (v : Slot) : (setSlot s k v).eng.refs = s.eng.refs := rfl
@[simp] theorem setSlot_eng_train (s : State) (k : Nat) (v : Slot) : (setSlot s k v).eng.train = s.eng.train := rfl
@[simp] theorem setSlot_eng_holdout (s : State) (k : Nat) (v : Slot) : (setSlot s k v).eng.holdout = s.eng.holdout := rfl
@[simp] theorem setSlot_eng_drawnTo (s : State) (k : Nat) (v : Slot) : (setSlot s k v).eng.drawnTo = s.eng.drawnTo := rfl
@[simp] theorem setSlot_eng_learn (s : State) (k : Nat) (v : Slot) : (setSlot s k v).eng.learn = s.eng.learn := rfl
@[simp] theorem setSlot_eng_checkpoint (s : State) (k : Nat) (v : Slot) : (setSlot s k v).eng.checkpoint = s.eng.checkpoint := rfl
@[simp] theorem setSlot_eng_mirrorTick (s : State) (k : Nat) (v : Slot) : (setSlot s k v).eng.mirrorTick = s.eng.mirrorTick := rfl
@[simp] theorem setSlot_eng_learnedW (s : State) (k : Nat) (v : Slot) : (setSlot s k v).eng.learnedW = s.eng.learnedW := rfl
@[simp] theorem setSlot_eng_candW (s : State) (k : Nat) (v : Slot) : (setSlot s k v).eng.candW = s.eng.candW := rfl
@[simp] theorem setSlot_eng_stepsDone (s : State) (k : Nat) (v : Slot) : (setSlot s k v).eng.stepsDone = s.eng.stepsDone := rfl
@[simp] theorem setSlot_eng_stepsDeferred (s : State) (k : Nat) (v : Slot) : (setSlot s k v).eng.stepsDeferred = s.eng.stepsDeferred := rfl
@[simp] theorem setSlot_eng_learnVer (s : State) (k : Nat) (v : Slot) : (setSlot s k v).eng.learnVer = s.eng.learnVer := rfl
@[simp] theorem setSlot_eng_adoptions (s : State) (k : Nat) (v : Slot) : (setSlot s k v).eng.adoptions = s.eng.adoptions := rfl
@[simp] theorem setSlot_eng_rejected (s : State) (k : Nat) (v : Slot) : (setSlot s k v).eng.rejected = s.eng.rejected := rfl
@[simp] theorem setSlot_eng_discarded (s : State) (k : Nat) (v : Slot) : (setSlot s k v).eng.discarded = s.eng.discarded := rfl
@[simp] theorem setSlot_eng_errServe (s : State) (k : Nat) (v : Slot) : (setSlot s k v).eng.errServe = s.eng.errServe := rfl
@[simp] theorem setSlot_eng_errCand (s : State) (k : Nat) (v : Slot) : (setSlot s k v).eng.errCand = s.eng.errCand := rfl
@[simp] theorem setSlot_eng_candidate (s : State) (k : Nat) (v : Slot) : (setSlot s k v).eng.candidate = s.eng.candidate := rfl
@[simp] theorem setSlot_eng_candAcked (s : State) (k : Nat) (v : Slot) : (setSlot s k v).eng.candAcked = s.eng.candAcked := rfl
@[simp] theorem setSlot_eng_lastAdopt (s : State) (k : Nat) (v : Slot) : (setSlot s k v).eng.lastAdopt = s.eng.lastAdopt := rfl
@[simp] theorem setSlot_eng_lastEval (s : State) (k : Nat) (v : Slot) : (setSlot s k v).eng.lastEval = s.eng.lastEval := rfl
@[simp] theorem setSlot_eng_learnHash (s : State) (k : Nat) (v : Slot) : (setSlot s k v).eng.learnHash = s.eng.learnHash := rfl
@[simp] theorem setSlot_eng_mirrored (s : State) (k : Nat) (v : Slot) : (setSlot s k v).eng.mirrored = s.eng.mirrored := rfl
@[simp] theorem setSlot_eng_revert (s : State) (k : Nat) (v : Slot) : (setSlot s k v).eng.revert = s.eng.revert := rfl
@[simp] theorem setSlot_eng_fastOut (s : State) (k : Nat) (v : Slot) : (setSlot s k v).eng.fastOut = s.eng.fastOut := rfl
@[simp] theorem setSlot_cot (s : State) (k : Nat) (v : Slot) : (setSlot s k v).cot = s.cot := rfl
@[simp] theorem setSlot_lpe (s : State) (k : Nat) (v : Slot) : (setSlot s k v).lpe = s.lpe := rfl
@[simp] theorem setSlot_trc (s : State) (k : Nat) (v : Slot) : (setSlot s k v).trc = s.trc := rfl
@[simp] theorem setSlot_strs (s : State) (k : Nat) (v : Slot) : (setSlot s k v).strs = s.strs := rfl
@[simp] theorem setSlot_grd (s : State) (k : Nat) (v : Slot) : (setSlot s k v).grd = s.grd := rfl
@[simp] theorem setSlot_red (s : State) (k : Nat) (v : Slot) : (setSlot s k v).red = s.red := rfl
@[simp] theorem setSlot_sec (s : State) (k : Nat) (v : Slot) : (setSlot s k v).sec = s.sec := rfl
@[simp] theorem setSlot_net (s : State) (k : Nat) (v : Slot) : (setSlot s k v).net = s.net := rfl
@[simp] theorem setSlot_icu (s : State) (k : Nat) (v : Slot) : (setSlot s k v).icu = s.icu := rfl
@[simp] theorem setSlot_recs (s : State) (k : Nat) (v : Slot) : (setSlot s k v).recs = s.recs := rfl
@[simp] theorem setSlot_dic (s : State) (k : Nat) (v : Slot) : (setSlot s k v).dic = s.dic := rfl
@[simp] theorem setSlot_pending (s : State) (k : Nat) (v : Slot) : (setSlot s k v).pending = s.pending := rfl

/-! ## setShelf -/

@[simp] theorem setShelf_power (s : State) (k : Nat) (v : ShelfView) : (setShelf s k v).power = s.power := rfl
@[simp] theorem setShelf_epo (s : State) (k : Nat) (v : ShelfView) : (setShelf s k v).epo = s.epo := rfl
@[simp] theorem setShelf_lead_holder (s : State) (k : Nat) (v : ShelfView) : (setShelf s k v).lead.holder = s.lead.holder := rfl
@[simp] theorem setShelf_lead_isLead (s : State) (k : Nat) (v : ShelfView) : (setShelf s k v).lead.isLead = s.lead.isLead := rfl
@[simp] theorem setShelf_lead_expiry (s : State) (k : Nat) (v : ShelfView) : (setShelf s k v).lead.expiry = s.lead.expiry := rfl
@[simp] theorem setShelf_lead_entryEpoch (s : State) (k : Nat) (v : ShelfView) : (setShelf s k v).lead.entryEpoch = s.lead.entryEpoch := rfl
@[simp] theorem setShelf_lead_claiming (s : State) (k : Nat) (v : ShelfView) : (setShelf s k v).lead.claiming = s.lead.claiming := rfl
@[simp] theorem setShelf_lead_releasing (s : State) (k : Nat) (v : ShelfView) : (setShelf s k v).lead.releasing = s.lead.releasing := rfl
@[simp] theorem setShelf_lead_elapsed (s : State) (k : Nat) (v : ShelfView) : (setShelf s k v).lead.elapsed = s.lead.elapsed := rfl
@[simp] theorem setShelf_lead_relaxed (s : State) (k : Nat) (v : ShelfView) : (setShelf s k v).lead.relaxed = s.lead.relaxed := rfl
@[simp] theorem setShelf_lead_again (s : State) (k : Nat) (v : ShelfView) : (setShelf s k v).lead.again = s.lead.again := rfl
@[simp] theorem setShelf_lead_claims (s : State) (k : Nat) (v : ShelfView) : (setShelf s k v).lead.claims = s.lead.claims := rfl
@[simp] theorem setShelf_lead_newLead (s : State) (k : Nat) (v : ShelfView) : (setShelf s k v).lead.newLead = s.lead.newLead := rfl
@[simp] theorem setShelf_lead_drives (s : State) (k : Nat) (v : ShelfView) : (setShelf s k v).lead.drives = s.lead.drives := rfl
@[simp] theorem setShelf_lead_pulseOut (s : State) (k : Nat) (v : ShelfView) : (setShelf s k v).lead.pulseOut = s.lead.pulseOut := rfl
@[simp] theorem setShelf_lead_own (s : State) (k : Nat) (v : ShelfView) : (setShelf s k v).lead.own = s.lead.own := rfl
@[simp] theorem setShelf_lead_throttle (s : State) (k : Nat) (v : ShelfView) : (setShelf s k v).lead.throttle = s.lead.throttle := rfl
@[simp] theorem setShelf_lead_restoreDelay (s : State) (k : Nat) (v : ShelfView) : (setShelf s k v).lead.restoreDelay = s.lead.restoreDelay := rfl
@[simp] theorem setShelf_lead_clearSince (s : State) (k : Nat) (v : ShelfView) : (setShelf s k v).lead.clearSince = s.lead.clearSince := rfl
@[simp] theorem setShelf_lead_removedAt (s : State) (k : Nat) (v : ShelfView) : (setShelf s k v).lead.removedAt = s.lead.removedAt := rfl
@[simp] theorem setShelf_lead_flaggedAt (s : State) (k : Nat) (v : ShelfView) : (setShelf s k v).lead.flaggedAt = s.lead.flaggedAt := rfl
@[simp] theorem setShelf_lead_held (s : State) (k : Nat) (v : ShelfView) : (setShelf s k v).lead.held = s.lead.held := rfl
@[simp] theorem setShelf_lead_holdOrder (s : State) (k : Nat) (v : ShelfView) : (setShelf s k v).lead.holdOrder = s.lead.holdOrder := rfl
@[simp] theorem setShelf_lead_holdGood (s : State) (k : Nat) (v : ShelfView) : (setShelf s k v).lead.holdGood = s.lead.holdGood := rfl
@[simp] theorem setShelf_lead_g1 (s : State) (k : Nat) (v : ShelfView) : (setShelf s k v).lead.g1 = s.lead.g1 := rfl
@[simp] theorem setShelf_lead_falling (s : State) (k : Nat) (v : ShelfView) : (setShelf s k v).lead.falling = s.lead.falling := rfl
@[simp] theorem setShelf_lead_g1For (s : State) (k : Nat) (v : ShelfView) : (setShelf s k v).lead.g1For = s.lead.g1For := rfl
@[simp] theorem setShelf_lead_reserveHit (s : State) (k : Nat) (v : ShelfView) : (setShelf s k v).lead.reserveHit = s.lead.reserveHit := rfl
@[simp] theorem setShelf_lead_allowance (s : State) (k : Nat) (v : ShelfView) : (setShelf s k v).lead.allowance = s.lead.allowance := rfl
@[simp] theorem setShelf_lead_capSeq (s : State) (k : Nat) (v : ShelfView) : (setShelf s k v).lead.capSeq = s.lead.capSeq := rfl
@[simp] theorem setShelf_lead_fromZero (s : State) (k : Nat) (v : ShelfView) : (setShelf s k v).lead.fromZero = s.lead.fromZero := rfl
@[simp] theorem setShelf_lead_capMarks (s : State) (k : Nat) (v : ShelfView) : (setShelf s k v).lead.capMarks = s.lead.capMarks := rfl
@[simp] theorem setShelf_lead_paceNow (s : State) (k : Nat) (v : ShelfView) : (setShelf s k v).lead.paceNow = s.lead.paceNow := rfl
@[simp] theorem setShelf_lead_fillNow (s : State) (k : Nat) (v : ShelfView) : (setShelf s k v).lead.fillNow = s.lead.fillNow := rfl
@[simp] theorem setShelf_lead_nadir (s : State) (k : Nat) (v : ShelfView) : (setShelf s k v).lead.nadir = s.lead.nadir := rfl
@[simp] theorem setShelf_lead_members (s : State) (k : Nat) (v : ShelfView) : (setShelf s k v).lead.members = s.lead.members := rfl
@[simp] theorem setShelf_lead_tables (s : State) (k : Nat) (v : ShelfView) : (setShelf s k v).lead.tables = s.lead.tables := rfl
@[simp] theorem setShelf_lead_tablesNext (s : State) (k : Nat) (v : ShelfView) : (setShelf s k v).lead.tablesNext = s.lead.tablesNext := rfl
@[simp] theorem setShelf_lead_tablesDue (s : State) (k : Nat) (v : ShelfView) : (setShelf s k v).lead.tablesDue = s.lead.tablesDue := rfl
@[simp] theorem setShelf_lead_presDue (s : State) (k : Nat) (v : ShelfView) : (setShelf s k v).lead.presDue = s.lead.presDue := rfl
@[simp] theorem setShelf_lead_snap (s : State) (k : Nat) (v : ShelfView) : (setShelf s k v).lead.snap = s.lead.snap := rfl
@[simp] theorem setShelf_lead_leaving (s : State) (k : Nat) (v : ShelfView) : (setShelf s k v).lead.leaving = s.lead.leaving := rfl
@[simp] theorem setShelf_lead_present (s : State) (k : Nat) (v : ShelfView) : (setShelf s k v).lead.present = s.lead.present := rfl
@[simp] theorem setShelf_lead_limited (s : State) (k : Nat) (v : ShelfView) : (setShelf s k v).lead.limited = s.lead.limited := rfl
@[simp] theorem setShelf_lead_limChips (s : State) (k : Nat) (v : ShelfView) : (setShelf s k v).lead.limChips = s.lead.limChips := rfl
@[simp] theorem setShelf_lead_roles (s : State) (k : Nat) (v : ShelfView) : (setShelf s k v).lead.roles = s.lead.roles := rfl
@[simp] theorem setShelf_lead_absent (s : State) (k : Nat) (v : ShelfView) : (setShelf s k v).lead.absent = s.lead.absent := rfl
@[simp] theorem setShelf_lead_frozenFor (s : State) (k : Nat) (v : ShelfView) : (setShelf s k v).lead.frozenFor = s.lead.frozenFor := rfl
@[simp] theorem setShelf_lead_left (s : State) (k : Nat) (v : ShelfView) : (setShelf s k v).lead.left = s.lead.left := rfl
@[simp] theorem setShelf_lead_chipPower (s : State) (k : Nat) (v : ShelfView) : (setShelf s k v).lead.chipPower = s.lead.chipPower := rfl
@[simp] theorem setShelf_lead_chipAll (s : State) (k : Nat) (v : ShelfView) : (setShelf s k v).lead.chipAll = s.lead.chipAll := rfl
@[simp] theorem setShelf_lead_steps (s : State) (k : Nat) (v : ShelfView) : (setShelf s k v).lead.steps = s.lead.steps := rfl
@[simp] theorem setShelf_lead_rates (s : State) (k : Nat) (v : ShelfView) : (setShelf s k v).lead.rates = s.lead.rates := rfl
@[simp] theorem setShelf_lead_acks (s : State) (k : Nat) (v : ShelfView) : (setShelf s k v).lead.acks = s.lead.acks := rfl
@[simp] theorem setShelf_lead_ackOff (s : State) (k : Nat) (v : ShelfView) : (setShelf s k v).lead.ackOff = s.lead.ackOff := rfl
@[simp] theorem setShelf_lead_ackSent (s : State) (k : Nat) (v : ShelfView) : (setShelf s k v).lead.ackSent = s.lead.ackSent := rfl
@[simp] theorem setShelf_lead_proposals (s : State) (k : Nat) (v : ShelfView) : (setShelf s k v).lead.proposals = s.lead.proposals := rfl
@[simp] theorem setShelf_lead_answers (s : State) (k : Nat) (v : ShelfView) : (setShelf s k v).lead.answers = s.lead.answers := rfl
@[simp] theorem setShelf_lead_hostMiss (s : State) (k : Nat) (v : ShelfView) : (setShelf s k v).lead.hostMiss = s.lead.hostMiss := rfl
@[simp] theorem setShelf_lead_hostGood (s : State) (k : Nat) (v : ShelfView) : (setShelf s k v).lead.hostGood = s.lead.hostGood := rfl
@[simp] theorem setShelf_lead_hostOut (s : State) (k : Nat) (v : ShelfView) : (setShelf s k v).lead.hostOut = s.lead.hostOut := rfl
@[simp] theorem setShelf_lead_inbox (s : State) (k : Nat) (v : ShelfView) : (setShelf s k v).lead.inbox = s.lead.inbox := rfl
@[simp] theorem setShelf_lead_lastFill (s : State) (k : Nat) (v : ShelfView) : (setShelf s k v).lead.lastFill = s.lead.lastFill := rfl
@[simp] theorem setShelf_lead_fillPrev (s : State) (k : Nat) (v : ShelfView) : (setShelf s k v).lead.fillPrev = s.lead.fillPrev := rfl
@[simp] theorem setShelf_lead_foldEnd (s : State) (k : Nat) (v : ShelfView) : (setShelf s k v).lead.foldEnd = s.lead.foldEnd := rfl
@[simp] theorem setShelf_lead_stepCnt (s : State) (k : Nat) (v : ShelfView) : (setShelf s k v).lead.stepCnt = s.lead.stepCnt := rfl
@[simp] theorem setShelf_lead_stepRate (s : State) (k : Nat) (v : ShelfView) : (setShelf s k v).lead.stepRate = s.lead.stepRate := rfl
@[simp] theorem setShelf_lead_carry (s : State) (k : Nat) (v : ShelfView) : (setShelf s k v).lead.carry = s.lead.carry := rfl
@[simp] theorem setShelf_lead_winEnergy (s : State) (k : Nat) (v : ShelfView) : (setShelf s k v).lead.winEnergy = s.lead.winEnergy := rfl
@[simp] theorem setShelf_lead_winPrev (s : State) (k : Nat) (v : ShelfView) : (setShelf s k v).lead.winPrev = s.lead.winPrev := rfl
@[simp] theorem setShelf_lead_targetSince (s : State) (k : Nat) (v : ShelfView) : (setShelf s k v).lead.targetSince = s.lead.targetSince := rfl
@[simp] theorem setShelf_fac (s : State) (k : Nat) (v : ShelfView) : (setShelf s k v).fac = s.fac := rfl
@[simp] theorem setShelf_eng (s : State) (k : Nat) (v : ShelfView) : (setShelf s k v).eng = s.eng := rfl
@[simp] theorem setShelf_cot (s : State) (k : Nat) (v : ShelfView) : (setShelf s k v).cot = s.cot := rfl
@[simp] theorem setShelf_lpe (s : State) (k : Nat) (v : ShelfView) : (setShelf s k v).lpe = s.lpe := rfl
@[simp] theorem setShelf_trc (s : State) (k : Nat) (v : ShelfView) : (setShelf s k v).trc = s.trc := rfl
@[simp] theorem setShelf_strs (s : State) (k : Nat) (v : ShelfView) : (setShelf s k v).strs = s.strs := rfl
@[simp] theorem setShelf_grd (s : State) (k : Nat) (v : ShelfView) : (setShelf s k v).grd = s.grd := rfl
@[simp] theorem setShelf_red (s : State) (k : Nat) (v : ShelfView) : (setShelf s k v).red = s.red := rfl
@[simp] theorem setShelf_sec (s : State) (k : Nat) (v : ShelfView) : (setShelf s k v).sec = s.sec := rfl
@[simp] theorem setShelf_net (s : State) (k : Nat) (v : ShelfView) : (setShelf s k v).net = s.net := rfl
@[simp] theorem setShelf_icu (s : State) (k : Nat) (v : ShelfView) : (setShelf s k v).icu = s.icu := rfl
@[simp] theorem setShelf_recs (s : State) (k : Nat) (v : ShelfView) : (setShelf s k v).recs = s.recs := rfl
@[simp] theorem setShelf_dic (s : State) (k : Nat) (v : ShelfView) : (setShelf s k v).dic = s.dic := rfl
@[simp] theorem setShelf_pending (s : State) (k : Nat) (v : ShelfView) : (setShelf s k v).pending = s.pending := rfl

/-! ## The dictionary store -/

/-- A value depends on the listed values alone. -/
theorem dget_congr {s t : State} (h : t.dic.vals = s.dic.vals) (o e : Nat) : dget t o e = dget s o e := by
  unfold dget; rw [h]

@[simp] theorem dget_dset_self (s : State) (o e v : Nat) : dget (dset s o e v) o e = v := by
  unfold dget dset
  simp only [mget_mset_self]
  by_cases h : v = objDefault o e <;> simp [h]

theorem dget_dset_ne (s : State) (o e v o' e' : Nat) (h : dkey o' e' ≠ dkey o e) : dget (dset s o e v) o' e' = dget s o' e' := by
  unfold dget dset
  simp only [mget_mset_ne _ _ _ _ h]

/-- Keys tell elements apart, below 2^24 elements an object. -/
theorem dkey_inj {o e o' e' : Nat} (he : e < 16777216) (he' : e' < 16777216) (h : dkey o e = dkey o' e') : o = o' ∧ e = e' := by
  unfold dkey at h; omega

@[simp] theorem dget_bump_self (s : State) (o e : Nat) : dget (bump s o e) o e = satInc (dget s o e) 0xFFFFFFFF :=
  dget_dset_self _ _ _ _

@[simp] theorem dget_bumpN_self (s : State) (o e n : Nat) : dget (bumpN s o e n) o e = min (dget s o e + n) 0xFFFFFFFF :=
  dget_dset_self _ _ _ _

@[simp] theorem dget_dropPend (s : State) (o e : Nat) (ob el : Nat) : dget (dropPend s o e) ob el = dget s ob el := rfl
@[simp] theorem dget_setPend (s : State) (o e v c : Nat) (ob el : Nat) : dget (setPend s o e v c) ob el = dget s ob el := rfl
@[simp] theorem dget_drawn (s : State) (ob el : Nat) : dget (drawn s) ob el = dget s ob el := rfl
@[simp] theorem dget_logEvent (s : State) (k r v p : Nat) (ob el : Nat) : dget (logEvent s k r v p) ob el = dget s ob el := rfl
@[simp] theorem dget_minuteFlag (s : State) (i : Nat) (ob el : Nat) : dget (minuteFlag s i) ob el = dget s ob el := rfl
@[simp] theorem dget_accessOk (s : State) (ob el : Nat) : dget (accessOk s) ob el = dget s ob el := rfl
@[simp] theorem dget_busError (s : State) (c : Core5) (b : Nat) (ob el : Nat) : dget (busError s c b) ob el = dget s ob el := rfl
@[simp] theorem dget_dramBytes (s : State) (a : Nat) (l : List Byte) (ob el : Nat) : dget (dramBytes s a l) ob el = dget s ob el := rfl
@[simp] theorem dget_dramPut (s : State) (a n v : Nat) (ob el : Nat) : dget (dramPut s a n v) ob el = dget s ob el := rfl
@[simp] theorem dget_setConv (s : State) (x : Str) (c : Conv) (ob el : Nat) : dget (setConv s x c) ob el = dget s ob el := rfl
@[simp] theorem dget_setSlot (s : State) (k : Nat) (v : Slot) (ob el : Nat) : dget (setSlot s k v) ob el = dget s ob el := rfl
@[simp] theorem dget_setShelf (s : State) (k : Nat) (v : ShelfView) (ob el : Nat) : dget (setShelf s k v) ob el = dget s ob el := rfl

end Sys2Proof.Machine
end

