-- ==== Sys2Proof/Laws/Records.lean ====
section
/-! SUPPORT. What writing a fault record does and what it leaves alone (R227 to R230). -/
namespace Sys2Proof.Machine
/-- Nothing changed. -/
theorem RecordFrame.rfl' (s : State) : RecordFrame s s := rfl
theorem RecordFrame.trans' {s t u : State} (h : RecordFrame s t) (k : RecordFrame t u) : RecordFrame s u := by
  unfold RecordFrame at *; rw [k, h]
theorem RecordFrame.ite' {s t : State} (c : Prop) [Decidable c] (h : RecordFrame s t) :
    RecordFrame s (if c then t else s) := by split; exact h; rfl
theorem faultPaths_frame (s : State) (r : Record) : RecordFrame s (faultPaths s r) := by
  unfold faultPaths
  refine RecordFrame.trans' (RecordFrame.ite' _ ?_) (RecordFrame.trans' (RecordFrame.ite' _ ?_)
    (RecordFrame.trans' (RecordFrame.ite' _ ?_) (RecordFrame.trans' (RecordFrame.ite' _ ?_) (RecordFrame.ite' _ ?_))))
  all_goals exact Eq.refl _
theorem ite_ring {s t : State} (c : Prop) [Decidable c] (h : t.recs.ring = s.recs.ring ∧ t.recs.seq = s.recs.seq) :
    (if c then t else s).recs.ring = s.recs.ring ∧ (if c then t else s).recs.seq = s.recs.seq := by split; exact h; exact ⟨rfl, rfl⟩
theorem faultPaths_ring (s : State) (r : Record) :
    (faultPaths s r).recs.ring = s.recs.ring ∧ (faultPaths s r).recs.seq = s.recs.seq := by
  unfold faultPaths
  refine ⟨?_, ?_⟩
  all_goals
    dsimp only
    (repeat' split) <;> rfl
/-- A fault record is written as R230 says, and nothing but the records and what they trigger changes. -/
theorem wrote_writeRecB (s : State) (b v c body : Nat) : Wrote s (writeRecB s b v c body) b v c := by
  unfold writeRecB
  split
  · rename_i h
    simp only [Bool.and_eq_true, decide_eq_true_eq, List.any_eq_true] at h
    exact ⟨.inr ⟨h.1, rfl, h.2, rfl⟩, rfl⟩
  · exact ⟨.inl ⟨(faultPaths_ring _ _).2, _, (faultPaths_ring _ _).1, rfl, rfl, rfl, rfl, rfl⟩,
      RecordFrame.trans' (t := { s with recs.ring := (newRecord s b v c body :: s.recs.ring).take 512, recs.seq := s.recs.seq + 1 })
       rfl (faultPaths_frame _ _)⟩
end Sys2Proof.Machine
end

