-- ==== Sys2Proof/WellFormed.lean ====
section
/-! DEFINITION. Which commands are well formed: every number within the range the spec gives the thing it names, every
list of the length its layout gives. The meanings are total and do not need these checks. -/
namespace Sys2Proof

/-- R414, R424, R425: field widths of a frame's header. -/
def Hdr.wf (h : Hdr) : Bool :=
  decide (h.ident < 2048) && decide (h.typ < 256) && decide (h.gen < 256) && decide (h.src < 256) &&
  decide (h.epoch < 281474976710656) && decide (h.counter < 65536)

/-- R414, R429: a request carries the header of a frame exactly where it comes over the field network. -/
def canWf (l : Link) (can : Option Hdr) : Bool :=
  match l, can with
  | .fnA, some h => h.wf && h.chan == .A
  | .fnB, some h => h.wf && h.chan == .B
  | .fnA, none => false
  | .fnB, none => false
  | .ld _, c => c.isNone
  | .j7, c => c.isNone

/-- R385: field widths of a request. -/
def Req.wf (r : Req) : Bool :=
  decide (r.arrived ≤ 20) && decide (r.gen < 256) && decide (r.op < 256) && decide (r.flags < 256) &&
  decide (r.transaction < 65536) && decide (r.object < 65536) && decide (r.element < 16777216) &&
  decide (r.ext < 65536) && decide (r.resv < 65536) && decide (r.count < 65536) && decide (r.offset < 4294967296) &&
  decide (r.length < 65536) && r.value.all (fun b => decide (b < 256)) && canWf r.link r.can

/-- R81: four setpoints, sixteen codes, fillers and phases. -/
def Pace.wf (p : Pace) : Bool :=
  decide (p.setpoints.length = 4) && decide (p.codes.length = 16) && decide (p.filler.length = 16) &&
  decide (p.phases.length = 16)

/-- R83: four shelf ceilings, sixteen constellation allowances. -/
def Cap.wf (p : Cap) : Bool :=
  decide (p.ceilings.length = 4) && decide (p.consAllow.length = 16) && decide (p.capSeq < 65536)

/-- R422: a slot index. -/
def Beat.wf (p : Beat) : Bool := decide (p.slot < 8) && decide (p.rectifiers < 256)

/-- R86: at most four limited chips in a report. -/
def Report.wf (p : Report) : Bool := decide (p.tray < 128) && decide (p.chips.length ≤ 4)

/-- R73: a ceiling for each of the 256 pace codes. -/
def Join.wf (p : Join) : Bool := decide (p.tray < 128) && decide (p.ceilings.length = 256)

/-- R427: 36 chunks. -/
def KeyChunk.wf (p : KeyChunk) : Bool := decide (p.chunk < 256)

/-- R243: 24 phase currents. -/
def SampleIn.wf (i : SampleIn) : Bool := decide (i.iPhase.length = 24)

/-- R268: 576 position voltages. -/
def StrobeIn.wf (i : StrobeIn) : Bool := decide (i.volts.length = 576)

/-- R203, R567: 24 inductances, eight rectifier ratings. -/
def BootIn.wf (b : BootIn) : Bool := decide (b.inductances.length = 24) && decide (b.ratings.length = 8)

/-- R242: 1,024 data words, eight accumulators. -/
def LOp.wf : LOp → Bool
  | .reg _ => true
  | .mem i => decide (i < 1024)
  | .acc i _ => decide (i < 8)

/-- R243: 24 phases. -/
def LIn.wf : LIn → Bool
  | .iPhase p => decide (p < 24)
  | .limit p => decide (p < 24)
  | _ => true

/-- R327: 24 references. -/
def RecordIn.wf (k : RecordIn) : Bool := decide (k.refs.length = 24)

/-- R365, R429: a whole message, or a segment of one that a frame can carry. -/
def SessIn.wf (q : SessIn) : Bool :=
  q.raw.all (fun v => decide (v < 256)) && canWf q.link q.can &&
    (match q.link with
     | .fnA => decide (q.raw.length ≤ 60)
     | .fnB => decide (q.raw.length ≤ 508)
     | _ => decide (2312 ≤ q.raw.length))

/-- R139, R140, R157: 16 tiles of 32 banks, 72 GB, 16 channels. -/
def ErrAt.wf : ErrAt → Bool
  | .sram tile bank => decide (tile < 16) && decide (bank < 32)
  | .dram offset => decide (offset < 72 * 2 ^ 30)
  | .bond channel => decide (channel < 16)

/-- The well-formed commands. -/
def Instr.wellFormed : Instr → Bool
  | .auxSupplyApplied => true
  | .supply54vInRange b => b.wf
  | .roleNegotiationTimeout => true
  | .liveReq _ _ => true
  | .supply54vOutOfRange => true
  | .stringFedTimeout => true
  | .powerFailWarning => true
  | .holdupFlushComplete => true
  | .holdupCommit _ => true
  | .holdupCutoff => true
  | .moduleRestart b => b.wf
  | .meridianPulse _ => true
  | .extraMeridianEdge => true
  | .missedPulse _ => true
  | .twilightStart => true
  | .signatureComplete => true
  | .lowerTreeBuild => true
  | .loopSample i => i.wf
  | .lpMove _ d a => d.wf && a.wf
  | .lpAdd _ d a b => d.wf && a.wf && b.wf
  | .lpSubtract _ d a b => d.wf && a.wf && b.wf
  | .lpCompare _ a b => a.wf && b.wf
  | .lpShift _ d a _ => d.wf && a.wf
  | .lpMin _ d a b => d.wf && a.wf && b.wf
  | .lpMax _ d a b => d.wf && a.wf && b.wf
  | .lpClamp _ d a lo hi => d.wf && a.wf && lo.wf && hi.wf
  | .lpMac _ acc a _ b _ => decide (acc < 8) && a.wf && b.wf
  | .lpDivide _ d a b => d.wf && a.wf && b.wf
  | .lpBranch _ _ target => decide (target < 4096)
  | .lpInputLoad _ d inp => d.wf && inp.wf
  | .lpOutputStore _ phase a => decide (phase < 24) && a.wf
  | .lpEnd _ => true
  | .passDeadline => true
  | .fixedLawTakeover => true
  | .programReturn => true
  | .fixedLawReturn r => r.wf
  | .channelImplausible _ => true
  | .channelPlausible _ => true
  | .channelSelection r => r.wf
  | .lpeFixrst _ => true
  | .lpeSelreq _ => true
  | .lpeRun _ _ => true
  | .loopProgramLoad r => r.wf
  | .loopProgramLoadDone _ => true
  | .loopProgramSelect r => r.wf
  | .cotTrigger _ clk => decide (clk < 800)
  | .onTimeEnd phase clk => decide (phase < 24) && decide (clk < 800)
  | .fastLimit phase clk => decide (phase < 24) && decide (clk < 800)
  | .pulseTruncation _ _ clk => decide (clk < 800)
  | .hiccup _ => true
  | .hiccupRetry _ => true
  | .retryCountReset _ => true
  | .phaseShed _ => true
  | .foldBack _ => true
  | .foldBackEnd _ => true
  | .busOvervoltageLatch => true
  | .ovPhaseRelease phase _ => decide (phase < 24)
  | .linkOvervoltage _ => true
  | .stringLatchClear r => r.wf
  | .overvoltageLatchClear r => r.wf
  | .cotOvclr _ => true
  | .cotLatclr _ _ => true
  | .cotShedEn _ _ => true
  | .cotStart _ _ => true
  | .cotEna _ _ _ => true
  | .cotPhenWrite _ _ => true
  | .contactorMainCommand _ _ _ => true
  | .contactorPrechargeCommand _ _ _ => true
  | .contactorHoldRelease _ _ => true
  | .prechargeGuardOpen _ => true
  | .prechargeOverlapOpen _ => true
  | .linkDischargeDone _ => true
  | .prechargeComplete _ => true
  | .prechargeTimeout _ => true
  | .contactorConfirmed _ _ _ => true
  | .contactorDisagree _ _ => true
  | .softStartCrossing _ => true
  | .softStartTimeout _ => true
  | .zeroingComplete _ => true
  | .zeroingTimeout _ => true
  | .powerBoardPresenceChange inductances => decide (inductances.length = 24)
  | .busReferenceTarget r => r.wf
  | .referenceSlew r => r.wf
  | .driveEnLoss => true
  | .phaseCheckComplete => true
  | .strobe i => i.wf
  | .positionTrip _ pos _ => decide (pos < 288)
  | .tripAutoClear _ pos => decide (pos < 288)
  | .tripClear r => r.wf
  | .umbraSurvey crossings => crossings.all (fun q => decide (q.2.1 < 288))
  | .hostBleedMasks r => r.wf
  | .bleedMaskExpiry => true
  | .wireSurveyRequest r => r.wf
  | .wireSurveySlot _ k _ _ _ => decide (k < 289)
  | .openWireTest _ wires => wires.all (fun w => decide (w < 289))
  | .openWireTestRequest r => r.wf
  | .openWireResult _ wire _ _ => decide (wire < 289)
  | .drawerRelease _ d => decide (d < 6)
  | .drawerInsert _ d => decide (d < 6)
  | .stringIsolate r => r.wf
  | .endIsolation r => r.wf
  | .thermistorRead temps => decide (temps.length = 48)
  | .afeReport _ dev => decide (dev < 18)
  | .afeLinkLoss _ dev => decide (dev < 18)
  | .integratorLayerWrite r => r.wf
  | .ownerLayerWrite r => r.wf
  | .ownerLayerAdopt _ => true
  | .guardNarrowing _ q _ => decide (q < 64)
  | .guardEscalation q => decide (q < 64)
  | .guardAuthorisation bit => decide (bit < 6)
  | .authorisationExpiry bit => decide (bit < 6)
  | .frameTransmit _ _ => true
  | .frameTransmitComplete _ => true
  | .babbleCut _ => true
  | .cutEnd _ => true
  | .busOffRecovery _ => true
  | .paceFrame h p => h.wf && p.wf
  | .capFrame h p => h.wf && p.wf
  | .heartbeatSend => true
  | .heartbeat h p => h.wf && p.wf
  | .shelfLeavesService shelf => decide (shelf < 4)
  | .leadLeaseLapse => true
  | .leadElection _ => true
  | .leadRelease r => r.wf
  | .trayReport h p => h.wf && p.wf
  | .throttleRestore c => decide (c < 16)
  | .joinFrame h p => h.wf && p.wf
  | .trayAbsenceLeave tray => decide (tray < 128)
  | .holdRelease => true
  | .hintMismatch c => decide (c < 16)
  | .unknownFrame h => h.wf
  | .keyFrame h p => h.wf && p.wf
  | .keyRequest h node => h.wf && decide (node < 128)
  | .groupKeyDistribution _ => true
  | .read r => r.wf
  | .readPending r => r.wf
  | .write r => r.wf
  | .describe r => r.wf
  | .malformedRequest r => r.wf
  | .segmentTimeout object => decide (object < 65536)
  | .writeForwardAck => true
  | .writeForwardTimeout => true
  | .sessionOpen q => q.wf
  | .sessionMessage _ _ _ r => r.wf
  | .sessionExpiry _ => true
  | .contractWrite r => r.wf
  | .breakerCapWrite r => r.wf
  | .rampLimitWrite r => r.wf
  | .emergencyAnnouncement r => r.wf
  | .rectifierHealthChange mask _ => decide (mask < 256)
  | .feedLost volts => decide (1 ≤ volts.length) && decide (volts.length ≤ 3)
  | .feedRestored volts => decide (1 ≤ volts.length) && decide (volts.length ≤ 3)
  | .hostAllocationTable r => r.wf
  | .hostFillerAnswer r => r.wf
  | .hostSocTarget r => r.wf
  | .hostSocTargetExpiry => true
  | .attributionFold => true
  | .featureFrame _ => true
  | .refreshStart => true
  | .refreshDone _ _ _ => true
  | .refreshDeadlineMiss => true
  | .holdForecast => true
  | .trainingPair => true
  | .learningStep => true
  | .candidateEvaluation => true
  | .reshardBuildDone => true
  | .reshardShadowCompare _ => true
  | .modelLoad r => r.wf
  | .modelLoadDone slot _ => decide (slot < 5)
  | .modelSelect r => r.wf
  | .clearSlot r => r.wf
  | .revertSignedWeights r => r.wf
  | .damagedSlotFetch slot _ => decide (slot < 5)
  | .uncorrectableError _ place => place.wf
  | .scrubRead _ => true
  | .bondCrcFail channel _ data _ _ _ => decide (channel < 16) && decide (data.length = 64)
  | .engineTemperature _ => true
  | .fastModeExit => true
  | .leaseRenewal => true
  | .leaseWordReceived _ _ _ => true
  | .leaseClaim => true
  | .driveEnTimeout => true
  | .lockstepMismatch => true
  | .driveConflict _ => true
  | .explicitRelease _ => true
  | .sisterBlockReceived lane _ => decide (lane < 2)
  | .laneDown lane => decide (lane < 2)
  | .laneRetrained lane => decide (lane < 2)
  | .sisterLinkLost => true
  | .stateRecord k => k.wf
  | .stateRecordDeadlineMiss => true
  | .epochImageSend => true
  | .epochImageReceived _ => true
  | .handoverCommand r => r.wf
  | .clearDriveFault r => r.wf
  | .revertHandover => true
  | .swapDrill => true
  | .drillEnd => true
  | .peerAbsent => true
  | .replacementAdoption r => r.wf
  | .keyEnrolment r => r.wf
  | .nodeTableWrite r => r.wf
  | .firmwareLoad r _ => r.wf
  | .activateBank r => r.wf
  | .commitTrial r => r.wf
  | .trialBootFailed => true
  | .trialAutoCommit => true
  | .evidenceRequest r => r.wf
  | .onDemandSeal r => r.wf
  | .unlockGrant r => r.wf
  | .endUnlock r => r.wf
  | .unlockExpiry => true
  | .challengeExpiry => true
  | .passphraseVerifier r => r.wf
  | .passphraseAttempt r => r.wf
  | .passphraseRefusalEnd => true
  | .entropyStop => true
  | .entropyResume => true
  | .userCalibrationWrite r => r.wf
  | .traceArm _ => true
  | .traceSwtrig _ => true
  | .traceTrigger => true
  | .traceDone => true
  | .snapshotFreeze => true
  | .snapshotRearm r => r.wf
  | .traceConfiguration r => r.wf
  | .recorderFrame _ => true
  | .recorderAutoStop => true
  | .recorderResume r => r.wf
  | .exportContent r => r.wf
  | .firstFaultClear r => r.wf
  | .auxSyncFunction r => r.wf
  | .identify ld _ => decide (ld < 4)
  | .getEventRecords ld _ => decide (ld < 4)
  | .clearEventRecords ld _ _ => decide (ld < 4)
  | .getEventInterruptPolicy ld _ => decide (ld < 4)
  | .setEventInterruptPolicy ld _ _ => decide (ld < 4)
  | .getFwInfo ld _ => decide (ld < 4)
  | .getSupportedLogs ld _ => decide (ld < 4)
  | .getLog ld _ => decide (ld < 4)
  | .identifyMemoryDevice ld _ => decide (ld < 4)
  | .getHealthInfo ld _ => decide (ld < 4)
  | .getPoisonList ld _ => decide (ld < 4)
  | .dictionaryPlain ld _ r => decide (ld < 4) && r.wf
  | .ownerStagingWrite ld _ _ _ _ _ _ => decide (ld < 4)
  | .unsupportedCommand ld opcode => decide (ld < 4) && decide (opcode < 65536)
  | .cxlMemRead ld _ _ _ => decide (ld < 4)
  | .cxlMemWrite ld _ _ => decide (ld < 4)
  | .cxlLinkChange _ => true
  | .dictionaryMirrorRefresh => true
  | .bridgeCrcFail bridge seq data crc _ =>
    decide (bridge < 16) && decide (seq < 2 ^ 16) && decide (data.length = 64) &&
      data.all (fun b => decide (b < 256)) && decide (crc < 2 ^ 16)
  | .referenceLoss => true
  | .referenceRestored => true
  | .crystalLoss => true
  | .crystalReturn => true
  | .pllLockLoss _ => true
  | .enginePllRelock => true
  | .enginePllEnable _ _ => true
  | .siderealRead _ => true
  | .readClearRegister _ _ => true
  | .registerWrite _ _ _ => true
  | .engAperWrite _ _ => true
  | .interruptSource _ source _ => decide (source < 512)
  | .icuClaim _ => true
  | .icuComplete _ source => decide (source < 512)
  | .icuPswp _ _ => true
  | .icuSswp _ _ => true
  | .icuXsig _ _ _ => true
  | .icuSwp _ w _ => decide (w < 16)
  | .icuRouteWrite _ src _ => decide (src < 512)
  | .icuFaultClear _ => true
  | .busPrebiasCheck => true
  | .engineWakeComplete => true
  | .learningStateMirror => true
  | .sessionOpenReassemblyTimeout => true
  | .linkBelow1150 phase => decide (phase < 24)
  | .leadMeridianDrive => true
  | .epochOwnGridOpen _ => true
  | .sisterAckTimeout lane => decide (lane < 2)
  | .sisterIdleBlock lane => decide (lane < 2)
  | .passphraseDurationEnd _ => true

end Sys2Proof
end

