-- ==== Sys2Proof/Tests/Slice0.lean ====
section
/-! SUPPORT. Tests: the well-formedness smoke tests, a few steps worked out by hand from the rules, and, for every hypothesis
of a statement, a concrete state and operands that meet it (the number in a name is the clause's, counted from 0). -/
section
open Sys2Proof Sys2Proof.Machine
set_option Elab.async false
namespace Sys2Proof.Tests
/-- State.reset with a changed converter string A. -/
def cvA (f : Conv → Conv) : State := setConv State.reset .A (f (conv State.reset .A))
/-- An Owner session over LD0. -/
def own : Session :=
  { number := 1, role := .owner, key := 0, link := .ld 0, rx := 0, tx := 0, opened := 0, used := 0, promoted := false,
    scopes := 0, till := 0, kRd := 0, kDr := 0, sRd := 0, sDr := 0 }
/-- The state with that session open. -/
def ownS : State := { State.reset with sec.sessions := [own] }
/-- A request of a session or of none, of element 0. -/
def rq (session : Option Nat) (op object : Nat) (value : List Nat) : Req :=
  { link := .ld 0, session := session, arrived := 20, gen := 1, op := op, flags := 3, transaction := 0, object := object,
    element := 0, ext := 0, resv := 0, count := 1, offset := 0, length := value.length, value := value, sigs := [],
    derivedOk := true, can := none }
/-- The descriptor of an object of the dictionary. -/
def desc (o : Nat) : Desc := (objDesc o).getD ⟨0, 1, 1, 1, 1, .rule, 0, 0, 0, 0⟩
/-- A frame header of node 5 in epoch 1, under group key 7. -/
def hdr (ident typ : Nat) : Hdr :=
  { formatOk := true, fd := false, chan := .A, ident := ident, typ := typ, gen := 1, src := 5, tag := .under 7, epoch := 1, counter := 1 }
/-- The state in which its frames pass. -/
def netS : State := dset { State.reset with sec.keyCur := some 7 } 0x8020 0 (5 + 2 ^ 32)
def joinA (ceilings : List Nat) : Join :=
  { tray := 0, mask := 1, table := 1, last := true, leave := false, ceilings := ceilings }
def paceA (lead : Nat) : Pace :=
  { lead := lead, newLead := false, twilight := 250, setpoints := [], codes := [], filler := [], phases := [] }
def beatA (slot : Nat) : Beat :=
  { lease := 0#32, slot := slot, role := 0, rectifiers := 0, ack := 0, input := 0, strPower := 0, store := 0 }
/-- A data frame of a heartbeat, and one of the plan. -/
def frameB : Frame :=
  { ident := 0x010, size := 0, dest := 0, epoch := 0, counter := 0, tag := .zero, body := .beat (beatA 0) }
def frameP : Frame :=
  { ident := 0x004, size := 0, dest := 0, epoch := 0, counter := 0, tag := .zero, body := .pace (paceA 0) }
/-- A standby that is able to claim. -/
def fitS : State :=
  dset (dset { State.reset with power.mstate := .live, red.role := .standby, red.image := some 0, red.current := true }
    0x8000 0 1) 0x8001 0 1
/-- A block of the sister link. -/
def blk (crc : Bool) (stream : Nat) : BlockIn :=
  { crcOk := crc, seq := 0, ack := 0, stream := stream, nak := false, idle := false, digest := 0, fitness := 0, slot1 := 0, copy := []
    slots := [], stack := [], learn := none, archive := [] }
/-- A state whose lane A is up. -/
def laneS : State := { State.reset with red.lanes.a.up := true }
def stbLive : State := { State.reset with power.mstate := .live, red.role := .standby }
def actLive : State := { State.reset with power.mstate := .live, red.role := .active }
/-- A loop program image of one instruction in the Owner staging area. -/
def loopDram : Memory :=
  [(ownerStaging, 0x56#8), (ownerStaging + 1, 0x4C#8), (ownerStaging + 2, 0x50#8), (ownerStaging + 3, 1#8),
    (ownerStaging + 4, 0x1F#8), (ownerStaging + 8, 1#8), (ownerStaging + 16, 1#8), (ownerStaging + 20, 72#8)]
/-- A model of slot 1 that learns, with a batch of one pair, in the stack. -/
def modelDram : Memory :=
  [(slotBase 1 + 24, 1#8), (slotBase 1 + 128, 4#8), (slotBase 1 + 137, 1#8), (slotBase 1 + 276, 1#8)]
/-- A standby that has frozen its record. -/
def stbRec : State := freezeRecord stbLive
/-- An active module that learns on slot 1. -/
def learnS : State :=
  dset (dset (dset { actLive with
    eng.state := .idle, net.dram := modelDram
    eng.slots := setAt State.reset.eng.slots 1 { Slot.empty with state := 3, flags := 1, resident := true } }
    0x4111 0 1) 0x4120 0 1) 0x4121 0 1
/-- A refresh, and its training pair. -/
def ref0 : RefPoint := { number := 9, clock := 0, fine := [], coarse := [] }
def pair0 : TrainPair := ⟨ref0, []⟩
/-- Slot 1 loading for the Owner, whose key is enrolled. -/
def loadS : State :=
  dset { State.reset with eng.slots := setAt State.reset.eng.slots 1 { Slot.empty with state := 1 }, eng.loaders := [(1, 1)] }
    0x8000 0 1
/-- What the metering path hands over at a boundary. -/
def epoch0 : EpochIn := { inputUJ := 0, strUJ := ⟨0, 0⟩, isMean := ⟨0, 0⟩, amps := [], pwm := none }
def pulse (err : Int) (pos : Nat) : PulseIn :=
  { err := err, pos := pos, high := 1000, epoch := epoch0 }
def stg : Staged := { object := 0x5080, element := 0, count := 1, session := some 1, bytes := [], whole := 128, resv := false }
def heldResp : Resp :=
  { op := 2, result := 0, transaction := 0, object := 0, element := 0, ext := 0, more := false, source := 0, count := 0,
    offset := 0, snapshot := 0, value := [] }
def held : Held := { key := 0, link := .ld 0, dest := 0, waits := true, resp := heldResp }
/-- A session of another role. -/
def sess (role : Role) (ld : Nat) : Session := { own with role := role, link := .ld ld, scopes := 15 }
/-- An active module with the Owner's session and both key sets. -/
def actS : State :=
  dset (dset { State.reset with sec.sessions := [own], red.role := .active } 0x8000 0 1) 0x8001 0 1
/-- A whole write of a value of `n` bytes. -/
def wr (o n v : Nat) : Req := rq (some 1) 2 o (bytesOf v n)
/-- A whole write that the module admits and does not clamp. -/
abbrev Adm (s : State) (r : Req) (o : Nat) (k : Session) : Prop :=
  Admitted s (Req.writing r o) (desc o) k.role (some k) none ∧ Unclamped s (Req.writing r o)
/-- A whole write that the module admits and clamps. -/
abbrev AdmClamped (s : State) (r : Req) (o : Nat) (k : Session) : Prop :=
  Admitted s (Req.writing r o) (desc o) k.role (some k) none ∧ ¬ Unclamped s (Req.writing r o)
/-- A contract whose rate limits are 1,000. -/
def contractA : Nat := packAt [(0, 1, 0x17), (4, 4, 1), (16, 4, 1000), (20, 4, 1000), (2952, 1, 1)]
/-- Key enrolments: the first Owner key, and a Tenant key that the Owner signs. -/
def enrolA : Nat := packAt [(0, 1, 0x10), (1, 1, 7), (36, 4, 1), (40, 60, 9), (104, 4, 1)]
def enrolB : Nat := packAt [(0, 1, 0x10), (1, 1, 7), (2, 1, 2), (36, 4, 1), (40, 60, 9), (104, 4, 1), (109, 4, 1)]
/-- A session open of the Owner over J7. -/
def sessA : SessIn := { link := .j7, raw := [0x10, 4, 0, 0], sig := some ⟨0, true⟩, can := none, seg := 0, last := true }
/-- Well-formed operands, for the smoke tests to spoil. -/
def paceGood : Pace :=
  { paceA 0 with setpoints := [0, 0, 0, 0], codes := List.replicate 16 0, filler := List.replicate 16 0, phases := List.replicate 16 0 }
def capGood : Cap :=
  { sender := 0, urgent := false, capSeq := 0, allowance := 0, ceilings := [0, 0, 0, 0], consAllow := List.replicate 16 0,
    cause := 0, breakerCap := 0 }
def reportGood : Report :=
  { tray := 0, present := 0, limitMask := 0, chips := [], power := 0, event := false, more := false }
def sampleGood : SampleIn :=
  { dieC := 0, bus1 := 0, bus2 := 0, fault1 := false, fault2 := false, strV := ⟨0, 0⟩, linkV := ⟨0, 0⟩, iPhase := List.replicate 24 0,
    iStr := ⟨0, 0⟩ }
def bootGood : BootIn :=
  { okA := true, okB := true, straps := 0, crcFail := [], sidKept := true, elapsed := 0, marker := true, peerRan := false,
    ratings := List.replicate 8 0, inductances := List.replicate 24 0 }
def sessGood : SessIn := 
  { link := .ld 0, raw := List.replicate 2312 0, sig := none, can := none, seg := 0, last := true }
theorem test_wf_accepts_request : Instr.wellFormed (.read (rq none 1 0 [])) = true := by decide +kernel
theorem test_wf_accepts_header : Instr.wellFormed (.unknownFrame (hdr 0 0)) = true := by decide +kernel
theorem test_wf_accepts_pace : Instr.wellFormed (.paceFrame (hdr 4 4) paceGood) = true := by decide +kernel
theorem test_wf_accepts_cap : Instr.wellFormed (.capFrame (hdr 8 3) capGood) = true := by decide +kernel
theorem test_wf_accepts_report : Instr.wellFormed (.trayReport (hdr 256 5) reportGood) = true := by decide +kernel
theorem test_wf_accepts_sample : Instr.wellFormed (.loopSample sampleGood) = true := by decide +kernel
theorem test_wf_accepts_boot : Instr.wellFormed (.moduleRestart bootGood) = true := by decide +kernel
theorem test_wf_accepts_session : Instr.wellFormed (.sessionOpen sessGood) = true := by decide +kernel
theorem test_wf_accepts_record : Instr.wellFormed (.stateRecord (ownRecord State.reset)) = true := by decide +kernel
theorem test_wf_refuses_request_arrived : Instr.wellFormed (.read { rq none 1 0 [] with arrived := 21 }) = false := by decide +kernel
theorem test_wf_refuses_request_gen : Instr.wellFormed (.read { rq none 1 0 [] with gen := 256 }) = false := by decide +kernel
theorem test_wf_refuses_request_op : Instr.wellFormed (.read { rq none 1 0 [] with op := 256 }) = false := by decide +kernel
theorem test_wf_refuses_request_flags : Instr.wellFormed (.read { rq none 1 0 [] with flags := 256 }) = false := by decide +kernel
theorem test_wf_refuses_request_transaction : Instr.wellFormed (.read { rq none 1 0 [] with transaction := 65536 }) = false := by decide +kernel
theorem test_wf_refuses_request_object : Instr.wellFormed (.read { rq none 1 0 [] with object := 65536 }) = false := by decide +kernel
theorem test_wf_refuses_request_element : Instr.wellFormed (.read { rq none 1 0 [] with element := 16777216 }) = false := by decide +kernel
theorem test_wf_refuses_request_ext : Instr.wellFormed (.read { rq none 1 0 [] with ext := 65536 }) = false := by decide +kernel
theorem test_wf_refuses_request_resv : Instr.wellFormed (.read { rq none 1 0 [] with resv := 65536 }) = false := by decide +kernel
theorem test_wf_refuses_request_count : Instr.wellFormed (.read { rq none 1 0 [] with count := 65536 }) = false := by decide +kernel
theorem test_wf_refuses_request_offset : Instr.wellFormed (.read { rq none 1 0 [] with offset := 4294967296 }) = false := by decide +kernel
theorem test_wf_refuses_request_length : Instr.wellFormed (.read { rq none 1 0 [] with length := 65536 }) = false := by decide +kernel
theorem test_wf_refuses_request_value : Instr.wellFormed (.read { rq none 1 0 [] with value := [256] }) = false := by decide +kernel
theorem test_wf_refuses_header_ident : Instr.wellFormed (.unknownFrame { hdr 0 0 with ident := 2048 }) = false := by decide +kernel
theorem test_wf_refuses_header_typ : Instr.wellFormed (.unknownFrame { hdr 0 0 with typ := 256 }) = false := by decide +kernel
theorem test_wf_refuses_header_gen : Instr.wellFormed (.unknownFrame { hdr 0 0 with gen := 256 }) = false := by decide +kernel
theorem test_wf_refuses_header_src : Instr.wellFormed (.unknownFrame { hdr 0 0 with src := 256 }) = false := by decide +kernel
theorem test_wf_refuses_header_epoch : Instr.wellFormed (.unknownFrame { hdr 0 0 with epoch := 281474976710656 }) = false := by decide +kernel
theorem test_wf_refuses_header_counter : Instr.wellFormed (.unknownFrame { hdr 0 0 with counter := 65536 }) = false := by decide +kernel
theorem test_wf_refuses_pace_setpoints : Instr.wellFormed (.paceFrame (hdr 4 4) { paceGood with setpoints := List.replicate 3 0 }) = false := by decide +kernel
theorem test_wf_refuses_pace_codes : Instr.wellFormed (.paceFrame (hdr 4 4) { paceGood with codes := List.replicate 15 0 }) = false := by decide +kernel
theorem test_wf_refuses_pace_filler : Instr.wellFormed (.paceFrame (hdr 4 4) { paceGood with filler := List.replicate 15 0 }) = false := by decide +kernel
theorem test_wf_refuses_pace_phases : Instr.wellFormed (.paceFrame (hdr 4 4) { paceGood with phases := List.replicate 15 0 }) = false := by decide +kernel
theorem test_wf_refuses_cap_ceilings : Instr.wellFormed (.capFrame (hdr 8 3) { capGood with ceilings := [0] }) = false := by decide +kernel
theorem test_wf_refuses_cap_consAllow : Instr.wellFormed (.capFrame (hdr 8 3) { capGood with consAllow := [0] }) = false := by decide +kernel
theorem test_wf_refuses_cap_capSeq : Instr.wellFormed (.capFrame (hdr 8 3) { capGood with capSeq := 65536 }) = false := by decide +kernel
theorem test_wf_refuses_beat_slot : Instr.wellFormed (.heartbeat (hdr 16 1) (beatA 8)) = false := by decide +kernel
theorem test_wf_refuses_beat_rectifiers : Instr.wellFormed (.heartbeat (hdr 16 1) { beatA 0 with rectifiers := 256 }) = false := by decide +kernel
theorem test_wf_refuses_report_tray : Instr.wellFormed (.trayReport (hdr 256 5) { reportGood with tray := 128 }) = false := by decide +kernel
theorem test_wf_refuses_report_chips : Instr.wellFormed (.trayReport (hdr 256 5) { reportGood with chips := List.replicate 5 ⟨0, 0, 0⟩ }) = false := by decide +kernel
theorem test_wf_refuses_join_tray : Instr.wellFormed (.joinFrame (hdr 12 2) { joinA (List.replicate 256 0) with tray := 128 }) = false := by decide +kernel
theorem test_wf_refuses_join_ceilings : Instr.wellFormed (.joinFrame (hdr 12 2) (joinA (List.replicate 255 0))) = false := by decide +kernel
theorem test_wf_refuses_chunk : Instr.wellFormed (.keyFrame (hdr 32 6) { switchEpoch := 0, target := 0, chunk := 256, key := none }) = false := by decide +kernel
theorem test_wf_refuses_sample_phases : Instr.wellFormed (.loopSample { sampleGood with iPhase := List.replicate 23 0 }) = false := by decide +kernel
theorem test_wf_refuses_strobe_volts : Instr.wellFormed (.strobe { islandC := ⟨0, 0⟩, bleedUA := ⟨150000, 150000⟩, volts := List.replicate 575 none, edge := false, strV := ⟨0, 0⟩, current := ⟨0, 0⟩, charge := ⟨0, 0⟩ }) = false := by decide +kernel
theorem test_wf_refuses_boot_inductances : Instr.wellFormed (.moduleRestart { bootGood with inductances := List.replicate 23 0 }) = false := by decide +kernel
theorem test_wf_refuses_boot_ratings : Instr.wellFormed (.moduleRestart { bootGood with ratings := List.replicate 7 0 }) = false := by decide +kernel
theorem test_wf_refuses_loop_accumulator : Instr.wellFormed (.lpMove .program (.acc 8 .q1_31) (.reg 0)) = false := by decide +kernel
theorem test_wf_refuses_loop_data_word : Instr.wellFormed (.lpMove .program (.mem 1024) (.reg 0)) = false := by decide +kernel
theorem test_wf_refuses_branch_target : Instr.wellFormed (.lpBranch .program true 4096) = false := by decide +kernel
theorem test_wf_refuses_mac_accumulator : Instr.wellFormed (.lpMac .program 8 (.reg 0) .q1_31 (.reg 0) .q1_31) = false := by decide +kernel
theorem test_wf_refuses_loop_input_phase : Instr.wellFormed (.lpInputLoad .program (.reg 0) (.iPhase 24)) = false := by decide +kernel
theorem test_wf_refuses_loop_input_limit : Instr.wellFormed (.lpInputLoad .program (.reg 0) (.limit 24)) = false := by decide +kernel
theorem test_wf_refuses_loop_output_phase : Instr.wellFormed (.lpOutputStore .program 24 (.reg 0)) = false := by decide +kernel
theorem test_wf_refuses_record_refs : Instr.wellFormed (.stateRecord { ownRecord State.reset with refs := List.replicate 23 0 }) = false := by decide +kernel
theorem test_wf_refuses_on_time_phase : Instr.wellFormed (.onTimeEnd 24 0) = false := by decide +kernel
theorem test_wf_refuses_on_time_clock : Instr.wellFormed (.onTimeEnd 0 800) = false := by decide +kernel
theorem test_wf_refuses_fast_limit_phase : Instr.wellFormed (.fastLimit 24 0) = false := by decide +kernel
theorem test_wf_refuses_trigger_clock : Instr.wellFormed (.cotTrigger .A 800) = false := by decide +kernel
theorem test_wf_refuses_truncation_clock : Instr.wellFormed (.pulseTruncation .A true 800) = false := by decide +kernel
theorem test_wf_refuses_ov_release_phase : Instr.wellFormed (.ovPhaseRelease 24 false) = false := by decide +kernel
theorem test_wf_refuses_board_inductances : Instr.wellFormed (.powerBoardPresenceChange [0]) = false := by decide +kernel
theorem test_wf_refuses_feed_volts : Instr.wellFormed (.feedLost []) = false := by decide +kernel
theorem test_wf_refuses_trip_position : Instr.wellFormed (.positionTrip .A 288 true) = false := by decide +kernel
theorem test_wf_refuses_auto_clear_position : Instr.wellFormed (.tripAutoClear .A 288) = false := by decide +kernel
theorem test_wf_refuses_survey_position : Instr.wellFormed (.umbraSurvey [(.A, 288, true)]) = false := by decide +kernel
theorem test_wf_refuses_survey_slot_wire : Instr.wellFormed (.wireSurveySlot .A 289 0 0 0) = false := by decide +kernel
theorem test_wf_refuses_open_wire_test : Instr.wellFormed (.openWireTest .A [289]) = false := by decide +kernel
theorem test_wf_refuses_open_wire_result : Instr.wellFormed (.openWireResult .A 289 0 0) = false := by decide +kernel
theorem test_wf_refuses_release_drawer : Instr.wellFormed (.drawerRelease .A 6) = false := by decide +kernel
theorem test_wf_refuses_insert_drawer : Instr.wellFormed (.drawerInsert .A 6) = false := by decide +kernel
theorem test_wf_refuses_thermistors : Instr.wellFormed (.thermistorRead [0]) = false := by decide +kernel
theorem test_wf_refuses_afe_report : Instr.wellFormed (.afeReport .A 18) = false := by decide +kernel
theorem test_wf_refuses_afe_link : Instr.wellFormed (.afeLinkLoss .A 18) = false := by decide +kernel
theorem test_wf_refuses_narrowing_quantity : Instr.wellFormed (.guardNarrowing .rt 64 0#32) = false := by decide +kernel
theorem test_wf_refuses_escalation_quantity : Instr.wellFormed (.guardEscalation 64) = false := by decide +kernel
theorem test_wf_refuses_authorisation_bit : Instr.wellFormed (.guardAuthorisation 6) = false := by decide +kernel
theorem test_wf_refuses_expiry_bit : Instr.wellFormed (.authorisationExpiry 6) = false := by decide +kernel
theorem test_wf_refuses_shelf : Instr.wellFormed (.shelfLeavesService 4) = false := by decide +kernel
theorem test_wf_refuses_constellation : Instr.wellFormed (.throttleRestore 16) = false := by decide +kernel
theorem test_wf_refuses_hint_constellation : Instr.wellFormed (.hintMismatch 16) = false := by decide +kernel
theorem test_wf_refuses_leaving_tray : Instr.wellFormed (.trayAbsenceLeave 128) = false := by decide +kernel
theorem test_wf_refuses_key_request_node : Instr.wellFormed (.keyRequest (hdr 0 0) 128) = false := by decide +kernel
theorem test_wf_refuses_segment_object : Instr.wellFormed (.segmentTimeout 65536) = false := by decide +kernel
theorem test_wf_refuses_session_length : Instr.wellFormed (.sessionOpen { sessGood with raw := [16] }) = false := by decide +kernel
theorem test_wf_refuses_session_segment : Instr.wellFormed (.sessionOpen { sessGood with link := .fnA, can := some (hdr 0 0), raw := List.replicate 61 0 }) = false := by decide +kernel
theorem test_wf_refuses_request_frame : Instr.wellFormed (.read { rq none 1 0 [] with can := some (hdr 0 0) }) = false := by decide +kernel
theorem test_wf_refuses_rectifier_mask : Instr.wellFormed (.rectifierHealthChange 256 []) = false := by decide +kernel
theorem test_wf_refuses_load_done_slot : Instr.wellFormed (.modelLoadDone 5 ⟨0, true⟩) = false := by decide +kernel
theorem test_wf_refuses_fetch_slot : Instr.wellFormed (.damagedSlotFetch 5 none) = false := by decide +kernel
theorem test_wf_refuses_bond_channel : Instr.wellFormed (.bondCrcFail 16 0 (List.replicate 64 0) 0 false .refresh) = false := by decide +kernel
theorem test_wf_refuses_block_lane : Instr.wellFormed (.sisterBlockReceived 2 (blk true 0)) = false := by decide +kernel
theorem test_wf_refuses_lane_down : Instr.wellFormed (.laneDown 2) = false := by decide +kernel
theorem test_wf_refuses_lane_retrained : Instr.wellFormed (.laneRetrained 2) = false := by decide +kernel
theorem test_wf_refuses_ack_lane : Instr.wellFormed (.sisterAckTimeout 2) = false := by decide +kernel
theorem test_wf_refuses_idle_lane : Instr.wellFormed (.sisterIdleBlock 2) = false := by decide +kernel
theorem test_wf_refuses_device_identify : Instr.wellFormed (.identify 4 true) = false := by decide +kernel
theorem test_wf_refuses_device_getEventRecords : Instr.wellFormed (.getEventRecords 4 true) = false := by decide +kernel
theorem test_wf_refuses_device_getEventInterruptPolicy : Instr.wellFormed (.getEventInterruptPolicy 4 true) = false := by decide +kernel
theorem test_wf_refuses_device_getFwInfo : Instr.wellFormed (.getFwInfo 4 true) = false := by decide +kernel
theorem test_wf_refuses_device_getSupportedLogs : Instr.wellFormed (.getSupportedLogs 4 true) = false := by decide +kernel
theorem test_wf_refuses_device_getLog : Instr.wellFormed (.getLog 4 true) = false := by decide +kernel
theorem test_wf_refuses_device_identifyMemoryDevice : Instr.wellFormed (.identifyMemoryDevice 4 true) = false := by decide +kernel
theorem test_wf_refuses_device_getHealthInfo : Instr.wellFormed (.getHealthInfo 4 true) = false := by decide +kernel
theorem test_wf_refuses_device_getPoisonList : Instr.wellFormed (.getPoisonList 4 true) = false := by decide +kernel
theorem test_wf_refuses_device_clearEventRecords : Instr.wellFormed (.clearEventRecords 4 true []) = false := by decide +kernel
theorem test_wf_refuses_device_setEventInterruptPolicy : Instr.wellFormed (.setEventInterruptPolicy 4 true 0#32) = false := by decide +kernel
theorem test_wf_refuses_device_dictionaryPlain : Instr.wellFormed (.dictionaryPlain 4 true (rq none 1 0 [])) = false := by decide +kernel
theorem test_wf_refuses_request_of_dictionaryPlain : Instr.wellFormed (.dictionaryPlain 0 true { rq none 1 0 [] with op := 256 }) = false := by decide +kernel
theorem test_wf_refuses_device_ownerStagingWrite : Instr.wellFormed (.ownerStagingWrite 4 true none 0 true 0 []) = false := by decide +kernel
theorem test_wf_refuses_device_unsupported : Instr.wellFormed (.unsupportedCommand 4 0) = false := by decide +kernel
theorem test_wf_refuses_unsupported_opcode : Instr.wellFormed (.unsupportedCommand 0 65536) = false := by decide +kernel
theorem test_wf_refuses_device_cxlMemRead : Instr.wellFormed (.cxlMemRead 4 0 0 false) = false := by decide +kernel
theorem test_wf_refuses_device_cxlMemWrite : Instr.wellFormed (.cxlMemWrite 4 0 []) = false := by decide +kernel
theorem test_wf_refuses_bridge : Instr.wellFormed (.bridgeCrcFail 16 0 (List.replicate 64 0) 0 false) = false := by decide +kernel
theorem test_wf_refuses_bridge_data : Instr.wellFormed (.bridgeCrcFail 0 0 [] 0 false) = false := by decide +kernel
theorem test_wf_refuses_error_tile : Instr.wellFormed (.uncorrectableError .refresh (.sram 16 0)) = false := by decide +kernel
theorem test_wf_refuses_interrupt_source : Instr.wellFormed (.interruptSource .rt 512 true) = false := by decide +kernel
theorem test_wf_refuses_complete_source : Instr.wellFormed (.icuComplete .rt 512) = false := by decide +kernel
theorem test_wf_refuses_swp_word : Instr.wellFormed (.icuSwp .rt 16 0#32) = false := by decide +kernel
theorem test_wf_refuses_route_source : Instr.wellFormed (.icuRouteWrite .rt 512 0) = false := by decide +kernel
theorem test_wf_refuses_link_phase : Instr.wellFormed (.linkBelow1150 24) = false := by decide +kernel
/-- Whether a command ends in a next state with a property. -/
def after (c : Instr) (s : State) (p : State → Bool) : Bool :=
  match exec c s with
  | .next t => p t
  | _ => false
/-- A pass in progress with two registers set. -/
def passS (a b : Nat) : State := { State.reset with lpe.run := true, lpe.prog.regs := [(1, a), (2, b)] }
/-- R242: 1 minus 2 is minus 1, in 1 clock. -/
theorem test_subtract :
    after (.lpSubtract .program (.reg 3) (.reg 1) (.reg 2)) (passS 1 2)
      (fun t => (lread t.lpe.prog (.reg 3)).1 == -1 && t.lpe.prog.clk == 41) = true := by decide +kernel
/-- R241, R242: 3.0 divided by 2.0 is 1.5, in 20 clocks. -/
theorem test_divide :
    after (.lpDivide .program (.reg 3) (.reg 1) (.reg 2)) (passS 50331648 33554432)
      (fun t => (lread t.lpe.prog (.reg 3)).1 == 25165824 && t.lpe.prog.clk == 60) = true := by decide +kernel
/-- R242: a divisor of 0 saturates. -/
theorem test_divide_by_zero :
    after (.lpDivide .program (.reg 3) (.reg 1) (.reg 2)) (passS 5 0)
      (fun t => (lread t.lpe.prog (.reg 3)).1 == 2147483647) = true := by decide +kernel
/-- R241: 0.5 in Q1.31 times -2.0 in Q8.24 is -1.0, stored to Q8.24 as -2^24. -/
theorem test_mac :
    after (.lpMac .program 0 (.reg 1) .q1_31 (.reg 2) .q8_24) (passS 1073741824 4261412864)
      (fun t => (lread t.lpe.prog (.acc 0 .q8_24)).1 == -16777216) = true := by decide +kernel
/-- R242: a taken branch costs 2 clocks, one not taken 1. -/
theorem test_branch :
    after (.lpBranch .program false 7) (passS 0 0) (fun t => t.lpe.prog.pc == 7 && t.lpe.prog.clk == 42) = true := by
  decide +kernel
/-- R472: the auxiliary supply wakes a dark module to Umbra. -/
theorem test_aux_supply :
    after .auxSupplyApplied { State.reset with power.mstate := .noSupply } (fun t => t.power.mstate == .umbra) = true := by
  decide +kernel
/-- R495: a claim with no eligible source is a spurious one. -/
theorem test_spurious_claim :
    after (.icuClaim .rt) State.reset (fun t => t.dic.reg == 0#32 && mget t.icu.spur 0 == 1) = true := by decide +kernel
/-- R26, R393: a request of a later generation is answered 0x08. -/
theorem test_later_generation :
    after (.malformedRequest { rq none 1 0x0010 [] with gen := 2 }) State.reset
      (fun t => (t.dic.resp.map (fun r => r.result)) == some 0x08) = true := by decide +kernel
/-- R275: one crossing of a survey in Umbra sets the latch of its position and not that of the next. -/
theorem test_umbra_crossing :
    after (.umbraSurvey [(.A, 7, true)]) { State.reset with power.mstate := .umbra }
      (fun t => mget t.strs.tripOv 7 == 1 && mget t.strs.tripOv 8 == 0 && faultLine t) = true := by decide +kernel
/-- Decoding: no word spells a command, since the table gives no bits. -/
theorem test_no_word_spells_a_command : (State.reset.withFetchWord 32 5).pending = [] := by decide +kernel
/-- A command at the front of the queue is taken from it. -/
theorem test_step_takes_the_front :
    (match step { State.reset with power.mstate := .noSupply, pending := [.auxSupplyApplied, .linkDischargeDone .A] } with
      | .next t => t.pending == [.linkDischargeDone .A] && t.power.mstate == .umbra
      | _ => false) = true := by decide +kernel
/-- R149: 1 and -31 in MXFP8: the scale is 2^(-4), 1 becomes 16, and 31 is beyond 448/16. -/
theorem test_mx_block :
    (mxQuantise .mxfp8 [.fin false (2 ^ 149) 1, .fin true (31 * 2 ^ 149) 1]) = (123, [0x58, 0xFE], 1) := by decide +kernel
/-- R152: (1 + 2) + 3 is 6. -/
theorem test_tree : reduceTree [0x3F800000, 0x40000000, 0x40400000] none = 0x40C00000 := by decide +kernel
theorem test_witness_SupplyCommandsMovePowerState_0 :
  let s : State := { State.reset with power.mstate := .noSupply }
  s.power.mstate = .noSupply := by
  decide +kernel
theorem test_witness_SupplyCommandsMovePowerState_1 :
  let s : State := { State.reset with power.mstate := .live }
  (s.power.mstate = .live ∨ s.power.mstate = .recovery) := by
  decide +kernel
theorem test_witness_SupplyCommandsMovePowerState_2 :
  let s : State := { State.reset with power.mstate := .holdup }
  s.power.mstate = .holdup := by
  decide +kernel
theorem test_witness_SupplyCommandsMovePowerState_3 :
  let s : State := { State.reset with power.mstate := .watch }
  s.power.mstate = .watch := by
  decide +kernel
theorem test_witness_SupplyCommandsMovePowerState_4 :
  let s : State := State.reset
  s.power.mstate ≠ .noSupply ∧ s.power.mstate ≠ .holdup := by
  decide +kernel
theorem test_witness_SupplyCommandsMovePowerState_5 :
  let s : State := { State.reset with power.mstate := .holdup, power.flushed := false }
  s.power.mstate = .holdup ∧ s.power.flushed = false := by
  decide +kernel
theorem test_witness_SupplyCommandsMovePowerState_6 :
  let s : State := { State.reset with power.mstate := .holdup, power.flushed := true }
  s.power.mstate = .holdup ∧ s.power.flushed = true := by
  decide +kernel
theorem test_witness_SupplyCommandsMovePowerState_7 :
  let s : State := { State.reset with power.mstate := .live }
  s.power.mstate = .live := by
  decide +kernel
theorem test_witness_PowerLossDropsDrivesAndMemory_0 :
  let s : State := { State.reset with power.mstate := .watch, power.sup54 := false, power.supStr := true }
  s.power.mstate = .watch ∧ s.power.sup54 = false ∧ s.power.supStr = true := by
  decide +kernel
theorem test_witness_PowerLossDropsDrivesAndMemory_1 :
  let s : State := { State.reset with power.mstate := .recovery }
  s.power.mstate = .recovery := by
  decide +kernel
theorem test_witness_PowerLossDropsDrivesAndMemory_2 :
  let s : State := { State.reset with power.mstate := .holdup, power.sup54 := false }
  s.power.mstate = .holdup ∧ s.power.sup54 = false := by
  decide +kernel
theorem test_witness_RestartEntersWatch_0 :
  let s : State := { State.reset with power.mstate := .umbra }
  s.power.mstate = .umbra := by
  decide +kernel
theorem test_witness_RestartEntersWatch_1 :
  let s : State := State.reset
  (s.power.mstate = .watch ∨ s.power.mstate = .live ∨ s.power.mstate = .recovery) := by
  decide +kernel
theorem test_witness_RestartEntersWatch_2 :
  let s : State := { State.reset with power.mstate := .holdup, power.flushed := true, power.sup54 := true }
  s.power.mstate = .holdup ∧ s.power.flushed = true ∧ s.power.sup54 = true := by
  decide +kernel
theorem test_witness_StringOnTimes_0 :
  let x : Str := .A
  let p : Nat := 0
  let clk : Nat := 100
  let s : State := { (cvA fun c => { c with st := .run }) with red.driveEn := true, cot.active := 1 }
  let u := runTo s clk
  modulates u = true ∧ switching u x = true ∧ (conv u x).blank = false ∧ u.cot.ovLatch = false ∧ valley u x = true ∧ (conv u x).waiting = none ∧ nextPhase (turnDirection u x) x = some p ∧ bit u.cot.onTime p = false ∧ atI u.cot.edge p + 80 ≤ (clk : Int) := by
  decide +kernel
theorem test_witness_StringOnTimes_1 :
  let p : Nat := 0
  let clk : Nat := 0
  let s : State := { State.reset with cot.onTime := 1 }
  let u := runTo s clk
  bit u.cot.onTime p = true ∧ onTimeOver u p clk = true := by
  decide +kernel
theorem test_witness_StringOnTimes_2 :
  let p : Nat := 0
  let clk : Nat := 0
  let s : State := { State.reset with cot.onTime := 1 }
  let u := runTo s clk
  bit u.cot.onTime p = true ∧ u.cot.ovLatch = false := by
  decide +kernel
theorem test_witness_StringOnTimes_3 :
  let x : Str := .A
  let clk : Nat := 0
  let s : State := { State.reset with cot.onTime := 1 }
  let u := runTo s clk
  (u.cot.onTime &&& strMask x) ≠ 0 := by
  decide +kernel
theorem test_witness_StringOnTimes_5 :
  let x : Str := .A
  let p : Nat := 0
  let clk : Nat := 100
  let s : State := { (cvA fun c => { c with st := .run }) with red.driveEn := true, cot.active := 1, cot.onTime := 1 }
  let u := runTo s clk
  modulates u = true ∧ switching u x = true ∧ (conv u x).blank = false ∧ u.cot.ovLatch = false ∧ valley u x = true ∧ (conv u x).waiting = none ∧ nextPhase (turnDirection u x) x = some p ∧ bit u.cot.onTime p = true := by
  decide +kernel
theorem test_witness_PrechargeAndSoftStart_0 :
  let x : Str := .A
  let s : State := { State.reset with cot.linkV := ⟨20000, 0⟩ }
  (conv s x).st = .off ∧ s.cot.strV.get x + 10000 < s.cot.linkV.get x := by
  decide +kernel
theorem test_witness_PrechargeAndSoftStart_1 :
  let x : Str := .A
  let s : State := State.reset
  (conv s x).st = .off ∧ s.cot.linkV.get x ≤ s.cot.strV.get x + 10000 ∧ bit s.cot.cmd (kIdx x .pre) = false ∧ closedRecently s (kIdx x .pre) = false := by
  decide +kernel
theorem test_witness_PrechargeAndSoftStart_2 :
  let x : Str := .A
  let s : State := (cvA fun c => { c with st := .run })
  (conv s x).st = .run := by
  decide +kernel
theorem test_witness_PrechargeAndSoftStart_3 :
  let x : Str := .A
  let s : State := (cvA fun c => { c with st := .precharge, equal := true })
  (conv s x).st = .precharge ∧ (conv s x).equal = true ∧ s.cot.linkV.get x ≤ s.cot.strV.get x + 10000 ∧ bit s.cot.cmd (kIdx x .pre) = false ∧ closedRecently s (kIdx x .pre) = false := by
  decide +kernel
theorem test_witness_PrechargeAndSoftStart_4 :
  let x : Str := .A
  let s : State := (cvA fun c => { c with st := .precharge })
  (conv s x).st = .precharge ∧ (conv s x).equal = false ∧ bit s.cot.cmd (kIdx x .main) = false ∧ gateOpen s x = true ∧ closesSpent s (kIdx x .main) = false ∧ closedRecently s (kIdx x .main) = false := by
  decide +kernel
theorem test_witness_PrechargeAndSoftStart_5 :
  let x : Str := .A
  let s : State := (cvA fun c => { c with st := .precharge })
  (conv s x).st = .precharge := by
  decide +kernel
theorem test_witness_PrechargeAndSoftStart_6 :
  let x : Str := .A
  let s : State := (cvA fun c => { c with st := .precharge })
  (conv s x).st = .precharge := by
  decide +kernel
theorem test_witness_PrechargeAndSoftStart_7 :
  let x : Str := .A
  let s : State := { (cvA fun c => { c with st := .ready }) with cot.bus1 := 700000, cot.bus2 := 700000 }
  (conv s x).st = .ready ∧ prebiased s = true := by
  decide +kernel
theorem test_witness_PrechargeAndSoftStart_8 :
  let x : Str := .A
  let s : State := { (cvA fun c => { c with st := .ready }) with cot.bus1 := 700000, cot.bus2 := 699999 }
  (conv s x).st = .ready ∧ prebiased s = false := by
  decide +kernel
theorem test_witness_PrechargeAndSoftStart_9 :
  let x : Str := .A
  let s : State := (cvA fun c => { c with st := .softStart, vss := 1000 })
  (conv s x).st = .softStart ∧ 1000 * busSel s ≤ (conv s x).vss := by
  decide +kernel
theorem test_witness_PrechargeAndSoftStart_10 :
  let x : Str := .A
  let s : State := (cvA fun c => { c with st := .softStart })
  (conv s x).st = .softStart := by
  decide +kernel
theorem test_witness_ContactorRules_0 :
  let x : Str := .A
  let s : State := State.reset
  bit s.cot.cmd (kIdx x .main) = false ∧ gateOpen s x = true ∧ closesSpent s (kIdx x .main) = false ∧ closedRecently s (kIdx x .main) = false := by
  decide +kernel
theorem test_witness_ContactorRules_1 :
  let x : Str := .A
  let s : State := { State.reset with cot.ovLatch := true }
  bit s.cot.cmd (kIdx x .main) = false ∧ gateOpen s x = false := by
  decide +kernel
theorem test_witness_ContactorRules_2 :
  let x : Str := .A
  let s : State := { State.reset with grd.closeTicks := List.replicate 12 (1, 0) }
  bit s.cot.cmd (kIdx x .main) = false ∧ gateOpen s x = true ∧ closesSpent s (kIdx x .main) = true := by
  decide +kernel
theorem test_witness_ContactorRules_3 :
  let x : Str := .A
  let s : State := State.reset
  nActive s x = 0 := by
  decide +kernel
theorem test_witness_ContactorRules_4 :
  let x : Str := .A
  let s : State := { State.reset with cot.ovLatch := false, cot.active := 1 }
  nActive s x ≠ 0 ∧ s.cot.ovLatch = false := by
  decide +kernel
theorem test_witness_ContactorRules_5 :
  let x : Str := .A
  let s : State := { State.reset with grd.closeTicks := [(0, 0)] }
  bit s.cot.cmd (kIdx x .pre) = false ∧ closedRecently s (kIdx x .pre) = true := by
  decide +kernel
theorem test_witness_ContactorRules_7 :
  let x : Str := .A
  let s : State := { State.reset with grd.heldCmd := [(0, true)] }
  s.grd.heldCmd.contains (kIdx x .pre, true) = true ∧ closedRecently s (kIdx x .pre) = false ∧ bit s.cot.cmd (kIdx x .pre) = false := by
  decide +kernel
theorem test_witness_ContactorRules_8 :
  let x : Str := .A
  let s : State := { State.reset with cot.cmd := 1 }
  bit s.cot.cmd (kIdx x .pre) = true ∧ bit s.cot.cmd (kIdx x .main) = false := by
  decide +kernel
theorem test_witness_ContactorRules_9 :
  let x : Str := .A
  let s : State := { State.reset with cot.cmd := 3 }
  bit s.cot.cmd (kIdx x .pre) = true ∧ bit s.cot.cmd (kIdx x .main) = true := by
  decide +kernel
theorem test_witness_ContactorRules_10 :
  let x : Str := .A
  let k : Contactor := .main
  let s : State := { State.reset with cot.cmd := 2 }
  bit s.cot.cmd (kIdx x k) ≠ bit s.cot.fb (kIdx x k) := by
  decide +kernel
theorem test_witness_ContactorRules_11 :
  let x : Str := .A
  let s : State := (cvA fun c => { c with st := .zeroing })
  (conv s x).st = .zeroing := by
  decide +kernel
theorem test_witness_ContactorRules_12 :
  let x : Str := .A
  let s : State := (cvA fun c => { c with st := .zeroing })
  (conv s x).st = .zeroing := by
  decide +kernel
theorem test_witness_CurrentLimitsAndShedding_0 :
  let x : Str := .A
  let s : State := { (cvA fun c => { c with st := .run, retries := 2 }) with cot.limitedRun := [20] }
  hiccupDue s x = true ∧ (conv s x).st = .run ∧ (conv s x).retries < 3 := by
  decide +kernel
theorem test_witness_CurrentLimitsAndShedding_1 :
  let x : Str := .A
  let s : State := { (cvA fun c => { c with st := .run, retries := 3 }) with cot.limitedRun := [20] }
  hiccupDue s x = true ∧ (conv s x).st = .run ∧ 3 ≤ (conv s x).retries := by
  decide +kernel
theorem test_witness_CurrentLimitsAndShedding_2 :
  let x : Str := .A
  let s : State := { (cvA fun c => { c with st := .hiccup }) with cot.bus1 := 700000, cot.bus2 := 700000 }
  (conv s x).st = .hiccup ∧ (conv s x).hicLeft = 0 ∧ prebiased s = true := by
  decide +kernel
theorem test_witness_CurrentLimitsAndShedding_3 :
  let x : Str := .A
  let s : State := (cvA fun c => { c with st := .run })
  (conv s x).st = .run := by
  decide +kernel
theorem test_witness_CurrentLimitsAndShedding_4 :
  let x : Str := .A
  let s : State := (cvA fun c => { c with budget := 0 })
  (conv s x).budget = 0 ∧ (conv s x).fold = false ∧ (conv s x).fold2 = false := by
  decide +kernel
theorem test_witness_CurrentLimitsAndShedding_5 :
  let x : Str := .A
  let s : State := (cvA fun c => { c with fold := true, budget := 7500000000 })
  (conv s x).fold = true ∧ 7500000000 ≤ (conv s x).budget := by
  decide +kernel
theorem test_witness_CurrentLimitsAndShedding_6 :
  let x : Str := .A
  let p : Nat := 3
  let s : State := { (cvA fun c => { c with st := .run, dwell := 1000000 }) with cot.active := 15, cot.shedEn := true, cot.vNow := State.reset.cot.vTgt * 1000 }
  shedDue s x = true ∧ addDue s x = false ∧ firstIn (stayOf s x) (phasesOf x).reverse = some p := by
  decide +kernel
theorem test_witness_CurrentLimitsAndShedding_7 :
  let x : Str := .A
  let p : Nat := 3
  let s : State := { (cvA fun c => { c with st := .run, dwell := 1000000, shed := 8 }) with cot.active := 15, cot.shedEn := true, cot.vNow := State.reset.cot.vTgt * 1000, cot.emu := List.replicate 24 1000000000 }
  shedDue s x = true ∧ addDue s x = true ∧ firstIn (shedOf s x) (phasesOf x) = some p := by
  decide +kernel
theorem test_witness_OvervoltageLatch_0 :
  let s : State := { State.reset with cot.ovLatch := false, red.role := .active }
  s.cot.ovLatch = false ∧ isActive s = true := by
  decide +kernel
theorem test_witness_OvervoltageLatch_1 :
  let s : State := { State.reset with cot.ovLatch := false }
  s.cot.ovLatch = false ∧ isActive s = false := by
  decide +kernel
theorem test_witness_OvervoltageLatch_2 :
  let s : State := { State.reset with cot.ovLatch := true }
  s.cot.ovLatch = true := by
  decide +kernel
theorem test_witness_OvervoltageLatch_3 :
  let s : State := { State.reset with cot.ovLatch := true }
  s.cot.ovLatch = true := by
  decide +kernel
theorem test_witness_OvervoltageLatch_4 :
  let s : State := { State.reset with cot.ovLatch := false }
  s.cot.ovLatch = false := by
  decide +kernel
theorem test_witness_OvervoltageLatch_5 :
  let s : State := { State.reset with cot.ovLatch := true }
  s.cot.ovLatch = true := by
  decide +kernel
theorem test_witness_OvervoltageLatch_6 :
  let s : State := { State.reset with cot.ovLatch := true, grd.auth := 32 }
  s.cot.ovLatch = true ∧ bit s.grd.auth 5 = true := by
  decide +kernel
theorem test_witness_OvervoltageLatch_7 :
  let s : State := State.reset
  bit s.grd.auth 5 = false := by
  decide +kernel
theorem test_witness_OvervoltageLatch_8 :
  let x : Str := .A
  let s : State := { (cvA fun c => { c with ownLatch := true }) with grd.auth := 8 }
  (conv s x).ownLatch = true ∧ bit s.grd.auth (3 + x.idx) = true := by
  decide +kernel
theorem test_witness_OvervoltageLatch_9 :
  let x : Str := .A
  let s : State := State.reset
  bit s.grd.auth (3 + x.idx) = false := by
  decide +kernel
theorem test_witness_ConverterRegisters_1 :
  let v : Word := 0#32
  let s : State := State.reset
  (let u := { s with cot.phen := v.toNat % 2 ^ 24 }; nEnabled u .A < 2 ∨ nEnabled u .B < 2) := by
  decide +kernel
theorem test_witness_ConverterRegisters_2 :
  let v : Word := 0xFFFFFF#32
  let s : State := State.reset
  (let u := { s with cot.phen := v.toNat % 2 ^ 24 }; 2 ≤ nEnabled u .A ∧ 2 ≤ nEnabled u .B) := by
  decide +kernel
theorem test_witness_ConverterRegisters_5 :
  let c : Core5 := .s0
  c ≠ .rt := by
  decide +kernel
theorem test_witness_LoopArithmetic_0 :
  let c : Ctx := .program
  let s : State := { State.reset with lpe.run := true }
  passRuns s c = true := by
  decide +kernel
theorem test_witness_LoopSaturation_0 :
  let c : Ctx := .program
  let a : LOp := .reg 1
  let b : LOp := .reg 2
  let s : State := { State.reset with lpe.run := true, lpe.prog.regs := [(1, 5)] }
  passRuns s c = true ∧ (lctx s c).clk + 20 ≤ 720 ∧ 0 < (lread (lctx s c) a).1 ∧ (lread (lctx s c) b).1 = 0 := by
  decide +kernel
theorem test_witness_LoopSaturation_1 :
  let c : Ctx := .program
  let s : State := { State.reset with lpe.run := true }
  passRuns s c = true ∧ (lctx s c).clk + 1 ≤ 720 := by
  decide +kernel
theorem test_witness_LoopSaturation_2 :
  let c : Ctx := .program
  let s : State := { State.reset with lpe.run := true, lpe.prog.clk := 720 }
  passRuns s c = true ∧ 720 < (lctx s c).clk + 1 := by
  decide +kernel
theorem test_witness_LoopSaturation_3 :
  let c : Ctx := .program
  let s : State := { State.reset with lpe.run := true }
  passRuns s c = true ∧ (lctx s c).clk + 1 ≤ 720 := by
  decide +kernel
theorem test_witness_LoopSaturation_4 :
  let c : Ctx := .program
  let s : State := { State.reset with lpe.run := true }
  passRuns s c = true ∧ (lctx s c).clk + 1 ≤ 720 := by
  decide +kernel
theorem test_witness_LoopSaturation_5 :
  let c : Ctx := .program
  let s : State := { State.reset with lpe.run := true }
  passRuns s c = true ∧ (lctx s c).clk + 20 ≤ 720 := by
  decide +kernel
theorem test_witness_LoopSaturation_6 :
  let c : Ctx := .program
  let s : State := { State.reset with lpe.run := true }
  passRuns s c = true ∧ (lctx s c).clk + 1 ≤ 720 := by
  decide +kernel
theorem test_witness_LoopControl_0 :
  let c : Ctx := .program
  let a : LOp := .reg 1
  let b : LOp := .mem 2
  let s : State := { State.reset with lpe.run := true }
  passRuns s c = true ∧ (lctx s c).clk + 1 ≤ 720 ∧ (lread (lctx s c) a).2 = false ∧ (lread (lctx s c) b).2 = false := by
  decide +kernel
theorem test_witness_LoopControl_1 :
  let c : Ctx := .program
  let l : Bool := false
  let target : Nat := 4095
  let s : State := { State.reset with lpe.run := true }
  passRuns s c = true ∧ (lctx s c).clk + 2 ≤ 720 ∧ (lctx s c).less = l ∧ target < 4096 := by
  decide +kernel
theorem test_witness_LoopControl_2 :
  let c : Ctx := .program
  let l : Bool := true
  let s : State := { State.reset with lpe.run := true }
  passRuns s c = true ∧ (lctx s c).clk + 1 ≤ 720 ∧ (lctx s c).less ≠ l := by
  decide +kernel
theorem test_witness_LoopControl_3 :
  let c : Ctx := .program
  let s : State := { State.reset with lpe.run := true }
  passRuns s c = true ∧ (lctx s c).clk + 1 ≤ 720 := by
  decide +kernel
theorem test_witness_LoopControl_4 :
  let c : Ctx := .program
  let a : LOp := .reg 0
  let s : State := { State.reset with lpe.run := true }
  passRuns s c = true ∧ (lctx s c).clk + 1 ≤ 720 ∧ (lread (lctx s c) a).2 = false := by
  decide +kernel
theorem test_witness_LoopControl_5 :
  let s : State := { State.reset with lpe.run := true, lpe.prog.clk := 719 }
  passRuns s .program = true ∧ s.lpe.prog.clk + 1 ≤ 720 := by
  decide +kernel
theorem test_witness_LoopControl_6 :
  let s : State := { State.reset with lpe.run := true, lpe.shadowEn := true, lpe.shad.clk := 719 }
  passRuns s .shadow = true ∧ s.lpe.shad.clk + 1 ≤ 720 := by
  decide +kernel
theorem test_witness_LoopEngineSupervision_0 :
  let s : State := { State.reset with power.mstate := .live, lpe.run := true, lpe.prog.ended := false, lpe.src := 0, lpe.ovrCnt := 2 }
  s.power.mstate = .live ∧ s.lpe.run = true ∧ s.lpe.prog.ended = false ∧ s.lpe.src = 0 ∧ s.lpe.ovrCnt = 2 := by
  decide +kernel
theorem test_witness_LoopEngineSupervision_1 :
  let s : State := { State.reset with power.mstate := .live, lpe.run := true, lpe.prog.ended := true, lpe.shad.ended := true }
  s.power.mstate = .live ∧ s.lpe.run = true ∧ s.lpe.prog.ended = true ∧ (s.lpe.shadowEn = false ∨ s.lpe.shad.ended = true) := by
  decide +kernel
theorem test_witness_LoopEngineSupervision_2 :
  let s : State := { State.reset with lpe.takeover := true, lpe.src := 0 }
  s.lpe.takeover = true ∧ s.lpe.src = 0 := by
  decide +kernel
theorem test_witness_LoopEngineSupervision_3 :
  let s : State := { State.reset with lpe.src := 1, lpe.cleanBg := 1000 }
  s.lpe.src = 1 ∧ 1000 ≤ s.lpe.cleanBg ∧ s.epo.sample ≤ 1 := by
  decide +kernel
theorem test_witness_LoopEngineSupervision_4 :
  let s : State := { State.reset with lpe.src := 1, grd.auth := 4 }
  s.lpe.src = 1 ∧ bit s.grd.auth 2 = true := by
  decide +kernel
theorem test_witness_LoopEngineSupervision_5 :
  let s : State := State.reset
  bit s.grd.auth 2 = false := by
  decide +kernel
theorem test_witness_LoopEngineSupervision_6 :
  let s : State := { State.reset with grd.auth := 2 }
  bit s.grd.auth 1 = true ∧ plausible s s.lpe.selCh = true := by
  decide +kernel
theorem test_witness_LoopEngineSupervision_9 :
  let k : Bool := false
  let s : State := dset { State.reset with lpe.overBand := (1000, 0) } 0x5060 1 1000
  implausibleDue s k = true ∧ plausible s k = true ∧ plausible s (!k) = true ∧ s.lpe.sel = k := by
  decide +kernel
theorem test_witness_LoopEngineSupervision_10 :
  let k : Bool := false
  let s : State := dset { State.reset with lpe.overBand := (1000, 0), lpe.impl := (false, true) } 0x5060 1 1000
  implausibleDue s k = true ∧ plausible s k = true ∧ plausible s (!k) = false := by
  decide +kernel
theorem test_witness_LoopEngineSupervision_11 :
  let k : Bool := false
  let s : State := { State.reset with lpe.impl := (true, false), lpe.inBand := (1000, 0) }
  plausible s k = false ∧ (if k then s.lpe.chFault.2 else s.lpe.chFault.1) = false ∧ 1000 ≤ (if k then s.lpe.inBand.2 else s.lpe.inBand.1) := by
  decide +kernel
theorem test_witness_LoopEngineSupervision_12 :
  let c : Core5 := .s0
  c ≠ .rt := by
  decide +kernel
theorem test_witness_LoopEngineSupervision_13 :
  let s : State := { State.reset with lpe.takeover := true, lpe.src := 2 }
  s.lpe.takeover = true ∧ s.lpe.src ≠ 0 := by
  decide +kernel
theorem test_witness_InterruptController_0 :
  let i : Nat := 32
  32 ≤ i ∧ sharedHas i = true := by
  decide +kernel
theorem test_witness_InterruptController_1 :
  let c : Core5 := .s0
  let i : Nat := 2
  i < 9 ∧ privHas c i = true := by
  decide +kernel
theorem test_witness_InterruptController_2 :
  let c : Core5 := .s0
  let i : Nat := 16
  let s : State := { State.reset with icu.pen := [(1, 65536)], icu.pswp := [(1, 65536)] }
  eligible s c i = true ∧ i < 83 ∧ (∀ j, j < i → eligible s c j = false) := by
  decide +kernel
theorem test_witness_InterruptController_3 :
  let c : Core5 := .s0
  let s : State := State.reset
  winner s c = none := by
  decide +kernel
theorem test_witness_InterruptController_4 :
  let c : Core5 := .s0
  let i : Nat := 16
  let s : State := { State.reset with icu.active := [(1, 16)] }
  activeSrc s c = i % 512 ∧ i % 512 ≠ 0 := by
  decide +kernel
theorem test_witness_InterruptController_5 :
  let c : Core5 := .s0
  let i : Nat := 16
  let s : State := { State.reset with icu.fault := none }
  activeSrc s c ≠ i % 512 ∧ s.icu.fault = none := by
  decide +kernel
theorem test_witness_InterruptController_7 :
  let c : Core5 := .rt
  let i : Nat := 32
  let s : State := State.reset
  32 ≤ i ∧ i < 512 ∧ ownedBy s c i = true := by
  decide +kernel
theorem test_witness_InterruptController_8 :
  let c : Core5 := .s0
  let u : Core5 := .s1
  let i : Nat := 16
  u ≠ c ∧ 16 ≤ i ∧ i < 32 := by
  decide +kernel
theorem test_witness_InterruptController_9 :
  let w : Nat := 15
  1 ≤ w ∧ w ≤ 15 := by
  decide +kernel
theorem test_witness_InterruptController_10 :
  let i : Nat := 64
  let n : Nat := 4
  let s : State := State.reset
  sharedHas i = true ∧ routeFixed i = false ∧ n ≤ 4 ∧ isEnabled s .rt i = false ∧ activeAnywhere s i = false := by
  decide +kernel
theorem test_witness_InterruptController_11 :
  let i : Nat := 32
  let s : State := State.reset
  sharedHas i = true ∧ (routeFixed i = true ∨ isEnabled s .rt i = true ∨ activeAnywhere s i = true) := by
  decide +kernel
theorem test_witness_InterruptController_12 :
  let f : IcuFault := ⟨1, 0, 1, 5⟩
  let s : State := { State.reset with icu.fault := some f }
  s.icu.fault = some f := by
  decide +kernel
theorem test_witness_InterruptController_13 :
  let c : Core5 := .s0
  c ≠ .rt := by
  decide +kernel
theorem test_witness_PositionTrips_0 :
  let x : Str := .A
  let k : Nat := 0
  let s : State := State.reset
  masked s x k = false := by
  decide +kernel
theorem test_witness_PositionTrips_1 :
  let x : Str := .A
  let k : Nat := 0
  let s : State := { State.reset with strs.tripOv := [(0, 1)], epo.ticks := 2000, strs.pstate := [(0, 1)], strs.readUv := [(0, 3000001)], strs.tripTicks := [(0, 1)] }
  tripped s (posG x k) = true ∧ mget s.strs.tripHeld (heldKey (posG x k) true) ≠ 1 ∧ mget s.strs.tripHeld (heldKey (posG x k) false) ≠ 1 ∧ clearsOf s (posG x k) < 3 ∧ insideBy30 s (posG x k) = true ∧ mget s.strs.tripTicks (posG x k) + 999 ≤ s.epo.ticks := by
  decide +kernel
theorem test_witness_PositionTrips_2 :
  let s : State := { State.reset with power.mstate := .umbra }
  s.power.mstate = .umbra := by
  decide +kernel
theorem test_witness_StrobeWindows_0 :
  let s : State := { State.reset with strs.owt := [(.A, 0)] }
  s.strs.owt ≠ [] := by
  decide +kernel
theorem test_witness_StrobeWindows_1 :
  let s : State := { State.reset with strs.owt := [] }
  s.strs.owt = [] ∧ s.strs.window + 1 < max 1 (dget s 0x6011 0) := by
  decide +kernel
theorem test_witness_StrobeWindows_2 :
  let s : State := { State.reset with strs.owt := [], strs.window := 100000 }
  s.strs.owt = [] ∧ max 1 (dget s 0x6011 0) ≤ s.strs.window + 1 := by
  decide +kernel
theorem test_witness_StrobeWindows_3 :
  let n : Nat := 4
  let g : Nat := 0
  let s : State := { State.reset with strs.accN := [(0, 2)] }
  mget s.strs.accN g ≠ 0 ∧ 2 * (n - mget s.strs.accN g) ≤ n := by
  decide +kernel
theorem test_witness_StrobeWindows_4 :
  let n : Nat := 4
  let g : Nat := 0
  let s : State := { State.reset with strs.accN := [(0, 1)] }
  n < 2 * (n - mget s.strs.accN g) := by
  decide +kernel
theorem test_witness_WireSurveysAndTests_0 :
  let s : State := { State.reset with strs.hostMask := true }
  s.strs.hostMask = true ∧ fieldAt (dget s 0x6022 0) 0 8 ≤ s.epo.count := by
  decide +kernel
theorem test_witness_WireSurveysAndTests_1 :
  let x : Str := .A
  let k : Nat := 0
  let s : State := { State.reset with strs.survey := some (x, k) }
  s.strs.survey = some (x, k) := by
  decide +kernel
theorem test_witness_WireSurveysAndTests_3 :
  let x : Str := .A
  let j : Nat := 0
  let b : Nat := 100
  let a : Nat := 0
  let s : State := { State.reset with strs.owt := [(.A, 0)], strs.drawers := ⟨63, 63⟩ }
  s.strs.owt.contains (x, j) = true ∧ present s x (wireDrawer j) = true ∧ (100 ≤ b ∨ 100 ≤ a) := by
  decide +kernel
theorem test_witness_WireSurveysAndTests_4 :
  let x : Str := .A
  let j : Nat := 0
  let b : Nat := 4
  let a : Nat := 0
  let s : State := { State.reset with strs.owt := [(.A, 0)], strs.drawers := ⟨63, 63⟩ }
  s.strs.owt.contains (x, j) = true ∧ present s x (wireDrawer j) = true ∧ b < 5 ∧ a < 5 := by
  decide +kernel
theorem test_witness_WireSurveysAndTests_5 :
  let x : Str := .A
  let j : Nat := 0
  let b : Nat := 99
  let a : Nat := 0
  let s : State := { State.reset with strs.owt := [(.A, 0)], strs.drawers := ⟨63, 63⟩ }
  s.strs.owt.contains (x, j) = true ∧ present s x (wireDrawer j) = true ∧ b < 100 ∧ a < 100 ∧ (5 ≤ b ∨ 5 ≤ a) := by
  decide +kernel
theorem test_witness_DrawersTemperaturesAndLinks_0 :
  let d : Nat := 0
  d < 6 := by
  decide +kernel
theorem test_witness_DrawersTemperaturesAndLinks_1 :
  let d : Nat := 0
  d < 6 := by
  decide +kernel
theorem test_witness_DrawersTemperaturesAndLinks_2 :
  let s : State := { State.reset with strs.temps := List.replicate 48 0 }
  s.strs.temps.length = 48 := by
  decide +kernel
theorem test_witness_DrawersTemperaturesAndLinks_3 :
  let x : Str := .A
  let n : Nat := 0
  let s : State := State.reset
  n < 18 ∧ mget s.strs.afeMiss (afeKey x n) ≠ 1 := by
  decide +kernel
theorem test_witness_DrawersTemperaturesAndLinks_4 :
  let x : Str := .A
  let n : Nat := 0
  let s : State := { State.reset with strs.afeMiss := [(0, 1)] }
  mget s.strs.afeMiss (afeKey x n) = 1 := by
  decide +kernel
theorem test_witness_GuardCommands_0 :
  let q : Nat := 0
  guardHas q = true := by
  decide +kernel
theorem test_witness_GuardCommands_1 :
  let c : Core5 := .s0
  c ≠ .rt := by
  decide +kernel
theorem test_witness_GuardCommands_2 :
  let q : Nat := 0
  let s : State := { State.reset with grd.window := List.replicate 128 [0] }
  guardHas q = true ∧ 128 ≤ violEpochs s q ∧ s.grd.fault.contains q = false := by
  decide +kernel
theorem test_witness_GuardCommands_3 :
  let q : Nat := 0
  let s : State := { State.reset with grd.window := List.replicate 32 [0] }
  guardHas q = true ∧ 32 ≤ violEpochs s q ∧ violEpochs s q < 128 ∧ mget s.grd.warnTick q = 0 := by
  decide +kernel
theorem test_witness_GuardCommands_4 :
  let b : Nat := 0
  let s : State := { State.reset with grd.granted := 1 }
  bit s.grd.granted b = true := by
  decide +kernel
theorem test_witness_GuardCommands_6 :
  let s : State := { State.reset with grd.layerErr := true, red.peerHere := true }
  s.grd.layerErr = true ∧ s.red.peerHere = true := by
  decide +kernel
theorem test_witness_GuardOnlyNarrows_0 :
  let q : Nat := 0
  guardHas q = true := by
  decide +kernel
theorem test_witness_GuardOnlyNarrows_2 :
∃ t : State, exec (.guardNarrowing .rt 0 0#32) State.reset = .next t ∧ guardHas 47 = true := by
  exact ⟨_, rfl, rfl⟩
theorem test_witness_LatchedReferencesWithinGuard_0 :
  let p : Nat := 0
  let s : State := { State.reset with cot.ovLatch := false }
  p < 24 ∧ s.cot.ovLatch = false := by
  decide +kernel
theorem test_witness_RolesAndLive_0 :
  let s : State := { State.reset with power.mstate := .watch, red.role := .noRole, power.hold := .none, grd.intBlank := false, red.peerHold := false, power.refGone := false }
  s.power.mstate = .watch ∧ s.red.role = .noRole ∧ s.power.hold = .none ∧ s.grd.intBlank = false ∧ s.red.peerHold = false ∧ s.power.refGone = false := by
  decide +kernel
theorem test_witness_RolesAndLive_1 :
  let s : State := { State.reset with red.role := .active, power.sup54 := true, grd.intBlank := false }
  mayGoLive { s with power.liveReq := true } = true := by
  decide +kernel
theorem test_witness_RolesAndLive_2 :
  let s : State := { State.reset with power.mstate := .live }
  s.power.mstate = .live := by
  decide +kernel
theorem test_witness_RolesAndLive_3 :
  let x : Str := .A
  let s : State := { (cvA fun c => { c with st := .ready, ena := true }) with power.mstate := .live, red.role := .active, cot.bus1 := 700000, cot.bus2 := 700000 }
  s.power.mstate = .live ∧ isActive s = true ∧ prebiased s = true ∧ (conv s x).st = .ready ∧ (conv s x).tried = false ∧ (conv s x).ena = true := by
  decide +kernel
theorem test_witness_RolesAndLive_4 :
  let x : Str := .A
  let s : State := { State.reset with power.mstate := .live, red.role := .active, strs.tripHeld := [], cot.bus1 := 700000, cot.bus2 := 700000 }
  s.power.mstate = .live ∧ isActive s = true ∧ prebiased s = true ∧ (conv s x).st = .off ∧ s.strs.tripHeld = [] := by
  decide +kernel
theorem test_witness_RolesAndLive_5 :
  let s : State := { State.reset with power.mstate := .live, red.role := .active, power.prebiasRec := false, epo.ticks := 2000 }
  s.power.mstate = .live ∧ isActive s = true ∧ prebiased s = false ∧ s.power.prebiasRec = false ∧ s.power.liveTick + 2000 ≤ s.epo.ticks := by
  decide +kernel
theorem test_witness_ClocksAndBridges_0 :
  let s : State := { State.reset with power.refGone := false }
  powered s = true ∧ s.power.refGone = false := by
  decide +kernel
theorem test_witness_ClocksAndBridges_1 :
  let s : State := { State.reset with power.refGone := true }
  s.power.refGone = true := by
  decide +kernel
theorem test_witness_ClocksAndBridges_2 :
  let s : State := { State.reset with power.sidHold := false }
  s.power.sidHold = false := by
  decide +kernel
theorem test_witness_ClocksAndBridges_4 :
  let k : Nat := 4
  let seq : Nat := 0
  let l : List Nat := default
  let c : Nat := 0
  let first : Bool := false
  let s : State := { State.reset with power.bridgeTries := [(4, 6)] }
  1 ≤ k ∧ k ≤ 4 ∧ s.power.bridgeFailed.contains k = false ∧ flitCrc seq l ≠ c ∧ (first = true ∨ mget s.power.bridgeTries k < 7) := by
  decide +kernel
theorem test_witness_ClocksAndBridges_5 :
  let k : Nat := 1
  let seq : Nat := 0
  let l : List Nat := default
  let c : Nat := 0
  let s : State := { State.reset with power.bridgeTries := [(1, 7)] }
  1 ≤ k ∧ k ≤ 4 ∧ s.power.bridgeFailed.contains k = false ∧ flitCrc seq l ≠ c ∧ mget s.power.bridgeTries k = 7 := by
  decide +kernel
theorem test_witness_ClocksAndBridges_6 :
  let s : State := { State.reset with power.holdover := false }
  s.power.holdover = false := by
  decide +kernel
theorem test_witness_ClocksAndBridges_8 :
  let s : State := State.reset
  s.power.bridgeFailed.contains 2 = false := by
  decide +kernel
theorem test_witness_ClocksAndBridges_9 :
  let s : State := { State.reset with eng.state := .fault, power.eplEn := true, eng.hotFault := false }
  s.eng.state = .fault ∧ s.power.eplEn = true ∧ s.eng.hotFault = false ∧ s.power.bridgeFailed.contains 1 = false := by
  decide +kernel
theorem test_witness_ShelfLease_0 :
  let s : State := { State.reset with power.mstate := .live, red.holding := true }
  s.power.mstate = .live ∧ s.red.holding = true ∧ selfDiagnosis s = true := by
  decide +kernel
theorem test_witness_ShelfLease_1 :
  let s : State := { State.reset with red.holding := true, power.lsmm := true }
  s.red.holding = true ∧ selfDiagnosis s = false := by
  decide +kernel
theorem test_witness_ShelfLease_2 :
  let w : Word := 0#32
  let s : State := State.reset
  wordValid s w.toNat = false := by
  decide +kernel
theorem test_witness_ShelfLease_3 :
  let w : Word := BitVec.ofNat 32 (withCrc8 9)
  let s : State := { State.reset with power.mstate := .watch, red.role := .noRole, power.hold := .none }
  wordValid s w.toNat = true ∧ bit w.toNat 4 = false ∧ bit w.toNat 3 = true ∧ s.power.mstate = .watch ∧ s.red.role = .noRole ∧ s.power.hold = .none := by
  decide +kernel
theorem test_witness_ShelfLease_4 :
  let w : Word := BitVec.ofNat 32 (withCrc8 17)
  let s : State := fitS
  wordValid s w.toNat = true ∧ bit w.toNat 4 = true ∧ isStandby s = true ∧ able s = true ∧ s.red.handover = none := by
  decide +kernel
theorem test_witness_ShelfLease_5 :
  let s : State := fitS
  isStandby s = true ∧ able s = true ∧ s.power.refGone = false ∧ s.power.lsmm = false := by
  decide +kernel
theorem test_witness_ShelfLease_6 :
  let s : State := { State.reset with red.timerOk := true }
  s.red.timerOk = true := by
  decide +kernel
theorem test_witness_ShelfLease_7 :
  let s : State := State.reset
  powered s = true ∧ slotIdx s < 8 := by
  decide +kernel
theorem test_witness_ShelfLease_8 :
  let b : Bool := false
  let s : State := { State.reset with red.driveEn := true }
  s.red.driveEn = true ∧ s.epo.ticks < s.red.drvTick + 10 ∧ (b = false ∨ s.power.strapB = true) := by
  decide +kernel
theorem test_witness_ShelfLease_9 :
  let why : RelReason := .island
  let s : State := { State.reset with red.role := .active, red.peerHere := true, red.peerWord := 0x200#32 }
  isActive s = true ∧ peerFit s = true ∧ (why = .guardFault → s.grd.fault ≠ []) ∧ slotIdx s < 8 := by
  decide +kernel
theorem test_witness_SisterLinkAndRecords_0 :
  let l : Nat := 0
  let k : BlockIn := blk false 0
  let s : State := laneS
  (laneOf s l).up = true ∧ k.crcOk = false := by
  decide +kernel
theorem test_witness_SisterLinkAndRecords_1 :
  let l : Nat := 0
  let k : BlockIn := blk true 0
  let s : State := laneS
  (laneOf s l).up = true ∧ k.crcOk = true ∧ k.nak = false ∧ k.idle = false ∧ k.seq = (laneOf s l).expect ∧ k.digest = 0 ∧ k.stream ≠ 4 ∧ k.stream ≠ 6 := by
  decide +kernel
theorem test_witness_SisterLinkAndRecords_2 :
  let l : Nat := 0
  let k : BlockIn := blk true 4
  let s : State := { laneS with red.role := .standby }
  isStandby s = true ∧ (laneOf s l).up = true ∧ k.crcOk = true ∧ k.nak = false ∧ k.idle = false ∧ k.seq = (laneOf s l).expect ∧ k.digest = 0 ∧ k.stream = 4 := by
  decide +kernel
theorem test_witness_SisterLinkAndRecords_3 :
  let l : Nat := 0
  let s : State := { laneS with red.lanes.a.txSeq := 1 }
  (laneOf s l).up = true ∧ (laneOf s l).acked ≠ (laneOf s l).txSeq := by
  decide +kernel
theorem test_witness_SisterLinkAndRecords_4 :
  let l : Nat := 0
  let s : State := laneS
  (laneOf s l).up = true := by
  decide +kernel
theorem test_witness_SisterLinkAndRecords_5 :
  let l : Nat := 0
  let s : State := laneS
  (laneOf s l).up = true := by
  decide +kernel
theorem test_witness_SisterLinkAndRecords_6 :
  let l : Nat := 0
  let s : State := { State.reset with power.refGone := false, red.lanes.a.training := true }
  cxlOn s = true ∧ s.power.refGone = false ∧ s.power.bridgeFailed.contains 3 = false ∧ (laneOf s l).training = true := by
  decide +kernel
theorem test_witness_SisterLinkAndRecords_7 :
  let s : State := { State.reset with red.lanes.a.up := false, red.lanes.b.up := false, red.linkUp := true }
  s.red.lanes.a.up = false ∧ s.red.lanes.b.up = false ∧ s.red.linkUp = true := by
  decide +kernel
theorem test_witness_SisterLinkAndRecords_8 :
  let k : RecordIn := ownRecord stbLive
  let s : State := stbRec
  isStandby s = true ∧ s.power.mstate = .live ∧ k.inputDigest = s.red.digests.1 ∧ recordAgrees s k = true ∧ k.release = false := by
  exact ⟨rfl, rfl, rfl, beq_self_eq_true (ownRecord stbLive), rfl⟩
theorem test_witness_SisterLinkAndRecords_9 :
  let k : RecordIn := { ownRecord stbLive with dwell := ⟨1, 2⟩ }
  let s : State := stbRec
  isStandby s = true ∧ s.power.mstate = .live ∧ k.inputDigest = s.red.digests.1 ∧ recordAgrees s k = false ∧ k.release = false := by
  exact ⟨rfl, rfl, rfl, beq_eq_false_iff_ne.2 fun h => absurd (congrArg RecordIn.dwell h) (by decide), rfl⟩
theorem test_witness_SisterLinkAndRecords_10 :
  let s : State := { State.reset with red.role := .standby }
  isStandby s = true := by
  decide +kernel
theorem test_witness_SisterLinkAndRecords_11 :
  let s : State := { State.reset with red.role := .active, red.linkUp := true }
  isActive s = true ∧ s.red.linkUp = true := by
  decide +kernel
theorem test_witness_SisterLinkAndRecords_12 :
  let s : State := { State.reset with red.role := .standby }
  isStandby s = true := by
  decide +kernel
theorem test_witness_HandoversAndDrills_0 :
  let s : State := dset { actLive with red.peerHere := true, red.peerWord := 0x200#32, red.origB := some true } 0x7000 0 1
  fieldAt (dget s 0x7000 0) 0 1 = 1 ∧ s.red.drill = none ∧ isActive s = true ∧ peerFit s = true ∧ s.red.origB = some (!s.power.strapB) ∧ fieldAt (dget s 0x7000 0) 2 2 ≤ s.red.fitMin := by
  decide +kernel
theorem test_witness_HandoversAndDrills_1 :
  let s : State := dset { actLive with red.peerHere := true, red.peerWord := 0x200#32 } 0x7001 0 1
  drillDue s = true ∧ isActive s = true ∧ peerFit s = true := by
  decide +kernel
theorem test_witness_HandoversAndDrills_2 :
  let s : State := dset actLive 0x7001 0 1
  drillDue s = true ∧ isActive s = true ∧ peerFit s = false := by
  decide +kernel
theorem test_witness_HandoversAndDrills_3 :
  let d : Nat := 0
  let s : State := { State.reset with red.role := .active, red.drill := some d, red.checking := false }
  isActive s = true ∧ s.red.drill = some d ∧ d ≤ s.epo.ticks ∧ s.red.checking = false := by
  decide +kernel
theorem test_witness_HandoversAndDrills_4 :
  let s : State := { State.reset with red.checking := true, red.checkLeft := 0 }
  s.red.checking = true ∧ s.red.checkLeft = 0 ∧ failingPhases s = 0 := by
  decide +kernel
theorem test_witness_HandoversAndDrills_5 :
  let s : State := { State.reset with red.checking := true, red.checkLeft := 0, cot.active := 1, red.checkSums := [⟨0, 0, 0, 0, 1000000, 1⟩] }
  s.red.checking = true ∧ s.red.checkLeft = 0 ∧ failingPhases s ≠ 0 ∧ s.red.drill = none := by
  decide +kernel
theorem test_witness_HandoversAndDrills_6 :
  let s : State := { State.reset with red.role := .active }
  s.red.role = .active := by
  decide +kernel
theorem test_witness_HandoversAndDrills_7 :
  let s : State := { State.reset with red.role := .standby }
  s.red.role = .standby := by
  decide +kernel
theorem test_witness_TraceAndRecorder_1 :
  let s : State := { State.reset with trc.armed := true, trc.en := true }
  s.trc.armed = true ∧ s.trc.en = true := by
  decide +kernel
theorem test_witness_TraceAndRecorder_2 :
  let s : State := { State.reset with trc.armed := true, trc.en := true, trc.trig := 0x10000#32 }
  s.trc.armed = true ∧ s.trc.en = true ∧ trigEnabled s = true := by
  decide +kernel
theorem test_witness_TraceAndRecorder_3 :
  let s : State := { State.reset with trc.triggered := true, trc.done := false }
  s.trc.triggered = true ∧ s.trc.done = false := by
  decide +kernel
theorem test_witness_TraceAndRecorder_4 :
  let s : State := { State.reset with trc.snapDue := true }
  s.trc.snapDue = true := by
  decide +kernel
theorem test_witness_TraceAndRecorder_5 :
  let s : State := { actLive with trc.recRun := true, eng.state := .idle }
  s.power.mstate = .live ∧ isActive s = true ∧ s.trc.recRun = true ∧ (s.eng.state = .idle ∨ s.eng.state = .running) := by
  decide +kernel
theorem test_witness_TraceAndRecorder_6 :
  let n : Nat := 0
  let s : State := { State.reset with trc.recStop := some n }
  s.trc.recStop = some n ∧ n ≤ s.epo.ticks := by
  decide +kernel
theorem test_witness_TraceAndRecorder_7 :
  let c : Core5 := .s0
  c ≠ .rt := by
  decide +kernel
theorem test_witness_TraceAndRecorder_8 :
  let s : State := { actLive with trc.recRun := true, eng.state := .dark }
  s.power.mstate = .live ∧ isActive s = true ∧ s.trc.recRun = true ∧ s.eng.state ≠ .idle ∧ s.eng.state ≠ .running ∧ s.trc.recQ.length < 64 := by
  decide +kernel
theorem test_witness_RefreshesAndForecasts_0 :
  let s : State := { actLive with eng.state := .idle }
  s.power.mstate = .live ∧ isActive s = true ∧ s.eng.frameN < 100 ∧ 2000 * s.eng.frameN ≤ s.epo.clk ∧ engOn s = true := by
  decide +kernel
theorem test_witness_RefreshesAndForecasts_1 :
  let s : State := { stbLive with eng.state := .idle }
  s.power.mstate = .live ∧ isStandby s = true ∧ s.eng.frameN < 100 ∧ 2000 * s.eng.frameN ≤ s.epo.clk ∧ engOn s = true := by
  decide +kernel
theorem test_witness_RefreshesAndForecasts_2 :
  let s : State := stbLive
  s.power.mstate = .live ∧ isStandby s = true ∧ s.eng.frameN < 100 ∧ 2000 * s.eng.frameN ≤ s.epo.clk ∧ engOn s = false := by
  decide +kernel
theorem test_witness_RefreshesAndForecasts_3 :
  let s : State := { actLive with eng.state := .idle }
  s.power.mstate = .live ∧ engOn s = true ∧ refreshDue s = true := by
  decide +kernel
theorem test_witness_RefreshesAndForecasts_4 :
  let s : State := { State.reset with eng.started := some (0, 0) }
  s.eng.started.isSome = true := by
  decide +kernel
theorem test_witness_RefreshesAndForecasts_5 :
  let e : Nat := 0
  let n : Nat := 0
  let s : State := { State.reset with eng.started := some (0, 0), eng.state := .running }
  s.eng.started = some (e, n) ∧ s.eng.state = .running ∧ s.eng.corrupt = 0 ∧ refreshLate s e n = false := by
  decide +kernel
theorem test_witness_RefreshesAndForecasts_6 :
  let p : Nat × Nat := (0, 0)
  let s : State := { State.reset with eng.started := some (0, 0) }
  s.eng.started = some p ∧ (s.eng.corrupt ≠ 0 ∨ s.eng.state ≠ .running) := by
  decide +kernel
theorem test_witness_RefreshesAndForecasts_7 :
  let e : Nat := 0
  let n : Nat := 0
  let s : State := { State.reset with eng.started := some (0, 0), eng.state := .running, epo.count := 1 }
  s.eng.started = some (e, n) ∧ s.eng.corrupt = 0 ∧ s.eng.state = .running ∧ refreshLate s e n = true := by
  decide +kernel
theorem test_witness_RefreshesAndForecasts_8 :
  let s : State := { actLive with epo.ticks := 1 }
  s.power.mstate = .live ∧ s.eng.lastValid + 200000 ≤ 200000 * s.epo.ticks + s.epo.clk := by
  decide +kernel
theorem test_witness_LearningAndSlots_0 :
  let r : RefPoint := ref0
  let l : List Word := List.replicate 2000 0#32
  let s : State := { learnS with eng.refs := [ref0], eng.laneSums := List.replicate 500 (0, 0, 0), epo.ticks := 50, eng.rackMeans := List.replicate 50 0 }
  learnOn s = true ∧ pairDue s = some (r, l) := by
  decide +kernel
theorem test_witness_LearningAndSlots_1 :
  let c : LearnCfg := ⟨0, 0, 0, 0, 0, 1, 0⟩
  let s : State := { learnS with eng.train := [pair0] }
  learnOn s = true ∧ (pkgOf s (servingSlot s)).cfg = some c ∧ c.batch ≤ s.eng.train.length ∧ stepDeferred s = false := by
  decide +kernel
theorem test_witness_LearningAndSlots_2 :
  let c : LearnCfg := ⟨0, 0, 0, 0, 0, 1, 0⟩
  let s : State := { learnS with eng.train := [pair0], eng.swapRun := true }
  learnOn s = true ∧ (pkgOf s (servingSlot s)).cfg = some c ∧ c.batch ≤ s.eng.train.length ∧ stepDeferred s = true := by
  decide +kernel
theorem test_witness_LearningAndSlots_3 :
  let s : State := learnS
  learnOn s = true ∧ (∀ n, s.eng.lastEval = some n → n + 10000 ≤ s.epo.ticks) := by
  decide +kernel
theorem test_witness_LearningAndSlots_4 :
  let s : State := { actLive with red.linkUp := true }
  isActive s = true ∧ mirrorUp s = true := by
  decide +kernel
theorem test_witness_LearningAndSlots_5 :
  let k : Nat := 1
  let s : State := loadS
  1 ≤ k ∧ (slotOf s k).state = 1 ∧ k < s.eng.slots.length := by
  decide +kernel
theorem test_witness_LearningAndSlots_6 :
  let k : Nat := 1
  let s : State := { State.reset with eng.slots := setAt State.reset.eng.slots 1 { Slot.empty with state := 4 }, red.peerHere := true }
  1 ≤ k ∧ (slotOf s k).state = 4 ∧ k < s.eng.slots.length ∧ s.red.peerHere = true := by
  decide +kernel
theorem test_witness_LearningAndSlots_7 :
  let s : State := dset { State.reset with eng.slots := setAt State.reset.eng.slots 1 { Slot.empty with state := 4 } } 0x4111 0 1
  (slotOf s (servingSlot s)).state = 4 := by
  decide +kernel
theorem test_witness_EngineErrorsAndMapping_0 :
  let h : ErrHeld := .refresh
  (∀ l o, h ≠ .window l o) := by
  exact fun _ _ e => nomatch e
theorem test_witness_EngineErrorsAndMapping_1 :
  let s : State := { State.reset with eng.scrubAddr := 8 }
  s.eng.scrubAddr < stackEnd ∧ s.eng.scrubAddr ≠ 0 := by
  decide +kernel
theorem test_witness_EngineErrorsAndMapping_2 :
  let s : State := dset { State.reset with eng.scrubAddr := stackEnd, epo.ticks := 86400000 } 0x4185 0 24
  stackEnd ≤ s.eng.scrubAddr ∧ s.eng.scrubTick + 3600000 * dnow s 0x4185 0 ≤ s.epo.ticks := by
  decide +kernel
theorem test_witness_EngineErrorsAndMapping_3 :
  let c : Nat := 3
  let a : Nat := 0
  let d : List Nat := []
  let crc : Nat := 1
  let f : Bool := true
  let s : State := State.reset
  c < 16 ∧ bondCrc a d ≠ crc ∧ (f = true ∨ mget s.eng.bondTries c < 7) := by
  decide +kernel
theorem test_witness_EngineErrorsAndMapping_4 :
  let c : Nat := 3
  let a : Nat := 0
  let d : List Nat := []
  let crc : Nat := 1
  let s : State := { State.reset with eng.bondTries := [(3, 7)], eng.bondTrains := [] }
  c < 16 ∧ bondCrc a d ≠ crc ∧ mget s.eng.bondTries c = 7 ∧ s.eng.bondTrains = [] := by
  decide +kernel
theorem test_witness_EngineErrorsAndMapping_6 :
  let m : EngMeas := ⟨1100, 0, 0, 0⟩
  let s : State := { State.reset with eng.state := .idle }
  1100 ≤ m.temp ∧ engOn s = true := by
  decide +kernel
theorem test_witness_EngineErrorsAndMapping_7 :
  let m : EngMeas := ⟨1099, 0, 0, 0⟩
  1000 ≤ m.temp ∧ m.temp < 1100 := by
  decide +kernel
theorem test_witness_EngineErrorsAndMapping_8 :
  let m : EngMeas := ⟨949, 0, 0, 0⟩
  m.temp < 950 := by
  decide +kernel
theorem test_witness_EngineErrorsAndMapping_9 :
  let s : State := { State.reset with eng.waking := true, power.mstate := .live, power.eplEn := true, power.eplLock := true, eng.feedQ := [], trc.recQ := [] }
  s.eng.waking = true ∧ s.power.mstate = .live ∧ s.power.eplEn = true ∧ s.power.eplLock = true ∧ s.eng.hotFault = false ∧ s.power.bridgeFailed.contains 1 = false ∧ s.eng.feedQ = [] ∧ s.trc.recQ = [] := by
  decide +kernel
theorem test_witness_EngineErrorsAndMapping_10 :
  let s : State := dset { State.reset with red.peerHere := true } 0x4180 0 1
  dget s 0x4180 0 = 1 ∧ onBench s = false ∧ s.eng.fastOut = false := by
  decide +kernel
theorem test_witness_EngineErrorsAndMapping_11 :
  let s : State := { State.reset with eng.mapNext := some 1 }
  s.eng.mapNext.isSome = true := by
  decide +kernel
theorem test_witness_EngineErrorsAndMapping_12 :
  let m : Nat := 1
  let s : State := { actLive with eng.mapNext := some 1, eng.built := true }
  s.eng.mapNext = some m ∧ s.eng.built = true ∧ s.eng.switchAt = none ∧ isActive s = true ∧ shadowEqual s m = true := by
  decide +kernel
theorem test_witness_EngineErrorsAndMapping_13 :
  let u : Bool := true
  let m : Nat := 1
  let s : State := { actLive with eng.mapNext := some 1, eng.built := true }
  s.eng.mapNext = some m ∧ s.eng.built = true ∧ s.eng.switchAt = none ∧ isActive s = true ∧ (u = true ∨ shadowEqual s m = false) := by
  decide +kernel
theorem test_witness_EngineErrorsAndMapping_14 :
  let ld : Nat := 0
  let m : MailOut := ⟨0, 1, 0, []⟩
  let s : State := { State.reset with net.mailOut := some ⟨0, 1, 0, []⟩, net.cxl := 2 }
  s.net.mailOut = some m ∧ m.ld = ld ∧ s.net.cxl = 2 := by
  decide +kernel
theorem test_witness_EngineErrorsAndMapping_15 :
  let s : State := { State.reset with eng.waking := true, power.bridgeFailed := [1] }
  s.eng.waking = true ∧ s.power.bridgeFailed.contains 1 = true := by
  decide +kernel
theorem test_witness_AcceptedFrames_0 :
  let h : Hdr := hdr 0x013 0
  let p : Beat := beatA 3
  let s : State := netS
  Passes s h false true true ∧ h.ident = 0x010 + p.slot ∧ p.slot ≠ slotIdx s := by
  decide +kernel
theorem test_witness_AcceptedFrames_1 :
  let h : Hdr := hdr 0x010 0
  let p : Beat := beatA 0
  let s : State := netS
  Passes s h false true true ∧ h.ident = 0x010 + p.slot ∧ p.slot = slotIdx s ∧ s.power.mstate = .watch := by
  decide +kernel
theorem test_witness_AcceptedFrames_2 :
  let h : Hdr := hdr 0x004 1
  let p : Pace := paceA 0
  let s : State := { netS with lead.holder := some 0 }
  Passes s h true false true ∧ h.ident = 0x004 ∧ s.lead.holder = some p.lead ∧ p.newLead = false ∧ (∀ l, s.epo.lastPace = some l → l < h.epoch) := by
  decide +kernel
theorem test_witness_AcceptedFrames_3 :
  let h : Hdr := hdr 0x004 1
  let p : Pace := paceA 0
  let l : Nat := 1
  let s : State := { netS with lead.holder := some 0, epo.lastPace := some 1 }
  Passes s h true false true ∧ h.ident = 0x004 ∧ s.lead.holder = some p.lead ∧ s.epo.lastPace = some l ∧ h.epoch ≤ l := by
  decide +kernel
theorem test_witness_AcceptedFrames_4 :
  let h : Hdr := hdr 0x004 1
  let p : Pace := paceA 3
  let s : State := { netS with lead.holder := some 0 }
  Passes s h true false true ∧ h.ident = 0x004 ∧ paceFrom s p = false := by
  decide +kernel
theorem test_witness_AcceptedFrames_5 :
  let h : Hdr := hdr 0x008 2
  let p : Cap := ⟨3, false, 0, 0, [], [], 0, 0⟩
  let s : State := { netS with lead.holder := some 3 }
  Passes s h true false true ∧ 0x005 ≤ h.ident ∧ h.ident ≤ 0x008 ∧ p.urgent = false ∧ s.lead.holder = some p.sender := by
  decide +kernel
theorem test_witness_AcceptedFrames_6 :
  let h : Hdr := hdr 0x400 4
  let p : Report := ⟨0, 1, 0, [], 0, false, false⟩
  let s : State := netS
  Passes s h false false false ∧ h.ident = 0x400 + p.tray := by
  decide +kernel
theorem test_witness_AcceptedFrames_7 :
  let h : Hdr := hdr 0x480 5
  let p : Join := joinA (List.replicate 255 0 ++ [1])
  let s : State := netS
  Passes s h false false false ∧ h.ident = 0x480 + p.tray ∧ p.leave = false ∧ tableOk p = true := by
  decide +kernel
theorem test_witness_AcceptedFrames_8 :
  let h : Hdr := hdr 0x480 5
  let p : Join := joinA []
  let s : State := netS
  Passes s h false false false ∧ h.ident = 0x480 + p.tray ∧ p.leave = false ∧ tableOk p = false := by
  decide +kernel
theorem test_witness_AcceptedFrames_9 :
  let h : Hdr := { hdr 0x020 0 with tag := .zero }
  let p : KeyChunk := ⟨1000, 0, 23, none⟩
  let s : State := { netS with lead.holder := some 5, sec.keyCur := none, sec.keyChunkEpoch := 1000 }
  Passes s h false true false ∧ h.ident = 0x020 ∧ s.lead.holder = some h.src ∧ p.target = slotIdx s ∧ p.chunk < 24 ∧ s.sec.keyCur = none ∧ s.sec.keyChunkEpoch = p.switchEpoch ∧ s.sec.keyChunks.length < 23 ∧ s.sec.keyChunks.contains p.chunk = false := by
  decide +kernel
theorem test_witness_FieldTransmission_0 :
  let c : Chan := .A
  let n : Nat := 0
  let f : Frame := frameP
  let s : State := { State.reset with net.chans := 1, net.txA := [frameP] }
  chUp s c = true ∧ onCh s c = none ∧ lowestFrame ((txQ s c).filter (mayStart s c n)) = some f ∧ occNs s c (nsAt s n) + wireNs s f.size ≤ 10000 * effLimit s 18 := by
  decide +kernel
theorem test_witness_FieldTransmission_1 :
  let c : Chan := .A
  let n : Nat := 0
  let f : Frame := frameP
  let s : State := { State.reset with net.chans := 1, net.txA := [frameP], net.txLog := [(0, 90000000, 9990000)], epo.ticks := 100 }
  chUp s c = true ∧ onCh s c = none ∧ lowestFrame ((txQ s c).filter (mayStart s c n)) = some f ∧ 10000 * effLimit s 18 < occNs s c (nsAt s n) + wireNs s f.size ∧ s.net.waited = false := by
  decide +kernel
theorem test_witness_FieldTransmission_2 :
  let c : Chan := .A
  let f : Frame := frameB
  let s : State := { State.reset with net.onA := some frameB }
  onCh s c = some f ∧ isControl f = false ∧ s.net.sent.contains f = false := by
  decide +kernel
theorem test_witness_FieldTransmission_6 :
  let s : State := { State.reset with epo.lastEdge := true }
  s.epo.lastEdge = true := by
  decide +kernel
theorem test_witness_FieldTransmission_7 :
  let s : State := { State.reset with power.strapsOk := true }
  (s.power.mstate = .watch ∨ s.power.mstate = .live) ∧ s.power.hold ≠ .position ∧ s.power.strapsOk = true ∧ s.net.beatAt ≠ s.epo.ticks + 1 := by
  decide +kernel
theorem test_witness_FieldTransmission_8 :
  let h : Hdr := hdr 0x305 0
  let n : Nat := 5
  let s : State := { State.reset with lead.isLead := false }
  frameKnown h = true ∧ h.ident = 0x300 + n ∧ s.lead.isLead = false := by
  decide +kernel
theorem test_witness_FieldTransmission_9 :
  let h : Hdr := hdr 0x305 0
  let n : Nat := 5
  let k : Nat := 7
  let s : State := { netS with lead.isLead := true }
  frameKnown h = true ∧ h.ident = 0x300 + n ∧ s.lead.isLead = true ∧ enrolledNode s n = true ∧ mget s.sec.keyAsked n = 0 ∧ s.sec.keyCur = some k := by
  decide +kernel
theorem test_witness_FieldTransmission_10 :
  let s : State := { State.reset with lead.isLead := true, sec.keyNext := none, sec.keyCur := some 7, epo.count := 3600000 }
  s.lead.isLead = true ∧ s.sec.keyNext = none ∧ s.sec.keyCur ≠ none ∧ s.sec.keySince + 3600000 ≤ s.epo.count := by
  decide +kernel
theorem test_witness_FieldTransmission_11 :
  let s : State := { State.reset with lead.isLead := true, sec.keyNext := none, sec.keyCur := none }
  s.lead.isLead = true ∧ s.sec.keyNext = none ∧ s.sec.keyCur = none := by
  decide +kernel
theorem test_witness_FieldTransmission_12 :
  let s : State := { State.reset with lead.isLead := true }
  s.lead.isLead = true := by
  decide +kernel
theorem test_witness_ShelvesAndLead_0 :
  let k : Nat := 1
  let s : State := { State.reset with lead.shelves := setAt State.reset.lead.shelves 1 { ShelfView.none with inService := true, missed := 3 } }
  k ≠ shelfIdx s ∧ k < s.lead.shelves.length ∧ (shelfView s k).inService = true ∧ 3 ≤ (shelfView s k).missed := by
  decide +kernel
theorem test_witness_ShelvesAndLead_2 :
  let v : List Nat := [1]
  let s : State := { actLive with fac.feedLost := false, fac.un := 1 }
  isActive s = true ∧ s.fac.feedLost = false ∧ feedLow s v = true := by
  decide +kernel
theorem test_witness_ShelvesAndLead_3 :
  let v : List Nat := []
  let s : State := { actLive with fac.feedLost := true }
  s.fac.feedLost = true ∧ feedGood s v = true := by
  decide +kernel
theorem test_witness_ShelvesAndLead_4 :
  let s : State := { State.reset with red.role := .active, power.mstate := .live, lead.isLead := false, lead.elapsed := none, epo.count := 10, lead.entryEpoch := 0 }
  isActive s = true ∧ s.power.mstate = .live ∧ s.lead.isLead = false ∧ s.lead.elapsed = none ∧ expired s = true := by
  decide +kernel
theorem test_witness_ShelvesAndLead_5 :
  let e : Nat := 0
  let s : State := { State.reset with power.mstate := .live, red.role := .active, lead.elapsed := some 0, lead.relaxed := false, epo.count := 2, lead.claims := [0] }
  isActive s = true ∧ s.power.mstate = .live ∧ s.lead.elapsed = some e ∧ s.lead.relaxed = false ∧ e + 2 ≤ s.epo.count ∧ lowestClaim s.lead.claims = some (slotIdx s) := by
  decide +kernel
theorem test_witness_ShelvesAndLead_6 :
  let e : Nat := 0
  let w : Nat := 1
  let s : State := { State.reset with power.mstate := .live, red.role := .active, lead.elapsed := some 0, lead.relaxed := false, epo.count := 2, lead.claims := [1] }
  isActive s = true ∧ s.power.mstate = .live ∧ s.lead.elapsed = some e ∧ s.lead.relaxed = false ∧ e + 2 ≤ s.epo.count ∧ lowestClaim s.lead.claims = some w ∧ w ≠ slotIdx s := by
  decide +kernel
theorem test_witness_ShelvesAndLead_7 :
  let e : Nat := 0
  let s : State := { State.reset with power.mstate := .live, red.role := .active, lead.elapsed := some 0, lead.relaxed := false, epo.count := 2 }
  isActive s = true ∧ s.power.mstate = .live ∧ s.lead.elapsed = some e ∧ s.lead.relaxed = false ∧ e + 2 ≤ s.epo.count ∧ s.lead.claims = [] ∧ s.lead.again = false := by
  decide +kernel
theorem test_witness_ShelvesAndLead_8 :
  let c : Nat := 1
  let s : State := { State.reset with lead.throttle := [255, 10], lead.clearSince := [(1, 1)], lead.restoreDelay := [0, 0] }
  at0 s.lead.throttle c ≠ 255 ∧ mget s.lead.clearSince c ≠ 0 ∧ mget s.lead.clearSince c + at0 s.lead.restoreDelay c ≤ s.epo.ticks + 1 := by
  decide +kernel
theorem test_witness_ShelvesAndLead_9 :
  let n : Nat := 5
  let s : State := { State.reset with lead.frozenFor := [(5, 201)] }
  201 ≤ mget s.lead.frozenFor n := by
  decide +kernel
theorem test_witness_ShelvesAndLead_10 :
  let c : Nat := 2
  let s : State := { State.reset with epo.mismatchRun := [(2, 51)] }
  50 < mget s.epo.mismatchRun c := by
  decide +kernel
theorem test_witness_ShelvesAndLead_11 :
  let c : Nat := 3
  let l : List Nat := []
  let s : State := { State.reset with lead.holdOrder := c :: l, lead.holdGood := 100 }
  s.lead.holdOrder = c :: l ∧ 100 ≤ s.lead.holdGood := by
  decide +kernel
theorem test_witness_EpochsOpen_0 :
  let p : PulseIn := pulse 400 0
  let s : State := { State.reset with epo.firstPulse := true }
  timebase s = true ∧ s.epo.firstPulse = true ∧ 500 ≤ p.high ∧ p.high ≤ 5000 ∧ p.err.natAbs ≤ 400 := by
  decide +kernel
theorem test_witness_EpochsOpen_1 :
  let p : PulseIn := pulse 0 100001
  let s : State := { State.reset with epo.firstPulse := false }
  timebase s = true ∧ s.epo.firstPulse = false ∧ 500 ≤ p.high ∧ p.high ≤ 5000 ∧ 100000 < p.pos := by
  decide +kernel
theorem test_witness_EpochsOpen_2 :
  let p : PulseIn := pulse 0 100000
  let s : State := { State.reset with epo.firstPulse := false }
  timebase s = true ∧ s.epo.firstPulse = false ∧ 500 ≤ p.high ∧ p.high ≤ 5000 ∧ p.pos ≤ 100000 := by
  decide +kernel
theorem test_witness_EpochsOpen_3 :
  let p : PulseIn := { pulse 0 0 with high := 499 }
  let s : State := State.reset
  (p.high < 500 ∨ 5000 < p.high ∨ (s.epo.firstPulse = true ∧ 400 < p.err.natAbs) ∨ timebase s = false) := by
  decide +kernel
theorem test_witness_EpochsOpen_4 :
  let s : State := { State.reset with epo.firstPulse := true }
  timebase s = true ∧ s.epo.firstPulse = true := by
  decide +kernel
theorem test_witness_EpochsOpen_5 :
  let s : State := { State.reset with epo.firstPulse := false }
  timebase s = true ∧ s.epo.firstPulse = false := by
  decide +kernel
theorem test_witness_EpochsOpen_6 :
  let s : State := { State.reset with epo.firstPulse := true }
  s.epo.firstPulse = true := by
  decide +kernel
theorem test_witness_EpochsOpen_7 :
  let s : State := { State.reset with epo.firstPulse := false }
  s.epo.firstPulse = false := by
  decide +kernel
theorem test_witness_TwilightsSamplesAndFolds_0 :
  let s : State := { State.reset with epo.twRunning := false }
  timebase s = true ∧ s.epo.twRunning = false ∧ (∀ p, s.epo.planNext = some p → p.epoch ≠ s.epo.count + 1) := by
  decide +kernel
theorem test_witness_TwilightsSamplesAndFolds_1 :
  let p : Plan := { Plan.none with epoch := 1 }
  let s : State := { State.reset with epo.twRunning := false, epo.planNext := some p }
  timebase s = true ∧ s.epo.twRunning = false ∧ s.epo.planNext = some p ∧ p.epoch = s.epo.count + 1 := by
  decide +kernel
theorem test_witness_TwilightsSamplesAndFolds_2 :
  let s : State := { State.reset with epo.twRunning := true }
  s.epo.twRunning = true := by
  decide +kernel
theorem test_witness_TwilightsSamplesAndFolds_3 :
  let s : State := { State.reset with epo.sample := 250 }
  250 ≤ s.epo.sample := by
  decide +kernel
theorem test_witness_TwilightsSamplesAndFolds_4 :
  let s : State := State.reset
  s.epo.sample < 250 ∧ s.power.mstate ≠ .live := by
  decide +kernel
theorem test_witness_TwilightsSamplesAndFolds_5 :
  let s : State := { State.reset with power.mstate := .live }
  s.epo.sample < 250 ∧ s.power.mstate = .live := by
  decide +kernel
theorem test_witness_TwilightsSamplesAndFolds_6 :
  let s : State := { State.reset with red.role := .active, power.mstate := .live, epo.count := 15, lead.foldEnd := 0 }
  isActive s = true ∧ s.power.mstate = .live ∧ s.epo.count % 10 = 5 ∧ 15 ≤ s.epo.count ∧ s.lead.foldEnd ≠ s.epo.count - 5 := by
  decide +kernel
theorem test_witness_TwilightsSamplesAndFolds_7 :
  let s : State := State.reset
  (isActive s = false ∨ s.power.mstate ≠ .live ∨ s.epo.count % 10 ≠ 5 ∨ s.epo.count < 15 ∨ s.lead.foldEnd = s.epo.count - 5) := by
  decide +kernel
theorem test_witness_SignaturesAndTrials_1 :
  let j : SignJob := ⟨0, 0, 0, 0, 0, 0⟩
  let s : State := { State.reset with sec.queue := [⟨0, 0, 0, 0, 0, 0⟩], sec.q := 5, sec.lowerTree := some 0 }
  powered s = true ∧ nextJob s = some j ∧ s.sec.q < 33554432 ∧ s.sec.lowerTree = some (s.sec.q / 1024) := by
  decide +kernel
theorem test_witness_SignaturesAndTrials_2 :
  let s : State := State.reset
  (nextJob s = none ∨ s.sec.lowerTree ≠ some (s.sec.q / 1024)) := by
  decide +kernel
theorem test_witness_SignaturesAndTrials_3 :
  let j : SignJob := ⟨0, 0, 0, 0, 0, 0⟩
  let s : State := { State.reset with sec.queue := [⟨0, 0, 0, 0, 0, 0⟩] }
  s.sec.queue.find? (fun j => j.kind == 0) = some j := by
  decide +kernel
theorem test_witness_SignaturesAndTrials_4 :
  let s : State := { State.reset with sec.trial := true }
  s.sec.trial = true ∧ s.sec.trialFails < 2 := by
  decide +kernel
theorem test_witness_SignaturesAndTrials_5 :
  let s : State := { State.reset with sec.trial := true, sec.trialFails := 2, sec.bankB := true, sec.prevB := false }
  s.sec.trial = true ∧ 2 ≤ s.sec.trialFails ∧ s.sec.bankB ≠ s.sec.prevB := by
  decide +kernel
theorem test_witness_SignaturesAndTrials_6 :
  let s : State := { State.reset with sec.trial := true, power.mstate := .live, sec.trialBad := false, epo.ticks := 86400000 }
  s.sec.trial = true ∧ s.power.mstate = .live ∧ s.sec.trialBad = false ∧ s.power.liveTick + 86400000 ≤ s.epo.ticks := by
  decide +kernel
theorem test_witness_SignaturesAndTrials_7 :
  let s : State := { State.reset with sec.trial := true, power.mstate := .live, sec.trialBad := true }
  s.sec.trial = true ∧ s.power.mstate = .live ∧ s.sec.trialBad = true := by
  decide +kernel
theorem test_witness_SignaturesAndTrials_8 :
  let s : State := { State.reset with sec.entropyOk := true }
  s.sec.entropyOk = true := by
  decide +kernel
theorem test_witness_SessionsAndGrants_0 :
  let q : SessIn := { sessA with raw := [0x10, 4, 4, 0] }
  let r : Role := .pub
  let s : State := State.reset
  let ready (q : SessIn) (s : State) : Prop :=
    answersOn s q.link = true ∧ mailCut s q.link = false ∧ s.power.mstate ≠ .recovery ∧ q.link ≠ .ld 3 ∧ q.can = none
  ready q s ∧ roleOf q.role = some r ∧ q.gen = 1 ∧ q.ext = 0x04 ∧ at0 q.raw 0 % 16 = 0 ∧ q.key ≤ (if r = .owner then 1 else 0) ∧ linkRole q.link r = true ∧ openAllowed s r = true ∧ openSigOk s r q.sig = true ∧ s.sec.entropyOk = true ∧ s.sec.sessions.length < 16 := by
  decide +kernel
theorem test_witness_SessionsAndGrants_1 :
  let q : SessIn := { sessA with raw := [0x10, 4, 4, 0] }
  let r : Role := .pub
  let m : Session := sess .pub 0
  let s : State := { State.reset with sec.sessions := List.replicate 16 (sess .pub 0) }
  let ready (q : SessIn) (s : State) : Prop :=
    answersOn s q.link = true ∧ mailCut s q.link = false ∧ s.power.mstate ≠ .recovery ∧ q.link ≠ .ld 3 ∧ q.can = none
  ready q s ∧ roleOf q.role = some r ∧ openCode s q = 0 ∧ 16 ≤ s.sec.sessions.length ∧ oldPublic s = some m := by
  decide +kernel
theorem test_witness_SessionsAndGrants_2 :
  let q : SessIn := sessA
  let s : State := State.reset
  let ready (q : SessIn) (s : State) : Prop :=
    answersOn s q.link = true ∧ mailCut s q.link = false ∧ s.power.mstate ≠ .recovery ∧ q.link ≠ .ld 3 ∧ q.can = none
  ready q s ∧ openCode s q ≠ 0 := by
  decide +kernel
theorem test_witness_SessionsAndGrants_3 :
  let q : SessIn := { sessA with link := .ld 3 }
  let s : State := State.reset
  cxlOn s = true ∧ mailCut s q.link = false ∧ q.link = .ld 3 := by
  decide +kernel
theorem test_witness_SessionsAndGrants_4 :
  let h : Hdr := hdr 0x205 0
  let q : SessIn := { sessA with link := .fnA, can := some (hdr 0x205 0), last := false }
  let s : State := netS
  powered s = true ∧ s.power.mstate ≠ .recovery ∧ q.link = .fnA ∧ q.can = some h ∧ q.seg = 0 ∧ q.last = false ∧ (dictIn s q.can (4 + q.raw.length) false).2 = true := by
  decide +kernel
theorem test_witness_SessionsAndGrants_7 :
  let n : Nat := 1
  let c : Nat := 1
  let r : Req := rq (some 1) 1 0x0010 []
  let k : Session := own
  let s : State := ownS
  answersOn s r.link = true ∧ mailCut s r.link = false ∧ findSession s n = some k ∧ k.link = r.link ∧ r.can = none ∧ c = k.rx + 1 := by
  decide +kernel
theorem test_witness_SessionsAndGrants_8 :
  let n : Nat := 1
  let c : Nat := 5
  let r : Req := rq (some 1) 1 0x0010 []
  let k : Session := own
  let s : State := ownS
  answersOn s r.link = true ∧ mailCut s r.link = false ∧ findSession s n = some k ∧ r.can = none ∧ k.link = r.link ∧ c ≠ k.rx + 1 := by
  decide +kernel
theorem test_witness_SessionsAndGrants_9 :
  let n : Nat := 1
  let c : Nat := 1
  let r : Req := rq (some 1) 1 0x0010 []
  let k : Session := own
  let s : State := ownS
  answersOn s r.link = true ∧ mailCut s r.link = false ∧ s.power.mstate ≠ .recovery ∧ findSession s n = some k ∧ k.link = r.link ∧ r.can = none ∧ c = k.rx + 1 ∧ r.session = some n := by
  decide +kernel
theorem test_witness_SessionsAndGrants_10 :
  let g : Grant := ⟨0, 0, 10, 0, 0, 0⟩
  let s : State := { State.reset with sec.grant := some ⟨0, 0, 10, 0, 0, 0⟩, epo.ticks := 10000 }
  s.sec.grant = some g ∧ g.since + 1000 * g.duration ≤ s.epo.ticks := by
  decide +kernel
theorem test_witness_SessionsAndGrants_11 :
  let g : Grant := ⟨0, 0, 10, 0, 0, 0⟩
  let s : State := { State.reset with sec.grant := some ⟨0, 0, 10, 0, 0, 0⟩, epo.ticks := 9999 }
  s.sec.grant = some g ∧ s.epo.ticks < g.since + 1000 * g.duration := by
  decide +kernel
theorem test_witness_SessionsAndGrants_12 :
  let s : State := { State.reset with epo.count := 600000 }
  s.sec.issued + 600000 ≤ s.epo.count ∧ s.sec.entropyOk = true := by
  decide +kernel
theorem test_witness_SessionsAndGrants_13 :
  let s : State := State.reset
  s.epo.count < s.sec.issued + 600000 := by
  decide +kernel
theorem test_witness_SessionsAndGrants_14 :
  let k : Nat := 0
  let s : State := { State.reset with sec.passWait := true, sec.passTick := some 0 }
  s.sec.passWait = true ∧ s.sec.passTick = some k ∧ k + 60000 * s.sec.passPeriod ≤ s.epo.ticks := by
  decide +kernel
theorem test_witness_SessionsAndGrants_15 :
  let k : Nat := 0
  let s : State := { State.reset with sec.passTick := some 0, sec.passPeriod := 1, epo.ticks := 59999 }
  s.sec.passTick = some k ∧ s.epo.ticks < k + 60000 * s.sec.passPeriod := by
  decide +kernel
theorem test_witness_MailboxCommands_0 :
  let ld : Nat := 0
  let s : State := State.reset
  cxlOn s = true ∧ s.power.bridgeFailed.contains 3 = false ∧ ld < 4 := by
  decide +kernel
theorem test_witness_MailboxCommands_1 :
  let ld : Nat := 0
  let s : State := State.reset
  cxlOn s = true ∧ s.power.bridgeFailed.contains 3 = false ∧ ld < 3 := by
  decide +kernel
theorem test_witness_MailboxCommands_2 :
  let ld : Nat := 0
  let s : State := State.reset
  cxlOn s = true ∧ s.power.bridgeFailed.contains 3 = false ∧ ld < 3 := by
  decide +kernel
theorem test_witness_MailboxCommands_3 :
  let s : State := State.reset
  cxlOn s = true ∧ s.power.bridgeFailed.contains 3 = false := by
  decide +kernel
theorem test_witness_MailboxCommands_4 :
  let ld : Nat := 0
  let op : Nat := 0
  let s : State := State.reset
  cxlOn s = true ∧ s.power.bridgeFailed.contains 3 = false ∧ ld < 4 ∧ op ∉ opcodes := by
  decide +kernel
theorem test_witness_MailboxCommands_6 :
  let n : Nat := 1
  let off : Nat := 0x8FFFFFFF
  let k : Session := own
  let data : List Byte := [1#8]
  let s : State := { ownS with power.mstate := .live }
  s.power.mstate = .live ∧ s.power.bridgeFailed.contains 3 = false ∧ findSession s n = some k ∧ k.link = .ld 0 ∧ k.role = .owner ∧ off + data.length ≤ 0x90000000 := by
  decide +kernel
theorem test_witness_MailboxCommands_7 :
  let ld : Nat := 2
  let n : Nat := 1
  let k : Session := { own with role := .service, link := .ld 2 }
  let s : State := { State.reset with sec.sessions := [{ own with role := .service, link := .ld 2 }] }
  cxlOn s = true ∧ s.power.bridgeFailed.contains 3 = false ∧ ld < 3 ∧ findSession s n = some k ∧ k.link = .ld ld ∧ k.role ≠ .owner := by
  decide +kernel
theorem test_witness_MailboxCommands_8 :
  let n : Nat := 1
  let off : Nat := 0x90000000
  let k : Session := own
  let data : List Byte := [1#8]
  let s : State := ownS
  cxlOn s = true ∧ s.power.bridgeFailed.contains 3 = false ∧ findSession s n = some k ∧ k.link = .ld 0 ∧ k.role = .owner ∧ 0x90000000 < off + data.length := by
  decide +kernel
theorem test_witness_MailboxCommands_9 :
  let n : Nat := 1
  let off : Nat := 0
  let k : Session := own
  let data : List Byte := []
  let s : State := ownS
  s.power.mstate = .watch ∧ s.power.bridgeFailed.contains 3 = false ∧ findSession s n = some k ∧ k.link = .ld 0 ∧ k.role = .owner ∧ off + data.length ≤ 0x90000000 := by
  decide +kernel
theorem test_witness_MailboxCommands_10 :
  let ld : Nat := 0
  ld < 3 := by
  decide +kernel
theorem test_witness_MailboxCommands_11 :
  let ld : Nat := 3
  let s : State := { State.reset with power.bridgeFailed := [3], power.mstate := .watch }
  cxlOn s = true ∧ s.power.bridgeFailed.contains 3 = true ∧ ld < 4 := by
  decide +kernel
theorem test_witness_MailboxCommands_12 :
  let ld : Nat := 0
  let r : Req := { rq none 1 0x0010 [] with flags := 0 }
  let q : Req := { rq none 1 0x0010 [] with flags := 0 }
  let d : Desc := desc 0x0010
  let role : Role := .pub
  let k : Option Session := none
  let s : State := { State.reset with power.mstate := .watch }
  ld < 3 ∧ q = { r with link := .ld ld, session := none } ∧ Taken s q role k ∧ Formed q 1 ∧ objDesc q.object = some d ∧ mayReach (counted s q) k role q.object d.rd false = true ∧ headerReserved q = false ∧ q.count ≠ 0 ∧ q.length = 0 ∧ q.offset ≤ (elemsBytes d q.object (firstOf q) q.count (readVal (counted s q))).length := by
  decide +kernel
theorem test_witness_CxlMemAndLink_0 :
  let ld : Nat := 0
  let off : Nat := 0
  let len : Nat := 0
  let s : State := { State.reset with power.mstate := .live }
  s.power.mstate = .live ∧ s.power.bridgeFailed.contains 4 = false ∧ off + len ≤ ldSize ld := by
  decide +kernel
theorem test_witness_CxlMemAndLink_1 :
  let ld : Nat := 3
  let off : Nat := 0
  let len : Nat := 1
  let s : State := { State.reset with power.mstate := .live }
  s.power.mstate = .live ∧ s.power.bridgeFailed.contains 4 = false ∧ ldSize ld < off + len := by
  decide +kernel
theorem test_witness_CxlMemAndLink_2 :
  let ld : Nat := 2
  let off : Nat := 2 ^ 30
  let data : List Byte := [0#8]
  let s : State := { State.reset with power.mstate := .live }
  s.power.mstate = .live ∧ s.power.bridgeFailed.contains 4 = false ∧ ldSize ld < off + data.length := by
  decide +kernel
theorem test_witness_CxlMemAndLink_3 :
  let s : State := { State.reset with power.mstate := .watch }
  cxlOn s = true ∧ (s.power.mstate ≠ .live ∨ s.power.bridgeFailed.contains 4 = true) := by
  decide +kernel
theorem test_witness_CxlMemAndLink_4 :
  let s : State := { State.reset with power.mstate := .live, power.bridgeFailed := [4] }
  cxlOn s = true ∧ (s.power.mstate ≠ .live ∨ s.power.bridgeFailed.contains 4 = true) := by
  decide +kernel
theorem test_witness_CxlMemAndLink_5 :
  let ld : Nat := 0
  let off : Nat := 0
  let len : Nat := 0
  let s : State := { State.reset with power.mstate := .live }
  s.power.mstate = .live ∧ s.power.bridgeFailed.contains 4 = false ∧ off + len ≤ ldSize ld := by
  decide +kernel
theorem test_witness_CxlMemAndLink_6 :
  let off : Nat := 0xFFFFFFFF
  let data : List Byte := [1#8]
  let s : State := { State.reset with power.mstate := .live }
  s.power.mstate = .live ∧ s.power.bridgeFailed.contains 4 = false ∧ 0xFC000000 ≤ off ∧ (off + data.length ≤ 0x100000000 ∨ (0x100000000 ≤ off ∧ off + data.length ≤ 0x200000000)) := by
  decide +kernel
theorem test_witness_CxlMemAndLink_7 :
  let ld : Nat := 0
  let off : Nat := 0
  let data : List Byte := [1#8]
  let s : State := { State.reset with power.mstate := .live, net.roTick := none }
  s.power.mstate = .live ∧ s.power.bridgeFailed.contains 4 = false ∧ off + data.length ≤ ldSize ld ∧ hostWrites ld off data.length = false ∧ (∀ k, s.net.roTick = some k → k + 1000 ≤ s.epo.ticks) := by
  decide +kernel
theorem test_witness_CxlMemAndLink_8 :
  let ld : Nat := 0
  let off : Nat := 0
  let data : List Byte := [1#8]
  let k : Nat := 0
  let s : State := { State.reset with power.mstate := .live, net.roTick := some 0 }
  s.power.mstate = .live ∧ s.power.bridgeFailed.contains 4 = false ∧ off + data.length ≤ ldSize ld ∧ hostWrites ld off data.length = false ∧ s.net.roTick = some k ∧ s.epo.ticks < k + 1000 := by
  decide +kernel
theorem test_witness_CxlMemAndLink_9 :
  let s : State := State.reset
  cxlOn s = true := by
  decide +kernel
theorem test_witness_CxlMemAndLink_10 :
  let s : State := State.reset
  cxlOn s = true := by
  decide +kernel
theorem test_witness_CxlMemAndLink_11 :
  let s : State := State.reset
  cxlOn s = true := by
  decide +kernel
theorem test_witness_CxlMemAndLink_12 :
  let w : Nat := 1
  let r : Nat := 16
  let s : State := State.reset
  cxlOn s = true ∧ withinLimits s w r = true := by
  decide +kernel
theorem test_witness_CxlMemAndLink_13 :
  let w : Nat := 0
  let r : Nat := 0
  let s : State := State.reset
  cxlOn s = true ∧ withinLimits s w r = false := by
  decide +kernel
theorem test_witness_CxlMemAndLink_14 :
  let s : State := { State.reset with power.mstate := .live }
  s.power.mstate = .live := by
  decide +kernel
theorem test_witness_CxlMemAndLink_15 :
  let s : State := State.reset
  s.power.mstate ≠ .live := by
  decide +kernel
theorem test_witness_RegisterAccesses_0 :
  let c : Core5 := .s0
  let a : Nat := 0x40000004
  isCsr a = false ∧ mayRead c a = true ∧ isOpen (a - a % 4) = true := by
  decide +kernel
theorem test_witness_RegisterAccesses_1 :
  let k : Nat := 0
  k < 64 := by
  decide +kernel
theorem test_witness_RegisterAccesses_2 :
  let c : Core5 := .s0
  let a : Nat := 0
  isCsr a = false ∧ mayRead c a = false := by
  decide +kernel
theorem test_witness_RegisterAccesses_3 :
  let c : Core5 := .s0
  let a : Nat := 0
  isCsr a = false ∧ mayWrite c a = false ∧ (a / 65536 ≠ 0x4001 ∧ a / 65536 ≠ 0x4002) := by
  decide +kernel
theorem test_witness_RegisterAccesses_4 :
  let c : Core5 := .s2
  let a : Nat := 0x20000010
  isRam a = true ∧ mayWrite c a = true ∧ a % 4 = 0 := by
  decide +kernel
theorem test_witness_RegisterAccesses_6 :
  let c : Core5 := .s0
  let v : Word := 0#32
  c ≠ .rt ∧ v.toNat % 128 < 72 := by
  decide +kernel
theorem test_witness_RegisterAccesses_7 :
  let c : Core5 := .s0
  let v : Word := 72#32
  c ≠ .rt ∧ 72 ≤ v.toNat % 128 := by
  decide +kernel
theorem test_witness_RegisterAccesses_9 :
  let c : Core5 := .s0
  let a : Nat := 0xFFFFFFFC
  c ≠ .rt ∧ 0xC0000000 ≤ a ∧ a < 0x100000000 ∧ a % 4 = 0 := by
  decide +kernel
theorem test_witness_RequestsJudgedInOrder_0 :
  let r : Req := { rq none 1 0x0010 [] with arrived := 19 }
  let role : Role := .pub
  let k : Option Session := none
  let s : State := State.reset
  Taken s r role k ∧ (r.arrived < 20 ∨ r.length ≠ r.value.length) := by
  decide +kernel
theorem test_witness_RequestsJudgedInOrder_1 :
  let r : Req := { rq none 1 0x0010 [] with gen := 2 }
  let role : Role := .pub
  let k : Option Session := none
  let s : State := State.reset
  Taken s r role k ∧ 20 ≤ r.arrived ∧ r.length = r.value.length ∧ r.gen ≠ 1 := by
  decide +kernel
theorem test_witness_RequestsJudgedInOrder_2 :
  let r : Req := { rq none 1 0x0010 [] with op := 5 }
  let role : Role := .pub
  let k : Option Session := none
  let s : State := State.reset
  Taken s r role k ∧ 20 ≤ r.arrived ∧ r.length = r.value.length ∧ r.gen = 1 ∧ (r.op < 1 ∨ 4 < r.op) := by
  decide +kernel
theorem test_witness_RequestsJudgedInOrder_3 :
  let r : Req := { rq none 1 0x0010 [] with object := 0x00FF }
  let role : Role := .pub
  let k : Option Session := none
  let s : State := State.reset
  Taken s r role k ∧ 20 ≤ r.arrived ∧ r.length = r.value.length ∧ r.gen = 1 ∧ 1 ≤ r.op ∧ r.op ≤ 4 ∧ missing r = true := by
  decide +kernel
theorem test_witness_RequestsJudgedInOrder_4 :
  let r : Req := rq none 2 0x5000 [0, 0, 0, 0]
  let d : Desc := desc 0x5000
  let role : Role := .pub
  let k : Option Session := none
  let s : State := State.reset
  Taken s (Req.withOp r 2) role k ∧ Formed (Req.withOp r 2) 2 ∧ objDesc r.object = some d ∧ r.object ≠ 0x8011 ∧ deniedWrite (counted s r) (Req.withOp r 2) k role d = true := by
  decide +kernel
theorem test_witness_RequestsJudgedInOrder_5 :
  let r : Req := rq (some 1) 2 0x5000 [0]
  let d : Desc := desc 0x5000
  let role : Role := .owner
  let k : Option Session := some own
  let c : Nat := 3
  let s : State := ownS
  Taken s (Req.withOp r 2) role k ∧ Formed (Req.withOp r 2) 2 ∧ objDesc r.object = some d ∧ r.flags % 4 = 3 ∧ r.offset = 0 ∧ deniedWrite (counted s r) (Req.withOp r 2) k role d = false ∧ checkWrite (counted s r) (wrOf (Req.withOp r 2) k role d r.value none) d r.count (headerReserved r) = c ∧ c ≠ 0 := by
  decide +kernel
theorem test_witness_RequestsJudgedInOrder_6 :
  let r : Req := rq none 1 0x0010 []
  let role : Role := .pub
  let k : Option Session := none
  let p : Resp := held.resp
  let s : State := { State.reset with dic.kept := [(keyOf (rq none 1 0x0010 []), rq none 1 0x0010 [], held.resp, 0)] }
  answersOn s r.link = true ∧ mailCut s r.link = false ∧ r.link ≠ .ld 3 ∧ s.power.mstate ≠ .recovery ∧ (arrives s r).2 = true ∧ requester s r = some (role, k) ∧ keptResp (counted s r) r = some p ∧ s.red.forwards = [] := by
  decide +kernel
theorem test_witness_RequestsJudgedInOrder_7 :
  let r : Req := rq none 1 0x0010 []
  let s : State := { State.reset with power.mstate := .umbra }
  answersOn s r.link = false := by
  decide +kernel
theorem test_witness_RequestsJudgedInOrder_8 :
  let r : Req := rq (some 3) 1 0x0010 []
  let s : State := State.reset
  answersOn s r.link = true ∧ mailCut s r.link = false ∧ r.link ≠ .ld 3 ∧ s.power.mstate ≠ .recovery ∧ requester s r = none := by
  decide +kernel
theorem test_witness_RequestsJudgedInOrder_9 :
  let r : Req := { rq none 1 0x0010 [] with link := .ld 3 }
  let s : State := State.reset
  answersOn s r.link = true ∧ mailCut s r.link = false ∧ r.link = .ld 3 := by
  decide +kernel
theorem test_witness_ReadsAndWrites_0 :
  let r : Req := { rq none 1 0x0010 [] with flags := 0 }
  let d : Desc := desc 0x0010
  let role : Role := .pub
  let k : Option Session := none
  let s : State := State.reset
  Taken s (Req.withOp r 1) role k ∧ Formed (Req.withOp r 1) 1 ∧ objDesc r.object = some d ∧ mayReach (counted s r) k role r.object d.rd false = true ∧ headerReserved r = false ∧ r.count ≠ 0 ∧ r.length = 0 ∧ r.offset ≤ (elemsBytes d r.object (firstOf r) r.count (readVal (counted s r))).length := by
  decide +kernel
theorem test_witness_ReadsAndWrites_1 :
  let r : Req := { rq none 4 0x0010 [] with flags := 0 }
  let d : Desc := desc 0x0010
  let role : Role := .pub
  let k : Option Session := none
  let s : State := State.reset
  Taken s (Req.withOp r 4) role k ∧ Formed (Req.withOp r 4) 4 ∧ objDesc r.object = some d ∧ mayReach (counted s r) k role r.object d.rd false = true ∧ headerReserved r = false ∧ r.count ≠ 0 ∧ r.length = 0 ∧ r.offset ≤ (elemsBytes d r.object (firstOf r) r.count (readPendVal (counted s r))).length := by
  decide +kernel
theorem test_witness_ReadsAndWrites_2 :
  let r : Req := { rq none 3 0x0010 [] with flags := 0 }
  let d : Desc := desc 0x0010
  let role : Role := .pub
  let k : Option Session := none
  let s : State := State.reset
  Taken s (Req.withOp r 3) role k ∧ Formed (Req.withOp r 3) 3 ∧ objDesc r.object = some d ∧ mayReach (counted s r) k role r.object d.rd false = true ∧ headerReserved r = false ∧ r.count ≠ 0 ∧ r.length = 0 ∧ r.offset ≤ 40 := by
  decide +kernel
theorem test_witness_ReadsAndWrites_3 :
  let r : Req := rq none 1 0x8011 []
  let d : Desc := desc 0x8011
  let role : Role := .pub
  let k : Option Session := none
  let s : State := State.reset
  Taken s (Req.withOp r 1) role k ∧ Formed (Req.withOp r 1) 1 ∧ objDesc r.object = some d ∧ mayReach (counted s r) k role r.object d.rd false = false := by
  decide +kernel
theorem test_witness_ReadsAndWrites_4 :
  let r : Req := wr 0x5000 4 800000
  let d : Desc := desc 0x5000
  let role : Role := .owner
  let k : Option Session := some own
  let s : State := actS
  Admitted s (Req.withOp r 2) d role k none ∧ Unclamped s (Req.withOp r 2) := by
  decide +kernel
theorem test_witness_ReadsAndWrites_5 :
  let r : Req := wr 0x7001 8 (packAt [(2, 2, 24), (6, 2, 1)])
  let d : Desc := desc 0x7001
  let role : Role := .owner
  let k : Option Session := some own
  let i : Nat := 0
  let s : State := actS
  Admitted s (Req.withOp r 2) d role k none ∧ Unclamped s (Req.withOp r 2) ∧ (d.apply = 2 ∨ d.apply = 3) ∧ r.object ≠ 0x4111 ∧ i < (written (Req.withOp r 2)).length := by
  decide +kernel
theorem test_witness_ReadsAndWrites_6 :
  let r : Req := { wr 0x3050 4 0 with element := 1 }
  let d : Desc := desc 0x3050
  let role : Role := .owner
  let k : Option Session := some own
  let i : Nat := 0
  let s : State := actS
  Admitted s (Req.withOp r 2) d role k none ∧ Unclamped s (Req.withOp r 2) ∧ r.object = 0x3050 ∧ i < (written (Req.withOp r 2)).length := by
  decide +kernel
theorem test_witness_SegmentsAndForwards_0 :
  let r : Req := { rq (some 1) 2 0x5081 (List.replicate 10 0) with flags := 1 }
  let d : Desc := desc 0x5081
  let role : Role := .owner
  let k : Option Session := some own
  let s : State := actS
  Taken s (Req.withOp r 2) role k ∧ Formed (Req.withOp r 2) 2 ∧ objDesc r.object = some d ∧ deniedWrite (counted s r) (Req.withOp r 2) k role d = false ∧ r.flags % 4 = 1 ∧ r.offset = 0 ∧ r.value.length ≤ wholeLen d r.count ∧ stagedOf s r.object = none ∧ s.dic.staged.length < 4 := by
  decide +kernel
theorem test_witness_SegmentsAndForwards_1 :
  let r : Req := { rq (some 1) 2 0x5081 (List.replicate 10 0) with flags := 1 }
  let d : Desc := desc 0x5081
  let role : Role := .owner
  let k : Option Session := some own
  let s : State := { actS with dic.staged := [⟨0x5081, 0, 1, some 1, [0, 0], 264, false⟩] }
  Taken s (Req.withOp r 2) role k ∧ Formed (Req.withOp r 2) 2 ∧ objDesc r.object = some d ∧ deniedWrite (counted s r) (Req.withOp r 2) k role d = false ∧ r.flags % 4 = 1 ∧ (stagedOf s r.object ≠ none ∨ 4 ≤ s.dic.staged.length) := by
  decide +kernel
theorem test_witness_SegmentsAndForwards_2 :
  let r : Req := { rq (some 1) 2 0x5081 (List.replicate 10 0) with flags := 0, offset := 2 }
  let d : Desc := desc 0x5081
  let g : Staged := ⟨0x5081, 0, 1, some 1, [0, 0], 264, false⟩
  let role : Role := .owner
  let k : Option Session := some own
  let s : State := { actS with dic.staged := [⟨0x5081, 0, 1, some 1, [0, 0], 264, false⟩] }
  Taken s (Req.withOp r 2) role k ∧ Formed (Req.withOp r 2) 2 ∧ objDesc r.object = some d ∧ deniedWrite (counted s r) (Req.withOp r 2) k role d = false ∧ r.flags % 4 = 0 ∧ stagedOf s r.object = some g ∧ continues g r = true ∧ r.offset = g.bytes.length ∧ r.offset + r.value.length ≤ wholeLen d r.count := by
  decide +kernel
theorem test_witness_SegmentsAndForwards_3 :
  let r : Req := { rq (some 1) 2 0x5081 (List.replicate 10 0) with flags := 2, offset := 3 }
  let d : Desc := desc 0x5081
  let g : Staged := ⟨0x5081, 0, 1, some 1, [0, 0], 264, false⟩
  let role : Role := .owner
  let k : Option Session := some own
  let s : State := { actS with dic.staged := [⟨0x5081, 0, 1, some 1, [0, 0], 264, false⟩] }
  Taken s (Req.withOp r 2) role k ∧ Formed (Req.withOp r 2) 2 ∧ objDesc r.object = some d ∧ deniedWrite (counted s r) (Req.withOp r 2) k role d = false ∧ bit r.flags 0 = false ∧ stagedOf s r.object = some g ∧ continues g r = true ∧ r.offset ≠ g.bytes.length := by
  decide +kernel
theorem test_witness_SegmentsAndForwards_4 :
  let o : Nat := 0x5081
  let g : Staged := ⟨0x5081, 0, 1, some 1, [0, 0], 264, false⟩
  let s : State := { actS with dic.staged := [⟨0x5081, 0, 1, some 1, [0, 0], 264, false⟩] }
  stagedOf s o = some g := by
  decide +kernel
theorem test_witness_SegmentsAndForwards_5 :
  let o : Nat := 0
  let s : State := State.reset
  stagedOf s o = none := by
  decide +kernel
theorem test_witness_SegmentsAndForwards_7 :
  let h : Held := Tests.held
  let s : State := { State.reset with red.forwards := [Tests.held] }
  s.red.forwards = [h] ∧ h.waits = true := by
  decide +kernel
theorem test_witness_SegmentsAndForwards_8 :
  let h : Held := Tests.held
  let s : State := { State.reset with red.forwards := [Tests.held] }
  s.red.forwards = [h] ∧ h.waits = true := by
  decide +kernel
theorem test_witness_SegmentsAndForwards_9 :
  let s : State := { State.reset with red.forwards := [] }
  s.red.forwards = [] := by
  decide +kernel
theorem test_witness_RackRequests_5 :
  let s : State := { dset State.reset 0x4024 0 (packAt [(4, 4, 1)]) with epo.ticks := 1000 }
  dget s 0x4024 0 ≠ 0 ∧ s.lead.targetSince + 1000 * fieldAt (dget s 0x4024 0) 4 4 ≤ s.epo.ticks := by
  decide +kernel
theorem test_witness_RackRequests_6 :
  let s : State := State.reset
  dget s 0x4024 0 = 0 := by
  decide +kernel
theorem test_witness_RackRequests_w3052 :
  Adm (actS) (wr 0x3052 1 1) 0x3052 (own) := by
  decide +kernel
theorem test_witness_RackRequests_w2000 :
  Adm (actS) ({ wr 0x2000 2952 contractA with sigs := [⟨0, true⟩, ⟨0, true⟩] }) 0x2000 (own) := by
  decide +kernel
theorem test_witness_RackRequests_w2011 :
  Adm (actS) (wr 0x2011 4 10000) 0x2011 (own) := by
  decide +kernel
theorem test_witness_RackRequests_w2012 :
  Adm (actS) (wr 0x2012 4 1000) 0x2012 (own) := by
  decide +kernel
theorem test_witness_RackRequests_c2012 :
  AdmClamped (dset actS 0x2000 0 contractA) (wr 0x2012 4 2000) 0x2012 (own) := by
  decide +kernel
theorem test_witness_RackRequests_w2013 :
  Adm (actS) (wr 0x2013 4 1000) 0x2013 (own) := by
  decide +kernel
theorem test_witness_RackRequests_c2013 :
  AdmClamped (dset actS 0x2000 0 contractA) (wr 0x2013 4 2000) 0x2013 (own) := by
  decide +kernel
theorem test_witness_RackRequests_w2015 :
  Adm (actS) (wr 0x2015 6 0) 0x2015 (own) := by
  decide +kernel
theorem test_witness_RackRequests_w3040 :
  Adm (actS) (wr 0x3040 56 0) 0x3040 (own) := by
  decide +kernel
theorem test_witness_RackRequests_w3041 :
  Adm (actS) (wr 0x3041 40 0) 0x3041 (own) := by
  decide +kernel
theorem test_witness_RackRequests_w4024 :
  Adm (actS) (wr 0x4024 8 (packAt [(0, 2, 5000), (4, 4, 60)])) 0x4024 (own) := by
  decide +kernel
theorem test_witness_LayerModelAndShelfRequests_0 :
  let v : Nat := 4
  let u : State := State.reset
  fieldAt v 0 1 < u.eng.slots.length := by
  decide +kernel
theorem test_witness_LayerModelAndShelfRequests_w5080 :
  Adm ({ ownS with grd.intBlank := true }) (wr 0x5080 264 0) 0x5080 (own) := by
  decide +kernel
theorem test_witness_LayerModelAndShelfRequests_w5081 :
  Adm (actS) (wr 0x5081 264 0) 0x5081 (own) := by
  decide +kernel
theorem test_witness_LayerModelAndShelfRequests_c5081 :
  AdmClamped (dset actS 0x5080 0 (packAt [(0, 8, 128), (36, 4, 4000)])) (wr 0x5081 264 (packAt [(0, 8, 128), (36, 4, 5000)])) 0x5081 (own) := by
  decide +kernel
theorem test_witness_LayerModelAndShelfRequests_w4113 :
  Adm (actS) (wr 0x4113 24 1) 0x4113 (own) := by
  decide +kernel
theorem test_witness_LayerModelAndShelfRequests_w4111 :
  Adm (actS) (wr 0x4111 1 0) 0x4111 (own) := by
  decide +kernel
theorem test_witness_LayerModelAndShelfRequests_w4114 :
  Adm (actS) (wr 0x4114 1 1) 0x4114 (own) := by
  decide +kernel
theorem test_witness_LayerModelAndShelfRequests_w4124 :
  Adm (actS) (wr 0x4124 1 1) 0x4124 (own) := by
  decide +kernel
theorem test_witness_LayerModelAndShelfRequests_w7002 :
  Adm (actS) (wr 0x7002 1 2) 0x7002 (own) := by
  decide +kernel
theorem test_witness_LayerModelAndShelfRequests_w7010 :
  Adm ({ actS with red.peerHere := true, red.peerIdent := 0 }) ({ wr 0x7010 44 (packAt [(32, 8, 1)]) with sigs := [⟨0, true⟩] }) 0x7010 (own) := by
  decide +kernel
theorem test_witness_TrustRequests_1 :
  let v : Nat := 0
  fieldAt v 2 1 = 0 := by
  decide +kernel
theorem test_witness_TrustRequests_5 :
  let u : State := State.reset
  let b : Bool := true
  b ≠ u.sec.bankB := by
  decide +kernel
theorem test_witness_TrustRequests_16 :
  let k : Session := own
  let n : Nat := 1
  let u : State := ownS
  k ∈ u.sec.sessions ∧ k.number = n := by
  decide +kernel
theorem test_witness_TrustRequests_w8000 :
  Adm ({ ownS with red.role := .active, grd.intBlank := false, sec.cold := some 0 }) ({ wr 0x8000 117 enrolA with sigs := [⟨9, true⟩] }) 0x8000 (own) := by
  decide +kernel
theorem test_witness_TrustRequests_w8001 :
  Adm (dset { ownS with red.role := .active } 0x8000 0 1) ({ wr 0x8001 118 enrolB with sigs := [⟨9, true⟩, ⟨0, true⟩] }) 0x8001 (own) := by
  decide +kernel
theorem test_witness_TrustRequests_w8020 :
  Adm (actS) (wr 0x8020 1188 0) 0x8020 (own) := by
  decide +kernel
theorem test_witness_TrustRequests_w8062 :
  Adm ({ actS with sec.trial := true }) (wr 0x8062 1 1) 0x8062 (own) := by
  decide +kernel
theorem test_witness_TrustRequests_w8050 :
  Adm (actS) ({ rq (some 1) 2 0x8050 (List.replicate 32 0) with count := 32 }) 0x8050 (own) := by
  decide +kernel
theorem test_witness_TrustRequests_w8042 :
  Adm (dset actS 0x4003 0 64) (wr 0x8042 36 0) 0x8042 (own) := by
  decide +kernel
theorem test_witness_TrustRequests_w8011 :
  Adm (actS) ({ wr 0x8011 108 (packAt [(0, 1, 0x10), (1, 1, 3), (3, 1, 1), (4, 2, 60)]) with sigs := [⟨0, true⟩] }) 0x8011 (own) := by
  decide +kernel
theorem test_witness_TrustRequests_w8012 :
  Adm (actS) (wr 0x8012 1 1) 0x8012 (own) := by
  decide +kernel
theorem test_witness_TrustRequests_w8014 :
  Adm (actS) (wr 0x8014 56 (packAt [(16, 4, 100000), (20, 4, 60)])) 0x8014 (own) := by
  decide +kernel
theorem test_witness_TrustRequests_w8015 :
  Adm ({ dset actS 0x8014 0 1 with sec.sessions := [sess .pub 0] }) (wr 0x8015 12 0) 0x8015 (sess .pub 0) := by
  decide +kernel
theorem test_witness_TrustRequests_w8061 :
  Adm ({ actS with red.role := .alone, sec.banks.b := Bank.shipped }) (wr 0x8061 1 1) 0x8061 (own) := by
  decide +kernel
theorem test_witness_TrustRequests_fw :
  let q := Req.writing (wr 0x8060 16 0) 0x8060
  Taken actS q .owner (some own) ∧ Formed q 2 ∧ objDesc q.object = some (desc 0x8060) ∧ q.flags % 4 = 3 ∧ q.offset = 0 ∧
    deniedWrite (counted actS q) q (some own) .owner (desc 0x8060) = false ∧ Unclamped actS q := by
  decide +kernel
theorem test_witness_RecorderRequests_0 :
  let g : Sig := ⟨0, true⟩
  let s : State := { actS with lpe.slot1.state := 1, lpe.loadAt := (0, 100), net.dram := loopDram }
  s.lpe.slot1.state = 1 ∧ loopImageCode s (readLoopImage (loopReader s)) s.lpe.loadAt.2 g (ownerKeys s) = 0 := by
  decide +kernel
theorem test_witness_RecorderRequests_1 :
  let g : Sig := ⟨0, true⟩
  let s : State := { actS with lpe.slot1.state := 1 }
  s.lpe.slot1.state = 1 ∧ loopImageCode s (readLoopImage (loopReader s)) s.lpe.loadAt.2 g (ownerKeys s) ≠ 0 := by
  decide +kernel
theorem test_witness_RecorderRequests_2 :
  let s : State := State.reset
  s.lpe.slot1.state ≠ 1 := by
  decide +kernel
theorem test_witness_RecorderRequests_w9000 :
  Adm ({ actS with sec.sessions := [sess .service 2], sec.grant := some ⟨0, 15, 60, 0, 0, 0⟩ }) ({ wr 0x9000 16 (packAt [(0, 1, 0x10), (1, 1, 0x0B), (4, 4, 1)]) with link := .ld 2 }) 0x9000 (sess .service 2) := by
  decide +kernel
theorem test_witness_RecorderRequests_wA101 :
  Adm (actS) (wr 0xA101 1 1) 0xA101 (own) := by
  decide +kernel
theorem test_witness_RecorderRequests_wA100 :
  Adm (actS) (wr 0xA100 4 0) 0xA100 (own) := by
  decide +kernel
theorem test_witness_RecorderRequests_wA103 :
  Adm (actS) (wr 0xA103 130 0) 0xA103 (own) := by
  decide +kernel
theorem test_witness_RecorderRequests_wA104 :
  Adm (actS) (wr 0xA104 20 1) 0xA104 (own) := by
  decide +kernel
theorem test_witness_RecorderRequests_wA001 :
  Adm (actS) (wr 0xA001 128 0) 0xA001 (own) := by
  decide +kernel
theorem test_witness_RecorderRequests_wA105 :
  Adm (actS) (wr 0xA105 1 0) 0xA105 (own) := by
  decide +kernel
theorem test_witness_StepRunsTheFrontCommand_1 :
  State.reset.pending = [] := by
  decide +kernel
theorem test_witness_StepKeepsMemoryCanonical_0 :
∃ s t : State, DramSound s ∧ step s = .next t := by
  exact ⟨State.reset, State.reset, rfl, rfl⟩
theorem test_witness_StepKeepsQueueAndIdentity_0 :
∃ s t : State, step s = .next t := by
  exact ⟨State.reset, State.reset, rfl⟩
theorem test_witness_DramReadsWhatWasWritten_1 :
  let a : Nat := 0
  let b : Nat := 1
  b ≠ a := by
  decide +kernel
theorem test_witness_DramReadsWhatWasWritten_2 :
  let l : List Byte := [1#8]
  let i : Nat := 0
  i < l.length := by
  decide +kernel
theorem test_witness_DramReadsWhatWasWritten_3 :
  let l : List Byte := [1#8]
  let a : Nat := 5
  let b : Nat := 6
  (b < a ∨ a + l.length ≤ b) := by
  decide +kernel
theorem test_witness_DramReadsWhatWasWritten_4 :
  let n : Nat := 0
  let v : Nat := 0
  v < 256 ^ n := by
  decide +kernel
theorem test_witness_DramReadsWhatWasWritten_5 :
  let m : Memory := default
  Memory.wf m = true := by
  decide +kernel
theorem test_witness_FaultRecords_1 :
  let s : State := State.reset
  s.recs.ring.length ≤ 512 := by
  decide +kernel
theorem test_witness_FaultRecords_2 :
  let v : Nat := 3
  3 ≤ v := by
  decide +kernel
theorem test_witness_FaultRecords_3 :
  let b : Nat := 0
  let v : Nat := 2
  let c : Nat := 0
  let s : State := { State.reset with recs.first := none }
  2 ≤ v ∧ s.recs.first = none ∧ (s.recs.ring.any (mergesWith s b c) = false ∨ 3 ≤ v) := by
  decide +kernel
theorem test_witness_FaultRecords_4 :
  let r : Record := ⟨1, 3, 1, true, 0, 0, 0, 0, false, 2, 0, 0, false⟩
  let s : State := { State.reset with recs.first := some r }
  s.recs.first = some r := by
  decide +kernel
theorem test_witness_FaultRecords_5 :
  let v : Nat := 0
  v < 2 := by
  decide +kernel
theorem test_witness_LaterGenerations_0 :
  let r : Req := { rq none 1 0x0010 [] with gen := 3 }
  let role : Role := .pub
  let k : Option Session := none
  let s : State := State.reset
  Taken s r role k ∧ 20 ≤ r.arrived ∧ r.length = r.value.length ∧ (r.gen = 2 ∨ r.gen = 3) := by
  decide +kernel
theorem test_witness_LaterGenerations_1 :
  let r : Req := { rq none 1 0x0010 [] with object := 0xEFFF }
  let op : Nat := 1
  let role : Role := .pub
  let k : Option Session := none
  let s : State := State.reset
  1 ≤ op ∧ op ≤ 4 ∧ Taken s (Req.withOp r op) role k ∧ 20 ≤ r.arrived ∧ r.length = r.value.length ∧ r.gen = 1 ∧ 0xB000 ≤ r.object ∧ r.object ≤ 0xEFFF := by
  decide +kernel
theorem test_witness_ReadOfPendingElements_0 :
  let r : Req := { rq (some 1) 1 0x7001 [] with flags := 0 }
  let d : Desc := desc 0x7001
  let p : Pend := ⟨0x7001, 0, 5, 2, 1⟩
  let role : Role := .owner
  let k : Option Session := some own
  let s : State := { actS with dic.pend := [⟨0x7001, 0, 5, 2, 1⟩] }
  Taken s (Req.withOp r 1) role k ∧ Formed (Req.withOp r 1) 1 ∧ objDesc r.object = some d ∧ mayReach (counted s r) k role r.object d.rd false = true ∧ headerReserved r = false ∧ r.count ≠ 0 ∧ r.length = 0 ∧ r.offset ≤ (elemsBytes d r.object (firstOf r) r.count (readVal (counted s r))).length ∧ p ∈ s.dic.pend ∧ p.object = r.object ∧ firstOf r ≤ p.element ∧ p.element < firstOf r + r.count := by
  decide +kernel
theorem test_witness_ClaimTakesTheWinner_0 :
  let c : Core5 := .s0
  let i : Nat := 16
  let s : State := { State.reset with icu.pen := [(1, 65536)], icu.pswp := [(1, 65536)] }
  i < 83 ∧ eligible s c i = true ∧ (∀ j, j < i → eligible s c j = false) := by
  decide +kernel
theorem test_witness_ClaimTakesTheWinner_1 :
  let c : Core5 := .s0
  let s : State := State.reset
  (∀ j, j < 83 → eligible s c j = false) := by
  decide +kernel
theorem test_witness_ClaimTakesTheWinner_2 :
  let c : Core5 := .s0
  let s : State := { State.reset with icu.active := [(1, 16)] }
  activeSrc s c ≠ 0 := by
  decide +kernel
theorem test_witness_ConverterAndStringRequests_w5000 :
  Adm (actS) (wr 0x5000 4 800000) 0x5000 (own) := by
  decide +kernel
theorem test_witness_ConverterAndStringRequests_c5000 :
  AdmClamped ({ actS with grd.nar := [(5, 800001), (6, 800001)] }) (wr 0x5000 4 840000) 0x5000 (own) := by
  decide +kernel
theorem test_witness_ConverterAndStringRequests_w5001 :
  Adm (actS) (wr 0x5001 2 2000) 0x5001 (own) := by
  decide +kernel
theorem test_witness_ConverterAndStringRequests_c5001 :
  AdmClamped ({ actS with grd.nar := [(7, 1001)] }) (wr 0x5001 2 2000) 0x5001 (own) := by
  decide +kernel
theorem test_witness_ConverterAndStringRequests_w5031 :
  Adm (actS) (wr 0x5031 1 3) 0x5031 (own) := by
  decide +kernel
theorem test_witness_ConverterAndStringRequests_w5050 :
  Adm (actS) (wr 0x5050 16 1) 0x5050 (own) := by
  decide +kernel
theorem test_witness_ConverterAndStringRequests_w5052 :
  Adm (actS) (wr 0x5052 1 0) 0x5052 (own) := by
  decide +kernel
theorem test_witness_ConverterAndStringRequests_w5053 :
  Adm (actS) (wr 0x5053 1 1) 0x5053 (own) := by
  decide +kernel
theorem test_witness_ConverterAndStringRequests_w5061 :
  Adm (actS) (wr 0x5061 1 1) 0x5061 (own) := by
  decide +kernel
theorem test_witness_ConverterAndStringRequests_w6002 :
  Adm (actS) (wr 0x6002 4 0) 0x6002 (own) := by
  decide +kernel
theorem test_witness_ConverterAndStringRequests_w6022 :
  Adm (actS) (wr 0x6022 80 0) 0x6022 (own) := by
  decide +kernel
theorem test_witness_ConverterAndStringRequests_w6024 :
  Adm (actS) (wr 0x6024 1 1) 0x6024 (own) := by
  decide +kernel
theorem test_witness_ConverterAndStringRequests_w6031 :
  Adm (actS) (wr 0x6031 1 1) 0x6031 (own) := by
  decide +kernel
theorem test_witness_ConverterAndStringRequests_w6040 :
  Adm (actS) (wr 0x6040 1 1) 0x6040 (own) := by
  decide +kernel
theorem test_witness_TileArithmetic_perm :
  List.Perm [(Exact.fin false 3 1, Exact.nan), (Exact.inf true, Exact.inf false)] [(Exact.inf true, Exact.inf false), (Exact.fin false 3 1, Exact.nan)] := by
  decide +kernel
theorem test_witness_TileArithmetic_nan_block :
  Exact.nan ∈ [Exact.fin false 0 1, .nan] := by
  decide +kernel
theorem test_witness_TileArithmetic_zero_block :
  ∀ x ∈ [Exact.fin true 0 1, .fin false 0 1], x = Exact.fin true 0 1 ∨ x = .fin false 0 1 := by
  decide +kernel
theorem test_witness_TileArithmetic_code :
  (0xFE : Nat) < 2 ^ Fmt.e4m3.bits ∧ Fmt.value .e4m3 0xFE = .fin true (448 * 2 ^ 149) 1 := by
  decide +kernel
theorem test_witness_TileArithmetic_saturates :
  480 * 2 ^ 149 ≤ 480 * 2 ^ 149 ∧ Fmt.convert .e4m3 (.fin true (480 * 2 ^ 149) 1) = (0xFE, true) := by
  decide +kernel
theorem test_witness_TileArithmetic_infinite :
  65520 * 2 ^ 149 ≤ 65520 * 2 ^ 149 ∧ Fmt.convert .fp16 (.fin false (65520 * 2 ^ 149) 1) = (0x7C00, false) := by
  decide +kernel
end Sys2Proof.Tests
end
end

/-! PROOFS. Dictionary requests (R19 to R26, R379 to R399): what their arrival and their response touch, the order of judgement,
reads, writes, and the effects of the rack's objects; and the accesses of the processors to the map of the control die (R463). -/
namespace Sys2Proof.Machine

/-! ## What a request's arrival touches (R424, R425, R429) -/

theorem rxNote_frame (s : State) (c : Chan) (n : Nat) :
    ∃ net off, rxNote s c n = { s with net := net, lead.ackOff := off } := by
  unfold rxNote ackUpdate
  dsimp only
  split
  · exact ⟨_, _, rfl⟩
  · split <;> exact ⟨_, _, rfl⟩

/-- A frame whose message is taken is noted and counted; nothing else of the state changes. -/
theorem arrives_frame {s : State} {r : Req} (h : (arrives s r).2 = true) :
    ∃ net off vals fresh, (arrives s r).1 =
      { s with net := net, lead.ackOff := off, dic.vals := vals, sec.fresh := fresh } := by
  unfold arrives dictIn at *
  split
  · exact ⟨_, _, _, _, rfl⟩
  · rename_i f hf
    obtain ⟨net, off, hn⟩ := rxNote_frame s f.chan (frameSize r r.session.isSome)
    simp only [hf, hn] at h ⊢
    split
    · simp_all
    · split
      · exact ⟨_, _, _, _, rfl⟩
      · split
        · simp_all
        · split
          · simp_all
          · split
            · exact ⟨_, _, _, _, rfl⟩
            · simp_all

/-- The mailbox command is counted beside the frame. -/
theorem mailCount_arrives_frame {s : State} {r : Req} (h : (arrives s r).2 = true) :
    ∃ net off vals fresh, mailCount (arrives s r).1 r.link =
      { s with net := net, lead.ackOff := off, dic.vals := vals, sec.fresh := fresh } := by
  obtain ⟨net, off, vals, fresh, ha⟩ := arrives_frame h
  unfold mailCount
  rw [ha]
  split <;> exact ⟨_, _, _, _, rfl⟩

theorem counted_frame {s : State} {r : Req} (h : (arrives s r).2 = true) :
    ∃ net off vals fresh, counted s r =
      { s with net := net, lead.ackOff := off, dic.vals := vals, sec.fresh := fresh } := by
  obtain ⟨net, off, vals, fresh, hm⟩ := mailCount_arrives_frame h
  exact ⟨net, off, _, fresh, by rw [counted, hm]; rfl⟩

theorem counted_dic_pend {s : State} {r : Req} (h : (arrives s r).2 = true) : (counted s r).dic.pend = s.dic.pend := by
  obtain ⟨_, _, _, _, hc⟩ := counted_frame h
  rw [hc]

theorem counted_epo {s : State} {r : Req} (h : (arrives s r).2 = true) : (counted s r).epo = s.epo := by
  obtain ⟨_, _, _, _, hc⟩ := counted_frame h
  rw [hc]

/-! ## What sending a response touches -/

theorem dic_of_recordFrame {u t : State} (h : RecordFrame u t) : t.dic = u.dic := by
  unfold RecordFrame at h
  rw [h]

@[simp] theorem writeRecB_dic (s : State) (b v c body : Nat) : (writeRecB s b v c body).dic = s.dic :=
  dic_of_recordFrame (wrote_writeRecB s b v c body).2

@[simp] theorem crossRec_dic (s : State) (cls i count : Nat) : (crossRec s cls i count).dic = s.dic := by
  unfold crossRec
  dsimp only
  split
  · rfl
  · rw [writeRecB_dic]

@[simp] theorem pulse_dic (s : State) (i : Nat) (stopped : Bool) : (pulse s i stopped).dic = s.dic := by
  unfold pulse setLost
  split
  · rfl
  · split
    · rfl
    · split
      · rfl
      · exact crossRec_dic _ _ _ _

@[simp] theorem mailMessage_dic (s : State) (l : Link) (op : Nat) : (mailMessage s l op).dic = s.dic := by
  cases l with
  | ld n => exact pulse_dic s 8 _
  | j7 => rfl
  | fnA => rfl
  | fnB => rfl

@[simp] theorem setTxQ_dic (s : State) (c : Chan) (l : List Frame) : (setTxQ s c l).dic = s.dic := by
  cases c <;> rfl

@[simp] theorem queueOn_dic (s : State) (c : Chan) (f : Frame) : (queueOn s c f).dic = s.dic := by
  unfold queueOn
  dsimp only
  repeat' split
  all_goals simp

@[simp] theorem replyFrame_dic (s : State) (c : Chan) (size dest : Nat) (tag : Tag) (body : Body) :
    (replyFrame s c size dest tag body).dic = s.dic := by
  exact queueOn_dic _ _ _

@[simp] theorem sendResp_dic (s : State) (key : Nat) (l : Link) (dest : Nat) (p : Resp) :
    (sendResp s key l dest p).dic = { s.dic with resp := some p, respTo := some l } := by
  unfold sendResp
  cases l <;> simp

/-- A response sent, or held for the standby, leaves the stored values, the pending ones and the kept responses alone. -/
theorem deliver_dic (s : State) (r : Req) (p : Resp) (waits : Bool) :
    (deliver s r p waits).dic.vals = s.dic.vals ∧ (deliver s r p waits).dic.pend = s.dic.pend ∧
      (deliver s r p waits).dic.kept = s.dic.kept := by
  unfold deliver
  dsimp only
  split
  · cases waits <;> exact ⟨rfl, rfl, rfl⟩
  · simp

@[simp] theorem countCode_zero (s : State) : countCode s 0 = s := rfl

/-- Counting a response changes the counters alone. -/
theorem countCode_frame (s : State) (c : Nat) : ∃ vals, countCode s c = { s with dic.vals := vals } := by
  unfold countCode
  split <;> exact ⟨_, rfl⟩

theorem Replied.pendOf_eq {r : Req} {c : Nat} {a t : State} (h : Replied r c a t) (o e : Nat) :
    pendOf t o e = pendOf a o e := by
  obtain ⟨p, waits, -, -, rfl⟩ := h
  obtain ⟨vals, hv⟩ := countCode_frame a c
  unfold pendOf
  rw [(deliver_dic _ _ _ _).2.1, hv]

theorem Replied.dget_eq {r : Req} {c : Nat} {a t : State} (h : Replied r c a t) (o e : Nat) :
    dget t o e = dget (countCode a c) o e := by
  obtain ⟨p, waits, -, -, rfl⟩ := h
  exact dget_congr (deliver_dic _ _ _ _).1 o e

/-! ## A request that is taken (R379, R390, R394) -/

/-- A request's sender is looked up among the open sessions alone. -/
theorem requester_congr {s t : State} (r : Req) (h : t.sec.sessions = s.sec.sessions) : requester t r = requester s r := by
  unfold requester findSession
  rw [h]

/-- What lets a request past its link, its mailbox and its frame to its sender (R379, R406, R441). -/
def Reaches (s : State) (r : Req) : Prop :=
  answersOn s r.link = true ∧ mailCut s r.link = false ∧ r.link ≠ .ld 3 ∧ s.power.mstate ≠ .recovery ∧
    (arrives s r).2 = true

theorem reaches_of_taken {s : State} {r : Req} {role : Role} {k : Option Session} (h : Taken s r role k) : Reaches s r := by
  obtain ⟨hl, hc, h3, hm, ha, -, -⟩ := h
  exact ⟨hl, hc, h3, hm, ha⟩

theorem arrives_of_taken {s : State} {r : Req} {role : Role} {k : Option Session} (h : Taken s r role k) :
    (arrives s r).2 = true := by
  obtain ⟨-, -, -, -, ha, -, -⟩ := h
  exact ha

theorem request_of_reaches {s : State} {r : Req} (img : Option Sig) (h : Reaches s r) :
    request r img s = requestIn r img (mailCount (arrives s r).1 r.link) := by
  obtain ⟨hl, hc, h3, -, ha⟩ := h
  simp only [request, hl, hc, h3, ha, Bool.not_true, Bool.false_eq_true, if_false, if_true]

theorem mstate_of_reaches {s : State} {r : Req} (h : Reaches s r) :
    (mailCount (arrives s r).1 r.link).power.mstate ≠ .recovery := by
  obtain ⟨-, -, -, hm, ha⟩ := h
  obtain ⟨net, off, vals, fresh, hf⟩ := mailCount_arrives_frame ha
  rw [hf]
  exact hm

theorem requester_of_reaches {s : State} {r : Req} (h : Reaches s r) :
    requester (mailCount (arrives s r).1 r.link) r = requester s r := by
  obtain ⟨-, -, -, -, ha⟩ := h
  obtain ⟨net, off, vals, fresh, hf⟩ := mailCount_arrives_frame ha
  exact requester_congr r (by rw [hf])

theorem request_of_taken {s : State} {r : Req} {role : Role} {k : Option Session} (img : Option Sig)
    (h : Taken s r role k) :
    request r img s = .next (serve (mailCount (arrives s r).1 r.link) r k role img) := by
  have hp : Reaches s r := reaches_of_taken h
  obtain ⟨-, -, -, -, -, hr, -⟩ := h
  rw [request_of_reaches img hp, requestIn, if_neg (mstate_of_reaches hp), requester_of_reaches hp, hr]

/-- A request in a session that is not open has no effect past its frame and its mailbox command, which are counted (R390). -/
theorem request_of_unknown_session {s : State} {r : Req} (img : Option Sig) (h : Reaches s r) (hr : requester s r = none) :
    request r img s = .next (mailCount (arrives s r).1 r.link) := by
  rw [request_of_reaches img h, requestIn, if_neg (mstate_of_reaches h), requester_of_reaches h, hr]

/-- A request that is taken is answered once: its response is counted, kept and delivered. -/
theorem request_answered {s : State} {r : Req} {role : Role} {k : Option Session} {img : Option Sig} {a : State} {p : Resp}
    (h : Taken s r role k) (ha : answer (counted s r) r k role img = (a, p))
    (hp : p.transaction = (respOf a r).transaction) :
    ∃ t, request r img s = .next t ∧ Replied r p.result a t ∧
      (keyOf r, { r with can := none }, p, a.epo.ticks) ∈ t.dic.kept := by
  have hk : keptResp (bump (mailCount (arrives s r).1 r.link) 0x1020 0) r = none := by
    obtain ⟨-, -, -, -, -, -, hk⟩ := h
    exact hk
  have ha' : answer (bump (mailCount (arrives s r).1 r.link) 0x1020 0) r k role img = (a, p) := ha
  refine ⟨_, request_of_taken img h, ?_⟩
  obtain ⟨vals, hv⟩ := countCode_frame a p.result
  simp only [serve, hk, ha']
  refine ⟨⟨p, forwardsIt (counted s r) r p, rfl, hp, ?_⟩, ?_⟩
  · rw [hv]
    rfl
  · rw [(deliver_dic _ _ _ _).2.2, hv]
    simp

/-! ## The order of judgement (R566) -/

theorem answer_generation {s : State} {r : Req} (k : Option Session) (role : Role) (img : Option Sig)
    (ha : 20 ≤ r.arrived) (hl : r.length = r.value.length) (hg : r.gen ≠ 1) :
    answer s r k role img = (s, withCode (respOf s r) 0x08) := by
  simp [answer, Nat.not_lt.mpr ha, hl, hg]

theorem answer_missing {s : State} {r : Req} (k : Option Session) (role : Role) (img : Option Sig)
    (ha : 20 ≤ r.arrived) (hl : r.length = r.value.length) (hg : r.gen = 1) (h1 : 1 ≤ r.op) (h4 : r.op ≤ 4)
    (hm : missing r = true) : answer s r k role img = (s, withCode (respOf s r) 0x01) := by
  have hlen : ¬ (r.arrived < 20 ∨ r.length ≠ r.value.length) := by omega
  have hop : ¬ (r.op < 1 ∨ 4 < r.op) := by omega
  simp only [answer, if_neg hlen, if_neg hop, hg, hm, ne_eq, not_true_eq_false, if_false, if_true]

theorem answer_formed {s : State} {r : Req} {op : Nat} {d : Desc} (k : Option Session) (role : Role) (img : Option Sig)
    (h : Formed r op) (h1 : 1 ≤ op) (h4 : op ≤ 4) (hd : objDesc r.object = some d) :
    answer s r k role img = if op = 2 then answerWrite s r k role d img (respOf s r)
      else (s, answerRead s r k role d (respOf s r)) := by
  obtain ⟨ha, hl, hg, hop, hm⟩ := h
  have hlen : ¬ (r.arrived < 20 ∨ r.length ≠ r.value.length) := by omega
  have hr : ¬ (op < 1 ∨ 4 < op) := by omega
  simp only [answer, if_neg hlen, hg, hop, if_neg hr, hm, hd, ne_eq, not_true_eq_false, Bool.false_eq_true, if_false]

/-! ## Objects of later generations (R26) -/

theorem findDesc_eq_none {l : List (Nat × Desc)} {o : Nat} (h : ∀ p ∈ l, p.1 ≠ o) : findDesc l o = none := by
  induction l with
  | nil => rfl
  | cons p l ih =>
    obtain ⟨hp, hl⟩ := List.forall_mem_cons.mp h
    rw [findDesc, if_neg hp, ih hl]

theorem objTable_below_B000 : ∀ p ∈ objTable, p.1 < 0xB000 := by decide +kernel

theorem objDesc_later {o : Nat} (h1 : 0xB000 ≤ o) (h2 : o ≤ 0xEFFF) : objDesc o = none := by
  have hn : findDesc objTable o = none :=
    findDesc_eq_none fun p hp => by have := objTable_below_B000 p hp; omega
  have hv : ¬ 0xF000 ≤ o := by omega
  simp [objDesc, hn, hv]

theorem missing_of_objDesc {r : Req} (h : objDesc r.object = none) : missing r = true := by
  simp [missing, h]

/-- Settles O57: generation and existence are judged before everything but the length. -/
theorem laterGenerations : Obligations.LaterGenerations := by
  unfold Obligations.LaterGenerations
  refine ⟨?_, ?_⟩
  · intro r role k s ht ha hl hg
    have hg1 : r.gen ≠ 1 := by omega
    obtain ⟨t, hx, hr, -⟩ := request_answered ht (answer_generation k role none ha hl hg1) rfl
    exact ⟨t, hx, hr⟩
  · intro r op role k s h1 h4 ht ha hl hg ho1 ho2
    have hm : missing (Req.withOp r op) = true := missing_of_objDesc (objDesc_later ho1 ho2)
    obtain ⟨t, hx, hr, -⟩ := request_answered ht
      (answer_missing (r := Req.withOp r op) k role none ha hl hg h1 h4 hm) rfl
    exact ⟨t, hx, hr⟩


/-! ## Reads (R23, R387, R389, R392) -/

/-- The bytes that a read, a read pending or a describe addresses. -/
def readBytes (s : State) (r : Req) (d : Desc) : List Nat :=
  if r.op = 3 then descBytes s r.object (firstOf r) d
  else elemsBytes d r.object (firstOf r) r.count (if r.op = 4 then readPendVal s else readVal s)

/-- The response to a permitted read: the bytes from the offset on, marked where one addressed element is pending. -/
def readResp (s : State) (r : Req) (k : Option Session) (d : Desc) : Resp :=
  withCode (withValue (respOf s r) (readBytes s r d) r.offset (respMax r.link k.isSome))
    (if r.op ≠ 3 ∧ anyPending s r.object (firstOf r) r.count = true then 0x06 else 0)

theorem answerRead_denied {s : State} {r : Req} {k : Option Session} {role : Role} {d : Desc} (p : Resp)
    (h : mayReach s k role r.object d.rd false = false) : answerRead s r k role d p = withCode p 0x02 := by
  have hb : ∀ b c, bestCode [codeIf 0x02 true, codeIf 0x04 b, codeIf 0x03 c] = 0x02 := by decide
  simp only [answerRead, h, Bool.not_false, hb, ne_eq, OfNat.ofNat_ne_zero, not_false_eq_true, if_true]

theorem answerRead_permitted {s : State} {r : Req} {k : Option Session} {role : Role} {d : Desc}
    (hm : mayReach s k role r.object d.rd false = true) (hh : headerReserved r = false) (hc : r.count ≠ 0)
    (hl : r.length = 0) (ho : r.offset ≤ (readBytes s r d).length) :
    answerRead s r k role d (respOf s r) = readResp s r k d := by
  have hok : bestCode [codeIf 0x02 (!true), codeIf 0x04 false, codeIf 0x03 false] = 0 := by decide
  have hb : (r.count == 0 || r.length != 0 || decide ((readBytes s r d).length < r.offset)) = false := by
    simp [hc, hl, Nat.not_lt.mpr ho]
  unfold readBytes at hb
  simp only [answerRead, hm, hh, hb, hok, ne_eq, not_true_eq_false, if_false]
  rfl

theorem anyPending_counted {s : State} {r : Req} (h : (arrives s r).2 = true) (o first count : Nat) :
    anyPending (counted s r) o first count = anyPending s o first count := by
  unfold anyPending
  rw [counted_dic_pend h]

/-- A permitted read leaves the state as it is and answers its bytes. -/
theorem read_answered {s : State} {r : Req} {op c : Nat} {d : Desc} {role : Role} {k : Option Session}
    (ht : Taken s r role k) (hf : Formed r op) (h1 : 1 ≤ op) (h4 : op ≤ 4) (h2 : op ≠ 2) (hd : objDesc r.object = some d)
    (hm : mayReach (counted s r) k role r.object d.rd false = true) (hh : headerReserved r = false) (hn : r.count ≠ 0)
    (hl : r.length = 0) (ho : r.offset ≤ (readBytes (counted s r) r d).length)
    (hc : (if op = 3 then 0 else if anyPending s r.object (firstOf r) r.count then 0x06 else 0) = c) :
    ∃ t, request r none s = .next t ∧ Replied r c (counted s r) t ∧
      ∃ q ∈ t.dic.kept, q.1 = keyOf r ∧ q.2.2.1.result = c ∧
        q.2.2.1.value = ((readBytes (counted s r) r d).drop r.offset).take (respMax r.link k.isSome) := by
  have ha : answer (counted s r) r k role none = (counted s r, readResp (counted s r) r k d) := by
    rw [answer_formed k role none hf h1 h4 hd, if_neg h2, answerRead_permitted hm hh hn hl ho]
  have hres : (readResp (counted s r) r k d).result = c := by
    obtain ⟨-, -, -, hop, -⟩ := hf
    simp only [readResp, withCode, hop, anyPending_counted (arrives_of_taken ht), ← hc]
    by_cases h3 : op = 3 <;> simp [h3]
  obtain ⟨t, hx, hr, hk⟩ := request_answered ht ha rfl
  rw [hres] at hr
  exact ⟨t, hx, hr, _, hk, rfl, hres, rfl⟩

/-- Settles O58: the read of a pending element is one of `read_answered`, whose code is then 0x06. -/
theorem readOfPendingElements : Obligations.ReadOfPendingElements := by
  unfold Obligations.ReadOfPendingElements
  intro r d p role k s ht hf hd hm hh hc hl ho hp hpo hfirst hlast
  have hs : anyPending s r.object (firstOf r) r.count = true := by
    have hany : ∃ q ∈ s.dic.pend, (q.object = r.object ∧ firstOf r ≤ q.element) ∧ q.element < firstOf r + r.count :=
      ⟨p, hp, ⟨hpo, hfirst⟩, hlast⟩
    simpa [anyPending] using hany
  exact read_answered ht hf (by decide) (by decide) (by decide) hd hm hh hc hl ho (if_pos hs)


/-! ## Whole writes (R24, R25, R390) -/

theorem bestCode_pair_zero : bestCode [0, codeIf 0x03 false] = 0 := by decide

/-- A code of R25 among several is reported, unless one of higher order is. -/
theorem bestCode_ne_zero {l : List Nat} {c : Nat} (hc : c ∈ l)
    (hk : c ∈ ([0x08, 0x01, 0x02, 0x07, 0x04, 0x03, 0x09, 0x05, 0x06] : List Nat)) : bestCode l ≠ 0 := by
  intro h
  unfold bestCode at h
  cases hf : ([0x08, 0x01, 0x02, 0x07, 0x04, 0x03, 0x09, 0x05, 0x06] : List Nat).find? (fun c => l.contains c) with
  | none =>
    have := List.find?_eq_none.mp hf c hk
    simp [hc] at this
  | some x =>
    rw [hf] at h
    have hx : x = 0 := h
    have := List.mem_of_find?_eq_some hf
    simp [hx] at this

/-- A write that passes its checks addresses at least one element. -/
theorem count_ne_zero_of_checkWrite {s : State} {w : Wr} {d : Desc} {n : Nat} {b : Bool}
    (h : checkWrite s w d n b = 0) : n ≠ 0 := by
  rintro rfl
  exact bestCode_ne_zero (c := 0x03) (by simp [codeIf]) (by decide) h

/-- The code that answers an accepted write (R23): 0x06 where the class pends. -/
def writeCode (d : Desc) : Nat := if 2 ≤ d.apply then 0x06 else 0

theorem wholeWrite_unclamped {s : State} {r : Req} {k : Option Session} {role : Role} {d : Desc} {bytes : List Nat}
    {img : Option Sig} {vals : List Nat} (p : Resp) (hv : decodeVals d r.count bytes = vals)
    (hc : checkWrite s (wrOf r k role d bytes img) d r.count (headerReserved r) = 0)
    (hu : vals.map (clampElem s r.object) = vals) :
    wholeWrite s r k role d bytes img false false p =
      (acceptWrite s (wrOf r k role d bytes img) d vals, withCode p (writeCode d)) := by
  have hw : (wrOf r k role d bytes img).vals = vals := hv
  have ho : (wrOf r k role d bytes img).obj = r.object := rfl
  simp only [wholeWrite, Bool.false_or, hc, bestCode_pair_zero, hw, ho, hu]
  simp [writeCode]

theorem written_eq {r : Req} {d : Desc} (h : objDesc r.object = some d) : written r = decodeVals d r.count r.value := by
  simp [written, h]

/-- A whole write that is not denied is judged as one. -/
theorem answerWrite_whole {s : State} {r : Req} {k : Option Session} {role : Role} {d : Desc} (img : Option Sig) (p : Resp)
    (hn : deniedWrite s r k role d = false) (hf : r.flags % 4 = 3) (ho : r.offset = 0) :
    answerWrite s r k role d img p = wholeWrite s r k role d r.value img false false p := by
  simp [answerWrite, hn, hf, ho]

/-- A write that passes every check, none of its values being clamped, takes effect and answers the code of its class. -/
theorem write_answered {s : State} {r : Req} {d : Desc} {role : Role} {k : Option Session} {img : Option Sig}
    (h : Admitted s r d role k img) (hu : Unclamped s r) :
    ∃ t, request r img s = .next t ∧
      Replied r (writeCode d) (acceptWrite (counted s r) (wrOf r k role d r.value img) d (written r)) t := by
  obtain ⟨ht, hf, hd, hfl, ho, hn, hc⟩ := h
  have ha := answer_formed (s := counted s r) k role img hf (by decide) (by decide) hd
  rw [if_pos rfl, answerWrite_whole img _ hn hfl ho, wholeWrite_unclamped _ (written_eq hd).symm hc hu] at ha
  obtain ⟨t, hx, hr, -⟩ := request_answered ht ha rfl
  exact ⟨t, hx, hr⟩

/-! ## Values stored and pending (R21, R22) -/

theorem acceptWrite_immediate (s : State) (w : Wr) {d : Desc} (vals : List Nat) (h : d.apply = 1) :
    acceptWrite s w d vals = effectI s w vals := by
  rw [acceptWrite, if_pos h]

theorem acceptWrite_pending (s : State) (w : Wr) {d : Desc} (vals : List Nat) (h : d.apply ≠ 1) (ho : w.obj ≠ 0x8061) :
    acceptWrite s w d vals = onAccept (pendAll s w.obj w.first d.apply vals) w (at0 vals 0) := by
  rw [acceptWrite, if_neg h, if_neg ho]

/-- A pending value depends on the list of pending values alone. -/
theorem pendOf_congr {s t : State} (h : t.dic.pend = s.dic.pend) (o e : Nat) : pendOf t o e = pendOf s o e := by
  unfold pendOf
  rw [h]

theorem pendOf_setPend_self (s : State) (o e v c : Nat) : pendOf (setPend s o e v c) o e =
    some { object := o, element := e, value := v, cls := c, due := if c = 2 then dueE s else 0 } := by
  have hn : (s.dic.pend.filter (fun p => !(p.object == o && p.element == e))).find?
      (fun p => p.object == o && p.element == e) = none :=
    List.find?_eq_none.mpr fun p hp => by simpa [imp_iff_not_or] using (List.mem_filter.mp hp).2
  unfold pendOf setPend dropPend
  rw [List.find?_append, hn]
  simp [dueE]

theorem pendOf_setPend_ne (s : State) (o e v c : Nat) {o' e' : Nat} (h : ¬ (o' = o ∧ e' = e)) :
    pendOf (setPend s o e v c) o' e' = pendOf s o' e' := by
  have hp : (fun p : Pend => decide ((!(p.object == o && p.element == e)) = true ∧ (p.object == o' && p.element == e') = true)) =
      fun p => p.object == o' && p.element == e' := by
    funext p
    by_cases h1 : p.object = o' <;> by_cases h2 : p.element = e' <;> simp [h1, h2]
    exact not_and_or.mp h
  have hx : ¬ (o = o' ∧ e = e') := fun ⟨h1, h2⟩ => h ⟨h1.symm, h2.symm⟩
  unfold pendOf setPend dropPend
  rw [List.find?_append, List.find?_filter, hp]
  simp [hx]

/-- Consecutive elements take their pending values; no other element does. -/
theorem pendOf_pendAll (s : State) (o first c : Nat) (vals : List Nat) (e : Nat) :
    pendOf (pendAll s o first c vals) o e = if first ≤ e ∧ e < first + vals.length then
      some { object := o, element := e, value := at0 vals (e - first), cls := c, due := if c = 2 then dueE s else 0 }
      else pendOf s o e := by
  have key : ∀ n, let u := (upTo n).foldl (fun s i => setPend s o (first + i) (at0 vals i) c) s
      u.epo = s.epo ∧ pendOf u o e = if first ≤ e ∧ e < first + n then
        some { object := o, element := e, value := at0 vals (e - first), cls := c, due := if c = 2 then dueE s else 0 }
        else pendOf s o e := by
    intro n
    induction n with
    | zero => exact ⟨rfl, (if_neg (by omega)).symm⟩
    | succ n ih =>
      obtain ⟨hepo, hp⟩ := ih
      simp only [upTo, List.range_succ, List.foldl_append, List.foldl_cons, List.foldl_nil] at hepo hp ⊢
      refine ⟨hepo, ?_⟩
      by_cases he : e = first + n
      · subst he
        rw [pendOf_setPend_self]
        simp [dueE, hepo]
      · have hn : (first ≤ e ∧ e < first + (n + 1)) ↔ (first ≤ e ∧ e < first + n) := by omega
        simp only [pendOf_setPend_ne _ _ _ _ _ (not_and_of_not_right _ he), hp, hn]
  exact (key vals.length).2

/-- Consecutive elements take their values; no other element of the object does. -/
theorem dget_storeAll (s : State) (o first : Nat) (vals : List Nat) (e : Nat) :
    dget (storeAll s o first vals) o e =
      if first ≤ e ∧ e < first + vals.length then at0 vals (e - first) else dget s o e := by
  have key : ∀ n, dget ((upTo n).foldl (fun s i => dset s o (first + i) (at0 vals i)) s) o e =
      if first ≤ e ∧ e < first + n then at0 vals (e - first) else dget s o e := by
    intro n
    induction n with
    | zero => exact (if_neg (by omega)).symm
    | succ n ih =>
      simp only [upTo, List.range_succ, List.foldl_append, List.foldl_cons, List.foldl_nil] at ih ⊢
      by_cases he : e = first + n
      · subst he
        simp
      · have hk : dkey o e ≠ dkey o (first + n) := by unfold dkey; omega
        have : (first ≤ e ∧ e < first + (n + 1)) ↔ (first ≤ e ∧ e < first + n) := by omega
        simp only [dget_dset_ne _ _ _ _ _ _ hk, ih, this]
  exact key vals.length

/-- What an acceptance brings beside the pending value pends nothing more, but for a selection (R182). -/
theorem onAccept_dic_pend (s : State) (w : Wr) (v : Nat) (h : w.obj ≠ 0x4111) : (onAccept s w v).dic.pend = s.dic.pend := by
  unfold onAccept
  rw [if_neg h]
  split
  · rfl
  · split <;> rfl

/-- Object 0x3050 has no effect beside the values it stores (R111). -/
theorem effectI_leadStatistics (s : State) (w : Wr) (vals : List Nat) (h : w.obj = 0x3050) :
    effectI s w vals = storeAll s w.obj w.first vals := by
  simp [effectI, effectLow, h]

/-- The apply class that an object declares. -/
theorem apply_eq {o o' c : Nat} {d : Desc} (hd : objDesc o = some d) (ho : o = o')
    (hc : (objDesc o').map Desc.apply = some c) : d.apply = c := by
  subst ho
  rwa [hd, Option.map_some, Option.some_inj] at hc

/-- After a write of class E or M its elements are pending, and the others of its object as before (R22). -/
theorem pending_after_write {s : State} {r : Req} {d : Desc} {role : Role} {k : Option Session}
    (h : Admitted s r d role k none) (hu : Unclamped s r) (ha : d.apply = 2 ∨ d.apply = 3) (ho : r.object ≠ 0x4111) :
    ∃ t, request r none s = .next t ∧ ∀ e, pendOf t r.object e =
      if firstOf r ≤ e ∧ e < firstOf r + (written r).length then
        some { object := r.object, element := e, value := at0 (written r) (e - firstOf r), cls := d.apply,
               due := if d.apply = 2 then dueE s else 0 }
      else pendOf s r.object e := by
  obtain ⟨t, hx, hr⟩ := write_answered h hu
  obtain ⟨ht, -, hd, -, -, -, -⟩ := h
  have harr := arrives_of_taken ht
  have h8061 : r.object ≠ 0x8061 := by
    intro h8
    have hb : d.apply = 4 := apply_eq hd h8 (by decide)
    omega
  refine ⟨t, hx, fun e => ?_⟩
  have hdue : dueE (counted s r) = dueE s := by unfold dueE; rw [counted_epo harr]
  have hold : pendOf (counted s r) r.object e = pendOf s r.object e := pendOf_congr (counted_dic_pend harr) _ _
  rw [hr.pendOf_eq, acceptWrite_pending _ _ _ (by omega) h8061, pendOf_congr (onAccept_dic_pend _ _ _ ho), ← hdue, ← hold]
  exact pendOf_pendAll _ _ _ _ _ _

/-- Settles O43: reads by `read_answered`, writes by `write_answered`, and what each element reads after a write. -/
theorem readsAndWrites : Obligations.ReadsAndWrites := by
  unfold Obligations.ReadsAndWrites
  refine ⟨?read, ?pending, ?describe, ?denied, ?write, ?pends, ?stored⟩
  case read =>
    intro r d role k s ht hf hd hm hh hn hl ho
    obtain ⟨t, hx, hr, q, hq, hkey, -, hval⟩ :=
      read_answered ht hf (by decide) (by decide) (by decide) hd hm hh hn hl ho rfl
    exact ⟨t, hx, hr, q, hq, hkey, hval⟩
  case pending =>
    intro r d role k s ht hf hd hm hh hn hl ho
    obtain ⟨t, hx, hr, q, hq, hkey, -, hval⟩ :=
      read_answered ht hf (by decide) (by decide) (by decide) hd hm hh hn hl ho rfl
    exact ⟨t, hx, hr, q, hq, hkey, hval⟩
  case describe =>
    intro r d role k s ht hf hd hm hh hn hl ho
    have hlen : r.offset ≤ (readBytes (counted s (Req.withOp r 3)) (Req.withOp r 3) d).length := by
      simpa [readBytes, descBytes, Req.withOp] using ho
    obtain ⟨t, hx, hr, q, hq, hkey, -, hval⟩ :=
      read_answered ht hf (by decide) (by decide) (by decide) hd hm hh hn hl hlen rfl
    exact ⟨t, hx, hr, q, hq, hkey, hval⟩
  case denied =>
    intro r d role k s ht hf hd hm
    have ha := answer_formed (s := counted s r) k role none hf (by decide) (by decide) hd
    rw [if_neg (by decide), answerRead_denied (r := Req.withOp r 1) _ hm] at ha
    obtain ⟨t, hx, hr, -⟩ := request_answered ht ha rfl
    exact ⟨t, hx, hr⟩
  case write =>
    intro r d role k s h hu
    exact write_answered h hu
  case pends =>
    intro r d role k i s h hu ha ho hi
    obtain ⟨t, hx, hp⟩ := pending_after_write h hu ha ho
    refine ⟨t, hx, (hp _).trans ?_, fun e he => (hp e).trans (if_neg ?_)⟩
    · rw [if_pos ⟨Nat.le_add_right _ _, Nat.add_lt_add_left hi _⟩]
      simp [firstOf, Req.withOp]
    · simp only [firstOf, Req.withOp] at he ⊢
      omega
  case stored =>
    intro r d role k i s h hu ho hi
    obtain ⟨t, hx, hr⟩ := write_answered h hu
    obtain ⟨-, -, hd, -, -, -, -⟩ := h
    have hap : d.apply = 1 := apply_eq hd ho (by decide)
    have hc : writeCode d = 0 := by simp [writeCode, hap]
    refine ⟨t, hx, ?_⟩
    rw [hc] at hr
    rw [hr.dget_eq, countCode_zero, acceptWrite_immediate _ _ _ hap, effectI_leadStatistics _ _ _ ho, ← ho]
    refine (dget_storeAll _ _ _ _ _).trans ?_
    rw [if_pos ⟨Nat.le_add_right _ _, Nat.add_lt_add_left hi _⟩]
    simp [firstOf, Req.withOp, wrOf]


/-! ## Writes of objects of one element (R379, R390) -/

/-- A write that passes addresses the one element of its object, and carries one value. -/
theorem single_of_admitted {s : State} {r : Req} {d : Desc} {role : Role} {k : Option Session} {img : Option Sig}
    (h : Admitted s r d role k img) (h1 : d.elems = 1) : firstOf r = 0 ∧ written r = [firstWritten r] := by
  obtain ⟨-, ⟨-, -, -, -, hm⟩, hd, -, -, -, hc⟩ := h
  have hn : r.count ≠ 0 := count_ne_zero_of_checkWrite hc
  have hle : firstOf r + r.count ≤ 1 := by
    simp only [missing, hd, h1, Bool.or_eq_false_iff, decide_eq_false_iff_not, Nat.not_lt] at hm
    exact hm.2
  have hcount : r.count = 1 := by omega
  refine ⟨by omega, ?_⟩
  unfold firstWritten
  rw [written_eq hd, decodeVals, hcount]
  split <;> rfl

/-- A write that passes every check and of which the value is clamped takes effect as clamped (R24, R303, R399). -/
theorem clamped_write_answered {s : State} {r : Req} {d : Desc} {role : Role} {k : Option Session}
    (h : Admitted s r d role k none) (h1 : d.elems = 1) (hu : ¬ Unclamped s r) :
    ∃ t, request r none s = .next t ∧
      Replied r 0x05 (requestClamp (bumpN (acceptWrite (counted s r) (wrOf r k role d r.value none) d
        [clampElem (counted s r) r.object (firstWritten r)]) 0x1020 10 1)) t := by
  obtain ⟨-, hone⟩ := single_of_admitted h h1
  obtain ⟨ht, hf, hd, hfl, ho, hn, hc⟩ := h
  have hne : clampElem (counted s r) r.object (firstWritten r) ≠ firstWritten r := by
    intro he
    apply hu
    show (written r).map (clampElem (counted s r) r.object) = written r
    rw [hone, List.map_singleton, he]
  have hw : (wrOf r k role d r.value none).vals = [firstWritten r] := (written_eq hd).symm.trans hone
  have hobj : (wrOf r k role d r.value none).obj = r.object := rfl
  have ha := answer_formed (s := counted s r) k role none hf (by decide) (by decide) hd
  rw [if_pos rfl, answerWrite_whole none _ hn hfl ho] at ha
  simp only [wholeWrite, Bool.false_or, hc, bestCode_pair_zero, hw, hobj, ne_eq, not_true_eq_false, if_false] at ha
  have hcount : ((upTo [clampElem (counted s r) r.object (firstWritten r)].length).filter (fun i =>
      at0 [clampElem (counted s r) r.object (firstWritten r)] i != at0 [firstWritten r] i)).length = 1 := by
    simp [upTo, at0, hne]
  rw [List.map_singleton, hcount, if_pos (by decide)] at ha
  obtain ⟨t, hx, hr, -⟩ := request_answered ht ha rfl
  exact ⟨t, hx, hr⟩

/-- The number of elements and the apply class that an object declares. -/
def elemsAndClass (o : Nat) : Option (Nat × Nat) := (objDesc o).map (fun d => (d.elems, d.apply))

theorem elemsAndClass_of_admitted {s : State} {r : Req} {n c : Nat} {d : Desc} {role : Role} {k : Option Session}
    {img : Option Sig} (h : elemsAndClass r.object = some (n, c)) (ha : Admitted s r d role k img) :
    d.elems = n ∧ d.apply = c := by
  obtain ⟨-, -, hd, -, -, -, -⟩ := ha
  simpa [elemsAndClass, hd] using h

/-- A row that writes an object of one element does what accepting its value does. -/
theorem writes_single {row : Req → Instr} {o c cls : Nat} {eff : State → Role → Option Session → Req → Nat → State}
    (hrow : ∀ r s, exec (row r) s = request (Req.writing r o) none s) (ho : elemsAndClass o = some (1, cls))
    (hc : (if 2 ≤ cls then 0x06 else 0) = c)
    (heff : ∀ u role k q v d, d.apply = cls → firstOf q = 0 → q.object = o →
      acceptWrite u (wrOf q k role d q.value none) d [v] = eff u role k q v) : Writes row o c eff := by
  intro r d role k s h hu
  obtain ⟨h1, hcls⟩ := elemsAndClass_of_admitted ho h
  obtain ⟨hfirst, hone⟩ := single_of_admitted h h1
  obtain ⟨t, hx, hr⟩ := write_answered h hu
  refine ⟨t, (hrow r s).trans hx, ?_⟩
  rw [writeCode, hcls, hc, hone, heff _ _ _ _ _ _ hcls hfirst rfl] at hr
  exact hr

/-- An immediate write takes effect and answers 0 (R21). -/
theorem writes_immediate {row : Req → Instr} {o : Nat} {eff : State → Role → Option Session → Req → Nat → State}
    (hrow : ∀ r s, exec (row r) s = request (Req.writing r o) none s) (ho : elemsAndClass o = some (1, 1))
    (heff : ∀ u role k q v d, firstOf q = 0 → q.object = o →
      effectI u (wrOf q k role d q.value none) [v] = eff u role k q v) : Writes row o 0 eff :=
  writes_single hrow ho rfl fun u role k q v d hd hf hq =>
    (acceptWrite_immediate _ _ _ hd).trans (heff u role k q v d hf hq)

/-- A row that writes an object of one element does what accepting its value does, where the value is clamped. -/
theorem writesClamped_single {row : Req → Instr} {o cls : Nat} {eff : State → Nat → State}
    (hrow : ∀ r s, exec (row r) s = request (Req.writing r o) none s) (ho : elemsAndClass o = some (1, cls))
    (heff : ∀ u role k q v d, d.apply = cls → firstOf q = 0 → q.object = o →
      acceptWrite u (wrOf q k role d q.value none) d [v] = eff u v) : WritesClamped row o eff := by
  intro r d role k s h hu
  obtain ⟨h1, hcls⟩ := elemsAndClass_of_admitted ho h
  obtain ⟨hfirst, -⟩ := single_of_admitted h h1
  obtain ⟨t, hx, hr⟩ := clamped_write_answered h h1 hu
  refine ⟨t, (hrow r s).trans hx, ?_⟩
  rw [heff _ _ _ _ _ _ hcls hfirst rfl] at hr
  exact hr

/-! ## The effects of the rack's objects (R67, R94, R98, R104, R119, R123, R125) -/

@[simp] theorem wrOf_obj (r : Req) (k : Option Session) (role : Role) (d : Desc) (b : List Nat) (img : Option Sig) :
    (wrOf r k role d b img).obj = r.object := rfl
@[simp] theorem wrOf_first (r : Req) (k : Option Session) (role : Role) (d : Desc) (b : List Nat) (img : Option Sig) :
    (wrOf r k role d b img).first = firstOf r := rfl
@[simp] theorem wrOf_role (r : Req) (k : Option Session) (role : Role) (d : Desc) (b : List Nat) (img : Option Sig) :
    (wrOf r k role d b img).role = role := rfl

@[simp] theorem at0_singleton (v : Nat) : at0 [v] 0 = v := rfl
@[simp] theorem storeAll_singleton (s : State) (o first v : Nat) : storeAll s o first [v] = dset s o first v := rfl
@[simp] theorem pendAll_singleton (s : State) (o first c v : Nat) : pendAll s o first c [v] = setPend s o first v c := rfl

/-- A ramp limit pends to the next boundary (R125, R138). -/
theorem acceptWrite_rampLimit {o : Nat} (hr : o = 0x2012 ∨ o = 0x2013) (u : State) (role : Role) (k : Option Session)
    (q : Req) (v : Nat) (d : Desc) (hd : d.apply = 2) (hf : firstOf q = 0) (ho : q.object = o) :
    acceptWrite u (wrOf q k role d q.value none) d [v] = setPend u o 0 v 2 := by
  subst ho
  have h8061 : q.object ≠ 0x8061 := by omega
  have h2000 : q.object ≠ 0x2000 := by omega
  have h4111 : q.object ≠ 0x4111 := by omega
  have h4024 : q.object ≠ 0x4024 := by omega
  rw [acceptWrite_pending _ _ _ (by omega) h8061]
  simp [onAccept, hd, hf, h2000, h4111, h4024]

/-- A contract pends to the next minute and is logged with its serial and that of the contract in force (R123, R133). -/
theorem acceptWrite_contract (u : State) (role : Role) (k : Option Session) (q : Req) (v : Nat) (d : Desc)
    (hd : d.apply = 3) (hf : firstOf q = 0) (ho : q.object = 0x2000) :
    acceptWrite u (wrOf q k role d q.value none) d [v] = logEvent (setPend u 0x2000 0 v 3) 5 (roleBits role) (cSerial v)
      (if hasContract u then cSerial (contract u) else 0) := by
  rw [acceptWrite_pending _ _ _ (by omega) (by simp [ho])]
  simp only [onAccept, wrOf_obj, wrOf_first, wrOf_role, ho, hd, hf, pendAll_singleton, at0_singleton, if_true]
  rfl

/-- A host target pends to the next boundary and ends the fall-back at once (R67). -/
theorem acceptWrite_hostTarget (u : State) (role : Role) (k : Option Session) (q : Req) (v : Nat) (d : Desc)
    (hd : d.apply = 2) (hf : firstOf q = 0) (ho : q.object = 0x4024) :
    acceptWrite u (wrOf q k role d q.value none) d [v] =
      { setPend u 0x4024 0 v 2 with epo.fallback := setBit u.epo.fallback 4 false } := by
  rw [acceptWrite_pending _ _ _ (by omega) (by simp [ho])]
  simp [onAccept, hd, hf, ho]

/-- Settles O45: each row by what its object's acceptance does, the expiry by its two cases. -/
theorem rackRequests : Obligations.RackRequests := by
  unfold Obligations.RackRequests
  refine ⟨?lead, ?contract, ?cap, ?ramp, ?announcement, ?table, ?answer, ?target, ?expiry, ?noTarget⟩
  case lead =>
    refine writes_immediate (fun _ _ => rfl) (by decide) fun u role k q v d hf ho => ?_
    unfold effectI effectLow
    rw [wrOf_obj, ho]
    rfl
  case contract =>
    exact writes_single (cls := 3) (fun _ _ => rfl) (by decide) rfl acceptWrite_contract
  case cap =>
    refine writes_immediate (fun _ _ => rfl) (by decide) fun u role k q v d hf ho => ?_
    unfold effectI effectLow
    rw [wrOf_obj, ho]
    rfl
  case ramp =>
    intro o ho
    have hc : elemsAndClass o = some (1, 2) := by rcases ho with rfl | rfl <;> decide
    have hrow : ∀ r s, exec (.rampLimitWrite { r with object := o }) s = request (Req.writing r o) none s := by
      rcases ho with rfl | rfl <;> exact fun _ _ => rfl
    exact ⟨writes_single hrow hc rfl (acceptWrite_rampLimit ho), writesClamped_single hrow hc (acceptWrite_rampLimit ho)⟩
  case announcement =>
    refine writes_immediate (fun _ _ => rfl) (by decide) fun u role k q v d hf ho => ?_
    unfold effectI effectLow
    rw [wrOf_obj, ho]
    rfl
  case table =>
    refine writes_immediate (fun _ _ => rfl) (by decide) fun u role k q v d hf ho => ?_
    simp [effectI, effectLow, ho, hf]
  case answer =>
    refine writes_immediate (fun _ _ => rfl) (by decide) fun u role k q v d hf ho => ?_
    unfold effectI effectLow
    rw [wrOf_obj, ho]
    rfl
  case target =>
    exact writes_single (cls := 2) (fun _ _ => rfl) (by decide) rfl acceptWrite_hostTarget
  case expiry =>
    intro s hv ht
    exact if_pos ⟨hv, .inr ht⟩
  case noTarget =>
    intro s hv
    exact if_neg fun h => h.1 hv


/-! ## A request in a session that is not open, over the field network (R390, R424, R425) -/

/-- A request in session 5 that a CAN XL frame brings over FN-A. -/
def strangerRequest : Req :=
  { link := .fnA, session := some 5, arrived := 20, gen := 1, op := 1, flags := 3, transaction := 0, object := 0x0010
    element := 0, ext := 0, resv := 0, count := 1, offset := 0, length := 0, value := [], sigs := [], derivedOk := false
    can := some
      { formatOk := true, fd := false, chan := .A, ident := 0x200, typ := 0, gen := 1, src := 5, tag := .zero, epoch := 0
        counter := 1 } }

theorem strangerRequest_reaches : Reaches State.reset strangerRequest := by
  unfold Reaches
  decide +kernel

theorem strangerRequest_requester : requester State.reset strangerRequest = none := by decide +kernel

/-- Its frame is counted among those received. -/
theorem strangerRequest_frames :
    dget (mailCount (arrives State.reset strangerRequest).1 strangerRequest.link) 0x1002 0 = 1 := by decide +kernel

/-- Refutes O42: a request over the field network in a session that is not open changes more than a mailbox count, since its
frame is counted first (R424, R425): in the module just reset the count of frames received rises from 0 to 1. -/
theorem not_requestsJudgedInOrder : ¬ Obligations.RequestsJudgedInOrder := by
  unfold Obligations.RequestsJudgedInOrder
  rintro ⟨-, -, -, -, -, -, -, -, hunknown, -⟩
  have hr := strangerRequest_reaches
  obtain ⟨hl, hc, h3, hm, -⟩ := strangerRequest_reaches
  have hstays : request strangerRequest none State.reset = .next (mailCount State.reset strangerRequest.link) :=
    hunknown strangerRequest State.reset hl hc h3 hm strangerRequest_requester
  rw [request_of_unknown_session none hr strangerRequest_requester, Host.Outcome.next.injEq] at hstays
  have hframes := strangerRequest_frames
  rw [hstays] at hframes
  have hnone : dget (mailCount State.reset strangerRequest.link) 0x1002 0 = 0 := by decide +kernel
  omega


/-! ## The map of the control die (R463, R464) -/

/-- An address of the blocks lies in the page of its block. -/
theorem page_of_inBlocks {a : Nat} (h : inBlocks a = true) : a / 65536 = 0x4000 + blockOf a := by
  unfold inBlocks at h
  simp only [Bool.and_eq_true, decide_eq_true_eq] at h
  obtain ⟨⟨hlow, -⟩, -⟩ := h
  unfold blockOf
  omega

/-- RAM lies outside the blocks and the CSR numbers. -/
theorem isRam_apart {a : Nat} (h : isRam a = true) : isCsr a = false ∧ isOpen a = false := by
  simp only [isRam, isCsr, isOpen, inBlocks, Bool.or_eq_true, Bool.and_eq_true, decide_eq_true_eq, Bool.and_eq_false_iff,
    decide_eq_false_iff_not] at *
  omega

/-- The aperture lies outside everything else of the map. -/
theorem isAper_apart {a : Nat} (h1 : 0xC0000000 ≤ a) (h2 : a < 0x100000000) :
    isCsr a = false ∧ isOpen a = false ∧ isRam a = false ∧ isAttr a = false ∧ a ≠ 0x80000100 ∧ isAper a = true := by
  simp only [isRam, isCsr, isOpen, isAttr, isAper, inBlocks, Bool.or_eq_false_iff, Bool.and_eq_true, decide_eq_true_eq,
    Bool.and_eq_false_iff, decide_eq_false_iff_not]
  omega

theorem mayWrite_aper {c : Core5} {a : Nat} (hc : c ≠ .rt) (h1 : 0xC0000000 ≤ a) (h2 : a < 0x100000000) :
    mayWrite c a = true := by
  have h3 : ¬ a < 0x10080000 := by omega
  have h4 : ¬ a < 0x20800000 := by omega
  have h5 : ¬ a < 0x400E0000 := by omega
  have h6 : ¬ a < 0x48400000 := by omega
  have h7 : ¬ a < 0x50200000 := by omega
  have h8 : ¬ a < 0x70000000 := by omega
  have h9 : 0x80000000 ≤ a := by omega
  simp [mayWrite, inBlocks, h2, h3, h4, h5, h6, h7, h8, h9, hc]

/-! ## Reads (R27, R463) -/

/-- What a read of a register may clear or capture. -/
theorem readEffect_frame (s : State) (a : Nat) : ∃ rej spur cyc vcnt drop sidh, readEffect s a =
    { s with
      icu.routeRej := rej, icu.spur := spur, lpe.maxCyc := cyc, grd.vcnt := vcnt, power.xdrop := drop
      power.sidh := sidh } := by
  unfold readEffect
  dsimp only
  (repeat' split) <;> exact ⟨_, _, _, _, _, _, rfl⟩

/-- A read of COT clears nothing. -/
theorem readEffect_cot {s : State} {a : Nat} (h : blockOf a = 1) : readEffect s a = s := by
  simp [readEffect, h]

/-- A permitted read of a register answers it, after what the read clears. -/
theorem read_open_register {c : Core5} {a : Nat} (s : State) (hc : isCsr a = false) (hr : mayRead c a = true)
    (ho : isOpen (a - a % 4) = true) : exec (.readClearRegister c a) s =
      .next (readGives (readEffect s (a - a % 4)) (blockRead s (a - a % 4))) := by
  show execReadClearRegister c a s = _
  simp only [execReadClearRegister, hc, hr, readMap, ho, Bool.false_eq_true, if_false, if_true]

theorem read_refused {c : Core5} {a : Nat} (s : State) (hc : isCsr a = false) (hr : mayRead c a = false) :
    exec (.readClearRegister c a) s = .next (busError s c (errKey a)) := by
  show execReadClearRegister c a s = _
  simp only [execReadClearRegister, hc, hr, Bool.false_eq_true, if_false]

/-- The violation counts of GRD are registers that every core may read (R313, R464). -/
theorem violationCount_register {k : Nat} (hk : k < 64) (c : Core5) :
    isCsr (0x40040300 + 4 * k) = false ∧ mayRead c (0x40040300 + 4 * k) = true ∧ isOpen (0x40040300 + 4 * k) = true ∧
      blockOf (0x40040300 + 4 * k) = 4 ∧ (0x40040300 + 4 * k) % 65536 = 0x300 + 4 * k := by
  have hb : blockOf (0x40040300 + 4 * k) = 4 := by unfold blockOf; omega
  have hin : inBlocks (0x40040300 + 4 * k) = true := by
    simp only [inBlocks, hb, Bool.and_eq_true, decide_eq_true_eq]
    exact ⟨⟨by omega, by omega⟩, by decide⟩
  refine ⟨?_, ?_, ?_, hb, by omega⟩
  · simp only [isCsr, Bool.and_eq_false_iff, decide_eq_false_iff_not]
    omega
  · have h3 : ¬ 0x40040300 + 4 * k < 0x00040000 := by omega
    have h4 : ¬ 0x40040300 + 4 * k < 0x10080000 := by omega
    have h5 : ¬ 0x40040300 + 4 * k < 0x20800000 := by omega
    have h6 : ¬ 0x40040300 + 4 * k < 0x40000000 := by omega
    simp [mayRead, h3, h4, h5, h6, hin, hb]
  · simp [isOpen, hin, hb]

theorem read_violationCount {k : Nat} (hk : k < 64) (c : Core5) (s : State) :
    exec (.readClearRegister c (0x40040300 + 4 * k)) s =
      .next (readGives { s with grd.vcnt := mdel s.grd.vcnt k } (mget s.grd.vcnt k)) := by
  obtain ⟨hc, hr, ho, hb, hoff⟩ := violationCount_register hk c
  have hw : 0x40040300 + 4 * k - (0x40040300 + 4 * k) % 4 = 0x40040300 + 4 * k := by omega
  have h0 : 0x300 + 4 * k ≠ 4 := by omega
  have h1 : ¬ 0x300 + 4 * k < 0x200 := by omega
  have h3 : 0x300 + 4 * k < 0x400 := by omega
  rw [read_open_register s hc hr (by rw [hw]; exact ho), hw]
  have he : readEffect s (0x40040300 + 4 * k) = { s with grd.vcnt := mdel s.grd.vcnt k } := by
    simp [readEffect, hb, hoff, h3]
  have hv : blockRead s (0x40040300 + 4 * k) = mget s.grd.vcnt k := by
    simp [blockRead, hb, hoff, grdRead, h0, h1, h3]
  rw [he, hv]

/-! ## Writes (R27, R463, R464) -/

theorem write_permitted {c : Core5} {a : Nat} (v : Word) (s : State) (hc : isCsr a = false) (hw : mayWrite c a = true) :
    exec (.registerWrite c a v) s = writeMap (accessOk s) c (a - a % 4) v.toNat := by
  show execRegisterWrite c a v s = _
  simp only [execRegisterWrite, hc, hw, Bool.false_eq_true, if_false, if_true]

/-- A write that the map does not permit, of a block other than COT and LPE, is a bus error of its block. -/
theorem write_refused {c : Core5} {a : Nat} (v : Word) (s : State) (hc : isCsr a = false) (hw : mayWrite c a = false)
    (h1 : a / 65536 ≠ 0x4001) (h2 : a / 65536 ≠ 0x4002) :
    exec (.registerWrite c a v) s = .next (busError s c (errKey a)) := by
  have hblock : ∀ b, a / 65536 ≠ 0x4000 + b → (inBlocks a && blockOf a == b) = false := by
    intro b hb
    cases hin : inBlocks a with
    | false => rfl
    | true =>
      rw [Bool.true_and, beq_eq_false_iff_ne]
      rintro rfl
      exact hb (page_of_inBlocks hin)
  show execRegisterWrite c a v s = _
  simp only [execRegisterWrite, hc, hw, foreignWrite, hblock 1 h1, hblock 2 h2, Bool.false_eq_true, if_false]

/-- A word written to RAM is stored. -/
theorem write_ram {c : Core5} {a : Nat} (v : Word) (s : State) (hr : isRam a = true) (hw : mayWrite c a = true)
    (ha : a % 4 = 0) : exec (.registerWrite c a v) s =
      .next { s with dic.busErr := false, power.ram := mset s.power.ram a (v.toNat + 1) } := by
  obtain ⟨hc, ho⟩ := isRam_apart hr
  rw [write_permitted v s hc hw, ha, Nat.sub_zero]
  simp only [writeMap, ho, hr, Bool.false_eq_true, if_false, if_true]
  rfl

/-- A stored word of RAM is read. -/
theorem read_ram {c : Core5} {a : Nat} {s : State} {v : Word} (hr : isRam a = true) (hw : mayRead c a = true)
    (ha : a % 4 = 0) (hv : mget s.power.ram a = v.toNat + 1) :
    exec (.readClearRegister c a) s = .next { s with dic.reg := v, dic.busErr := false } := by
  obtain ⟨hc, ho⟩ := isRam_apart hr
  show execReadClearRegister c a s = _
  simp only [execReadClearRegister, hc, hw, readMap, ha, Nat.sub_zero, ho, hr, hv, Bool.false_eq_true, if_false, if_true]
  simp [readGives, accessOk]

/-- COT_SLEW takes the value of the write, clamped to quantity 7 of the guard (R210, R303). -/
theorem write_slew (v : Word) (s : State) :
    exec (.registerWrite .rt 0x40010018 v) s = .next (writeSlew (accessOk s) v.toNat) := by
  rw [write_permitted v s (by decide) (by decide)]
  rfl

theorem writeSlew_slew (s : State) (v : Nat) : (writeSlew s v).cot.slew = min (v % 2 ^ 15) (effLimit s 7) := by
  unfold writeSlew clampWrite
  dsimp only
  split
  · rename_i h
    exact h.symm
  · rfl

theorem writeSlew_within {s : State} {v : Nat} (h : v % 2 ^ 15 ≤ effLimit s 7) :
    writeSlew s v = { s with cot.slew := v % 2 ^ 15 } := by
  have hc : guardClamp s 7 (v % 2 ^ 15) = v % 2 ^ 15 := Nat.min_eq_left h
  simp only [writeSlew, clampWrite, hc, if_true]

/-- ENG_APER takes a page of the stack (R464). -/
theorem write_page {c : Core5} {v : Word} (s : State) (hc : c ≠ .rt) (hv : v.toNat % 128 < 72) :
    exec (.engAperWrite c v) s = .next { s with power.aper := v.toNat % 128, dic.busErr := false } := by
  show execEngAperWrite c v s = _
  simp only [execEngAperWrite, hc, Nat.not_le.mpr hv, if_false]
  rfl

/-- ENG_APER ignores and counts a page beyond the stack (R464). -/
theorem write_reserved_page {c : Core5} {v : Word} (s : State) (hc : c ≠ .rt) (hv : 72 ≤ v.toNat % 128) :
    exec (.engAperWrite c v) s =
      .next { accessOk s with power.busErrors := madd s.power.busErrors (errKey 0x80000100) 1 } := by
  show execEngAperWrite c v s = _
  simp only [execEngAperWrite, hc, hv, if_false, if_true]
  rfl

/-- A write through the aperture stores its word in the stack. -/
theorem write_aper {c : Core5} {a : Nat} (v : Word) (s : State) (hc : c ≠ .rt) (h1 : 0xC0000000 ≤ a)
    (h2 : a < 0x100000000) (ha : a % 4 = 0) :
    exec (.registerWrite c a v) s = .next (dramPut (accessOk s) (aperOffset s a) 4 v.toNat) := by
  obtain ⟨hcsr, ho, hr, ht, he, hp⟩ := isAper_apart h1 h2
  rw [write_permitted v s hcsr (mayWrite_aper hc h1 h2), ha, Nat.sub_zero]
  simp only [writeMap, ho, hr, ht, he, hp, Bool.false_eq_true, if_false, if_true]
  rfl

/-! ## The stack read after a write (R157) -/

theorem leOf_toNat_bytes (l : List Nat) : leOf ((l.map (BitVec.ofNat 8)).map (·.toNat)) = leOf l := by
  induction l with
  | nil => rfl
  | cons b l ih =>
    rw [List.map_cons, List.map_cons, leOf, leOf, ih]
    simp

theorem dramN_dramPut (s : State) (a n v : Nat) : dramN (dramPut s a n v) a n = v % 256 ^ n := by
  have hback : memReadAll (dramPut s a n v).net.dram a n = (bytesOf v n).map (BitVec.ofNat 8) := by
    have := memReadAll_memWriteAll ((bytesOf v n).map (BitVec.ofNat 8)) s.net.dram a
    rwa [List.length_map, length_bytesOf] at this
  rw [dramN, hback, leOf_toNat_bytes, leOf_bytesOf]

theorem memRead_dramPut_outside (s : State) (a n v : Nat) {b : Nat} (h : b < a ∨ a + n ≤ b) :
    memRead (dramPut s a n v).net.dram b = memRead s.net.dram b :=
  memRead_memWriteAll_of_outside _ _ _ _ (by simpa using h)

/-- Settles O41: each access by the rule for its region of the map. -/
theorem registerAccesses : Obligations.RegisterAccesses := by
  unfold Obligations.RegisterAccesses
  refine ⟨?reads, ?counts, ?readError, ?writeError, ?ram, ?slew, ?page, ?noPage, ?rtPage, ?aperture⟩
  case reads =>
    intro c a s hc hr ho
    refine ⟨_, read_open_register s hc hr ho, rfl, rfl, fun hcot => ?_, ?_⟩
    · have hb : blockOf (a - a % 4) = 1 := by unfold blockOf; omega
      rw [readEffect_cot hb]
      rfl
    · obtain ⟨_, _, _, _, _, _, hf⟩ := readEffect_frame s (a - a % 4)
      rw [hf]
      rfl
  case counts =>
    intro c k s hk
    exact ⟨_, read_violationCount hk c s, rfl, mget_mdel_self _ _, rfl⟩
  case readError =>
    intro c a s hc hr
    exact ⟨_, read_refused s hc hr, rfl, mget_madd_self s.power.busErrors (errKey a) 1, rfl, rfl⟩
  case writeError =>
    intro c a v s hc hw ha
    exact ⟨_, write_refused v s hc hw ha.1 ha.2, rfl, mget_madd_self s.power.busErrors (errKey a) 1, rfl⟩
  case ram =>
    intro c a v s hr hw ha
    exact ⟨_, write_ram v s hr hw ha, rfl, fun hread => read_ram hr hread ha (mget_mset_self s.power.ram a (v.toNat + 1))⟩
  case slew =>
    intro v s
    refine ⟨_, write_slew v s, ?_, fun h => ?_⟩
    · rw [writeSlew_slew]
      exact Nat.min_le_right _ _
    · exact writeSlew_within (s := accessOk s) h
  case page =>
    intro c v s hc hv
    exact write_page s hc hv
  case noPage =>
    intro c v s hc hv
    exact ⟨_, write_reserved_page s hc hv, rfl, mget_madd_self s.power.busErrors _ 1, rfl⟩
  case rtPage =>
    intro v s
    exact ⟨_, rfl, rfl, rfl⟩
  case aperture =>
    intro c a v s hc h1 h2 ha
    refine ⟨_, write_aper v s hc h1 h2 ha, ?_, fun b hb => memRead_dramPut_outside _ _ _ _ hb, rfl⟩
    rw [dramN_dramPut]
    exact Nat.mod_eq_of_lt v.isLt

end Sys2Proof.Machine

/-! PROOFS. Frames, shelves and the state after reset (R33 to R39, R77 to R93, R414, R422 to R425): the reset state; what reception
does with a frame that passes every check, and what a heartbeat leaves of the keys; the allowance formed again; and the two
statements that fail, each with what refutes it. -/
namespace Sys2Proof.Machine

/-! ## The state after reset (R35, R37, R484, R565) -/

theorem dramSound_reset : DramSound State.reset := rfl

theorem ownerKeys_reset : ownerKeys State.reset = [] := rfl

/-- Settles O51: the reset state gives each of these values as it stands. -/
theorem resetState : Obligations.ResetState := by
  unfold Obligations.ResetState
  exact ⟨dramSound_reset, rfl, rfl, rfl, rfl, rfl, ownerKeys_reset, rfl, rfl, rfl, rfl, rfl, rfl⟩

/-! ## A frame that passes every check (R414, R424, R425) -/

/-- The source a header stands for may be another; the rest of it is as received. -/
theorem sourced_eq (s : State) (h : Hdr) : ∃ src, sourced s h = { h with src := src } := by
  unfold sourced
  split <;> exact ⟨_, rfl⟩

/-- Reception hands a frame that passes every check to its row, in the state its acceptance leaves. -/
theorem receive_of_passes {s : State} {h : Hdr} {full zero exempt : Bool} (hp : Passes s h full zero exempt) (size : Nat)
    (f : State → Nat → State) :
    receive s h size true full zero exempt f = f (accepted s h size full) (epochIn s h full) := by
  obtain ⟨hknown, hnode, htag, hfresh, hepoch⟩ := hp
  obtain ⟨net, off, hnote⟩ := rxNote_frame s h.chan size
  obtain ⟨src, hsrc⟩ := sourced_eq s h
  unfold receive accepted
  rw [hsrc] at hnode htag hfresh ⊢
  dsimp only
  rw [hnote, if_neg, if_neg, if_neg, if_neg, if_pos]
  · rfl
  case hc => exact Bool.and_eq_true_iff.mpr ⟨decide_eq_true hfresh, hepoch⟩
  case hnc => exact Nat.ne_of_lt hfresh
  case hnc => exact mt (Bool.not_eq_true' _).mp (ne_false_of_eq_true htag)
  case hnc => exact mt (Bool.not_eq_true' _).mp (ne_false_of_eq_true hnode)
  case hnc =>
    change ¬ (!frameKnown h || !true) = true
    simp [hknown]

theorem accepted_fresh (s : State) (h : Hdr) (size : Nat) (full : Bool) :
    (accepted s h size full).sec.fresh =
      mset s.sec.fresh (pairKey (sourced s h)) (pairOf h (epochIn s h full)) := by
  obtain ⟨net, off, hnote⟩ := rxNote_frame s h.chan size
  unfold accepted
  rw [hnote]
  rfl

/-! ## What a heartbeat leaves of keys and freshness (R422) -/

theorem reallow_sec (s : State) (cause : Nat) : (reallow s cause).sec = s.sec := by
  unfold reallow
  dsimp only
  split <;> rfl

theorem takeFigures_sec (s : State) (p : Beat) (e : Nat) : (takeFigures s p e).sec = s.sec := by
  unfold takeFigures
  simp only [apply_ite State.sec, reallow_sec, setShelf_sec, ite_self]

theorem hearLead_sec (s : State) (slot expiry : Nat) : (hearLead s slot expiry).sec = s.sec := by
  unfold hearLead
  (repeat' split) <;> rfl

theorem hearLease_sec (s : State) (p : Beat) (e : Nat) : (hearLease s p e).sec = s.sec := by
  unfold hearLease
  simp only [apply_ite State.sec, hearLead_sec, ite_self]

theorem takeBeat_sec (s : State) (p : Beat) (e : Nat) : (takeBeat s p e).sec = s.sec := by
  unfold takeBeat
  simp only [apply_ite State.sec, hearLease_sec, takeFigures_sec, ite_self]

/-- A heartbeat that passes keeps its pair under the source its header stands for. -/
theorem heartbeat_fresh {s t : State} {h : Hdr} {p : Beat} (hp : Passes s h false true true)
    (hid : h.ident = 0x010 + p.slot) (ht : exec (.heartbeat h p) s = .next t) :
    t.sec.fresh = mset s.sec.fresh (pairKey (sourced s h)) (pairOf h (extendEpoch s h.epoch)) := by
  have hrow : exec (.heartbeat h p) s = .next (receive s h 32 (h.ident == 0x010 + p.slot) false true true
      (fun s e => takeBeat s p e)) := rfl
  rw [hrow, beq_iff_eq.mpr hid, receive_of_passes hp, Host.Outcome.next.injEq] at ht
  rw [← ht, takeBeat_sec, accepted_fresh]
  rfl

/-! ## A heartbeat that a CAN FD frame brings (R414, R416, R422) -/

/-- Node 5 is the agent of tray 0, and group key 7 is in force. -/
def trayAgentState : State := dset { State.reset with sec.keyCur := some 7 } 0x8020 0 (packAt [(0, 1, 5), (1, 1, 1), (4, 4, 1)])

/-- A CAN FD frame on the identifier of tray 0's reports, whose header's own source is 0. -/
def trayHdr : Hdr :=
  { formatOk := true, fd := true, chan := .A, ident := 0x400, typ := 4, gen := 1, src := 0, tag := .under 7, epoch := 1
    counter := 1 }

/-- A heartbeat whose slot, 0x3F0, is no slot index (R422): its identifier is then that of tray 0's reports. -/
def strayBeat : Beat :=
  { lease := 0#32, slot := 0x3F0, role := 0, rectifiers := 0, ack := 0, input := 0, strPower := 0, store := 0 }

theorem trayHdr_passes : Passes trayAgentState trayHdr false true true := by decide +kernel

theorem trayHdr_sourced : (sourced trayAgentState trayHdr).src = 5 := by decide +kernel

/-- Refutes O32: it keeps every heartbeat's pair under the header's own source, and bounds no slot. A slot of 0x3F0 gives a
heartbeat the identifier of tray 0's reports, which a CAN FD frame may carry; the source is then tray 0's agent (R414), and
the pair is kept under node 5, not under node 0. -/
theorem not_acceptedFrames : ¬ Obligations.AcceptedFrames := by
  unfold Obligations.AcceptedFrames
  rintro ⟨hbeat, -⟩
  obtain ⟨t, ht, -, -, hfresh, -⟩ := hbeat trayHdr strayBeat trayAgentState trayHdr_passes rfl (by decide)
  have hkept := heartbeat_fresh trayHdr_passes rfl ht
  have hother : pairKey trayHdr ≠ pairKey (sourced trayAgentState trayHdr) := by decide +kernel
  have hread : mget t.sec.fresh (pairKey trayHdr) = 0 := by
    rw [hkept, mget_mset_ne _ _ _ _ hother]
    rfl
  rw [hfresh, mget_mset_self] at hread
  exact Nat.succ_ne_zero _ hread

/-! ## The allowance formed again (R84, R112) -/

/-- Another sender's urgent cap frame of the present epoch bounds the allowance formed. -/
theorem reallow_allowance (s : State) (cause : Nat) :
    (reallow s cause).lead.allowance = urgentAllowance s (rackAllowance s s.epo.count) := by
  unfold reallow
  dsimp only
  split <;> rfl

theorem reallow_epo (s : State) (cause : Nat) : (reallow s cause).epo = s.epo := by
  unfold reallow
  dsimp only
  split <;> rfl

/-- What the rack allowance is formed from stays. -/
theorem rackAllowance_reallow (s : State) (cause e : Nat) : rackAllowance (reallow s cause) e = rackAllowance s e := by
  unfold reallow
  dsimp only
  split <;> rfl

/-- The active module of slot 0 in Live, which has taken an urgent cap frame of slot 2 in the present epoch: 20 kW. -/
def urgentlyCappedState : State :=
  { State.reset with
    power.mstate := .live, red.role := .active
    lead.capMarks := [{ sender := 2, epoch := 0, counter := 0, allowance := 20000, cap := noCap, ceilings := [] }] }

/-- That module with one healthy rectifier, as RECTIFIER_HEALTH_CHANGE leaves its feed. -/
def oneRectifierState : State :=
  { urgentlyCappedState with fac.rectOk := 1 % 256, fac.un := nominalV urgentlyCappedState.fac.un [] }

theorem oneRectifierState_rackAllowance :
    rackAllowance oneRectifierState oneRectifierState.epo.count = 42000 := by decide +kernel

theorem oneRectifierState_urgentAllowance : urgentAllowance oneRectifierState 42000 = 20000 := by decide +kernel

/-- Refutes O34: it has the allowance formed again equal the rack allowance, where an urgent cap frame of another sender in the
present epoch bounds it (R84; log entry 80). With one healthy rectifier the rack allowance is 42 kW; slot 2's frame leaves
20 kW. -/
theorem not_shelvesAndLead : ¬ Obligations.ShelvesAndLead := by
  unfold Obligations.ShelvesAndLead
  rintro ⟨-, hhealth, -⟩
  obtain ⟨t, ht, -, -, hallow, -⟩ := hhealth 1 [] urgentlyCappedState
  have hrow : exec (.rectifierHealthChange 1 []) urgentlyCappedState = .next (reallow oneRectifierState 3) := rfl
  rw [hrow, Host.Outcome.next.injEq] at ht
  rw [← ht, reallow_allowance, rackAllowance_reallow, reallow_epo, oneRectifierState_rackAllowance,
    oneRectifierState_urgentAllowance] at hallow
  exact absurd hallow (by decide)

end Sys2Proof.Machine

/-! PROOFS. Epochs and twilights (R46 to R60): the two statements that fail, each for the inferences of R60 that stand at the
start of a twilight: the twilight start takes them over, and the boundary after it lets them change the phases in force. -/
namespace Sys2Proof.Machine

/-! ## An inference acts at the boundary (R54, R60 item 3; log entry 79) -/

/-- A plan whose phase for constellation 0 is element 0 of its Almanac. -/
def phaseZeroPlan : Plan := { Plan.none with epoch := 1, phase := 0 :: List.replicate 15 0xFF }

/-- The active module in Live, its twilight blending to that plan; before the twilight started the engine inferred element 1 for
constellation 0, whose class is 1. -/
def inferredPhaseState : State :=
  dset { State.reset with
    power.mstate := .live, red.role := .active
    epo.firstPulse := true, epo.planNext := some phaseZeroPlan, epo.twRunning := true, epo.twPlan := true
    epo.inferredDue := [(0, 2)] } 0x4010 1 1

/-- An epoch in which nothing was metered. -/
def idleEpoch : EpochIn := { inputUJ := 0, strUJ := ⟨0, 0⟩, isMean := ⟨0, 0⟩, amps := [], pwm := none }

/-- The boundary of a missed pulse puts the inferred element in force, not that of the plan. -/
theorem inferredPhaseState_missedPulse_phase :
    at0 (openEpoch (correctGrid (bump inferredPhaseState 0x4005 1) 0) idleEpoch).epo.planN.phase 0 = 1 := by decide +kernel

/-- Refutes O35: it has the plan of a complete twilight in force as it was received, where an inference made before the twilight
changes a phase of it at the boundary (R60 item 3; log entry 79). With element 0 in the plan and element 1 inferred, an epoch
opened by a missed pulse has element 1 in force. -/
theorem not_epochsOpen : ¬ Obligations.EpochsOpen := by
  unfold Obligations.EpochsOpen
  rintro ⟨-, -, -, -, hmissed, -⟩
  obtain ⟨t, -, ht, hopened, -⟩ := hmissed idleEpoch inferredPhaseState (by decide +kernel) rfl
  obtain ⟨-, -, -, -, -, -, -, -, hplan, -⟩ := hopened
  have hphase := inferredPhaseState_missedPulse_phase
  rw [← ht, hplan phaseZeroPlan rfl rfl rfl] at hphase
  exact absurd hphase (by decide)

/-! ## The twilight start settles the inferences (R60, R64, R98) -/

theorem countTables_epo (s : State) (n : Nat) : (countTables s n).epo = s.epo := by
  unfold countTables
  (repeat' split) <;> rfl

theorem settle_epo (s : State) : (settle s).epo = { s.epo with inferredDue := s.epo.inferred } := by
  unfold settle
  dsimp only
  split
  · rw [countTables_epo]
  · rfl

/-- A twilight that starts, with a complete plan or with plan n held, takes the inferences made so far. -/
theorem twilightStart_inferredDue {s t : State} (ht : timebase s = true) (hr : s.epo.twRunning = false)
    (h : exec .twilightStart s = .next t) : t.epo.inferredDue = s.epo.inferred := by
  have hrow : exec .twilightStart s = execTwilightStart s := rfl
  have hsettled : (settle s).epo.inferredDue = s.epo.inferred := by rw [settle_epo]
  rw [hrow, execTwilightStart, if_neg (by simp [ht, hr])] at h
  dsimp only at h
  split at h <;> rw [Host.Outcome.next.injEq] at h <;> rw [← h]
  · exact hsettled
  · exact hsettled

/-- The active module in Live with no plan for the next epoch, the engine having inferred element 1 for constellation 0. -/
def inferenceMadeState : State :=
  { State.reset with power.mstate := .live, red.role := .active, epo.inferred := [(0, 2)] }

/-- Refutes O36: it has a twilight that holds plan n change nothing of the inferences, where every twilight start takes those made
so far (R60 item 3; log entry 79), so that they differ afterwards wherever one was made since the twilight before. -/
theorem not_twilightsSamplesAndFolds : ¬ Obligations.TwilightsSamplesAndFolds := by
  unfold Obligations.TwilightsSamplesAndFolds
  rintro ⟨hheld, -⟩
  have htb : timebase inferenceMadeState = true := by decide
  obtain ⟨t, ht, -, hframe⟩ := hheld inferenceMadeState htb rfl (fun _ hp => nomatch hp)
  have htaken := twilightStart_inferredDue htb rfl ht
  have hkept : t.epo.inferredDue = inferenceMadeState.epo.inferredDue := by rw [hframe]
  exact absurd (hkept.symm.trans htaken) (by decide)

end Sys2Proof.Machine

/-! PROOFS. What every step keeps of the DRAM stack (R157): each command by the law of its meaning. -/
namespace Sys2Proof.Machine

/-- Every command keeps the canonical form of the stack, the queue and the identity. -/
theorem exec_keep (c : Instr) (s : State) : KeptO s (exec c s) := by
  intro t ht
  cases c with
  | auxSupplyApplied => exact .of_eq (execAuxSupplyApplied_keep _ ht)
  | supply54vInRange => exact execSupply54vInRange_keep _ _ ht
  | roleNegotiationTimeout => exact .of_eq (execRoleNegotiationTimeout_keep _ ht)
  | liveReq => exact .of_eq (execLiveReq_keep _ _ _ ht)
  | supply54vOutOfRange => exact execSupply54vOutOfRange_keep _ ht
  | stringFedTimeout => exact execStringFedTimeout_keep _ ht
  | powerFailWarning => exact .of_eq (execPowerFailWarning_keep _ ht)
  | holdupFlushComplete => exact .of_eq (execHoldupFlushComplete_keep _ ht)
  | holdupCommit => exact .of_eq (execHoldupCommit_keep _ _ ht)
  | holdupCutoff => exact execHoldupCutoff_keep _ ht
  | moduleRestart => exact execModuleRestart_keep _ _ ht
  | meridianPulse => exact execMeridianPulse_keep _ _ ht
  | extraMeridianEdge => exact .of_eq (execExtraMeridianEdge_keep _ ht)
  | missedPulse => exact execMissedPulse_keep _ _ ht
  | twilightStart => exact execTwilightStart_keep _ ht
  | signatureComplete => exact .of_eq (execSignatureComplete_keep _ ht)
  | lowerTreeBuild => exact .of_eq (execLowerTreeBuild_keep _ ht)
  | loopSample => exact .of_eq (execLoopSample_keep _ _ ht)
  | lpMove => exact .of_eq (execLpMove_keep _ _ _ _ ht)
  | lpAdd => exact .of_eq (execLpAdd_keep _ _ _ _ _ ht)
  | lpSubtract => exact .of_eq (execLpSubtract_keep _ _ _ _ _ ht)
  | lpCompare => exact .of_eq (execLpCompare_keep _ _ _ _ ht)
  | lpShift => exact .of_eq (execLpShift_keep _ _ _ _ _ ht)
  | lpMin => exact .of_eq (execLpMin_keep _ _ _ _ _ ht)
  | lpMax => exact .of_eq (execLpMax_keep _ _ _ _ _ ht)
  | lpClamp => exact .of_eq (execLpClamp_keep _ _ _ _ _ _ ht)
  | lpMac => exact .of_eq (execLpMac_keep _ _ _ _ _ _ _ ht)
  | lpDivide => exact .of_eq (execLpDivide_keep _ _ _ _ _ ht)
  | lpBranch => exact .of_eq (execLpBranch_keep _ _ _ _ ht)
  | lpInputLoad => exact .of_eq (execLpInputLoad_keep _ _ _ _ ht)
  | lpOutputStore => exact .of_eq (execLpOutputStore_keep _ _ _ _ ht)
  | lpEnd => exact .of_eq (execLpEnd_keep _ _ ht)
  | passDeadline => exact .of_eq (execPassDeadline_keep _ ht)
  | fixedLawTakeover => exact .of_eq (execFixedLawTakeover_keep _ ht)
  | programReturn => exact .of_eq (execProgramReturn_keep _ ht)
  | fixedLawReturn => exact execFixedLawReturn_keep _ _ ht
  | channelImplausible => exact .of_eq (execChannelImplausible_keep _ _ ht)
  | channelPlausible => exact .of_eq (execChannelPlausible_keep _ _ ht)
  | channelSelection => exact execChannelSelection_keep _ _ ht
  | lpeFixrst => exact .of_eq (execLpeFixrst_keep _ _ ht)
  | lpeSelreq => exact .of_eq (execLpeSelreq_keep _ _ ht)
  | lpeRun => exact .of_eq (execLpeRun_keep _ _ _ ht)
  | loopProgramLoad => exact execLoopProgramLoad_keep _ _ ht
  | loopProgramLoadDone => exact .of_eq (execLoopProgramLoadDone_keep _ _ ht)
  | loopProgramSelect => exact execLoopProgramSelect_keep _ _ ht
  | cotTrigger => exact .of_eq (execCotTrigger_keep _ _ _ ht)
  | onTimeEnd => exact .of_eq (execOnTimeEnd_keep _ _ _ ht)
  | fastLimit => exact .of_eq (execFastLimit_keep _ _ _ ht)
  | pulseTruncation => exact .of_eq (execPulseTruncation_keep _ _ _ _ ht)
  | hiccup => exact .of_eq (execHiccup_keep _ _ ht)
  | hiccupRetry => exact .of_eq (execHiccupRetry_keep _ _ ht)
  | retryCountReset => exact .of_eq (execRetryCountReset_keep _ _ ht)
  | phaseShed => exact .of_eq (execPhaseShed_keep _ _ ht)
  | foldBack => exact .of_eq (execFoldBack_keep _ _ ht)
  | foldBackEnd => exact .of_eq (execFoldBackEnd_keep _ _ ht)
  | busOvervoltageLatch => exact .of_eq (execBusOvervoltageLatch_keep _ ht)
  | ovPhaseRelease => exact .of_eq (execOvPhaseRelease_keep _ _ _ ht)
  | linkOvervoltage => exact .of_eq (execLinkOvervoltage_keep _ _ ht)
  | stringLatchClear => exact execStringLatchClear_keep _ _ ht
  | overvoltageLatchClear => exact execOvervoltageLatchClear_keep _ _ ht
  | cotOvclr => exact .of_eq (execCotOvclr_keep _ _ ht)
  | cotLatclr => exact .of_eq (execCotLatclr_keep _ _ _ ht)
  | cotShedEn => exact .of_eq (execCotShedEn_keep _ _ _ ht)
  | cotStart => exact .of_eq (execCotStart_keep _ _ _ ht)
  | cotEna => exact .of_eq (execCotEna_keep _ _ _ _ ht)
  | cotPhenWrite => exact .of_eq (execCotPhenWrite_keep _ _ _ ht)
  | contactorMainCommand => exact .of_eq (execContactorMainCommand_keep _ _ _ _ ht)
  | contactorPrechargeCommand => exact .of_eq (execContactorPrechargeCommand_keep _ _ _ _ ht)
  | contactorHoldRelease => exact .of_eq (execContactorHoldRelease_keep _ _ _ ht)
  | prechargeGuardOpen => exact .of_eq (execPrechargeGuardOpen_keep _ _ ht)
  | prechargeOverlapOpen => exact .of_eq (execPrechargeOverlapOpen_keep _ _ ht)
  | linkDischargeDone => exact .of_eq (execLinkDischargeDone_keep _ _ ht)
  | prechargeComplete => exact .of_eq (execPrechargeComplete_keep _ _ ht)
  | prechargeTimeout => exact .of_eq (execPrechargeTimeout_keep _ _ ht)
  | contactorConfirmed => exact .of_eq (execContactorConfirmed_keep _ _ _ _ ht)
  | contactorDisagree => exact .of_eq (execContactorDisagree_keep _ _ _ ht)
  | softStartCrossing => exact .of_eq (execSoftStartCrossing_keep _ _ ht)
  | softStartTimeout => exact .of_eq (execSoftStartTimeout_keep _ _ ht)
  | zeroingComplete => exact .of_eq (execZeroingComplete_keep _ _ ht)
  | zeroingTimeout => exact .of_eq (execZeroingTimeout_keep _ _ ht)
  | powerBoardPresenceChange => exact .of_eq (execPowerBoardPresenceChange_keep _ _ ht)
  | busReferenceTarget => exact execBusReferenceTarget_keep _ _ ht
  | referenceSlew => exact execReferenceSlew_keep _ _ ht
  | driveEnLoss => exact .of_eq (execDriveEnLoss_keep _ ht)
  | phaseCheckComplete => exact .of_eq (execPhaseCheckComplete_keep _ ht)
  | strobe => exact .of_eq (execStrobe_keep _ _ ht)
  | positionTrip => exact .of_eq (execPositionTrip_keep _ _ _ _ ht)
  | tripAutoClear => exact .of_eq (execTripAutoClear_keep _ _ _ ht)
  | tripClear => exact execTripClear_keep _ _ ht
  | umbraSurvey => exact .of_eq (execUmbraSurvey_keep _ _ ht)
  | hostBleedMasks => exact execHostBleedMasks_keep _ _ ht
  | bleedMaskExpiry => exact .of_eq (execBleedMaskExpiry_keep _ ht)
  | wireSurveyRequest => exact execWireSurveyRequest_keep _ _ ht
  | wireSurveySlot => exact .of_eq (execWireSurveySlot_keep _ _ _ _ _ _ ht)
  | openWireTest => exact .of_eq (execOpenWireTest_keep _ _ _ ht)
  | openWireTestRequest => exact execOpenWireTestRequest_keep _ _ ht
  | openWireResult => exact .of_eq (execOpenWireResult_keep _ _ _ _ _ ht)
  | drawerRelease => exact .of_eq (execDrawerRelease_keep _ _ _ ht)
  | drawerInsert => exact .of_eq (execDrawerInsert_keep _ _ _ ht)
  | stringIsolate => exact execStringIsolate_keep _ _ ht
  | endIsolation => exact execEndIsolation_keep _ _ ht
  | thermistorRead => exact .of_eq (execThermistorRead_keep _ _ ht)
  | afeReport => exact .of_eq (execAfeReport_keep _ _ _ ht)
  | afeLinkLoss => exact .of_eq (execAfeLinkLoss_keep _ _ _ ht)
  | integratorLayerWrite => exact execIntegratorLayerWrite_keep _ _ ht
  | ownerLayerWrite => exact execOwnerLayerWrite_keep _ _ ht
  | ownerLayerAdopt => exact .of_eq (execOwnerLayerAdopt_keep _ _ ht)
  | guardNarrowing => exact .of_eq (execGuardNarrowing_keep _ _ _ _ ht)
  | guardEscalation => exact .of_eq (execGuardEscalation_keep _ _ ht)
  | guardAuthorisation => exact .of_eq (execGuardAuthorisation_keep _ _ ht)
  | authorisationExpiry => exact .of_eq (execAuthorisationExpiry_keep _ _ ht)
  | frameTransmit => exact .of_eq (execFrameTransmit_keep _ _ _ ht)
  | frameTransmitComplete => exact .of_eq (execFrameTransmitComplete_keep _ _ ht)
  | babbleCut => exact .of_eq (execBabbleCut_keep _ _ ht)
  | cutEnd => exact .of_eq (execCutEnd_keep _ _ ht)
  | busOffRecovery => exact .of_eq (execBusOffRecovery_keep _ _ ht)
  | paceFrame => exact .of_eq (execPaceFrame_keep _ _ _ ht)
  | capFrame => exact .of_eq (execCapFrame_keep _ _ _ ht)
  | heartbeatSend => exact .of_eq (execHeartbeatSend_keep _ ht)
  | heartbeat => exact .of_eq (execHeartbeat_keep _ _ _ ht)
  | shelfLeavesService => exact .of_eq (execShelfLeavesService_keep _ _ ht)
  | leadLeaseLapse => exact .of_eq (execLeadLeaseLapse_keep _ ht)
  | leadElection => exact .of_eq (execLeadElection_keep _ _ ht)
  | leadRelease => exact execLeadRelease_keep _ _ ht
  | trayReport => exact .of_eq (execTrayReport_keep _ _ _ ht)
  | throttleRestore => exact .of_eq (execThrottleRestore_keep _ _ ht)
  | joinFrame => exact .of_eq (execJoinFrame_keep _ _ _ ht)
  | trayAbsenceLeave => exact .of_eq (execTrayAbsenceLeave_keep _ _ ht)
  | holdRelease => exact .of_eq (execHoldRelease_keep _ ht)
  | hintMismatch => exact .of_eq (execHintMismatch_keep _ _ ht)
  | unknownFrame => exact .of_eq (execUnknownFrame_keep _ _ ht)
  | keyFrame => exact .of_eq (execKeyFrame_keep _ _ _ ht)
  | keyRequest => exact .of_eq (execKeyRequest_keep _ _ _ ht)
  | groupKeyDistribution => exact .of_eq (execGroupKeyDistribution_keep _ _ ht)
  | read => exact execRead_keep _ _ ht
  | readPending => exact execReadPending_keep _ _ ht
  | write => exact execWrite_keep _ _ ht
  | describe => exact execDescribe_keep _ _ ht
  | malformedRequest => exact execMalformedRequest_keep _ _ ht
  | segmentTimeout => exact .of_eq (execSegmentTimeout_keep _ _ ht)
  | writeForwardAck => exact .of_eq (execWriteForwardAck_keep _ ht)
  | writeForwardTimeout => exact .of_eq (execWriteForwardTimeout_keep _ ht)
  | sessionOpen => exact .of_eq (execSessionOpen_keep _ _ ht)
  | sessionMessage => exact execSessionMessage_keep _ _ _ _ _ ht
  | sessionExpiry => exact .of_eq (execSessionExpiry_keep _ _ ht)
  | contractWrite => exact execContractWrite_keep _ _ ht
  | breakerCapWrite => exact execBreakerCapWrite_keep _ _ ht
  | rampLimitWrite => exact execRampLimitWrite_keep _ _ ht
  | emergencyAnnouncement => exact execEmergencyAnnouncement_keep _ _ ht
  | rectifierHealthChange => exact .of_eq (execRectifierHealthChange_keep _ _ _ ht)
  | feedLost => exact .of_eq (execFeedLost_keep _ _ ht)
  | feedRestored => exact .of_eq (execFeedRestored_keep _ _ ht)
  | hostAllocationTable => exact execHostAllocationTable_keep _ _ ht
  | hostFillerAnswer => exact execHostFillerAnswer_keep _ _ ht
  | hostSocTarget => exact execHostSocTarget_keep _ _ ht
  | hostSocTargetExpiry => exact .of_eq (execHostSocTargetExpiry_keep _ ht)
  | attributionFold => exact execAttributionFold_keep _ ht
  | featureFrame => exact .of_eq (execFeatureFrame_keep _ _ ht)
  | refreshStart => exact .of_eq (execRefreshStart_keep _ ht)
  | refreshDone => exact execRefreshDone_keep _ _ _ _ ht
  | refreshDeadlineMiss => exact .of_eq (execRefreshDeadlineMiss_keep _ ht)
  | holdForecast => exact execHoldForecast_keep _ ht
  | trainingPair => exact .of_eq (execTrainingPair_keep _ ht)
  | learningStep => exact .of_eq (execLearningStep_keep _ ht)
  | candidateEvaluation => exact .of_eq (execCandidateEvaluation_keep _ ht)
  | reshardBuildDone => exact .of_eq (execReshardBuildDone_keep _ ht)
  | reshardShadowCompare => exact .of_eq (execReshardShadowCompare_keep _ _ ht)
  | modelLoad => exact execModelLoad_keep _ _ ht
  | modelLoadDone => exact .of_eq (execModelLoadDone_keep _ _ _ ht)
  | modelSelect => exact execModelSelect_keep _ _ ht
  | clearSlot => exact execClearSlot_keep _ _ ht
  | revertSignedWeights => exact execRevertSignedWeights_keep _ _ ht
  | damagedSlotFetch => exact .of_eq (execDamagedSlotFetch_keep _ _ _ ht)
  | uncorrectableError => exact .of_eq (execUncorrectableError_keep _ _ _ ht)
  | scrubRead => exact .of_eq (execScrubRead_keep _ _ ht)
  | bondCrcFail => exact .of_eq (execBondCrcFail_keep _ _ _ _ _ _ _ ht)
  | engineTemperature => exact .of_eq (execEngineTemperature_keep _ _ ht)
  | fastModeExit => exact .of_eq (execFastModeExit_keep _ ht)
  | leaseRenewal => exact .of_eq (execLeaseRenewal_keep _ ht)
  | leaseWordReceived => exact .of_eq (execLeaseWordReceived_keep _ _ _ _ ht)
  | leaseClaim => exact .of_eq (execLeaseClaim_keep _ ht)
  | driveEnTimeout => exact .of_eq (execDriveEnTimeout_keep _ ht)
  | lockstepMismatch => exact .of_eq (execLockstepMismatch_keep _ ht)
  | driveConflict => exact .of_eq (execDriveConflict_keep _ _ ht)
  | explicitRelease => exact .of_eq (execExplicitRelease_keep _ _ ht)
  | sisterBlockReceived => exact execSisterBlockReceived_keep _ _ _ ht
  | laneDown => exact .of_eq (execLaneDown_keep _ _ ht)
  | laneRetrained => exact .of_eq (execLaneRetrained_keep _ _ ht)
  | sisterLinkLost => exact .of_eq (execSisterLinkLost_keep _ ht)
  | stateRecord => exact .of_eq (execStateRecord_keep _ _ ht)
  | stateRecordDeadlineMiss => exact .of_eq (execStateRecordDeadlineMiss_keep _ ht)
  | epochImageSend => exact .of_eq (execEpochImageSend_keep _ ht)
  | epochImageReceived => exact .of_eq (execEpochImageReceived_keep _ _ ht)
  | handoverCommand => exact execHandoverCommand_keep _ _ ht
  | clearDriveFault => exact execClearDriveFault_keep _ _ ht
  | revertHandover => exact .of_eq (execRevertHandover_keep _ ht)
  | swapDrill => exact .of_eq (execSwapDrill_keep _ ht)
  | drillEnd => exact .of_eq (execDrillEnd_keep _ ht)
  | peerAbsent => exact .of_eq (execPeerAbsent_keep _ ht)
  | replacementAdoption => exact execReplacementAdoption_keep _ _ ht
  | keyEnrolment => exact execKeyEnrolment_keep _ _ ht
  | nodeTableWrite => exact execNodeTableWrite_keep _ _ ht
  | firmwareLoad => exact execFirmwareLoad_keep _ _ _ ht
  | activateBank => exact execActivateBank_keep _ _ ht
  | commitTrial => exact execCommitTrial_keep _ _ ht
  | trialBootFailed => exact .of_eq (execTrialBootFailed_keep _ ht)
  | trialAutoCommit => exact .of_eq (execTrialAutoCommit_keep _ ht)
  | evidenceRequest => exact execEvidenceRequest_keep _ _ ht
  | onDemandSeal => exact execOnDemandSeal_keep _ _ ht
  | unlockGrant => exact execUnlockGrant_keep _ _ ht
  | endUnlock => exact execEndUnlock_keep _ _ ht
  | unlockExpiry => exact .of_eq (execUnlockExpiry_keep _ ht)
  | challengeExpiry => exact .of_eq (execChallengeExpiry_keep _ ht)
  | passphraseVerifier => exact execPassphraseVerifier_keep _ _ ht
  | passphraseAttempt => exact execPassphraseAttempt_keep _ _ ht
  | passphraseRefusalEnd => exact .of_eq (execPassphraseRefusalEnd_keep _ ht)
  | entropyStop => exact .of_eq (execEntropyStop_keep _ ht)
  | entropyResume => exact .of_eq (execEntropyResume_keep _ ht)
  | userCalibrationWrite => exact execUserCalibrationWrite_keep _ _ ht
  | traceArm => exact .of_eq (execTraceArm_keep _ _ ht)
  | traceSwtrig => exact .of_eq (execTraceSwtrig_keep _ _ ht)
  | traceTrigger => exact .of_eq (execTraceTrigger_keep _ ht)
  | traceDone => exact .of_eq (execTraceDone_keep _ ht)
  | snapshotFreeze => exact .of_eq (execSnapshotFreeze_keep _ ht)
  | snapshotRearm => exact execSnapshotRearm_keep _ _ ht
  | traceConfiguration => exact execTraceConfiguration_keep _ _ ht
  | recorderFrame => exact execRecorderFrame_keep _ _ ht
  | recorderAutoStop => exact .of_eq (execRecorderAutoStop_keep _ ht)
  | recorderResume => exact execRecorderResume_keep _ _ ht
  | exportContent => exact execExportContent_keep _ _ ht
  | firstFaultClear => exact execFirstFaultClear_keep _ _ ht
  | auxSyncFunction => exact execAuxSyncFunction_keep _ _ ht
  | identify => exact execIdentify_keep _ _ _ ht
  | getEventRecords => exact execGetEventRecords_keep _ _ _ ht
  | clearEventRecords => exact execClearEventRecords_keep _ _ _ _ ht
  | getEventInterruptPolicy => exact execGetEventInterruptPolicy_keep _ _ _ ht
  | setEventInterruptPolicy => exact execSetEventInterruptPolicy_keep _ _ _ _ ht
  | getFwInfo => exact execGetFwInfo_keep _ _ _ ht
  | getSupportedLogs => exact execGetSupportedLogs_keep _ _ _ ht
  | getLog => exact execGetLog_keep _ _ _ ht
  | identifyMemoryDevice => exact execIdentifyMemoryDevice_keep _ _ _ ht
  | getHealthInfo => exact execGetHealthInfo_keep _ _ _ ht
  | getPoisonList => exact execGetPoisonList_keep _ _ _ ht
  | dictionaryPlain => exact execDictionaryPlain_keep _ _ _ _ ht
  | ownerStagingWrite => exact execOwnerStagingWrite_keep _ _ _ _ _ _ _ _ ht
  | unsupportedCommand => exact execUnsupportedCommand_keep _ _ _ ht
  | cxlMemRead => exact execCxlMemRead_keep _ _ _ _ _ ht
  | cxlMemWrite => exact execCxlMemWrite_keep _ _ _ _ ht
  | cxlLinkChange => exact .of_eq (execCxlLinkChange_keep _ _ ht)
  | dictionaryMirrorRefresh => exact execDictionaryMirrorRefresh_keep _ ht
  | bridgeCrcFail => exact .of_eq (execBridgeCrcFail_keep _ _ _ _ _ _ ht)
  | referenceLoss => exact .of_eq (execReferenceLoss_keep _ ht)
  | referenceRestored => exact .of_eq (execReferenceRestored_keep _ ht)
  | crystalLoss => exact .of_eq (execCrystalLoss_keep _ ht)
  | crystalReturn => exact .of_eq (execCrystalReturn_keep _ ht)
  | pllLockLoss => exact .of_eq (execPllLockLoss_keep _ _ ht)
  | enginePllRelock => exact .of_eq (execEnginePllRelock_keep _ ht)
  | enginePllEnable => exact .of_eq (execEnginePllEnable_keep _ _ _ ht)
  | siderealRead => exact .of_eq (execSiderealRead_keep _ _ ht)
  | readClearRegister => exact execReadClearRegister_keep _ _ _ _ ht
  | registerWrite => exact execRegisterWrite_keep _ _ _ _ _ ht
  | engAperWrite => exact .of_eq (execEngAperWrite_keep _ _ _ ht)
  | interruptSource => exact .of_eq (execInterruptSource_keep _ _ _ _ ht)
  | icuClaim => exact .of_eq (execIcuClaim_keep _ _ ht)
  | icuComplete => exact .of_eq (execIcuComplete_keep _ _ _ ht)
  | icuPswp => exact .of_eq (execIcuPswp_keep _ _ _ ht)
  | icuSswp => exact .of_eq (execIcuSswp_keep _ _ _ ht)
  | icuXsig => exact .of_eq (execIcuXsig_keep _ _ _ _ ht)
  | icuSwp => exact .of_eq (execIcuSwp_keep _ _ _ _ ht)
  | icuRouteWrite => exact .of_eq (execIcuRouteWrite_keep _ _ _ _ ht)
  | icuFaultClear => exact .of_eq (execIcuFaultClear_keep _ _ ht)
  | busPrebiasCheck => exact .of_eq (execBusPrebiasCheck_keep _ ht)
  | engineWakeComplete => exact execEngineWakeComplete_keep _ ht
  | learningStateMirror => exact .of_eq (execLearningStateMirror_keep _ ht)
  | sessionOpenReassemblyTimeout => exact .of_eq (execSessionOpenReassemblyTimeout_keep _ ht)
  | linkBelow1150 => exact .of_eq (execLinkBelow1150_keep _ _ ht)
  | leadMeridianDrive => exact .of_eq (execLeadMeridianDrive_keep _ ht)
  | epochOwnGridOpen => exact execEpochOwnGridOpen_keep _ _ ht
  | sisterAckTimeout => exact .of_eq (execSisterAckTimeout_keep _ _ ht)
  | sisterIdleBlock => exact .of_eq (execSisterIdleBlock_keep _ _ ht)
  | passphraseDurationEnd => exact .of_eq (execPassphraseDurationEnd_keep _ _ ht)

/-- Settles O52: every command keeps the form, and a step on an empty queue leaves the state. -/
theorem stepKeepsMemoryCanonical : Obligations.StepKeepsMemoryCanonical := by
  unfold Obligations.StepKeepsMemoryCanonical
  intro s t hs h
  unfold step at h
  split at h
  · obtain rfl := Host.Outcome.next.inj h
    exact hs
  · obtain ⟨hwf, -⟩ := exec_keep _ _ t h
    exact hwf hs

end Sys2Proof.Machine

/-! PROOFS. The stack read after a write (R157), and the arithmetic of the tiles (R146 to R152): block sums in any order, blocks
with a NaN or of zeros, conversion of a finite code, and what conversion gives at the ends of a format. -/
namespace Sys2Proof.Machine

/-- Settles O55: one byte, many bytes, a number, and the form, each by its law of memory. -/
theorem dramReadsWhatWasWritten : Obligations.DramReadsWhatWasWritten := by
  unfold Obligations.DramReadsWhatWasWritten
  refine ⟨fun m a v => ?_, fun m a b v h => ?_, fun m a l i h => memRead_memWriteAll_of_inside l m a i h,
    fun m a l b h => memRead_memWriteAll_of_outside l m a b h, fun s a n v h => ?_, wf_memWriteAll⟩
  · rw [memRead_memWrite, if_pos rfl]
  · rw [memRead_memWrite, if_neg h]
  · rw [dramN_dramPut, Nat.mod_eq_of_lt h]

/-! ## Block sums and the tree (R151, R152) -/

theorem sumI_perm {l m : List Int} (h : l.Perm m) : sumI l = sumI m :=
  h.foldl_eq' (fun x _ y _ z => by omega) 0

theorem exactPartial_perm {l m : List (Exact × Exact)} (h : l.Perm m) : exactPartial l = exactPartial m := by
  have hp : (l.map fun p => mulExact p.1 p.2).Perm (m.map fun p => mulExact p.1 p.2) := h.map _
  simp only [exactPartial, hp.contains_eq, sumI_perm (hp.map (overDen (2 ^ 254)))]

/-! ## MX blocks (R149) -/

theorem foldl_largerMag_zero {l : List Exact} (h : ∀ x ∈ l, ∃ neg d, x = .fin neg 0 d) :
    (l.map magOf).foldl largerMag (some (0, 1)) = some (0, 1) := by
  induction l with
  | nil => rfl
  | cons x l ih =>
    obtain ⟨⟨neg, d, rfl⟩, hl⟩ := List.forall_mem_cons.mp h
    have hx : largerMag (some (0, 1)) (magOf (.fin neg 0 d)) = some (0, 1) := by simp [largerMag, magOf]
    rw [List.map_cons, List.foldl_cons, hx, ih hl]

theorem mxQuantise_nan (k : Fmt) {l : List Exact} (h : Exact.nan ∈ l) :
    mxQuantise k l = (0xFF, l.map (fun _ => 0), 0) := by
  rw [mxQuantise, if_pos (List.contains_iff_mem.mpr h)]

theorem mxQuantise_zeros (k : Fmt) {l : List Exact} (h : ∀ x ∈ l, ∃ neg d, x = .fin neg 0 d) :
    mxQuantise k l = (0, l.map (fun _ => 0), 0) := by
  have hnan : ¬ l.contains Exact.nan = true := fun hc => by
    obtain ⟨neg, d, hx⟩ := h _ (List.contains_iff_mem.mp hc)
    exact Exact.noConfusion hx
  rw [mxQuantise, if_neg hnan]
  dsimp only
  rw [foldl_largerMag_zero h]
  rfl

/-! ## Conversion (R146, R148) -/

theorem lt_bitLen {k : Nat} : ∀ {fuel n : Nat}, k < fuel → 2 ^ k ≤ n → k < bitLen fuel n := by
  induction k with
  | zero =>
    intro fuel n hf hn
    obtain ⟨fuel, rfl⟩ := Nat.exists_eq_succ_of_ne_zero (Nat.ne_zero_of_lt hf)
    rw [bitLen, if_neg (by omega)]
    omega
  | succ k ih =>
    intro fuel n hf hn
    obtain ⟨fuel, rfl⟩ := Nat.exists_eq_succ_of_ne_zero (Nat.ne_zero_of_lt hf)
    have hpos : 0 < 2 ^ k := Nat.two_pow_pos k
    have hhalf : 2 ^ k ≤ n / 2 := by rw [Nat.pow_succ] at hn; omega
    have := ih (fuel := fuel) (by omega) hhalf
    rw [bitLen, if_neg (by omega)]
    omega

theorem bitLen_le {fuel : Nat} : ∀ {k n : Nat}, n < 2 ^ k → bitLen fuel n ≤ k := by
  induction fuel with
  | zero => intro k n _; exact Nat.zero_le k
  | succ fuel ih =>
    intro k n hn
    rw [bitLen]
    split
    · exact Nat.zero_le k
    · cases k with
      | zero => omega
      | succ k =>
        have := ih (k := k) (n := n / 2) (by rw [Nat.pow_succ] at hn; omega)
        omega

theorem two_pow_le_of_lt_bitLen {fuel : Nat} : ∀ {k n : Nat}, k < bitLen fuel n → 2 ^ k ≤ n := by
  induction fuel with
  | zero => intro k n h; exact absurd h (Nat.not_lt_zero k)
  | succ fuel ih =>
    intro k n h
    rw [bitLen] at h
    split at h
    · exact absurd h (Nat.not_lt_zero k)
    · cases k with
      | zero => omega
      | succ k =>
        have := ih (k := k) (n := n / 2) (by omega)
        rw [Nat.pow_succ]
        omega

theorem div_le_rneNat (num den : Nat) : num / den ≤ rneNat num den := by
  unfold rneNat
  dsimp only
  (repeat' split) <;> omega

theorem rneNat_mul (g : Nat) {d : Nat} (hd : 0 < d) : rneNat (g * d) d = g := by
  unfold rneNat
  dsimp only
  rw [Nat.mul_mod_left, Nat.mul_div_cancel g hd, if_neg (by omega), if_neg (by omega)]

/-- A magnitude of at most `m + 1` bits above the step of the subnormals is not rounded. -/
theorem roundMag_mul {m low g j : Nat} (hg : g < 2 ^ (m + 1)) (hj : low ≤ j) :
    roundMag m low (g * 2 ^ j) 1 = g * 2 ^ j := by
  have hlt : g * 2 ^ j < 2 ^ (m + 1 + j) := by
    rw [Nat.pow_add]
    exact Nat.mul_lt_mul_of_pos_right hg (Nat.two_pow_pos j)
  have hlen : bitLen 900 (g * 2 ^ j) ≤ m + 1 + j := bitLen_le hlt
  unfold roundMag
  dsimp only
  rw [Nat.div_one, Nat.one_mul]
  generalize he : max low (bitLen 900 (g * 2 ^ j) - (m + 1)) = e
  have hsplit : g * 2 ^ j = g * 2 ^ (j - e) * 2 ^ e := by
    rw [Nat.mul_assoc, ← Nat.pow_add, Nat.sub_add_cancel (by omega)]
  rw [hsplit, rneNat_mul _ (Nat.two_pow_pos e)]

theorem codeOfMag_subnormal {m low f : Nat} (hf : f < 2 ^ m) : codeOfMag m low (f * 2 ^ low) = f := by
  have hlt : f * 2 ^ low < 2 ^ (m + low) := by
    rw [Nat.pow_add]
    exact Nat.mul_lt_mul_of_pos_right hf (Nat.two_pow_pos low)
  rw [codeOfMag, if_pos hlt, Nat.mul_div_cancel f (Nat.two_pow_pos low)]

theorem codeOfMag_normal {m low f i : Nat} (hf : f < 2 ^ m) (hi : m + low + i < 900) :
    codeOfMag m low ((2 ^ m + f) * 2 ^ (low + i)) = (i + 1) * 2 ^ m + f := by
  have hge : 2 ^ (m + low + i) ≤ (2 ^ m + f) * 2 ^ (low + i) := by
    rw [Nat.add_assoc, Nat.pow_add]
    exact Nat.mul_le_mul_right _ (Nat.le_add_right _ f)
  have hlt : (2 ^ m + f) * 2 ^ (low + i) < 2 ^ (m + low + i + 1) := by
    rw [show m + low + i + 1 = m + 1 + (low + i) by omega, Nat.pow_add _ (m + 1)]
    have hg : 2 ^ m + f < 2 ^ (m + 1) := by rw [Nat.pow_succ]; omega
    exact Nat.mul_lt_mul_of_pos_right hg (Nat.two_pow_pos _)
  have hlen : bitLen 900 ((2 ^ m + f) * 2 ^ (low + i)) = m + low + i + 1 :=
    Nat.le_antisymm (bitLen_le hlt) (lt_bitLen hi hge)
  have hbig : ¬ (2 ^ m + f) * 2 ^ (low + i) < 2 ^ (m + low) :=
    Nat.not_lt.mpr (Nat.le_trans (Nat.pow_le_pow_right (by omega) (by omega)) hge)
  rw [codeOfMag, if_neg hbig, hlen]
  dsimp only
  rw [show m + low + i + 1 - 1 - m = low + i by omega, Nat.mul_div_cancel _ (Nat.two_pow_pos _), Nat.add_sub_cancel_left,
    Nat.add_sub_cancel_left]

/-- The magnitude of a code is exact, and its code is that of its exponent and its fraction. -/
theorem roundMag_floatMag {m bias e f : Nat} (hb : bias + m < 150) (hf : f < 2 ^ m) (he : e < 512) :
    roundMag m (150 - bias - m) (floatMag m bias e f) 1 = floatMag m bias e f ∧
      codeOfMag m (150 - bias - m) (floatMag m bias e f) = e * 2 ^ m + f := by
  unfold floatMag
  split
  · rename_i h
    rw [h, Nat.zero_mul, Nat.zero_add]
    exact ⟨roundMag_mul (by rw [Nat.pow_succ]; omega) (Nat.le_refl _), codeOfMag_subnormal hf⟩
  · obtain ⟨i, rfl⟩ := Nat.exists_eq_succ_of_ne_zero ‹¬ e = 0›
    rw [show 149 + (i + 1) - bias - m = 150 - bias - m + i by omega]
    exact ⟨roundMag_mul (by rw [Nat.pow_succ]; omega) (Nat.le_add_right _ i), codeOfMag_normal hf (by omega)⟩

/-- A number is its sign, its exponent and its fraction. -/
theorem code_eq_fields {m eb c : Nat} (hc : c < 2 ^ (m + eb + 1)) :
    (if bit c (m + eb) then 2 ^ (m + eb) + (field c m eb * 2 ^ m + field c 0 m) else field c m eb * 2 ^ m + field c 0 m) = c := by
  have hlow : field c m eb * 2 ^ m + field c 0 m = c % 2 ^ (m + eb) := by
    rw [field, field, Nat.pow_zero, Nat.div_one, Nat.pow_add, Nat.mod_mul, Nat.mul_comm, Nat.add_comm]
  have htop : c / 2 ^ (m + eb) < 2 := by
    rw [Nat.pow_succ] at hc
    exact Nat.div_lt_of_lt_mul hc
  have hdiv := Nat.div_add_mod c (2 ^ (m + eb))
  rw [hlow, bit, Nat.testBit_eq_decide_div_mod_eq]
  generalize c / 2 ^ (m + eb) = q at htop hdiv ⊢
  have hq : q = 0 ∨ q = 1 := by omega
  rcases hq with rfl | rfl
  · rw [if_neg (by decide)]
    omega
  · rw [if_pos (by decide)]
    omega

/-- A finite code of a floating-point format whose magnitude is none above the largest converts to itself. -/
theorem convert_float {k : Fmt} {m bias eb c : Nat} (hk : k.float = some (m, bias, eb)) (hb : bias + m < 150) (he : eb < 10)
    (hc : c < 2 ^ (m + eb + 1))
    (htop : floatMag m bias (field c m eb) (field c 0 m) ≤
      floatMag m bias (field k.maxCode m eb) (field k.maxCode 0 m)) :
    k.convert (.fin (bit c (m + eb)) (floatMag m bias (field c m eb) (field c 0 m)) 1) = (c, false) := by
  have hexp : field c m eb < 2 ^ 9 := Nat.lt_of_lt_of_le (Nat.mod_lt _ (Nat.two_pow_pos eb))
    (Nat.pow_le_pow_right (by omega) (by omega))
  have hfrac : field c 0 m < 2 ^ m := Nat.mod_lt _ (Nat.two_pow_pos m)
  obtain ⟨hround, hcode⟩ := roundMag_floatMag hb hfrac hexp
  unfold Fmt.convert
  rw [hk]
  dsimp only
  rw [hround, if_pos htop, hcode]
  exact congrArg (·, false) (code_eq_fields hc)

theorem value_float {k : Fmt} {m bias eb c n : Nat} {neg : Bool} (hk : k.float = some (m, bias, eb))
    (hv : k.value c = .fin neg n 1) : neg = bit c (m + eb) ∧ n = floatMag m bias (field c m eb) (field c 0 m) := by
  unfold Fmt.value at hv
  rw [hk] at hv
  dsimp only at hv
  split at hv
  · split at hv <;> exact Exact.noConfusion hv
  · split at hv
    · exact Exact.noConfusion hv
    · obtain ⟨rfl, rfl, -⟩ := Exact.fin.inj hv
      exact ⟨rfl, rfl⟩

/-- No finite code of a format of few bits lies above the largest. -/
theorem floatMag_le_top : ∀ k ∈ [Fmt.e4m3, Fmt.e5m2, Fmt.mxfp8, Fmt.mxfp4], ∀ p ∈ k.float, ∀ c < 2 ^ k.bits,
    k.value c = .nan ∨ (∃ neg, k.value c = .inf neg) ∨ floatMag p.1 p.2.1 (field c p.1 p.2.2) (field c 0 p.1) ≤
      floatMag p.1 p.2.1 (field k.maxCode p.1 p.2.2) (field k.maxCode 0 p.1) := by
  decide +kernel

theorem float_small : ∀ k ∈ [Fmt.e4m3, Fmt.e5m2, Fmt.mxfp8, Fmt.mxfp4], ∃ p ∈ k.float,
    p.2.1 + p.1 < 150 ∧ p.2.2 < 10 ∧ k.bits = p.1 + p.2.2 + 1 := by
  intro k hk
  fin_cases hk <;> exact ⟨_, rfl, by decide⟩

theorem convert_finite_float {k : Fmt} {c : Nat} (hk : k ∈ [Fmt.e4m3, Fmt.e5m2, Fmt.mxfp8, Fmt.mxfp4])
    (hc : c < 2 ^ k.bits) (hf : ∃ neg n, k.value c = .fin neg n 1) : k.convert (k.value c) = (c, false) := by
  obtain ⟨neg, n, hv⟩ := hf
  obtain ⟨p, hp, hb, he, hbits⟩ := float_small k hk
  obtain ⟨hneg, hn⟩ := value_float hp hv
  rcases floatMag_le_top k hk p hp c hc with h | ⟨sign, h⟩ | htop
  · exact Exact.noConfusion (hv.symm.trans h)
  · exact Exact.noConfusion (hv.symm.trans h)
  · rw [hv, hneg, hn]
    exact convert_float hp hb he (hbits ▸ hc) htop

theorem convert_value_int8 : ∀ c < 256, Fmt.convert .int8 (Fmt.value .int8 c) = (c, false) := by decide +kernel

theorem convert_finite_code {k : Fmt} {c : Nat} (hk : k ∈ [Fmt.e4m3, Fmt.e5m2, Fmt.mxfp8, Fmt.mxfp4, Fmt.int8])
    (hc : c < 2 ^ k.bits) (hf : ∃ neg n, k.value c = .fin neg n 1) : k.convert (k.value c) = (c, false) := by
  rcases List.mem_append.mp (show k ∈ [Fmt.e4m3, Fmt.e5m2, Fmt.mxfp8, Fmt.mxfp4] ++ [Fmt.int8] from hk) with h | h
  · exact convert_finite_float h hc hf
  · obtain rfl := List.mem_singleton.mp h
    exact convert_value_int8 c hc

/-- Rounding never falls below the power of 2 that a magnitude reaches. -/
theorem two_pow_le_roundMag {m low n k : Nat} (hk : k < 900) (hlow : low ≤ k) (hn : 2 ^ k ≤ n) :
    2 ^ k ≤ roundMag m low n 1 := by
  unfold roundMag
  dsimp only
  rw [Nat.div_one, Nat.one_mul]
  have hlen : k < bitLen 900 n := lt_bitLen hk hn
  generalize he : max low (bitLen 900 n - (m + 1)) = e
  have hle : e ≤ bitLen 900 n - 1 := by omega
  have hpow : 2 ^ (bitLen 900 n - 1) ≤ n := two_pow_le_of_lt_bitLen (fuel := 900) (by omega)
  rw [← Nat.sub_add_cancel hle, Nat.pow_add] at hpow
  calc 2 ^ k ≤ 2 ^ (bitLen 900 n - 1) := Nat.pow_le_pow_right (by omega) (by omega)
    _ = 2 ^ (bitLen 900 n - 1 - e) * 2 ^ e := by rw [← Nat.pow_add, Nat.sub_add_cancel hle]
    _ ≤ rneNat n (2 ^ e) * 2 ^ e := Nat.mul_le_mul_right _ <| Nat.le_trans
        ((Nat.le_div_iff_mul_le (Nat.two_pow_pos e)).mpr hpow) (div_le_rneNat n (2 ^ e))

/-- Below the next power of 2 the step of the mantissa is fixed. -/
theorem roundMag_binade {m low n k : Nat} (hk : k < 900) (hlow : low + m ≤ k) (hn : 2 ^ k ≤ n) (hlt : n < 2 ^ (k + 1)) :
    roundMag m low n 1 = rneNat n (2 ^ (k - m)) * 2 ^ (k - m) := by
  have hlen : bitLen 900 n = k + 1 := Nat.le_antisymm (bitLen_le hlt) (lt_bitLen hk hn)
  have he : max low (k + 1 - (m + 1)) = k - m := by omega
  unfold roundMag
  dsimp only
  rw [Nat.div_one, Nat.one_mul, hlen, he]

theorem roundMag_e4m3 {n : Nat} (h : 480 * 2 ^ 149 ≤ n) : 448 * 2 ^ 149 < roundMag 3 140 n 1 := by
  by_cases hlt : n < 2 ^ 158
  · have hr : roundMag 3 140 n 1 = rneNat n (2 ^ 154) * 2 ^ 154 :=
      roundMag_binade (k := 157) (by omega) (by omega) (by omega) hlt
    have := div_le_rneNat n (2 ^ 154)
    omega
  · have := two_pow_le_roundMag (m := 3) (low := 140) (k := 158) (n := n) (by omega) (by omega) (by omega)
    omega

theorem roundMag_fp16 {n : Nat} (h : 65520 * 2 ^ 149 ≤ n) : 65504 * 2 ^ 149 < roundMag 10 125 n 1 := by
  by_cases hlt : n < 2 ^ 165
  · have hr : roundMag 10 125 n 1 = rneNat n (2 ^ 154) * 2 ^ 154 :=
      roundMag_binade (k := 164) (by omega) (by omega) (by omega) hlt
    have hup : rneNat n (2 ^ 154) = 2048 := by
      unfold rneNat
      dsimp only
      (repeat' split) <;> omega
    omega
  · have := two_pow_le_roundMag (m := 10) (low := 125) (k := 165) (n := n) (by omega) (by omega) (by omega)
    omega

theorem convert_e4m3_saturates (neg : Bool) {n : Nat} (h : 480 * 2 ^ 149 ≤ n) :
    Fmt.convert .e4m3 (.fin neg n 1) = (if neg then 0xFE else 0x7E, true) :=
  (if_neg (Nat.not_le.mpr (roundMag_e4m3 h))).trans (by cases neg <;> rfl)

theorem convert_fp16_infinite (neg : Bool) {n : Nat} (h : 65520 * 2 ^ 149 ≤ n) :
    Fmt.convert .fp16 (.fin neg n 1) = (if neg then 0xFC00 else 0x7C00, false) :=
  (if_neg (Nat.not_le.mpr (roundMag_fp16 h))).trans (by cases neg <;> rfl)

theorem toTwos_neg_ne {v : Nat} (h : v ≤ 127) : toTwos (-(v : Int)) 8 ≠ 0x80 := by
  unfold toTwos
  omega

theorem convert_mxint8_ne (x : Exact) : (Fmt.convert .mxint8 x).1 ≠ 0x80 := by
  cases x with
  | nan => decide
  | inf neg => cases neg <;> decide
  | fin neg num den =>
    change (if neg then (if rneNat num (den * Fmt.step .mxint8) ≤ 127 then _ else _) else
      (if rneNat num (den * Fmt.step .mxint8) ≤ 127 then _ else _) : Nat × Bool).1 ≠ 0x80
    generalize rneNat num (den * Fmt.step .mxint8) = v
    split
    · split
      · rename_i hv
        exact toTwos_neg_ne hv
      · decide
    · split
      · rename_i hv
        exact fun hc => by rw [show v = 0x80 from hc] at hv; omega
      · decide

/-- Settles O60: each clause by the law of its operation; a finite code is exact, so that its conversion gives it back. -/
theorem tileArithmetic : Obligations.TileArithmetic := by
  unfold Obligations.TileArithmetic
  exact ⟨fun l m h => exactPartial_perm h, fun a b c d => ⟨rfl, rfl, rfl, rfl⟩, fun k l h => mxQuantise_nan k h,
    fun k l h => mxQuantise_zeros k h, fun k c hk hc hf => convert_finite_code hk hc hf,
    fun neg n h => convert_e4m3_saturates neg h, fun neg n h => convert_fp16_infinite neg h, convert_mxint8_ne⟩

end Sys2Proof.Machine

/-! PROOFS. What fault records, crossings and writes to the stack leave alone (R157, R227 to R230, R476 to R482), and CXL.mem with
its link and its mirrors (R408, R440 to R446, R454, R462). -/
namespace Sys2Proof.Machine

/-! ## The dictionary store after a count -/

theorem dget_bump_ne (s : State) (o e : Nat) {o' e' : Nat} (h : dkey o' e' ≠ dkey o e) :
    dget (bump s o e) o' e' = dget s o' e' := dget_dset_ne _ _ _ _ _ _ h

theorem dget_bumpN_ne (s : State) (o e n : Nat) {o' e' : Nat} (h : dkey o' e' ≠ dkey o e) :
    dget (bumpN s o e n) o' e' = dget s o' e' := dget_dset_ne _ _ _ _ _ _ h

/-! ## Fault records (R227 to R230) -/

theorem exists_mem_mergeInto {s : State} {b c : Nat} {l : List Record} (h : ∃ r ∈ l, mergesWith s b c r = true) :
    ∃ f ∈ mergeInto s b c l, f.block = b ∧ f.cause = c := by
  induction l with
  | nil => simp at h
  | cons r l ih =>
    rw [mergeInto]
    split
    · rename_i hr
      simp only [mergesWith, Bool.and_eq_true, beq_iff_eq] at hr
      exact ⟨_, List.mem_cons_self, hr.1⟩
    · rename_i hr
      obtain ⟨q, hq, hm⟩ := h
      rcases List.mem_cons.mp hq with rfl | hq
      · exact absurd hm hr
      · obtain ⟨f, hf, hbc⟩ := ih ⟨q, hq, hm⟩
        exact ⟨f, List.mem_cons_of_mem _ hf, hbc⟩

/-- Written or merged, a record of the block and the cause is in the ring. -/
theorem exists_mem_of_recorded {u t : State} {b v c : Nat} (h : Recorded u t b v c) :
    ∃ f ∈ t.recs.ring, f.block = b ∧ f.cause = c := by
  rcases h with ⟨-, r, hring, hb, -, hc, -⟩ | ⟨-, -, hm, hring⟩
  · rw [hring]
    exact ⟨r, by simp, hb, hc⟩
  · rw [hring]
    exact exists_mem_mergeInto hm

theorem exists_mem_writeRecB (s : State) (b v c body : Nat) :
    ∃ f ∈ (writeRecB s b v c body).recs.ring, f.block = b ∧ f.cause = c :=
  exists_mem_of_recorded (wrote_writeRecB s b v c body).1

/-- What a record of any severity may touch. -/
theorem writeRecB_frame (s : State) (b v c body : Nat) :
    ∃ recs due left step stop bad, writeRecB s b v c body =
      { s with recs := recs, trc.snapDue := due, trc.snapLeft := left, fac.stepDue := step, trc.recStop := stop
               sec.trialBad := bad } :=
  ⟨_, _, _, _, _, _, (wrote_writeRecB s b v c body).2⟩

@[simp] theorem writeRecB_net (s : State) (b v c body : Nat) : (writeRecB s b v c body).net = s.net := by
  obtain ⟨_, _, _, _, _, _, h⟩ := writeRecB_frame s b v c body
  rw [h]

/-- An event or a warning touches the ring alone. -/
theorem writeRecB_frame_of_lt {v : Nat} (s : State) (b c body : Nat) (hv : v < 2) :
    ∃ ring seq, writeRecB s b v c body = { s with recs.ring := ring, recs.seq := seq } := by
  have h2 : ¬ 2 ≤ v := by omega
  have h3 : ¬ 3 ≤ v := by omega
  unfold writeRecB
  split
  · exact ⟨_, _, rfl⟩
  · refine ⟨(newRecord s b v c body :: s.recs.ring).take 512, s.recs.seq + 1, ?_⟩
    simp [faultPaths, newRecord, h2, h3]

/-! ## Crossings (R476 to R482) -/

/-- `t` is `s` with at most its crossings changed, and events and warnings written. -/
def CrossFrame (s t : State) : Prop :=
  t = { s with power := t.power, recs.ring := t.recs.ring, recs.seq := t.recs.seq }

theorem CrossFrame.trans {s t u : State} (h : CrossFrame s t) (k : CrossFrame t u) : CrossFrame s u := by
  unfold CrossFrame at *
  rw [k, h]

theorem crossRec_frame (s : State) (cls i n : Nat) : CrossFrame s (crossRec s cls i n) := by
  unfold crossRec
  dsimp only
  split
  · rfl
  · obtain ⟨ring, seq, h⟩ := writeRecB_frame_of_lt
      { s with power.xTicks := mset s.power.xTicks (32 * cls + i) (s.epo.ticks + 1) } 10 (2 + cls)
      (packAt [(0, 1, 0xFF), (1, 1, cls), (2, 1, i), (4, 4, n)]) (v := if cls = 0 then 1 else 0) (by split <;> omega)
    rw [h]
    rfl

theorem setLost_frame (s : State) (i : Nat) : CrossFrame s (setLost s i) := by
  unfold setLost
  split
  · rfl
  · exact .trans (t := { s with power.xlost := setBit s.power.xlost i true }) rfl (crossRec_frame _ 0 i 1)

theorem resetPulse_frame (s : State) (i : Nat) : CrossFrame s (resetPulse s i) := by
  unfold resetPulse
  dsimp only
  split
  · exact .trans (t := { s with power.pulseCount := mdel s.power.pulseCount i }) rfl (setLost_frame _ i)
  · rfl

theorem resetFifo_frame (s : State) (f n : Nat) : CrossFrame s (resetFifo s f n) := by
  unfold resetFifo
  split
  · rfl
  · exact .trans (t := dropEntries s f n) rfl (crossRec_frame _ 1 f n)

/-! ## Writes to the stack (R157, R443, R445, R446) -/

theorem dramPut_frame (s : State) (a n v : Nat) : ∃ m, dramPut s a n v = { s with net.dram := m } := ⟨_, rfl⟩

theorem dramBytes_frame (s : State) (a : Nat) (l : List Byte) : ∃ m, dramBytes s a l = { s with net.dram := m } := ⟨_, rfl⟩

/-- Writes to the stack in a row touch it alone. -/
theorem foldl_dram_frame {α : Type} {f : State → α → State} (hf : ∀ s a, ∃ m, f s a = { s with net.dram := m }) (l : List α) :
    ∀ s, ∃ m, l.foldl f s = { s with net.dram := m } := by
  induction l with
  | nil => exact fun s => ⟨s.net.dram, rfl⟩
  | cons a l ih =>
    intro s
    obtain ⟨m, h⟩ := hf s a
    obtain ⟨m', h'⟩ := ih { s with net.dram := m }
    exact ⟨m', by rw [List.foldl_cons, h, h']⟩

theorem mirrorObj_frame (base : Nat) (st : State × Nat) (p : Nat × Desc) :
    ∃ m, (mirrorObj base st p).1 = { st.1 with net.dram := m } := by
  unfold mirrorObj
  dsimp only
  obtain ⟨m, h⟩ := dramPut_frame st.1 (base + 0x1000 + 8 * p.1) 8
    (st.2 + (elemsBytes p.2 p.1 0 p.2.elems (readVal st.1)).length * 2 ^ 32)
  rw [h]
  exact dramBytes_frame _ _ _

theorem foldl_mirrorObj_frame (base : Nat) (l : List (Nat × Desc)) :
    ∀ st, ∃ m, (l.foldl (mirrorObj base) st).1 = { st.1 with net.dram := m } := by
  induction l with
  | nil => exact fun st => ⟨st.1.net.dram, rfl⟩
  | cons p l ih =>
    intro st
    obtain ⟨m, h⟩ := mirrorObj_frame base st p
    obtain ⟨m', h'⟩ := ih (mirrorObj base st p)
    exact ⟨m', by rw [List.foldl_cons, h', h]⟩

theorem mirror_frame (s : State) (base role : Nat) : ∃ m, mirror s base role = { s with net.dram := m } := by
  obtain ⟨m, h⟩ := dramPut_frame s (base + 8) 6 s.epo.count
  unfold mirror
  dsimp only
  rw [h]
  exact foldl_mirrorObj_frame base _ _

theorem mirrorsAt_frame (s : State) :
    ∃ m, mirrorsAt s =
      { s with net.dram := m, net.mirrorSeq := s.net.mirrorSeq + 2, net.mirrorEpoch := s.epo.count } := by
  obtain ⟨m, h⟩ := mirror_frame s ld0Base 0
  obtain ⟨m', h'⟩ := mirror_frame { s with net.dram := m } ld2Base 2
  obtain ⟨m'', h''⟩ := dramPut_frame { s with net.dram := m' } ld0Base 8 (s.net.mirrorSeq + 2)
  obtain ⟨m''', h'''⟩ := dramPut_frame { s with net.dram := m'' } ld2Base 8 (s.net.mirrorSeq + 2)
  unfold mirrorsAt
  dsimp only
  rw [h, h', h'', h''']
  exact ⟨m''', rfl⟩

theorem refreshArchive_frame (s : State) :
    ∃ m, refreshArchive s = { s with net.dram := m, net.archiveSeq := s.net.archiveSeq + 2 } := by
  unfold refreshArchive
  dsimp only
  obtain ⟨m, h⟩ := foldl_dram_frame (f := fun s v =>
    dramPut s (archive + 0x40000000 + 64 * (fieldAt v 4 4 % 2 ^ 24)) 64 v) (fun _ _ => dramPut_frame _ _ _ _)
    (s.fac.minutes.map (·.2)) s
  rw [h]
  obtain ⟨m', h'⟩ := foldl_dram_frame (f := fun s (p : Nat × Nat) =>
    dramPut s (archive + 0x80000000 + 32 * (p.1 % 2 ^ 25)) 32 p.2) (fun _ _ => dramPut_frame _ _ _ _) s.fac.events
    { s with net.dram := m }
  rw [h']
  obtain ⟨m'', h''⟩ := foldl_dram_frame (f := fun s v =>
    dramPut s (archive + 0xC0000000 + 8192 * ((fieldAt v 4 4 + 1) / 60 % 2 ^ 19)) (min (varLen 8192 v) 8192) v)
    (fun _ _ => dramPut_frame _ _ _ _) (s.fac.seals.map (·.2)) { s with net.dram := m' }
  rw [h'']
  exact dramPut_frame { s with net.dram := m'', net.archiveSeq := s.net.archiveSeq + 2 } _ _ _

theorem mirrorRefresh_live {s : State} (h : s.power.mstate = .live) :
    ∃ m, exec .dictionaryMirrorRefresh s = .next { s with
      net.dram := m, net.mirrorSeq := s.net.mirrorSeq + 2, net.mirrorEpoch := s.epo.count
      net.archiveSeq := s.net.archiveSeq + 2 } := by
  have hrow : exec .dictionaryMirrorRefresh s = execDictionaryMirrorRefresh s := rfl
  have hlive : inLive s = true := beq_iff_eq.mpr h
  obtain ⟨m, hm⟩ := mirrorsAt_frame s
  obtain ⟨m', ha⟩ := refreshArchive_frame (mirrorsAt s)
  rw [hrow, execDictionaryMirrorRefresh, if_pos hlive, ha, hm]
  exact ⟨m', rfl⟩

theorem mirrorRefresh_elsewhere {s : State} (h : s.power.mstate ≠ .live) : exec .dictionaryMirrorRefresh s = .next s :=
  if_neg (mt beq_iff_eq.mp h)

/-! ## CXL.mem (R441, R442, R444, R454) -/

theorem cxlOn_of_live {s : State} (h : s.power.mstate = .live) : cxlOn s = true := by
  simp [cxlOn, h]

theorem memServed_of_live {s : State} (h : s.power.mstate = .live) (hb : s.power.bridgeFailed.contains 4 = false) :
    memServed s = true := by
  simp only [memServed, inLive, h, hb, beq_self_eq_true, Bool.not_false, Bool.and_self]

theorem memServed_of_cut {s : State} (h : s.power.mstate ≠ .live ∨ s.power.bridgeFailed.contains 4 = true) :
    memServed s = false := by
  rcases h with h | h
  · rw [memServed, inLive, beq_false_of_ne h, Bool.false_and]
  · rw [memServed, h, Bool.not_true, Bool.and_false]

theorem cxlMemRead_served {s : State} (h : s.power.mstate = .live) (hb : s.power.bridgeFailed.contains 4 = false)
    (ld off len : Nat) (bad : Bool) :
    exec (.cxlMemRead ld off len bad) s =
      if ldSize ld < off + len then .fault (.noSuchAddress ld off)
      else if bad then .next (readError s ld off len)
      else .next (memDone s ld (memReadAll s.net.dram (ldBase ld + off) len) false) := by
  have hrow : exec (.cxlMemRead ld off len bad) s = execCxlMemRead ld off len bad s := rfl
  simp only [hrow, execCxlMemRead, cxlOn_of_live h, memServed_of_live h hb, Bool.not_true, Bool.false_eq_true, if_false]

theorem cxlMemWrite_served {s : State} (h : s.power.mstate = .live) (hb : s.power.bridgeFailed.contains 4 = false)
    (ld off : Nat) (data : List Byte) :
    exec (.cxlMemWrite ld off data) s =
      if ldSize ld < off + data.length then .fault (.noSuchAddress ld off)
      else if hostWrites ld off data.length then .next (dramBytes s (ldBase ld + off) data)
      else .next (discardWrite s ld off) := by
  have hrow : exec (.cxlMemWrite ld off data) s = execCxlMemWrite ld off data s := rfl
  simp only [hrow, execCxlMemWrite, cxlOn_of_live h, memServed_of_live h hb, Bool.not_true, Bool.false_eq_true, if_false]

theorem cxlMemRead_cut {s : State} (ho : cxlOn s = true)
    (h : s.power.mstate ≠ .live ∨ s.power.bridgeFailed.contains 4 = true) (ld off len : Nat) (bad : Bool) :
    exec (.cxlMemRead ld off len bad) s = .next (bump (memDone s ld (List.replicate len 0xFF#8) false) 0x1012 4) := by
  have hrow : exec (.cxlMemRead ld off len bad) s = execCxlMemRead ld off len bad s := rfl
  simp only [hrow, execCxlMemRead, ho, memServed_of_cut h, Bool.not_true, Bool.not_false, Bool.false_eq_true, if_false,
    if_true]

theorem cxlMemWrite_cut {s : State} (ho : cxlOn s = true)
    (h : s.power.mstate ≠ .live ∨ s.power.bridgeFailed.contains 4 = true) (ld off : Nat) (data : List Byte) :
    exec (.cxlMemWrite ld off data) s = .next (bump s 0x1012 4) := by
  have hrow : exec (.cxlMemWrite ld off data) s = execCxlMemWrite ld off data s := rfl
  simp only [hrow, execCxlMemWrite, ho, memServed_of_cut h, Bool.not_true, Bool.not_false, Bool.false_eq_true, if_false,
    if_true]

theorem windowError_net (s : State) (ld o : Nat) :
    (windowError s ld o).net = { s.net with
      evRecords := s.net.evRecords ++ [(s.net.evHandle, ld, o)], evHandle := s.net.evHandle + 1 } :=
  writeRecB_net _ _ _ _ _

theorem windowError_dic (s : State) (ld o : Nat) : (windowError s ld o).dic = (bump s 0x1012 5).dic :=
  writeRecB_dic _ _ _ _ _

theorem dget_windowError_self (s : State) (ld o : Nat) :
    dget (windowError s ld o) 0x1012 5 = satInc (dget s 0x1012 5) 0xFFFFFFFF := by
  rw [dget_congr (congrArg _ (windowError_dic s ld o)), dget_bump_self]

theorem dget_windowError_ne (s : State) (ld o : Nat) {ob el : Nat} (h : dkey ob el ≠ dkey 0x1012 5) :
    dget (windowError s ld o) ob el = dget s ob el := by
  rw [dget_congr (congrArg _ (windowError_dic s ld o)), dget_bump_ne _ _ _ h]

/-- The inbox and the staging area of LD1 take host writes. -/
theorem hostWrites_ranges {off len : Nat} (h1 : 0xFC000000 ≤ off)
    (h2 : off + len ≤ 0x100000000 ∨ (0x100000000 ≤ off ∧ off + len ≤ 0x200000000)) : hostWrites 1 off len = true := by
  simp only [hostWrites, beq_self_eq_true, Bool.true_and, Bool.or_eq_true, Bool.and_eq_true, decide_eq_true_eq]
  exact h2.imp (⟨h1, ·⟩) id

theorem discardWrite_recorded {s : State} (ld off : Nat) (h : ∀ k, s.net.roTick = some k → k + 1000 ≤ s.epo.ticks) :
    discardWrite s ld off = cxlRec { s with net.roTick := some s.epo.ticks } 1 0x10 ld off := by
  unfold discardWrite
  split
  · rename_i k hk
    exact if_neg (Nat.not_lt.mpr (h k hk))
  · rfl

theorem discardWrite_again {s : State} {k : Nat} (ld off : Nat) (hk : s.net.roTick = some k) (h : s.epo.ticks < k + 1000) :
    discardWrite s ld off = s := by
  simp only [discardWrite, hk, if_pos h]

/-! ## The link (R408, R440) -/

section LinkEvents
variable {s : State} (ho : cxlOn s = true)
include ho

theorem not_cxlOff : ¬ (!cxlOn s) = true := by
  rw [ho]
  exact Bool.false_ne_true

theorem cxlLinkChange_crcFailure : exec (.cxlLinkChange .crcFailure) s = .next (bump s 0x1012 0) := if_neg (not_cxlOff ho)

theorem cxlLinkChange_replay : exec (.cxlLinkChange .replay) s = .next (bump s 0x1012 1) := if_neg (not_cxlOff ho)

theorem cxlLinkChange_retrain :
    exec (.cxlLinkChange .retrain) s = .next { linkFell s 1 with net.retrains := s.net.retrains + 1 } :=
  if_neg (not_cxlOff ho)

theorem cxlLinkChange_lost : exec (.cxlLinkChange .lost) s = .next (linkFell s 0) := if_neg (not_cxlOff ho)

theorem cxlLinkChange_up (w r b : Nat) :
    exec (.cxlLinkChange (.up w r b)) s =
      if withinLimits s w r then
        .next { s with net.cxl := 2, net.cxlWidth := w, net.cxlRate := r, net.cxlBound := b % 16 }
      else .next s :=
  if_neg (not_cxlOff ho)

end LinkEvents

/-- A link that fell is counted and recorded, and its pulse crossings are reset. -/
theorem linkFell_frame (s : State) (n : Nat) :
    ∃ power ring seq, linkFell s n = { s with
        net.cxl := n, net.cxlWidth := 0, net.cxlRate := 0, net.cxlBound := 0
        dic.vals := (bump s 0x1012 2).dic.vals, power := power, recs.ring := ring, recs.seq := seq } ∧
      ∃ f ∈ ring, f.block = 10 ∧ f.cause = 0x11 := by
  have hp : CrossFrame s (resetPulse (resetPulse s 7) 8) := (resetPulse_frame s 7).trans (resetPulse_frame _ 8)
  have hfell : linkFell s n = cxlRec { s with
      net.cxl := n, net.cxlWidth := 0, net.cxlRate := 0, net.cxlBound := 0, dic.vals := (bump s 0x1012 2).dic.vals
      power := (resetPulse (resetPulse s 7) 8).power, recs.ring := (resetPulse (resetPulse s 7) 8).recs.ring
      recs.seq := (resetPulse (resetPulse s 7) 8).recs.seq } 1 0x11 0xFF 0 := by
    unfold linkFell
    dsimp only
    rw [hp]
    rfl
  obtain ⟨ring, seq, hrec⟩ := writeRecB_frame_of_lt { s with
      net.cxl := n, net.cxlWidth := 0, net.cxlRate := 0, net.cxlBound := 0, dic.vals := (bump s 0x1012 2).dic.vals
      power := (resetPulse (resetPulse s 7) 8).power, recs.ring := (resetPulse (resetPulse s 7) 8).recs.ring
      recs.seq := (resetPulse (resetPulse s 7) 8).recs.seq } 10 0x11 (packAt [(0, 1, 0xFF), (4, 8, 0)]) (v := 1) (by omega)
  have hmem : ∃ f ∈ (linkFell s n).recs.ring, f.block = 10 ∧ f.cause = 0x11 := by
    rw [hfell]
    exact exists_mem_writeRecB _ _ _ _ _
  have heq := hfell.trans hrec
  rw [heq] at hmem
  exact ⟨_, ring, seq, heq, hmem⟩

/-- Settles O40: CXL.mem where it is served and where it is cut, each event of the link, and the refresh of the mirrors. -/
theorem cxlMemAndLink : Obligations.CxlMemAndLink := by
  unfold Obligations.CxlMemAndLink
  refine ⟨?read, ?readBeyond, ?writeBeyond, ?readCut, ?writeCut, ?readBad, ?write, ?discard, ?discardAgain, ?lost, ?retrain,
    ?counts, ?up, ?upBeyond, fun s h => ?mirrors, fun s h => mirrorRefresh_elsewhere h⟩
  case read =>
    intro ld off len s hl hb hw
    rw [cxlMemRead_served hl hb, if_neg (Nat.not_lt.mpr hw), if_neg Bool.false_ne_true]
    exact ⟨_, rfl, rfl, rfl⟩
  case readBeyond =>
    intro ld off len b s hl hb hw
    rw [cxlMemRead_served hl hb, if_pos hw]
  case writeBeyond =>
    intro ld off data s hl hb hw
    rw [cxlMemWrite_served hl hb, if_pos hw]
  case readCut =>
    intro ld off len b s ho hc
    exact ⟨_, cxlMemRead_cut ho hc ld off len b, rfl, dget_bump_self _ _ _, rfl⟩
  case writeCut =>
    intro ld off data s ho hc
    exact cxlMemWrite_cut ho hc ld off data
  case readBad =>
    intro ld off len s hl hb hw
    rw [cxlMemRead_served hl hb, if_neg (Nat.not_lt.mpr hw), if_pos rfl]
    have hnet := windowError_net (bump s 0x4182 3) ld off
    refine ⟨_, rfl, rfl, (dget_windowError_self _ ld off).trans ?_, (dget_windowError_ne _ ld off (by decide)).trans ?_,
      congrArg Net.evRecords hnet, congrArg Net.evHandle hnet, exists_mem_writeRecB _ _ _ _ _, (congrArg Net.dram hnet :)⟩
    · rw [dget_bump_ne _ _ _ (by decide)]
    · exact dget_bump_self _ _ _
  case write =>
    intro off data s hl hb h1 h2
    have hsize : ¬ ldSize 1 < off + data.length := by
      have : ldSize 1 = 0x200000000 := rfl
      omega
    rw [cxlMemWrite_served hl hb, if_neg hsize, if_pos (hostWrites_ranges h1 h2)]
    exact ⟨_, rfl, fun i hi => memRead_memWriteAll_of_inside _ _ _ _ hi,
      fun a ha => memRead_memWriteAll_of_outside _ _ _ _ ha, rfl⟩
  case discard =>
    intro ld off data s hl hb hw hr ht
    rw [cxlMemWrite_served hl hb, if_neg (Nat.not_lt.mpr hw), if_neg (by simp [hr]), discardWrite_recorded ld off ht]
    exact ⟨_, rfl, wrote_writeRecB _ _ _ _ _⟩
  case discardAgain =>
    intro ld off data k s hl hb hw hr hk ht
    rw [cxlMemWrite_served hl hb, if_neg (Nat.not_lt.mpr hw), if_neg (by simp [hr]), discardWrite_again ld off hk ht]
  case lost =>
    intro s ho
    obtain ⟨power, ring, seq, h, hmem⟩ := linkFell_frame s 0
    rw [cxlLinkChange_lost ho, h]
    exact ⟨_, rfl, rfl, rfl, dget_bump_self s _ _, hmem, rfl⟩
  case retrain =>
    intro s ho
    obtain ⟨power, ring, seq, h, hmem⟩ := linkFell_frame s 1
    rw [cxlLinkChange_retrain ho, h]
    exact ⟨_, rfl, rfl, rfl, dget_bump_self s _ _, hmem, rfl⟩
  case counts =>
    intro s ho
    exact ⟨cxlLinkChange_crcFailure ho, cxlLinkChange_replay ho⟩
  case up =>
    intro w r b s ho hw
    rw [cxlLinkChange_up ho, if_pos hw]
  case upBeyond =>
    intro w r b s ho hw
    rw [cxlLinkChange_up ho, if_neg (by rw [hw]; exact Bool.false_ne_true)]
  case mirrors =>
    obtain ⟨m, hm⟩ := mirrorRefresh_live h
    exact ⟨_, hm, rfl, rfl, rfl, rfl⟩

end Sys2Proof.Machine

/-! PROOFS. Errors, temperatures and mappings of the engine (R143, R145, R155 to R161, R187, R454, R462). -/
namespace Sys2Proof.Machine

/-! ## What the engine's shared updates leave (R142, R160, R163, R187) -/

theorem settleEng_eq (s : State) : settleEng s = { s with
    eng.state := if engOn s then
        (if s.eng.started.isSome || (s.eng.mapNext.isSome && !s.eng.built) then .running else .idle)
      else s.eng.state } := by
  unfold settleEng
  split <;> rfl

/-- A refresh that is over, with no valid output. -/
theorem invalidRefresh_eq (s : State) : invalidRefresh s = { s with
    eng.started := none, eng.validRun := 0
    eng.state := if engOn s then if s.eng.mapNext.isSome && !s.eng.built then .running else .idle else s.eng.state } :=
  settleEng_eq { s with eng.started := none, eng.validRun := 0 }

theorem abandonBuild_none {s : State} (h : s.eng.mapNext = none) : abandonBuild s = s := by
  rw [abandonBuild, h]

theorem abandonBuild_some {s : State} {m : Nat} (h : s.eng.mapNext = some m) : ∃ st, abandonBuild s = { s with
    eng.mapNext := none, eng.built := false, eng.switchAt := none, eng.state := st
    dic.vals := (bump s 0x4106 3).dic.vals } := by
  unfold abandonBuild
  rw [h]
  dsimp only
  rw [settleEng_eq]
  exact ⟨_, rfl⟩

theorem resetEngineDomain_frame (s : State) : ∃ power ring seq, resetEngineDomain s =
    { s with power := power, recs.ring := ring, recs.seq := seq, eng.feedQ := [], trc.recQ := [] } := by
  unfold resetEngineDomain
  dsimp only
  generalize hp : resetPulse (resetPulse (resetPulse s 1) 2) 3 = p
  have h3 : CrossFrame s p := hp ▸ ((resetPulse_frame s 1).trans (resetPulse_frame _ 2)).trans (resetPulse_frame _ 3)
  generalize hq : resetFifo (resetFifo p 0 p.eng.feedQ.length) 2 p.trc.recQ.length = q
  have h5 : CrossFrame s q := hq ▸ (h3.trans (resetFifo_frame p 0 _)).trans (resetFifo_frame _ 2 _)
  exact ⟨q.power, q.recs.ring, q.recs.seq, by rw [h5]⟩

/-- The engine in Fault: the hold forecast serves, and what its domain held may be gone. -/
theorem engineFault_frame (s : State) : ∃ power ring seq feedQ recQ, engineFault s = { s with
    power := power, recs.ring := ring, recs.seq := seq, trc.recQ := recQ, eng.feedQ := feedQ
    eng.state := .fault, eng.waking := false, eng.started := none, eng.holdFc := true, eng.validRun := 0 } := by
  unfold engineFault
  dsimp only
  split
  · exact ⟨_, _, _, _, _, rfl⟩
  · obtain ⟨_, _, _, h⟩ := resetEngineDomain_frame s
    rw [h]
    exact ⟨_, _, _, _, _, rfl⟩

/-! ## Uncorrectable errors (R158 to R161, R454) -/

theorem engRecAt_frame (s : State) (body : Nat) :
    ∃ recs due left step stop bad, engRecAt s body =
      { s with dic.free := s.dic.free + 2, recs := recs, trc.snapDue := due, trc.snapLeft := left, fac.stepDue := step
               trc.recStop := stop, sec.trialBad := bad } := by
  obtain ⟨_, _, _, _, _, _, h⟩ := writeRecB_frame (drawn (drawn s)) 5 (freeOf s % 4) (freeOf (drawn s) % 65536) body
  exact ⟨_, _, _, _, _, _, h⟩

theorem rawSlot_setSlot_self {s : State} {k : Nat} (v : Slot) (h : k < s.eng.slots.length) :
    rawSlot (setSlot s k v) k = v := by
  unfold rawSlot setSlot
  rw [getD_setAt, if_pos ⟨rfl, h⟩]

theorem slotOf_state (s : State) (k : Nat) : (slotOf s k).state = (rawSlot s k).state := by
  unfold slotOf
  split <;> rfl

/-- A selection of a slot that is gone is withdrawn; the slots stay. -/
theorem slotGone_frame (s : State) (k : Nat) :
    ∃ eng pend, slotGone s k = { s with eng := eng, dic.pend := pend } ∧ eng.slots = s.eng.slots := by
  unfold slotGone
  split
  · split
    · exact ⟨_, _, rfl, rfl⟩
    · exact ⟨_, _, rfl, rfl⟩
  · exact ⟨_, _, rfl, rfl⟩

theorem slotOf_slotGone_state (s : State) (k : Nat) : (slotOf (slotGone s k) k).state = (slotOf s k).state := by
  obtain ⟨eng, pend, h, hs⟩ := slotGone_frame s k
  rw [slotOf_state, slotOf_state, h, rawSlot, hs]
  rfl

/-- The engine, a count and a pending selection are all that the handling of an error touches. -/
theorem errEffect_frame (s : State) (h : ErrHeld) :
    ∃ eng pend vals, errEffect s h = { s with eng := eng, dic.pend := pend, dic.vals := vals } := by
  cases h with
  | refresh =>
    unfold errEffect
    dsimp only
    split
    · rw [discardRefresh, invalidRefresh_eq]
      exact ⟨_, _, _, rfl⟩
    · exact ⟨_, _, _, rfl⟩
  | sramWeights => exact ⟨_, _, _, rfl⟩
  | dramWeights k =>
    obtain ⟨_, _, hg, -⟩ := slotGone_frame (slotState s k 4) k
    exact ⟨_, _, _, hg⟩
  | learning => exact ⟨_, _, _, rfl⟩
  | layout =>
    unfold errEffect
    dsimp only
    cases hm : s.eng.mapNext with
    | none => exact ⟨_, _, _, abandonBuild_none hm⟩
    | some m =>
      obtain ⟨_, ha⟩ := abandonBuild_some hm
      exact ⟨_, _, _, ha⟩
  | swapNew => unfold errEffect; dsimp only; split <;> exact ⟨_, _, _, rfl⟩
  | swapOld => unfold errEffect; dsimp only; split <;> exact ⟨_, _, _, rfl⟩
  | window => exact ⟨_, _, _, rfl⟩

/-- The handling of an error counts no error. -/
theorem dget_errEffect (s : State) (h : ErrHeld) : dget (errEffect s h) 0x4182 1 = dget s 0x4182 1 := by
  cases h with
  | refresh =>
    unfold errEffect
    dsimp only
    split
    · rw [discardRefresh, dget_bump_ne _ _ _ (by decide), invalidRefresh_eq]
      rfl
    · rfl
  | sramWeights => rfl
  | dramWeights k =>
    obtain ⟨_, _, hg, -⟩ := slotGone_frame (slotState s k 4) k
    unfold errEffect
    dsimp only
    rw [hg]
    rfl
  | learning => rfl
  | layout =>
    unfold errEffect
    dsimp only
    cases hm : s.eng.mapNext with
    | none => rw [abandonBuild_none hm]
    | some m =>
      obtain ⟨_, ha⟩ := abandonBuild_some hm
      rw [ha]
      exact dget_bump_ne s 0x4106 3 (by decide)
  | swapNew => unfold errEffect; dsimp only; split <;> rfl
  | swapOld => unfold errEffect; dsimp only; split <;> rfl
  | window => rfl

theorem errEffect_refresh_started (s : State) : (errEffect s .refresh).eng.started = none := by
  unfold errEffect
  dsimp only
  split
  · rw [discardRefresh, invalidRefresh_eq]
    rfl
  · rename_i h
    simpa using h

theorem errEffect_layout_mapNext (s : State) : (errEffect s .layout).eng.mapNext = none := by
  unfold errEffect
  dsimp only
  cases hm : s.eng.mapNext with
  | none => rw [abandonBuild_none hm, hm]
  | some m =>
    obtain ⟨_, ha⟩ := abandonBuild_some hm
    rw [ha]

theorem errEffect_swapNew_swapRun (s : State) : (errEffect s .swapNew).eng.swapRun = false := by
  unfold errEffect
  dsimp only
  split
  · rfl
  · rename_i h
    simpa using h

theorem errEffect_dramWeights_state {s : State} {k : Nat} (h : k < s.eng.slots.length) :
    (slotOf (errEffect s (.dramWeights k)) k).state = 4 := by
  unfold errEffect
  dsimp only
  rw [slotOf_slotGone_state, slotOf_state, slotState, rawSlot_setSlot_self _ h]

theorem uncorrectableError_sram {h : ErrHeld} (hw : ∀ l o, h ≠ .window l o) (tl bk : Nat) (s : State) :
    exec (.uncorrectableError h (.sram tl bk)) s =
      .next (errEffect (engRecAt (bump s 0x4182 1) (errBody (.sram tl bk))) h) := by
  cases h with
  | window l o => exact absurd rfl (hw l o)
  | _ => rfl

theorem mailDone_of_up {s : State} (h : s.net.cxl = 2) (ld op code : Nat) (payload : List Nat) :
    mailDone s ld op code payload =
      { s with net.mailOut := some { ld := ld, opcode := op, code := code, payload := payload } } := by
  have hp : pulse s 8 (s.net.cxl != 2) = s := by rw [h]; rfl
  rw [mailDone, hp]

/-- An error in the data that a mailbox command reads ends it with Internal Error. -/
theorem uncorrectableError_mail {s : State} {m : MailOut} (hm : s.net.mailOut = some m) (hc : s.net.cxl = 2)
    (o tl bk : Nat) :
    exec (.uncorrectableError (.window m.ld o) (.sram tl bk)) s =
      .next { windowError (bump s 0x4182 1) m.ld o with
        net.mailOut := some { ld := m.ld, opcode := m.opcode, code := 3, payload := [] } } := by
  have hrow : exec (.uncorrectableError (.window m.ld o) (.sram tl bk)) s =
      .next (mailInternal (windowError (bump s 0x4182 1) m.ld o) m.ld) := rfl
  have hnet := windowError_net (bump s 0x4182 1) m.ld o
  have hout : (windowError (bump s 0x4182 1) m.ld o).net.mailOut = some m := (congrArg Net.mailOut hnet).trans hm
  have hup : (windowError (bump s 0x4182 1) m.ld o).net.cxl = 2 := (congrArg Net.cxl hnet).trans hc
  rw [hrow, mailInternal, hout]
  dsimp only
  rw [if_pos rfl, mailDone_of_up hup]

/-! ## Scrubbing and the bond (R158, R159) -/

theorem scrubRead_next {s : State} (h : s.eng.scrubAddr < stackEnd) (h0 : s.eng.scrubAddr ≠ 0) (b : Bool) :
    exec (.scrubRead b) s = .next (if b then bump { s with eng.scrubAddr := s.eng.scrubAddr + 8 } 0x4182 2
      else { s with eng.scrubAddr := s.eng.scrubAddr + 8 }) := by
  have hrow : exec (.scrubRead b) s = execScrubRead b s := rfl
  have hd : decide (stackEnd ≤ s.eng.scrubAddr) = false := decide_eq_false (Nat.not_le.mpr h)
  rw [hrow]
  unfold execScrubRead
  simp only [hd, Bool.false_and, Bool.false_eq_true, if_false, if_neg h0]

theorem scrubRead_sweep {s : State} (h : stackEnd ≤ s.eng.scrubAddr)
    (ht : s.eng.scrubTick + 3600000 * dnow s 0x4185 0 ≤ s.epo.ticks) :
    exec (.scrubRead false) s = .next { s with eng.scrubAddr := 8, eng.scrubTick := s.epo.ticks } := by
  have hrow : exec (.scrubRead false) s = execScrubRead false s := rfl
  have hd : decide (stackEnd ≤ s.eng.scrubAddr) = true := decide_eq_true h
  have hn : decide (s.epo.ticks < s.eng.scrubTick + 3600000 * dnow s 0x4185 0) = false :=
    decide_eq_false (Nat.not_lt.mpr ht)
  rw [hrow]
  unfold execScrubRead
  simp only [hd, hn, Bool.and_false, Bool.false_eq_true, if_false, if_true, Nat.zero_add]

theorem bondCrcFail_eq {c a crc : Nat} {d : List Nat} (hc : c < 16) (hcrc : bondCrc a d ≠ crc) (f : Bool) (h : ErrHeld)
    {s : State} {n : Nat} (hn : (if f then 0 else mget s.eng.bondTries c) + 1 = n) :
    exec (.bondCrcFail c a d crc f h) s =
      if n < 8 then .next (bump { s with eng.bondTries := mset s.eng.bondTries c n } 0x4182 4)
      else if n = 8 then .next (retrain s c)
      else .next (errorIn (bump { s with eng.bondTries := mdel s.eng.bondTries c } 0x4182 6) h (.bond c)) := by
  have hrow : exec (.bondCrcFail c a d crc f h) s = execBondCrcFail c a d crc f h s := rfl
  have hfail : ¬ (16 ≤ c ∨ bondCrc a d = crc) := not_or.mpr ⟨Nat.not_le.mpr hc, hcrc⟩
  rw [hrow]
  unfold execBondCrcFail
  rw [if_neg hfail]
  dsimp only
  rw [hn]

/-- The first retrain of the last second leaves the engine as it is. -/
theorem retrain_first {s : State} (h : s.eng.bondTrains = []) (c : Nat) :
    retrain s c = bump { s with
      eng.bondTries := mset s.eng.bondTries c 8
      eng.bondTrains := [(64 * s.epo.ticks + c, 1)] } 0x4182 5 := by
  have hone : ¬ 3 ≤ bondTrainsIn (bump { s with
      eng.bondTries := mset s.eng.bondTries c 8
      eng.bondTrains := [(64 * s.epo.ticks + c, 1)] } 0x4182 5) c := by
    simp only [bondTrainsIn, bump_eng, List.filter_cons, List.filter_nil]
    split <;> simp [sumN]
  unfold retrain
  rw [h]
  exact if_neg hone

/-! ## Temperature and wake (R143, R145, R462) -/

theorem engOn_ne_dark {s : State} (h : engOn s = true) : s.eng.state ≠ .dark := by
  intro hd
  simp [engOn, hd] at h

theorem engineTemperature_fault {s : State} {m : EngMeas} (hm : 1100 ≤ m.temp) (ho : engOn s = true) :
    exec (.engineTemperature m) s = .next (engineFault { s with
      eng.temp := m.temp, eng.power := m.power, eng.tiles := m.tiles, eng.dramUse := m.dram, eng.hot := true
      eng.hotFault := true }) := by
  have hrow : exec (.engineTemperature m) s = execEngineTemperature m s := rfl
  rw [hrow]
  unfold execEngineTemperature
  dsimp only
  rw [if_pos hm, if_neg (fun hd => engOn_ne_dark ho hd.1)]

theorem engineTemperature_limit {m : EngMeas} (h1 : 1000 ≤ m.temp) (h2 : m.temp < 1100) (s : State) :
    exec (.engineTemperature m) s = .next { s with
      eng.temp := m.temp, eng.power := m.power, eng.tiles := m.tiles, eng.dramUse := m.dram, eng.hot := true } :=
  (if_neg (Int.not_le.mpr h2)).trans (if_pos h1)

theorem engineTemperature_cool {m : EngMeas} (h : m.temp < 950) (s : State) :
    exec (.engineTemperature m) s = .next { s with
      eng.temp := m.temp, eng.power := m.power, eng.tiles := m.tiles, eng.dramUse := m.dram
      eng.hot := false, eng.hotFault := false
      eng.waking := s.eng.waking ||
        (s.eng.hotFault && s.eng.state == .fault && s.power.eplLock && !s.power.bridgeFailed.contains 1) } :=
  (if_neg (by omega)).trans ((if_neg (by omega)).trans (if_pos h))

/-- With nothing waiting in the FIFOs the engine's release clears the pulse held alone. -/
theorem releaseEngine_empty {s : State} (hf : s.eng.feedQ = []) (hr : s.trc.recQ = []) :
    releaseEngine s = { s with power.pulseCount := mdel s.power.pulseCount 1 } := by
  obtain ⟨power, _, _, _, eng, _, _, trc, _, _, _, _, _, _, _, _, _⟩ := s
  obtain ⟨⟩ := eng
  obtain ⟨⟩ := trc
  cases hf
  cases hr
  rfl

theorem engineWakeComplete_live {s : State} (hw : s.eng.waking = true) (hl : s.power.mstate = .live)
    (he : s.power.eplEn = true) (hk : s.power.eplLock = true) (hh : s.eng.hotFault = false)
    (hb : s.power.bridgeFailed.contains 1 = false) (hf : s.eng.feedQ = []) (hr : s.trc.recQ = []) :
    exec .engineWakeComplete s = .next { s with
      eng.waking := false, eng.state := .running, eng.corrupt := 0, eng.carried := []
      eng.sram := if (slotOf s (servingSlot s)).resident then some (servingSlot s) else none
      power.pulseCount := mdel s.power.pulseCount 1 } := by
  have hrow : exec .engineWakeComplete s = execEngineWakeComplete s := rfl
  have hlive : inLive s = true := beq_iff_eq.mpr hl
  rw [hrow]
  unfold execEngineWakeComplete
  rw [if_neg (by simp [hw]), if_neg (by rw [hb, hh]; exact Bool.false_ne_true), if_pos (by simp [hlive, he, hk]),
    releaseEngine_empty (by exact hf) (by exact hr)]

theorem engineWakeComplete_fault {s : State} (hw : s.eng.waking = true) (hb : s.power.bridgeFailed.contains 1 = true) :
    exec .engineWakeComplete s = .next (engineFault s) := by
  have hrow : exec .engineWakeComplete s = execEngineWakeComplete s := rfl
  rw [hrow]
  unfold execEngineWakeComplete
  simp only [hw, hb, Bool.not_true, Bool.true_or, Bool.false_eq_true, if_false, if_true]

/-! ## Fast mode and re-shards (R155, R187) -/

theorem fastModeExit_eq {s : State} (hf : dget s 0x4180 0 = 1) (hb : onBench s = false) (ho : s.eng.fastOut = false) :
    exec .fastModeExit s = .next { setPend s 0x4180 0 0 2 with eng.fastOut := true } := by
  have hrow : exec .fastModeExit s = execFastModeExit s := rfl
  rw [hrow]
  unfold execFastModeExit
  rw [if_pos (by simp [hf, hb, ho])]
  rfl

theorem reshardBuildDone_eq {s : State} (h : s.eng.mapNext.isSome = true) :
    exec .reshardBuildDone s = .next { s with
      eng.built := true
      eng.state := if engOn s then if s.eng.started.isSome then .running else .idle else s.eng.state } := by
  have hrow : exec .reshardBuildDone s = execReshardBuildDone s := rfl
  rw [hrow, execReshardBuildDone, if_pos h, settleEng_eq]
  simp only [Bool.not_true, Bool.and_false, Bool.or_false]
  rfl

theorem shadowCompare_eq {s : State} {m : Nat} (hm : s.eng.mapNext = some m) (hb : s.eng.built = true)
    (hs : s.eng.switchAt = none) (ha : isActive s = true) (u : Bool) :
    exec (.reshardShadowCompare u) s =
      if !u && shadowEqual s m then
        .next { s with
          eng.switchAt := some (if s.epo.clk + 20000 + 200 * s.epo.ttw ≤ 200000 then s.epo.ticks + 1 else s.epo.ticks + 2) }
      else .next { engRec (abandonBuild s) with eng.noShardBefore := s.epo.ticks + 10000 } := by
  have hrow : exec (.reshardShadowCompare u) s = execReshardShadowCompare u s := rfl
  rw [hrow]
  unfold execReshardShadowCompare
  rw [hm]
  simp only [hb, hs, ha, Bool.not_true, Option.isSome_none, Bool.or_self, Bool.false_eq_true, if_false]

theorem engRec_frame (s : State) :
    ∃ recs due left step stop bad, engRec s =
      { s with dic.free := s.dic.free + 3, recs := recs, trc.snapDue := due, trc.snapLeft := left, fac.stepDue := step
               trc.recStop := stop, sec.trialBad := bad } := by
  obtain ⟨_, _, _, _, _, _, h⟩ := engRecAt_frame (drawn s) (freeOf s % 256 ^ 96)
  exact ⟨_, _, _, _, _, _, h⟩

/-- Settles O30: each event by what its meaning does where the statement's condition holds. -/
theorem engineErrorsAndMapping : Obligations.EngineErrorsAndMapping := by
  unfold Obligations.EngineErrorsAndMapping
  refine ⟨?error, ?scrub, ?sweep, ?attempt, ?train, ?holds, ?fault, ?limit, ?cool, ?wake, ?fast, ?built, ?same, ?differs,
    ?mail, ?cut⟩
  case error =>
    intro tl bk h s hw
    obtain ⟨recs, due, left, step, stop, bad, hu⟩ := engRecAt_frame (bump s 0x4182 1) (errBody (.sram tl bk))
    rw [uncorrectableError_sram hw]
    refine ⟨_, rfl, ?_, ?_, ?_, ?_, ?_, ?_, ?_, ?_⟩
    · rw [dget_errEffect, hu]
      exact dget_bump_self s _ _
    · rintro rfl
      rfl
    · rintro rfl
      rw [hu]
      rfl
    · rintro k rfl - hk
      exact errEffect_dramWeights_state (by rw [hu]; exact hk)
    · rintro rfl
      exact errEffect_refresh_started _
    · rintro rfl
      exact errEffect_layout_mapNext _
    · rintro rfl
      exact errEffect_swapNew_swapRun _
    · obtain ⟨eng, pend, vals, he⟩ := errEffect_frame (engRecAt (bump s 0x4182 1) (errBody (.sram tl bk))) h
      rw [he, hu]
      rfl
  case scrub =>
    intro b s h h0
    rw [scrubRead_next h h0]
    cases b with
    | false => exact ⟨_, rfl, rfl, rfl, rfl⟩
    | true => exact ⟨_, rfl, rfl, dget_bump_self _ _ _, rfl⟩
  case sweep =>
    intro s h ht
    exact scrubRead_sweep h ht
  case attempt =>
    intro c a d crc f h s hc hcrc hf
    have hn : (if f then 0 else mget s.eng.bondTries c) + 1 < 8 := by
      rcases hf with rfl | hf
      · rw [if_pos rfl]
        omega
      · split <;> omega
    rw [bondCrcFail_eq hc hcrc f h rfl, if_pos hn]
    exact ⟨_, rfl, by rw [bump_eng, mget_mset_self], dget_bump_self _ _ _, rfl⟩
  case train =>
    intro c a d crc h s hc hcrc ht hb
    rw [bondCrcFail_eq hc hcrc false h (n := 8) (by rw [if_neg Bool.false_ne_true, ht]), if_neg (by decide), if_pos rfl,
      retrain_first hb]
    exact ⟨_, rfl, dget_bump_self _ _ _, by rw [bump_eng, mget_mset_self], rfl⟩
  case holds =>
    intro c a d f h s
    exact if_pos (.inr rfl)
  case fault =>
    intro m s hm ho
    rw [engineTemperature_fault hm ho]
    obtain ⟨power, ring, seq, feedQ, recQ, h⟩ := engineFault_frame { s with
      eng.temp := m.temp, eng.power := m.power, eng.tiles := m.tiles, eng.dramUse := m.dram, eng.hot := true
      eng.hotFault := true }
    rw [h]
    exact ⟨_, rfl, rfl, rfl, rfl, rfl, rfl, rfl, rfl⟩
  case limit =>
    intro m s h1 h2
    exact engineTemperature_limit h1 h2 s
  case cool =>
    intro m s h
    rw [engineTemperature_cool h]
    refine ⟨_, rfl, rfl, rfl, fun hf hs hk hb => ?_, rfl⟩
    simp [hf, hs, hk, hb]
  case wake =>
    intro s hw hl he hk hh hb hf hr
    exact engineWakeComplete_live hw hl he hk hh hb hf hr
  case fast =>
    intro s hf hb ho
    exact ⟨_, fastModeExit_eq hf hb ho, rfl, ⟨_, pendOf_setPend_self s 0x4180 0 0 2, rfl, rfl, rfl⟩, rfl⟩
  case built =>
    intro s h
    exact reshardBuildDone_eq h
  case same =>
    intro m s hm hb hs ha he
    rw [shadowCompare_eq hm hb hs ha, if_pos (by rw [he]; rfl)]
    refine ⟨_, rfl, ⟨_, rfl, ?_, ?_⟩, rfl⟩ <;> split <;> omega
  case differs =>
    intro u m s hm hb hs ha hu
    have hno : ¬ (!u && shadowEqual s m) = true := by
      rcases hu with rfl | hu
      · exact Bool.false_ne_true
      · rw [hu, Bool.and_false]
        exact Bool.false_ne_true
    obtain ⟨st, hab⟩ := abandonBuild_some hm
    obtain ⟨recs, due, left, step, stop, bad, hr⟩ := engRec_frame (abandonBuild s)
    rw [shadowCompare_eq hm hb hs ha, if_neg hno, hr, hab]
    exact ⟨_, rfl, rfl, rfl, rfl, dget_bump_self s _ _, rfl⟩
  case mail =>
    rintro ld o tl bk m s hm rfl hc
    have hnet := windowError_net (bump s 0x4182 1) m.ld o
    refine ⟨_, uncorrectableError_mail hm hc o tl bk, rfl, ?_, ?_, (congrArg Net.evRecords hnet :),
      (congrArg Net.evHandle hnet :)⟩
    · refine (dget_windowError_self (bump s 0x4182 1) m.ld o).trans ?_
      rw [dget_bump_ne _ _ _ (by decide)]
    · exact (dget_windowError_ne (bump s 0x4182 1) m.ld o (by decide)).trans (dget_bump_self s _ _)
  case cut =>
    intro s hw hb
    rw [engineWakeComplete_fault hw hb]
    obtain ⟨power, ring, seq, feedQ, recQ, h⟩ := engineFault_frame s
    rw [h]
    exact ⟨_, rfl, rfl, rfl, rfl, rfl⟩

end Sys2Proof.Machine

/-! PROOFS. Features, refreshes and forecasts of the engine (R142, R160, R164 to R166, R170 to R172, R183, R446, R480). -/
namespace Sys2Proof.Machine

/-! ## Feature frames (R164, R166, R168, R478) -/

theorem laneMeans_frame (s : State) :
    ∃ sums part, laneMeans s = { s with eng.laneSums := sums, eng.partSum := part } := by
  unfold laneMeans
  dsimp only
  split <;> exact ⟨_, _, rfl⟩

theorem feedFrame_running {s : State} (h : engOn s = true) (v : List Word) : feedFrame s v = engineFrame s v := if_pos h

theorem feedFrame_red (s : State) (v : List Word) : (feedFrame s v).red = s.red := by
  unfold feedFrame
  (repeat' split) <;> rfl

/-- A frame is taken on its 10 µs: the means of the lanes go on, the frame crosses to the engine, and the active module sends
it. -/
theorem featureFrame_eq {s : State} (f : FeatIn) (hl : s.power.mstate = .live) (hr : (isActive s || isStandby s) = true)
    (hn : s.eng.frameN < 100) (hc : 2000 * s.eng.frameN ≤ s.epo.clk) {v : List Word}
    (hv : (if isActive s then featureList s f.feats else f.feats) = v) :
    ∃ sums part, exec (.featureFrame f) s =
      .next (if isActive s then sendBlocks (feedFrame { s with
            eng.feats := v, eng.frameN := s.eng.frameN + 1, eng.laneSums := sums, eng.partSum := part } v) 2 2
        else feedFrame { s with
          eng.feats := v, eng.frameN := s.eng.frameN + 1, eng.laneSums := sums, eng.partSum := part } v) := by
  have hrow : exec (.featureFrame f) s = execFeatureFrame f s := rfl
  have hlive : inLive s = true := beq_iff_eq.mpr hl
  obtain ⟨sums, part, hm⟩ := laneMeans_frame { s with eng.feats := v, eng.frameN := s.eng.frameN + 1 }
  refine ⟨sums, part, ?_⟩
  have hact : isActive (feedFrame { s with
      eng.feats := v, eng.frameN := s.eng.frameN + 1, eng.laneSums := sums, eng.partSum := part } v) = isActive s := by
    unfold isActive
    rw [feedFrame_red]
  have hgo : ¬ (!inLive s || !(isActive s || isStandby s) || decide (100 ≤ s.eng.frameN) ||
      decide (s.epo.clk < 2000 * s.eng.frameN)) = true := by
    rw [hlive, hr, decide_eq_false (Nat.not_le.mpr hn), decide_eq_false (Nat.not_lt.mpr hc)]
    exact Bool.false_ne_true
  rw [hrow]
  unfold execFeatureFrame
  rw [if_neg hgo]
  dsimp only
  rw [hv, hm, hact]

theorem not_isActive_of_standby {s : State} (h : isStandby s = true) : isActive s = false := by
  rw [isStandby, beq_iff_eq] at h
  rw [isActive, h]
  rfl

theorem featureFrame_active {s : State} (f : FeatIn) (hl : s.power.mstate = .live) (ha : isActive s = true)
    (hn : s.eng.frameN < 100) (hc : 2000 * s.eng.frameN ≤ s.epo.clk) (ho : engOn s = true) :
    ∃ sums part, exec (.featureFrame f) s = .next (sendBlocks (engineFrame { s with
      eng.feats := featureList s f.feats, eng.frameN := s.eng.frameN + 1, eng.laneSums := sums, eng.partSum := part }
      (featureList s f.feats)) 2 2) := by
  obtain ⟨sums, part, h⟩ := featureFrame_eq f hl (by rw [ha]; rfl) hn hc (if_pos ha)
  refine ⟨sums, part, ?_⟩
  rw [h, if_pos ha, feedFrame_running (by exact ho)]

theorem featureFrame_standby {s : State} (f : FeatIn) (hl : s.power.mstate = .live) (hs : isStandby s = true)
    (hn : s.eng.frameN < 100) (hc : 2000 * s.eng.frameN ≤ s.epo.clk) :
    ∃ sums part, exec (.featureFrame f) s = .next (feedFrame { s with
      eng.feats := f.feats, eng.frameN := s.eng.frameN + 1, eng.laneSums := sums, eng.partSum := part } f.feats) := by
  have ha : ¬ isActive s = true := by rw [not_isActive_of_standby hs]; exact Bool.false_ne_true
  obtain ⟨sums, part, h⟩ := featureFrame_eq f hl (by rw [hs, Bool.or_true]) hn hc (if_neg ha)
  refine ⟨sums, part, ?_⟩
  rw [h, if_neg ha]

/-- Into a stopped engine a frame waits in F0, or is dropped and counted where 8 wait (R478, R480). -/
theorem feedFrame_stopped {s : State} (h : engOn s = false) (v : List Word) :
    feedFrame s v = { s with
      eng.feedQ := if s.eng.feedQ.length < 8 then s.eng.feedQ ++ [v] else s.eng.feedQ
      power.xdrop := if s.eng.feedQ.length < 8 then s.power.xdrop
        else mset s.power.xdrop 0 (min (mget s.power.xdrop 0 + 1) 0xFFFFFFFF) } := by
  unfold feedFrame
  rw [if_neg (by rw [h]; exact Bool.false_ne_true)]
  by_cases hq : s.eng.feedQ.length < 8
  · simp only [if_pos hq]
  · simp only [if_neg hq]
    rfl

/-! ## Frames published in the views (R157, R444, R446) -/

theorem dramN_congr {s t : State} (h : t.net.dram = s.net.dram) (a n : Nat) : dramN t a n = dramN s a n := by
  unfold dramN
  rw [h]

/-- `t` is `s` with frames published: the stack below the views is as before. -/
def ViewsFrame (s t : State) : Prop :=
  t = { s with
    eng.frame := t.eng.frame, eng.burst := t.eng.burst, net.dram := t.net.dram, net.viewCount := t.net.viewCount
    net.burstCount := t.net.burstCount } ∧
  ∀ a, a < ld1Base + 0x400000 → memRead t.net.dram a = memRead s.net.dram a

theorem ViewsFrame.refl (s : State) : ViewsFrame s s := ⟨rfl, fun _ _ => rfl⟩

theorem ViewsFrame.trans {s t u : State} (h : ViewsFrame s t) (k : ViewsFrame t u) : ViewsFrame s u := by
  obtain ⟨h, hm⟩ := h
  obtain ⟨k, km⟩ := k
  exact ⟨by rw [k, h], fun a ha => (km a ha).trans (hm a ha)⟩

/-- A frame and then its count are written, both at `lo` or beyond. -/
theorem dramPut_twice_frame (s : State) {a b lo : Nat} (n v k w : Nat) (ha : lo ≤ a) (hb : lo ≤ b) :
    ∃ m, dramPut (dramPut s a n v) b k w = { s with net.dram := m } ∧ (∀ x, x < lo → memRead m x = memRead s.net.dram x) ∧
      ∀ t : State, t.net.dram = m → dramN t b k = w % 256 ^ k := by
  refine ⟨_, rfl, fun x hx => ?_, fun t ht => ?_⟩
  · exact (memRead_dramPut_outside (dramPut s a n v) b k w (by omega)).trans
      (memRead_dramPut_outside s a n v (by omega))
  · rw [dramN_congr (s := dramPut (dramPut s a n v) b k w) ht, dramN_dramPut]

/-- A frame of the forecast view is in the stack, its count with it. -/
theorem viewFrame_frame (s : State) (f : Forecast) :
    ∃ m, viewFrame s f = { s with net.dram := m, net.viewCount := s.net.viewCount + 1, eng.frame := f } ∧
      (∀ x, x < ld1Base + 0x400000 → memRead m x = memRead s.net.dram x) ∧
      ∀ t : State, t.net.dram = m → dramN t (ld1Base + 0x400000) 8 = (s.net.viewCount + 1) % 256 ^ 8 := by
  obtain ⟨m, h, hm, hn⟩ := dramPut_twice_frame s (a := ld1Base + 0x401000 + 24576 * (s.net.viewCount % 64))
    (b := ld1Base + 0x400000) (lo := ld1Base + 0x400000) 24032 (frameObj f) 8 (s.net.viewCount + 1) (by omega) (Nat.le_refl _)
  refine ⟨m, ?_, hm, hn⟩
  unfold viewFrame
  dsimp only
  rw [h]

theorem viewFrame_views (s : State) (f : Forecast) : ViewsFrame s (viewFrame s f) := by
  obtain ⟨m, h, hm, -⟩ := viewFrame_frame s f
  rw [h]
  exact ⟨rfl, hm⟩

theorem burstFrame_views (s : State) (f : Forecast) : ViewsFrame s (burstFrame s f) := by
  obtain ⟨m, h, hm, -⟩ := dramPut_twice_frame s (a := ld1Base + 0x601000 + 8192 * (s.net.burstCount % 64))
    (b := ld1Base + 0x600000) (lo := ld1Base + 0x400000) 4832 (frameObj f) 8 (s.net.burstCount + 1) (by omega) (by omega)
  unfold burstFrame
  dsimp only
  rw [h]
  exact ⟨rfl, hm⟩

/-- The state in which a valid refresh is published. -/
def refreshTaken (s : State) (recent : List (Nat × Forecast)) : State :=
  { s with
    eng.started := none, eng.recent := recent, eng.validRun := satInc s.eng.validRun 255, eng.lastValid := clockNow s }

/-- The main frame goes to the forecast view where `main` says so, and a burst frame to the burst view. -/
def publishIn (s : State) (main burst : Bool) (f g : Forecast) : State :=
  if burst then burstFrame (if main then viewFrame s f else s) g else if main then viewFrame s f else s

theorem publish_eq (s : State) (e n : Nat) (own : List Word) (burst : Bool) :
    ∃ recent f g, publish s e n own burst = publishIn (refreshTaken s recent)
        ((!s.eng.holdFc || s.eng.returning) && (!burst || n % 100 == 0)) burst f g ∧
      f.valid = true ∧ f.hold = false ∧ f.epoch = e ∧ f.start = n := by
  refine ⟨_, _, _, rfl, ?_⟩
  split <;> exact ⟨rfl, rfl, rfl, rfl⟩

theorem publish_views (s : State) (e n : Nat) (own : List Word) (burst : Bool) :
    ∃ recent, ViewsFrame (refreshTaken s recent) (publish s e n own burst) := by
  obtain ⟨recent, f, g, h, -⟩ := publish_eq s e n own burst
  refine ⟨recent, ?_⟩
  rw [h]
  unfold publishIn
  split <;> split
  · exact (viewFrame_views _ _).trans (burstFrame_views _ _)
  · exact burstFrame_views _ _
  · exact viewFrame_views _ _
  · exact .refl _

/-- While no hold forecast serves, a refresh of the serve mapping is the frame of the forecast view. -/
theorem publish_serve {s : State} (h : s.eng.holdFc = false) (e n : Nat) (own : List Word) :
    ∃ recent f, publish s e n own false = viewFrame (refreshTaken s recent) f ∧
      f.valid = true ∧ f.hold = false ∧ f.epoch = e ∧ f.start = n := by
  obtain ⟨recent, f, g, hp, hf⟩ := publish_eq s e n own false
  rw [h] at hp
  exact ⟨recent, f, hp, hf⟩

/-! ## Refreshes (R60, R142, R160, R163, R170 to R172, R184) -/

theorem refreshStart_eq {s : State} (hl : s.power.mstate = .live) (ho : engOn s = true) (hd : refreshDue s = true) :
    exec .refreshStart s = .next { s with
      eng.state := .running, eng.started := some (s.epo.count, s.epo.clk / 200), eng.since := (0, 0)
      eng.stripes := (s.eng.stripes + 1) % 4
      eng.validRun := if s.eng.started.isSome then 0 else s.eng.validRun
      eng.lastGrid := if s.eng.mapping = 1 then s.eng.lastGrid else some (10 * s.epo.count + s.epo.clk / 20000)
      eng.refreshNo := if s.eng.mapping = 1 then s.eng.refreshNo else s.eng.refreshNo + 1 } := by
  have hrow : exec .refreshStart s = execRefreshStart s := rfl
  have hlive : inLive s = true := beq_iff_eq.mpr hl
  rw [hrow]
  unfold execRefreshStart
  rw [if_pos (by rw [hlive, ho, hd]; rfl)]
  by_cases hs : s.eng.started.isSome = true <;> by_cases hm : s.eng.mapping = 1 <;>
    simp [hs, hm, invalidRefresh_eq, gridNow]

theorem dget_invalidRefresh (s : State) (o e : Nat) : dget (invalidRefresh s) o e = dget s o e := by
  rw [invalidRefresh_eq]
  rfl

theorem refreshDeadlineMiss_eq {s : State} (h : s.eng.started.isSome = true) :
    exec .refreshDeadlineMiss s = .next (invalidRefresh s) := congrArg _ (if_pos h)

theorem bumpN_frame (s : State) (o e n : Nat) : ∃ vals, bumpN s o e n = { s with dic.vals := vals } := ⟨_, rfl⟩

/-- The period of a refresh does not depend on what the engine counts. -/
theorem refreshLate_bumpN (s : State) {o el : Nat} (k : Nat) (h : dkey 0x4111 0 ≠ dkey o el) (e n : Nat) :
    refreshLate (bumpN s o el k) e n = refreshLate s e n := by
  have hslot : servingSlot (bumpN s o el k) = servingSlot s := dget_bumpN_ne s o el k h
  have hin : incomingSlot (bumpN s o el k) = incomingSlot s := by
    unfold incomingSlot swapTarget
    rw [hslot]
    rfl
  have hperiod : refreshPeriod (bumpN s o el k) = refreshPeriod s := by
    unfold refreshPeriod
    rw [hslot, hin]
    rfl
  unfold refreshLate
  rw [hperiod]
  rfl

/-- The corrected errors of a refresh, counted. -/
def refreshCounted (s : State) (a b : Nat) : State := bumpN (bumpN s 0x4182 0 a) 0x4182 2 b

theorem bumpN_twice_frame (s : State) (o e n o' e' n' : Nat) :
    ∃ vals, bumpN (bumpN s o e n) o' e' n' = { s with dic.vals := vals } := by
  obtain ⟨vals, h⟩ := bumpN_frame s o e n
  rw [h]
  exact bumpN_frame { s with dic.vals := vals } o' e' n'

theorem refreshDone_discarded {s : State} {p : Nat × Nat} (hs : s.eng.started = some p)
    (h : s.eng.corrupt ≠ 0 ∨ s.eng.state ≠ .running) (a b : Nat) (i : List (Nat × Nat)) :
    exec (.refreshDone a b i) s = .next (discardRefresh (refreshCounted s a b)) := by
  have hrow : exec (.refreshDone a b i) s = execRefreshDone a b i s := rfl
  rw [hrow]
  unfold execRefreshDone
  rw [hs]
  exact if_pos h

theorem refreshDone_late {s : State} {e n : Nat} (hs : s.eng.started = some (e, n)) (hc : s.eng.corrupt = 0)
    (hr : s.eng.state = .running) (hl : refreshLate s e n = true) (a b : Nat) (i : List (Nat × Nat)) :
    exec (.refreshDone a b i) s = .next (invalidRefresh (refreshCounted s a b)) := by
  have hrow : exec (.refreshDone a b i) s = execRefreshDone a b i s := rfl
  have hlate : refreshLate (refreshCounted s a b) e n = true := by
    rw [refreshCounted, refreshLate_bumpN _ _ (by decide), refreshLate_bumpN _ _ (by decide), hl]
  rw [hrow]
  unfold execRefreshDone
  rw [hs]
  exact (if_neg (not_or.mpr ⟨not_not.mpr hc, not_not.mpr hr⟩)).trans (if_pos hlate)

/-- A complete refresh of a sound engine within its deadline gives its output, unless a value of it is not finite. -/
theorem refreshDone_complete {s : State} {e n : Nat} (hs : s.eng.started = some (e, n)) (hc : s.eng.corrupt = 0)
    (hr : s.eng.state = .running) (hl : refreshLate s e n = false) (a b : Nat) (i : List (Nat × Nat)) :
    ∃ out carried vals, (refreshRun (refreshCounted s a b) (if s.eng.mapping = 1 then 300 else 1500)).1 = out ∧
      exec (.refreshDone a b i) s =
        if out.any (fun w => f32NonFinite w.toNat) then .next (invalidRefresh (bump { s with dic.vals := vals } 0x4182 7))
        else .next (settleEng (refreshOut (inferPhases { s with dic.vals := vals } i) e n out carried)) := by
  have hrow : exec (.refreshDone a b i) s = execRefreshDone a b i s := rfl
  have hsound : ¬ ((refreshCounted s a b).eng.corrupt ≠ 0 ∨ (refreshCounted s a b).eng.state ≠ .running) :=
    not_or.mpr ⟨not_not.mpr hc, not_not.mpr hr⟩
  have hlate : ¬ refreshLate (refreshCounted s a b) e n = true := by
    rw [refreshCounted, refreshLate_bumpN _ _ (by decide), refreshLate_bumpN _ _ (by decide), hl]
    exact Bool.false_ne_true
  rcases hrun : refreshRun (refreshCounted s a b) (if s.eng.mapping = 1 then 300 else 1500) with ⟨out, carried, bad, sats⟩
  obtain ⟨fixed, hf⟩ := bumpN_twice_frame s 0x4182 0 a 0x4182 2 b
  obtain ⟨vals, hw⟩ : ∃ vals, bumpN (bumpN (bumpN (bumpN s 0x4182 0 a) 0x4182 2 b) 0x4182 7 bad) 0x4182 8 sats =
      { s with dic.vals := vals } := by
    rw [hf]
    exact bumpN_twice_frame { s with dic.vals := fixed } 0x4182 7 bad 0x4182 8 sats
  refine ⟨out, carried, vals, rfl, ?_⟩
  unfold refreshCounted at hsound hlate hrun
  rw [hrow]
  unfold execRefreshDone
  rw [hs]
  dsimp only
  rw [if_neg hsound, if_neg hlate, bumpN_eng, bumpN_eng, hrun, ← hw]

theorem inferPhases_frame (l : List (Nat × Nat)) :
    ∀ s, ∃ inferred, inferPhases s l = { s with epo.inferred := inferred } := by
  induction l with
  | nil => exact fun s => ⟨s.epo.inferred, rfl⟩
  | cons p l ih =>
    intro s
    unfold inferPhases
    rw [List.foldl_cons]
    split
    · obtain ⟨inferred, h⟩ := ih { s with epo.inferred := mset s.epo.inferred p.1 (p.2 + 1) }
      exact ⟨inferred, h⟩
    · exact ih s

/-- A valid output is counted, carried and noted, and then published. -/
theorem refreshOut_eq (s : State) (e n : Nat) (out : List Word) (carried : List (Nat × Nat × List Exact)) :
    ∃ eng vals own, refreshOut s e n out carried =
        publish { s with eng := eng, dic.vals := vals } e n own (s.eng.mapping == 1) ∧
      eng.validRun = s.eng.validRun ∧ eng.holdFc = s.eng.holdFc := by
  unfold refreshOut
  dsimp only
  generalize (checkOut out (if (s.eng.mapping == 1) = true then 300 else 1500)) = checked
  obtain ⟨vals, h⟩ := bumpN_frame { s with eng.carried := carried } 0x4106 4 checked.2.1
  obtain ⟨vals', h'⟩ := bumpN_frame { s with eng.carried := carried, dic.vals := vals } 0x4106 5 checked.2.2
  rw [h, h']
  cases hb : s.eng.mapping == 1 with
  | true => exact ⟨_, _, _, if_pos rfl, rfl, rfl⟩
  | false => exact ⟨_, _, _, if_neg Bool.false_ne_true, rfl, rfl⟩

theorem refreshOut_views (s : State) (e n : Nat) (out : List Word) (carried : List (Nat × Nat × List Exact)) :
    ∃ eng vals recent, ViewsFrame (refreshTaken { s with eng := eng, dic.vals := vals } recent) (refreshOut s e n out carried) ∧
      eng.validRun = s.eng.validRun := by
  obtain ⟨eng, vals, own, h, hv, -⟩ := refreshOut_eq s e n out carried
  obtain ⟨recent, hp⟩ := publish_views { s with eng := eng, dic.vals := vals } e n own (s.eng.mapping == 1)
  exact ⟨eng, vals, recent, h ▸ hp, hv⟩

theorem refreshOut_serve {s : State} (hm : s.eng.mapping ≠ 1) (hh : s.eng.holdFc = false) (e n : Nat) (out : List Word)
    (carried : List (Nat × Nat × List Exact)) :
    ∃ u f, refreshOut s e n out carried = viewFrame u f ∧ u.net = s.net ∧
      f.valid = true ∧ f.hold = false ∧ f.epoch = e ∧ f.start = n := by
  obtain ⟨eng, vals, own, h, -, hf⟩ := refreshOut_eq s e n out carried
  rw [beq_false_of_ne hm] at h
  obtain ⟨recent, f, hp, hprops⟩ := publish_serve (s := { s with eng := eng, dic.vals := vals }) (hf.trans hh) e n own
  exact ⟨_, f, h.trans hp, rfl, hprops⟩

/-! ## The hold forecast (R164) -/

theorem holdForecast_eq {s : State} (hl : s.power.mstate = .live)
    (h : s.eng.lastValid + 200000 ≤ 200000 * s.epo.ticks + s.epo.clk) :
    exec .holdForecast s = .next (publishHold { s with eng.holdFc := true, eng.returning := false, eng.validRun := 0 }) := by
  have hlive : inLive s = true := beq_iff_eq.mpr hl
  exact if_pos (by rw [hlive, clockNow, decide_eq_true h]; rfl)

theorem publishHold_frame (s : State) : ∃ m f, publishHold s =
    { s with net.dram := m, net.viewCount := s.net.viewCount + 1, eng.frame := f } ∧
      f.hold = true ∧ f.epoch = s.epo.count := by
  obtain ⟨m, h, -⟩ := viewFrame_frame s (frameWith s s.epo.count (s.epo.clk / 200) true false false
    (blendHost s (holdVals s) s.epo.count (s.epo.clk / 200)))
  exact ⟨m, _, h, rfl, rfl⟩

/-- Settles O28: each event by what its meaning does where the statement's condition holds. -/
theorem refreshesAndForecasts : Obligations.RefreshesAndForecasts := by
  unfold Obligations.RefreshesAndForecasts
  refine ⟨?active, ?standby, ?stopped, ?start, ?miss, ?complete, ?discarded, ?late, ?hold⟩
  case active =>
    intro f s hl ha hn hc ho
    obtain ⟨sums, part, h⟩ := featureFrame_active f hl ha hn hc ho
    exact ⟨_, h, rfl, rfl, rfl, rfl⟩
  case standby =>
    intro f s hl hs hn hc ho
    obtain ⟨sums, part, h⟩ := featureFrame_standby f hl hs hn hc
    rw [h, feedFrame_running (by exact ho)]
    exact ⟨_, rfl, rfl, rfl, rfl, rfl⟩
  case stopped =>
    intro f s hl hs hn hc ho
    obtain ⟨sums, part, h⟩ := featureFrame_standby f hl hs hn hc
    rw [h, feedFrame_stopped (by exact ho)]
    refine ⟨_, rfl, rfl, rfl, rfl, ?_, rfl⟩
    dsimp only
    split
    · rfl
    · exact mget_mset_self _ _ _
  case start =>
    intro s hl ho hd
    exact refreshStart_eq hl ho hd
  case miss =>
    intro s h
    rw [refreshDeadlineMiss_eq h, invalidRefresh_eq]
  case complete =>
    intro a b i e n s hs hr hc hl
    obtain ⟨out, carried, vals, hout, h⟩ := refreshDone_complete hs hc hr hl a b i
    unfold refreshCounted at hout
    dsimp only
    rw [h, hout]
    by_cases hbad : (out.any fun w => f32NonFinite w.toNat) = true
    · simp only [if_pos hbad]
      rw [invalidRefresh_eq]
      exact ⟨_, rfl, rfl, ⟨rfl, rfl⟩, fun _ _ => rfl, rfl⟩
    · simp only [if_neg hbad]
      obtain ⟨inferred, hi⟩ := inferPhases_frame i { s with dic.vals := vals }
      rw [hi, settleEng_eq]
      obtain ⟨eng, vals', recent, ⟨hframe, hmem⟩, hv⟩ :=
        refreshOut_views { s with dic.vals := vals, epo.inferred := inferred } e n out carried
      refine ⟨_, rfl, ?_, ⟨?_, ?_, fun hm hh => ?_⟩, ?_, ?_⟩
      · rw [hframe]
        rfl
      · rw [hframe]
        rfl
      · rw [hframe]
        exact congrArg (satInc · 255) hv
      · obtain ⟨u, f, hu, hnet, hvalid, hhold, hepoch, hstart⟩ :=
          refreshOut_serve (s := { s with dic.vals := vals, epo.inferred := inferred }) hm hh e n out carried
        obtain ⟨m, hvf, -, hcount⟩ := viewFrame_frame u f
        rw [hnet] at hvf hcount
        rw [hu, hvf]
        exact ⟨hvalid, hhold, hepoch, hstart, rfl, hcount _ rfl⟩
      · intro a ha
        exact hmem a ha
      · rw [hframe]
        rfl
  case discarded =>
    intro a b i p s hs h
    rw [refreshDone_discarded hs h, discardRefresh]
    refine ⟨_, rfl, ?_, ?_, ?_, ?_⟩
    · rw [dget_bump_self, dget_invalidRefresh, refreshCounted, dget_bumpN_ne _ _ _ _ (by decide),
        dget_bumpN_ne _ _ _ _ (by decide)]
    · rw [dget_bump_ne _ _ _ (by decide), dget_invalidRefresh, refreshCounted, dget_bumpN_ne _ _ _ _ (by decide),
        dget_bumpN_self]
    · rw [dget_bump_ne _ _ _ (by decide), dget_invalidRefresh, refreshCounted, dget_bumpN_self,
        dget_bumpN_ne _ _ _ _ (by decide)]
    · obtain ⟨vals, hf⟩ := bumpN_twice_frame s 0x4182 0 a 0x4182 2 b
      rw [invalidRefresh_eq, refreshCounted, hf]
      rfl
  case late =>
    intro a b i e n s hs hc hr hl
    rw [refreshDone_late hs hc hr hl, invalidRefresh_eq]
    rfl
  case hold =>
    intro s hl h
    obtain ⟨m, f, hp, hf, he⟩ := publishHold_frame { s with eng.holdFc := true, eng.returning := false, eng.validRun := 0 }
    rw [holdForecast_eq hl h, hp]
    exact ⟨_, rfl, rfl, rfl, rfl, hf, he, rfl, rfl⟩

end Sys2Proof.Machine

/-! PROOFS. Learning and the model slots of the engine (R173, R180, R181, R186, R189 to R192, R331). -/
namespace Sys2Proof.Machine

/-! ## Model slots (R173, R180, R181, R199) -/

theorem slotOf_eq_rawSlot {k : Nat} (h : 1 ≤ k) (s : State) : slotOf s k = rawSlot s k :=
  if_neg (Nat.one_le_iff_ne_zero.mp h)

/-- Past slot 0, the slot that was replaced reads what it was replaced by. -/
theorem slotOf_replaced {s t : State} {k : Nat} {v : Slot} (ht : t.eng.slots = setAt s.eng.slots k v) (h1 : 1 ≤ k)
    (h : k < s.eng.slots.length) : slotOf t k = v := by
  rw [slotOf_eq_rawSlot h1, rawSlot, ht, getD_setAt, if_pos ⟨rfl, h⟩]

/-- The other slots past slot 0 stay. -/
theorem slotOf_replaced_ne {s t : State} {j k : Nat} {v : Slot} (ht : t.eng.slots = setAt s.eng.slots k v) (h1 : 1 ≤ j)
    (h : j ≠ k) : slotOf t j = slotOf s j := by
  rw [slotOf_eq_rawSlot h1, slotOf_eq_rawSlot h1, rawSlot, ht, getD_setAt, if_neg (fun hk => h hk.1), rawSlot]

/-- A mirror counts as sent and fills the lanes; nothing else of the state changes. -/
theorem sendMirror_frame (s : State) :
    ∃ n lanes, sendMirror s = { s with red.mirrorsSent := n, red.lanes := lanes } := by
  unfold sendMirror
  split <;> exact ⟨_, _, rfl⟩

/-- What the end of a load leaves in its slot: the package verified, or none with the code of the first failure. -/
def loadedSlot (s : State) (k : Nat) (sig : Sig) : Slot :=
  if packageCode s k sig = 0 then slotFor s k else { Slot.empty with result := packageCode s k sig }

/-- A failed signature is counted, the slot filled or emptied, its loader forgotten, and a verified package mirrored. -/
theorem modelLoadDone_frame {s : State} {k : Nat} (h : (slotOf s k).state = 1) (sig : Sig) : ∃ n lanes,
    exec (.modelLoadDone k sig) s = .next { setSlot s k (loadedSlot s k sig) with
      eng.loaders := mdel s.eng.loaders k
      dic.vals := if packageCode s k sig = 0x07 then (bump s 0x8070 0).dic.vals else s.dic.vals
      red.mirrorsSent := n, red.lanes := lanes } := by
  have hrow : exec (.modelLoadDone k sig) s = execModelLoadDone k sig s := rfl
  rw [hrow, execModelLoadDone, if_neg (not_not_intro h)]
  unfold loadedSlot
  dsimp only
  generalize packageCode s k sig = c
  by_cases h0 : c = 0
  · subst h0
    obtain ⟨n, lanes, hm⟩ := sendMirror_frame { setSlot s k (slotFor s k) with eng.loaders := mdel s.eng.loaders k }
    exact ⟨n, lanes, congrArg Host.Outcome.next hm⟩
  · refine ⟨s.red.mirrorsSent, s.red.lanes, ?_⟩
    simp only [if_neg h0]
    by_cases h7 : c = 0x07
    · simp only [if_pos h7]
      rfl
    · simp only [if_neg h7]
      rfl

theorem damagedSlotFetch_mirrored {s : State} {k : Nat} (h : (slotOf s k).state = 4) (hp : s.red.peerHere = true) :
    exec (.damagedSlotFetch k (some (slotOf s k).hash)) s =
      .next { slotState s k (if k = servingSlot s then 3 else 2) with eng.swapTo := none } := by
  have hrow : exec (.damagedSlotFetch k (some (slotOf s k).hash)) s =
      execDamagedSlotFetch k (some (slotOf s k).hash) s := rfl
  rw [hrow, execDamagedSlotFetch]
  dsimp only
  rw [if_neg (not_not_intro h), if_pos (by rw [hp, beq_self_eq_true]; rfl)]

theorem damagedSlotFetch_serving {s : State} (h : (slotOf s (servingSlot s)).state = 4) :
    exec (.damagedSlotFetch (servingSlot s) none) s = .next { s with eng.swapTo := some 0 } := by
  have hrow : exec (.damagedSlotFetch (servingSlot s) none) s = execDamagedSlotFetch (servingSlot s) none s := rfl
  rw [hrow, execDamagedSlotFetch]
  dsimp only
  rw [if_neg (not_not_intro h), if_neg (by simp), if_pos rfl]

/-! ## Pairs and steps (R144, R186, R189, R190) -/

theorem trainingPair_due {s : State} {r : RefPoint} {l : List Word} (hl : learnOn s = true) (hp : pairDue s = some (r, l)) :
    exec .trainingPair s = .next { s with
      eng.refs := s.eng.refs.filter (fun x => decide (r.number < x.number))
      eng.holdout := if r.number % 10 = 9 then (⟨r, l⟩ :: s.eng.holdout).take 4096 else s.eng.holdout
      eng.train := if r.number % 10 = 9 then s.eng.train else (⟨r, l⟩ :: s.eng.train).take 65536 } := by
  have hrow : exec .trainingPair s = execTrainingPair s := rfl
  rw [hrow, execTrainingPair, hl, hp]
  by_cases h : r.number % 10 = 9
  · simp only [if_pos h]
    rfl
  · simp only [if_neg h]
    rfl

/-- Where a whole batch is held the step is deferred, or done from that batch. -/
theorem learningStep_eq {s : State} {c : LearnCfg} (hl : learnOn s = true) (hc : (pkgOf s (servingSlot s)).cfg = some c)
    (hb : c.batch ≤ s.eng.train.length) : ∃ drawn, exec .learningStep s =
      if stepDeferred s then .next { s with eng.stepsDeferred := satInc s.eng.stepsDeferred 0xFFFFFFFF }
      else .next { s with
        eng.stepsDone := satInc s.eng.stepsDone 0xFFFFFFFF, eng.mirrored := false, eng.drawnTo := drawn
        eng.learn := stepOf (pkgOf s (servingSlot s)) c (servingWeights s) (masterOf s (pkgOf s (servingSlot s)))
          (batchOf s c.batch) s.eng.learn } := by
  have hrow : exec .learningStep s = execLearningStep s := rfl
  rw [hrow, execLearningStep]
  dsimp only
  rw [hl, hc]
  exact ⟨_, if_neg (Nat.not_lt.mpr hb)⟩

/-! ## Candidates and mirrors (R191, R192, R331) -/

theorem dnow_congr {s t : State} (hd : t.dic = s.dic) (he : t.epo = s.epo) (o e : Nat) : dnow t o e = dnow s o e := by
  unfold dnow pendOf dget
  rw [hd, he]

/-- The holdout error of the weights in service (R191). -/
def servingError (s : State) : Word :=
  BitVec.ofNat 32 (lossOf .exact (pkgOf s (servingSlot s)) (servingWeights s) s.eng.holdout)

/-- The state in which an evaluation has written both errors. -/
def evaluated (s : State) (serve cand : Word) : State :=
  { s with eng.errServe := serve, eng.errCand := cand, eng.lastEval := some s.epo.ticks }

/-- Whether a candidate passes turns on the margin of object 0x4122, which an evaluation leaves alone. -/
theorem candidatePasses_evaluated (s : State) (serve cand a b : Word) :
    candidatePasses (evaluated s serve cand) a b = candidatePasses s a b := by
  unfold candidatePasses
  rw [dnow_congr (s := s) (t := evaluated s serve cand) rfl rfl]

/-- A candidate is evaluated and, where it passes, mirrored; otherwise it is counted as rejected. -/
theorem candidateEvaluation_eq {s : State} (hl : learnOn s = true)
    (he : ∀ n, s.eng.lastEval = some n → n + 10000 ≤ s.epo.ticks) : ∃ cand hash w, exec .candidateEvaluation s =
      .next (if candidatePasses (evaluated s (servingError s) cand) cand (servingError s) then
          sendMirror { evaluated s (servingError s) cand with
            eng.candidate := some hash, eng.candW := w, eng.candAcked := !s.red.peerHere }
        else { evaluated s (servingError s) cand with eng.rejected := satInc s.eng.rejected 0xFFFFFFFF }) := by
  have hrow : exec .candidateEvaluation s = execCandidateEvaluation s := rfl
  rw [hrow, execCandidateEvaluation]
  dsimp only
  rw [if_neg ?due]
  · exact ⟨_, _, _, (apply_ite Host.Outcome.next _ _ _).symm⟩
  case due =>
    rw [hl]
    cases hn : s.eng.lastEval with
    | none => exact Bool.false_ne_true
    | some n => simpa using he n hn

theorem learningStateMirror_eq {s : State} (ha : isActive s = true) (hm : mirrorUp s = true) :
    ∃ lanes, exec .learningStateMirror s = .next { s with
      eng.mirrored := true, eng.checkpoint := s.eng.learn, eng.mirrorTick := s.epo.ticks
      red.mirrorsSent := s.red.mirrorsSent + 1, red.lanes := lanes } := by
  have hrow : exec .learningStateMirror s = .next (mirrorLearning s) := rfl
  rw [hrow, mirrorLearning, if_pos (by rw [ha, hm]; rfl)]
  exact ⟨_, rfl⟩

/-- Settles O29: each event by what its meaning does where the statement's condition holds. -/
theorem learningAndSlots : Obligations.LearningAndSlots := by
  unfold Obligations.LearningAndSlots
  refine ⟨?pair, ?done, ?deferred, ?evaluation, ?mirror, ?loaded, ?fetched, ?moved⟩
  case pair =>
    intro r l s hl hp
    exact trainingPair_due hl hp
  case done =>
    intro c s hl hc hb hd
    obtain ⟨drawn, h⟩ := learningStep_eq hl hc hb
    rw [h, hd, if_neg Bool.false_ne_true]
    exact ⟨_, rfl, rfl, rfl, rfl⟩
  case deferred =>
    intro c s hl hc hb hd
    obtain ⟨drawn, h⟩ := learningStep_eq hl hc hb
    rw [h, if_pos hd]
  case evaluation =>
    intro s hl he
    obtain ⟨cand, hash, w, h⟩ := candidateEvaluation_eq hl he
    rw [h, candidatePasses_evaluated]
    by_cases hp : candidatePasses s cand (servingError s) = true
    · obtain ⟨n, lanes, hm⟩ := sendMirror_frame { evaluated s (servingError s) cand with
        eng.candidate := some hash, eng.candW := w, eng.candAcked := !s.red.peerHere }
      rw [if_pos hp, hm]
      exact ⟨_, rfl, rfl, rfl, (if_pos hp).mpr ⟨rfl, rfl, rfl⟩, rfl⟩
    · rw [if_neg hp]
      exact ⟨_, rfl, rfl, rfl, (if_neg hp).mpr ⟨rfl, rfl⟩, rfl⟩
  case mirror =>
    intro s ha hm
    obtain ⟨lanes, h⟩ := learningStateMirror_eq ha hm
    rw [h]
    exact ⟨_, rfl, rfl, rfl, rfl, rfl⟩
  case loaded =>
    intro k g s h1 hs hk
    obtain ⟨n, lanes, h⟩ := modelLoadDone_frame hs g
    rw [h]
    refine ⟨_, rfl, mget_mdel_self _ _, fun j hj hne => ?_, ?_, fun h7 => ?_, rfl⟩
    · exact slotOf_replaced_ne rfl hj hne
    · rw [slotOf_replaced rfl h1 hk, loadedSlot]
      split
      · exact ⟨rfl, rfl, rfl, rfl, rfl⟩
      · rfl
    · rw [← dget_bump_self]
      exact dget_congr (if_pos h7) _ _
  case fetched =>
    intro k s h1 hs hk hp
    rw [damagedSlotFetch_mirrored hs hp]
    refine ⟨_, rfl, ?_, rfl⟩
    rw [slotOf_eq_rawSlot h1 s]
    exact slotOf_replaced rfl h1 hk
  case moved =>
    intro s hs
    exact damagedSlotFetch_serving hs

end Sys2Proof.Machine

/-! PROOFS. Model selections (R182, R187): what a response leaves of the engine, and the re-shard that a selection ends. -/
namespace Sys2Proof.Machine

/-! ## What a response leaves of the engine (R394, R395) -/

theorem CrossFrame.eng_eq {s t : State} (h : CrossFrame s t) : t.eng = s.eng := by
  unfold CrossFrame at h
  rw [h]

theorem pulse_frame (s : State) (i : Nat) (stopped : Bool) : CrossFrame s (pulse s i stopped) := by
  unfold pulse
  split
  · rfl
  · split
    · rfl
    · exact setLost_frame s i

@[simp] theorem mailMessage_eng (s : State) (l : Link) (op : Nat) : (mailMessage s l op).eng = s.eng := by
  cases l with
  | ld n => exact ((pulse_frame s 8 (s.net.cxl != 2)).eng_eq :)
  | j7 => rfl
  | fnA => rfl
  | fnB => rfl

@[simp] theorem setTxQ_eng (s : State) (c : Chan) (l : List Frame) : (setTxQ s c l).eng = s.eng := by
  cases c <;> rfl

@[simp] theorem replyFrame_eng (s : State) (c : Chan) (size dest : Nat) (tag : Tag) (body : Body) :
    (replyFrame s c size dest tag body).eng = s.eng := by
  unfold replyFrame queueOn
  simp only [apply_ite State.eng, setTxQ_eng, ite_self]
  rfl

@[simp] theorem sendResp_eng (s : State) (key : Nat) (l : Link) (dest : Nat) (p : Resp) :
    (sendResp s key l dest p).eng = s.eng := by
  unfold sendResp
  cases l <;> simp

/-- A response sent, or held for the standby, leaves the engine alone. -/
theorem deliver_eng (s : State) (r : Req) (p : Resp) (waits : Bool) : (deliver s r p waits).eng = s.eng := by
  unfold deliver
  dsimp only
  split
  · cases waits <;> rfl
  · exact sendResp_eng _ _ _ _ _

theorem Replied.eng_eq {r : Req} {c : Nat} {a t : State} (h : Replied r c a t) : t.eng = a.eng := by
  obtain ⟨p, waits, -, -, rfl⟩ := h
  obtain ⟨vals, hv⟩ := countCode_frame a c
  rw [deliver_eng, hv]

theorem counted_eng {s : State} {r : Req} (h : (arrives s r).2 = true) : (counted s r).eng = s.eng := by
  obtain ⟨_, _, _, _, hc⟩ := counted_frame h
  rw [hc]

/-! ## A selection during a re-shard build (R182, R187) -/

/-- The build that a selection ends is noted, to be made again. -/
theorem selectAccepted_rebuild {s : State} {m : Nat} (h : s.eng.mapNext = some m) :
    (selectAccepted s).eng.rebuild = some m := by
  rw [selectAccepted, h]

theorem abandonBuild_rebuild (s : State) : (abandonBuild s).eng.rebuild = s.eng.rebuild := by
  cases hm : s.eng.mapNext with
  | none => rw [abandonBuild_none hm]
  | some m =>
    obtain ⟨_, ha⟩ := abandonBuild_some hm
    rw [ha]

/-- A selection pends to the next boundary and is accepted as `selectAccepted` says. -/
theorem acceptWrite_selection (u : State) (role : Role) (k : Option Session) (q : Req) (v : Nat) (d : Desc)
    (hd : d.apply = 2) (hf : firstOf q = 0) (ho : q.object = 0x4111) :
    acceptWrite u (wrOf q k role d q.value none) d [v] = selectAccepted (setPend u 0x4111 0 v 2) := by
  rw [acceptWrite_pending _ _ _ (by omega) (by simp [ho])]
  simp [onAccept, hd, hf, ho]

theorem writes_modelSelect : Writes .modelSelect 0x4111 0x06 (fun u _ _ _ v => selectAccepted (setPend u 0x4111 0 v 2)) :=
  writes_single (cls := 2) (fun _ _ => rfl) (by decide) rfl acceptWrite_selection

/-- A session of the Owner over the LD0 mailbox. -/
def selectingOwner : Session :=
  { number := 1, role := .owner, key := 0, link := .ld 0, rx := 0, tx := 0, opened := 0, used := 0, promoted := false
    scopes := 0, till := 0, kRd := 0, kDr := 0, sRd := 0, sDr := 0 }

/-- The active module, that session open, whose engine builds the burst mapping. -/
def buildingState : State := { State.reset with sec.sessions := [selectingOwner], red.role := .active, eng.mapNext := some 1 }

/-- The selection of slot 0 in that session. -/
def slotZeroRequest : Req :=
  { link := .ld 0, session := some 1, arrived := 20, gen := 1, op := 2, flags := 3, transaction := 0, object := 0x4111
    element := 0, ext := 0, resv := 0, count := 1, offset := 0, length := 1, value := [0], sigs := [], derivedOk := true
    can := none }

/-- The descriptor of the selection. -/
def selectionDesc : Desc := (objDesc 0x4111).getD ⟨0, 1, 1, 1, 1, .rule, 0, 0, 0, 0⟩

theorem slotZeroRequest_admitted : Admitted buildingState (Req.writing slotZeroRequest 0x4111) selectionDesc .owner
    (some selectingOwner) none := by decide +kernel

theorem slotZeroRequest_unclamped : Unclamped buildingState (Req.writing slotZeroRequest 0x4111) := by decide +kernel

theorem counted_slotZeroRequest_eng :
    (counted buildingState (Req.writing slotZeroRequest 0x4111)).eng = buildingState.eng :=
  counted_eng (arrives_of_taken slotZeroRequest_admitted.1)

/-- Refutes O47: it has a selection only abandon the re-shard build, where the module also notes the mapping to build it again
after the swap (R182). A selection of slot 0 accepted while the burst mapping is built leaves that mapping noted. -/
theorem not_layerModelAndShelfRequests : ¬ Obligations.LayerModelAndShelfRequests := by
  unfold Obligations.LayerModelAndShelfRequests
  rintro ⟨-, -, -, -, -, hselect, -⟩
  obtain ⟨t, ht, habandoned⟩ := hselect _ _ _ _ _ slotZeroRequest_admitted slotZeroRequest_unclamped
  obtain ⟨t', ht', haccepted⟩ := writes_modelSelect _ _ _ _ _ slotZeroRequest_admitted slotZeroRequest_unclamped
  obtain rfl : t' = t := by rwa [ht', Host.Outcome.next.injEq] at ht
  have hkept : t'.eng.rebuild = none := by
    rw [habandoned.eng_eq, abandonBuild_rebuild, setPend_eng, counted_slotZeroRequest_eng]
    rfl
  have hnoted : t'.eng.rebuild = some 1 := by
    rw [haccepted.eng_eq]
    exact selectAccepted_rebuild (by rw [setPend_eng, counted_slotZeroRequest_eng]; rfl)
  exact absurd (hkept.symm.trans hnoted) (by decide)

end Sys2Proof.Machine

/-! PROOFS. The shared updates of the storage converter (R200 to R207, R224, R225, R227 to R230, R305): masks of phases, strings,
contactors and records, each with what it leaves alone. -/
namespace Sys2Proof.Machine

/-! ## Masks of phases (R200, R235) -/

/-- Numbers that share no bit add without a carry. -/
theorem add_eq_or_of_and_eq_zero {a b : Nat} (h : a &&& b = 0) : a + b = a ||| b := by
  have hlt : a + b < 2 ^ (a + b) := Nat.lt_two_pow_self
  have ha : a < 2 ^ (a + b) := by omega
  have hb : b < 2 ^ (a + b) := by omega
  have hbv := congrArg BitVec.toNat (BitVec.add_eq_or_of_and_eq_zero (BitVec.ofNat (a + b) a) (BitVec.ofNat (a + b) b)
    (BitVec.eq_of_toNat_eq (by simp [Nat.mod_eq_of_lt, ha, hb, h])))
  simpa [Nat.mod_eq_of_lt, ha, hb, hlt] using hbv

@[simp] theorem bit_and (m n i : Nat) : bit (m &&& n) i = (bit m i && bit n i) := Nat.testBit_and m n i

@[simp] theorem bit_or (m n i : Nat) : bit (m ||| n) i = (bit m i || bit n i) := Nat.testBit_or m n i

theorem bit_clearBits (n v : Nat) {w i : Nat} (h : i < w) : bit (clearBits n v w) i = (bit n i && !bit v i) := by
  simp [clearBits, bit, h]

/-- What is left after some bits are cleared shares none with them. -/
theorem clearBits_and_cleared (n m v w : Nat) : clearBits n v w &&& (m &&& v) = 0 := by
  refine Nat.eq_of_testBit_eq fun i => ?_
  by_cases hi : i < w <;> cases hv : v.testBit i <;> simp [clearBits, hi, hv]

@[simp] theorem popcount_zero (w : Nat) : popcount 0 w = 0 := by
  induction w with
  | zero => rfl
  | succ w ih => simp [popcount, ih]

theorem lt_of_mem_phasesOf {x : Str} {p : Nat} (h : p ∈ phasesOf x) : p < 24 := by
  cases x <;> revert p <;> decide

theorem bit_strMask_of_mem {x : Str} {p : Nat} (h : p ∈ phasesOf x) : bit (strMask x) p = true := by
  cases x <;> revert p <;> decide

theorem bit_strMask_other_of_mem {x : Str} {p : Nat} (h : p ∈ phasesOf x) : bit (strMask x.other) p = false := by
  cases x <;> revert p <;> decide

/-- The phases that switch after those of one string are set: that string's from the mask, the others as before. -/
theorem setActive_active (s : State) (x : Str) (m : Nat) :
    (setActive s x m).cot.active = clearBits s.cot.active (strMask x) 24 ||| (m &&& strMask x) :=
  add_eq_or_of_and_eq_zero (clearBits_and_cleared _ _ _ _)

theorem bit_setActive {x : Str} {p : Nat} (h : p ∈ phasesOf x) (s : State) (m : Nat) :
    bit (setActive s x m).cot.active p = bit m p := by
  simp [setActive_active, bit_clearBits _ _ (lt_of_mem_phasesOf h), bit_strMask_of_mem h]

theorem bit_setActive_other {x : Str} {p : Nat} (h : p ∈ phasesOf x) (s : State) (m : Nat) :
    bit (setActive s x.other m).cot.active p = bit s.cot.active p := by
  simp [setActive_active, bit_clearBits _ _ (lt_of_mem_phasesOf h), bit_strMask_other_of_mem h]

theorem bit_phasesOff {x : Str} {p : Nat} (h : p ∈ phasesOf x) (s : State) :
    bit (phasesOff s x).cot.active p = false := (bit_setActive h s 0).trans (bit_zero p)

theorem nActive_phasesOff (s : State) (x : Str) : nActive (phasesOff s x) x = 0 := by
  have h : activeOf (phasesOff s x) x = 0 := by
    have hoff : (phasesOff s x).cot.active = clearBits s.cot.active (strMask x) 24 := by
      rw [phasesOff, setActive_active, Nat.zero_and, Nat.or_zero]
    have hand := clearBits_and_cleared s.cot.active (strMask x) (strMask x) 24
    rw [Nat.and_self] at hand
    rw [activeOf, hoff, hand]
  rw [nActive, h, popcount_zero]

/-! ## The strings (R225) -/

/-- `t` is `s` with at most its converter and the values of its dictionary changed. -/
def ConvFrame (s t : State) : Prop := t = { s with cot := t.cot, dic.vals := t.dic.vals }

theorem ConvFrame.trans {s t u : State} (h : ConvFrame s t) (k : ConvFrame t u) : ConvFrame s u := by
  unfold ConvFrame at *
  rw [k, h]

theorem conv_congr {s t : State} (h : t.cot.str = s.cot.str) (x : Str) : conv t x = conv s x := by
  unfold conv
  rw [h]

@[simp] theorem conv_setConv_self (s : State) (x : Str) (c : Conv) : conv (setConv s x c) x = c := Two.get_set_self _ _ _

@[simp] theorem conv_setConv_other (s : State) (x : Str) (c : Conv) : conv (setConv s x c) x.other = conv s x.other := by
  cases x <;> rfl

@[simp] theorem setConv_conv (s : State) (x : Str) : setConv s x (conv s x) = s := by cases x <;> rfl

@[simp] theorem setConv_setConv (s : State) (x : Str) (c d : Conv) : setConv (setConv s x c) x d = setConv s x d := by
  cases x <;> rfl

theorem bump_frame (s : State) (o e : Nat) : ∃ vals, bump s o e = { s with dic.vals := vals } := ⟨_, rfl⟩

theorem unfollow_eq (s : State) (x : Str) :
    unfollow s x = { s with cot.vFollow := if s.cot.vFollow = some x then none else s.cot.vFollow } := by
  unfold unfollow
  split <;> rfl

/-- Every shed phase of a string joins; beside the phases that switch, the count of adds alone changes. -/
theorem rejoin_eq (s : State) (x : Str) : ∃ active vals,
    rejoin s x = setConv { s with cot.active := active, dic.vals := vals } x { conv s x with shed := 0, dwell := 0 } := by
  unfold rejoin
  dsimp only
  obtain ⟨vals, hb⟩ := bumpN_frame s 0x5021 6 (popcount (shedOf s x) 24)
  rw [hb]
  split <;> exact ⟨_, _, rfl⟩

theorem rejoin_frame (s : State) (x : Str) : ConvFrame s (rejoin s x) := by
  obtain ⟨active, vals, h⟩ := rejoin_eq s x
  rw [h]
  rfl

theorem dget_rejoin_ne (s : State) (x : Str) {o e : Nat} (h : dkey o e ≠ dkey 0x5021 6) :
    dget (rejoin s x) o e = dget s o e := by
  have hn := dget_bumpN_ne s 0x5021 6 (popcount (shedOf s x) 24) h
  unfold rejoin
  dsimp only
  rw [dget_setConv, ← hn]
  split
  · exact dget_congr (s := bumpN s 0x5021 6 (popcount (shedOf s x) 24)) (by dsimp only) o e
  · rfl

/-! ## Contactors (R222, R305) -/

@[simp] theorem kIdx_ne (x : Str) : kIdx x .pre ≠ kIdx x .main := by cases x <;> decide

/-- `t` is `s` with at most its converter and its guard changed. -/
def ContactorFrame (s t : State) : Prop := t = { s with cot := t.cot, grd := t.grd }

theorem ContactorFrame.trans {s t u : State} (h : ContactorFrame s t) (k : ContactorFrame t u) : ContactorFrame s u := by
  unfold ContactorFrame at *
  rw [k, h]

theorem passCommand_frame (s : State) (i : Nat) (close : Bool) : ContactorFrame s (passCommand s i close) := rfl

theorem phasesOff_frame (s : State) (x : Str) : ContactorFrame s (phasesOff s x) := rfl

theorem setConv_frame (s : State) (x : Str) (c : Conv) : ContactorFrame s (setConv s x c) := rfl

theorem openBoth_frame (s : State) (x : Str) : ContactorFrame s (openBoth s x) :=
  (passCommand_frame s _ _).trans (passCommand_frame _ _ _)

theorem toOpen_frame (s : State) (x : Str) (st : SState) : ContactorFrame s (toOpen s x st) :=
  ((phasesOff_frame s x).trans (openBoth_frame _ x)).trans (setConv_frame _ x _)

/-- A string's contactors are both commanded open. -/
theorem openBoth_cmd (s : State) (x : Str) :
    (openBoth s x).cot.cmd = setBit (setBit s.cot.cmd (kIdx x .main) false) (kIdx x .pre) false := rfl

theorem bit_openBoth (s : State) (x : Str) (k : Contactor) : bit (openBoth s x).cot.cmd (kIdx x k) = false := by
  rw [openBoth_cmd]
  cases k with
  | pre => exact bit_setBit_self _ _ _
  | main => rw [bit_setBit_ne _ _ _ _ (kIdx_ne x).symm, bit_setBit_self]

/-- A held command stands among those held, and is counted where it is new. -/
theorem holdCommand_eq (s : State) (i : Nat) (close : Bool) : ∃ held vals,
    holdCommand s i close = { s with grd.heldCmd := held, dic.vals := vals } ∧ (i, close) ∈ held := by
  unfold holdCommand
  split
  · rename_i h
    exact ⟨_, _, rfl, List.contains_iff_mem.mp h⟩
  · exact ⟨_, _, rfl, List.mem_cons_self⟩

/-- No command of a contactor is held after one has passed. -/
theorem not_held_passCommand (s : State) (i : Nat) (close : Bool) :
    ∀ h ∈ (passCommand s i close).grd.heldCmd, h.1 ≠ i := by
  intro h hm
  simpa using (List.mem_filter.mp hm).2

@[simp] theorem dget_toOpen (s : State) (x : Str) (st : SState) (o e : Nat) : dget (toOpen s x st) o e = dget s o e := rfl

/-! ## Zeroing and latching (R215, R219, R223, R224) -/

theorem zeroing_eq (s : State) (x : Str) (after : SState) : ∃ cot vals,
    zeroing s x after = setConv { s with cot := cot, dic.vals := vals } x { conv s x with
      shed := 0, dwell := 0, st := .zeroing, after := after, vss := 0, waiting := none } ∧
    cot.cmd = s.cot.cmd ∧ cot.flt = s.cot.flt ∧ cot.str = s.cot.str := by
  unfold zeroing
  rw [unfollow_eq]
  dsimp only
  obtain ⟨active, vals, hr⟩ := rejoin_eq
    (zeroRefs { s with cot.vFollow := if s.cot.vFollow = some x then none else s.cot.vFollow } x) x
  rw [hr, setConv_setConv, conv_setConv_self]
  exact ⟨_, _, rfl, rfl, rfl, rfl⟩

theorem dget_zeroing_ne (s : State) (x : Str) (after : SState) {o e : Nat} (h : dkey o e ≠ dkey 0x5021 6) :
    dget (zeroing s x after) o e = dget s o e := by
  have hr : dget (zeroing s x after) o e = dget (zeroRefs (unfollow s x) x) o e := dget_rejoin_ne _ x h
  rw [hr, unfollow_eq]
  rfl

/-- `t` is `s` with at most what a string's latch touches changed: converter, guard, minute record, counts. -/
def LatchFrame (s t : State) : Prop :=
  t = { s with cot := t.cot, grd := t.grd, fac.mFlags := t.fac.mFlags, dic.vals := t.dic.vals }

theorem ConvFrame.latched {s t u : State} (h : ConvFrame s t) (k : LatchFrame t u) : LatchFrame s u := by
  unfold ConvFrame LatchFrame at *
  rw [k, h]

/-- A string whose own latch sets: its current is zeroed, or its contactors open; it is counted, and the minute record marked. -/
structure Latched (s : State) (x : Str) (t : State) : Prop where
  own : (conv t x).ownLatch = true
  others : conv t x.other = conv s x.other
  flags : t.cot.flt = s.cot.flt
  counted : dget t 0x5021 2 = satInc (dget s 0x5021 2) 0xFFFFFFFF
  frame : t = { s with
    cot := t.cot, grd := t.grd, fac.mFlags := setBit s.fac.mFlags 11 true, dic.vals := t.dic.vals }

theorem Latched.latchFrame {s : State} {x : Str} {t : State} (h : Latched s x t) : LatchFrame s t := by
  obtain ⟨-, -, -, -, hf⟩ := h
  unfold LatchFrame
  rw [hf]

theorem Latched.mFlags {s : State} {x : Str} {t : State} (h : Latched s x t) :
    t.fac.mFlags = setBit s.fac.mFlags 11 true := by
  obtain ⟨-, -, -, -, hf⟩ := h
  rw [hf]

/-- The state in which a string's own latch has set, before its current is dealt with. -/
def ownLatched (s : State) (x : Str) : State := setConv (minuteFlag s 11) x { conv s x with ownLatch := true }

theorem conv_ownLatched (s : State) (x : Str) : conv (ownLatched s x) x = { conv s x with ownLatch := true } :=
  conv_setConv_self _ _ _

theorem conv_ownLatched_other (s : State) (x : Str) : conv (ownLatched s x) x.other = conv s x.other :=
  conv_setConv_other _ _ _

/-- What a string whose own latch has set does next: nothing under the overvoltage latch, else zeroing or opening. -/
def latchedOut (s : State) (x : Str) : State :=
  if (conv s x).st = .ovLatch then s else if nActive s x != 0 then zeroing s x .latched else toOpen s x .latched

theorem latchString_eq (s : State) (x : Str) : latchString s x = latchedOut (ownLatched (bump s 0x5021 2) x) x := rfl

theorem latchedOut_frame (s : State) (x : Str) : ∃ cot grd vals, latchedOut s x =
      { s with cot := cot, grd := grd, dic.vals := vals } ∧ cot.flt = s.cot.flt := by
  unfold latchedOut
  obtain ⟨cot, vals, h, -, hflt, -⟩ := zeroing_eq s x .latched
  rw [h]
  split
  · exact ⟨_, _, _, rfl, rfl⟩
  · split
    · exact ⟨_, _, _, rfl, hflt⟩
    · exact ⟨_, _, _, rfl, rfl⟩

theorem conv_latchedOut_own (s : State) (x : Str) : (conv (latchedOut s x) x).ownLatch = (conv s x).ownLatch := by
  unfold latchedOut
  obtain ⟨cot, vals, h, -⟩ := zeroing_eq s x .latched
  rw [h]
  split
  · rfl
  · split
    · rw [conv_setConv_self]
    · rw [toOpen, conv_setConv_self]
      rfl

theorem conv_latchedOut_other (s : State) (x : Str) : conv (latchedOut s x) x.other = conv s x.other := by
  unfold latchedOut
  obtain ⟨cot, vals, h, -, -, hstr⟩ := zeroing_eq s x .latched
  rw [h]
  split
  · rfl
  · split
    · exact (conv_setConv_other _ _ _).trans (conv_congr hstr _)
    · exact conv_setConv_other _ _ _

theorem dget_latchedOut_ne (s : State) (x : Str) {o e : Nat} (h : dkey o e ≠ dkey 0x5021 6) :
    dget (latchedOut s x) o e = dget s o e := by
  unfold latchedOut
  split
  · rfl
  · split
    · exact dget_zeroing_ne s x _ h
    · exact dget_toOpen s x _ o e

theorem latchString_latched (s : State) (x : Str) : Latched s x (latchString s x) := by
  obtain ⟨vals, hb⟩ := bump_frame s 0x5021 2
  have hcount := dget_bump_self s 0x5021 2
  rw [hb] at hcount
  rw [latchString_eq, hb]
  have hd := dget_latchedOut_ne (ownLatched { s with dic.vals := vals } x) x (o := 0x5021) (e := 2) (by decide)
  obtain ⟨cot, grd, vals', h, hflt⟩ := latchedOut_frame (ownLatched { s with dic.vals := vals } x) x
  refine ⟨?_, ?_, ?_, hd.trans hcount, ?_⟩
  · rw [conv_latchedOut_own, conv_ownLatched]
  · rw [conv_latchedOut_other, conv_ownLatched_other]
    rfl
  · rw [h]
    exact hflt
  · rw [h]
    rfl

/-! ## Records of the converter (R228 to R230) -/

@[simp] theorem writeRecB_cot (s : State) (b v c body : Nat) : (writeRecB s b v c body).cot = s.cot := by
  obtain ⟨_, _, _, _, _, _, h⟩ := writeRecB_frame s b v c body
  rw [h]

@[simp] theorem writeRecB_grd (s : State) (b v c body : Nat) : (writeRecB s b v c body).grd = s.grd := by
  obtain ⟨_, _, _, _, _, _, h⟩ := writeRecB_frame s b v c body
  rw [h]

@[simp] theorem writeRecB_mFlags (s : State) (b v c body : Nat) : (writeRecB s b v c body).fac.mFlags = s.fac.mFlags := by
  obtain ⟨_, _, _, _, _, _, h⟩ := writeRecB_frame s b v c body
  rw [h]

@[simp] theorem convRec_cot (s : State) (v c : Nat) : (convRec s v c).cot = s.cot := writeRecB_cot _ _ _ _ _
@[simp] theorem convRec_grd (s : State) (v c : Nat) : (convRec s v c).grd = s.grd := writeRecB_grd _ _ _ _ _
@[simp] theorem convRec_mFlags (s : State) (v c : Nat) : (convRec s v c).fac.mFlags = s.fac.mFlags := writeRecB_mFlags _ _ _ _ _
@[simp] theorem convRec_dic (s : State) (v c : Nat) : (convRec s v c).dic = s.dic := writeRecB_dic _ _ _ _ _

@[simp] theorem conv_convRec (s : State) (v c : Nat) (x : Str) : conv (convRec s v c) x = conv s x :=
  conv_congr (congrArg Cot.str (convRec_cot s v c)) x

@[simp] theorem dget_writeRecB (s : State) (b v c body o e : Nat) : dget (writeRecB s b v c body) o e = dget s o e :=
  dget_congr (congrArg Dic.vals (writeRecB_dic s b v c body)) o e

@[simp] theorem dget_convRec (s : State) (v c o e : Nat) : dget (convRec s v c) o e = dget s o e := dget_writeRecB _ _ _ _ _ _ _

/-- A converter record is written on the state `u` that holds everything else the event changed. -/
theorem wrote_convRec {u s : State} (v c : Nat) (h : u = s) : Wrote u (convRec s v c) 1 v c := by
  rw [h]
  exact wrote_writeRecB s 1 v c (convBody s)

end Sys2Proof.Machine

/-! PROOFS. The on-times of a string (R201 to R205, R207, R212 to R215). -/
namespace Sys2Proof.Machine

/-! ## The modulator up to a clock (R204, R205) -/

/-- `t` is `s` with at most its converter changed. -/
def CotFrame (s t : State) : Prop := ∃ c, t = { s with cot := c }

theorem CotFrame.refl (s : State) : CotFrame s s := ⟨_, rfl⟩

theorem CotFrame.trans {s t u : State} (h : CotFrame s t) (k : CotFrame t u) : CotFrame s u := by
  obtain ⟨c, rfl⟩ := h
  obtain ⟨d, rfl⟩ := k
  exact ⟨d, rfl⟩

theorem CotFrame.ite {s t u : State} (c : Prop) [Decidable c] (h : CotFrame s t) (k : CotFrame s u) :
    CotFrame s (if c then t else u) := by
  split
  · exact h
  · exact k

theorem CotFrame.dget_eq {s t : State} (h : CotFrame s t) (o e : Nat) : dget t o e = dget s o e := by
  obtain ⟨c, rfl⟩ := h
  exact dget_congr rfl o e

theorem emuTo_frame (s : State) (b : Nat) : CotFrame s (emuTo s b) := by
  unfold emuTo
  split <;> exact ⟨_, rfl⟩

theorem startOnTime_frame (s : State) (x : Str) (p t : Nat) : CotFrame s (startOnTime s x p t) := ⟨_, rfl⟩

theorem wake_frame (s : State) (x : Str) (b : Nat) : CotFrame s (wake s x b) := by
  unfold wake
  split
  · split
    · exact (emuTo_frame s _).trans (startOnTime_frame _ x _ _)
    · exact .refl s
  · exact .refl s

theorem runTo_frame (s : State) (b : Nat) : CotFrame s (runTo s b) := by
  unfold runTo
  exact (CotFrame.ite _ ((wake_frame s .A b).trans (wake_frame _ .B b))
    ((wake_frame s .B b).trans (wake_frame _ .A b))).trans (emuTo_frame _ b)

/-- The phase that a trigger waits for is not woken while its on-time runs. -/
theorem wake_of_onTime {s : State} {x : Str} {p : Nat} (hw : (conv s x).waiting = some p) (h : bit s.cot.onTime p = true)
    (b : Nat) : wake s x b = s := by
  have hn : wakeAt s x = none := by
    unfold wakeAt
    rw [hw]
    exact if_pos h
  unfold wake
  rw [hn]

/-! ## A firing (R202, R205, R207) -/

theorem turnDirection_eq (s : State) (x : Str) :
    ∃ c n, turnDirection s x = setConv s x { conv s x with charge := c, dirCnt := n } := by
  unfold turnDirection
  dsimp only
  split
  · exact ⟨_, _, rfl⟩
  · exact ⟨(conv s x).charge, (conv s x).dirCnt, (setConv_conv s x).symm⟩

/-- An add touches the phases that switch, the shedding of its string and the count of adds; made only where it is due. -/
theorem ite_phaseAdd_eq (due : Bool) (s : State) (x : Str) : ∃ active vals shed dwell joined,
    (if due then phaseAdd s x else s) = setConv { s with cot.active := active, dic.vals := vals } x
      { conv s x with shed := shed, dwell := dwell, joined := joined } := by
  have hsame : s = setConv { s with cot.active := s.cot.active, dic.vals := s.dic.vals } x
      { conv s x with shed := (conv s x).shed, dwell := (conv s x).dwell, joined := (conv s x).joined } :=
    (setConv_conv s x).symm
  cases due with
  | false => exact ⟨_, _, _, _, _, hsame⟩
  | true =>
    obtain ⟨vals, hb⟩ := bump_frame s 0x5021 6
    rw [if_pos rfl, phaseAdd]
    split
    · exact ⟨_, _, _, _, _, hsame⟩
    · dsimp only
      rw [hb]
      exact ⟨_, _, _, _, _, rfl⟩

theorem dget_ite_phaseAdd_ne (due : Bool) (s : State) (x : Str) {o e : Nat} (h : dkey o e ≠ dkey 0x5021 6) :
    dget (if due then phaseAdd s x else s) o e = dget s o e := by
  cases due with
  | false => rfl
  | true =>
    rw [if_pos rfl, phaseAdd]
    split
    · rfl
    · dsimp only
      rw [dget_setConv, ← dget_bump_ne s 0x5021 6 h]
      exact dget_congr (s := bump s 0x5021 6) (by dsimp only) o e

/-- A trigger with a next phase has that phase take it, and makes an add that is due. -/
theorem trigger_eq {s : State} {x : Str} {p : Nat} (clk : Nat) (hw : (conv s x).waiting = none)
    (hp : nextPhase (turnDirection s x) x = some p) : trigger s x clk =
      if addDue (turnDirection s x) x then phaseAdd (takeTrigger (endCycles (turnDirection s x) x) x p clk) x
      else takeTrigger (endCycles (turnDirection s x) x) x p clk := by
  have hw' : (conv (turnDirection s x) x).waiting = none := by
    obtain ⟨c, n, h⟩ := turnDirection_eq s x
    rw [h, conv_setConv_self]
    exact hw
  rw [trigger]
  dsimp only
  rw [hw', hp]

/-- The comparator fires: the modulator runs, the string's phases switch and are not blanked, and its condition holds. -/
def Fires (s : State) (x : Str) : Prop :=
  modulates s = true ∧ switching s x = true ∧ (conv s x).blank = false ∧ s.cot.ovLatch = false ∧ valley s x = true

theorem cotTrigger_fires {x : Str} {clk : Nat} {s : State} (h : Fires (runTo s clk) x) :
    exec (.cotTrigger x clk) s = .next (trigger (runTo s clk) x clk) := by
  obtain ⟨hm, hs, hb, ho, hv⟩ := h
  have hrow : exec (.cotTrigger x clk) s = execCotTrigger x clk s := rfl
  simp [hrow, execCotTrigger, hm, hs, hb, ho, hv]

theorem takeTrigger_starts {s : State} {p t : Nat} (x : Str) (hon : bit s.cot.onTime p = false)
    (hedge : atI s.cot.edge p + 80 ≤ (t : Int)) : takeTrigger s x p t = startOnTime s x p t := by
  have he : ¬ (t : Int) < atI s.cot.edge p + 80 := Int.not_lt.mpr hedge
  simp [takeTrigger, hon, he]

/-- The trigger of a phase in its on-time waits, counted. -/
theorem takeTrigger_waits {s : State} {p : Nat} (x : Str) (t : Nat) (hon : bit s.cot.onTime p = true) :
    takeTrigger s x p t = setConv (cotFlag (bump s 0x5021 4) 15) x { conv s x with waiting := some p } := by
  have hw := wake_of_onTime (s := setConv (cotFlag (bump s 0x5021 4) 15) x { conv s x with waiting := some p }) (x := x)
    (p := p) (by rw [conv_setConv_self]) hon t
  simp only [takeTrigger, hon, Bool.true_or, if_true]
  exact hw

/-! ## The end of an on-time (R201, R213 to R215) -/

theorem onTimeEnd_over {p clk : Nat} {s : State} (h1 : bit (runTo s clk).cot.onTime p = true)
    (h2 : onTimeOver (runTo s clk) p clk = true) :
    exec (.onTimeEnd p clk) s = .next (endOnTime (runTo s clk) p clk) := by
  have hrow : exec (.onTimeEnd p clk) s = execOnTimeEnd p clk s := rfl
  simp [hrow, execOnTimeEnd, h1, h2]

/-- The on-time of phase `p` ended at the limit, and counted as a limited cycle. -/
def limitOnTime (s : State) (p clk : Nat) : State :=
  { stopOnTime s p clk with
    cot.limitedRun := setAt s.cot.limitedRun p (at0 s.cot.limitedRun p + 1)
    cot.lastLim := setBit s.cot.lastLim p true }

theorem fastLimit_eq {p clk : Nat} {s : State} (h1 : bit (runTo s clk).cot.onTime p = true)
    (h2 : (runTo s clk).cot.ovLatch = false) : exec (.fastLimit p clk) s =
      .next (rejoin (limitOnTime (cotFlag (bump (runTo s clk) 0x5021 0) 0) p clk) (phaseStr p)) := by
  have hrow : exec (.fastLimit p clk) s = execFastLimit p clk s := rfl
  rw [hrow, execFastLimit]
  dsimp only
  rw [if_pos (by rw [h1, h2]; rfl)]
  rfl

theorem setBit_of_bit {n i : Nat} {b : Bool} (h : bit n i = b) : setBit n i b = n := if_pos h

/-- Ending the on-times of a list of phases clears their bits, and leaves the strings and the flags of the converter alone. -/
theorem endOnTimes_eq (l : List Nat) (t : Nat) : ∀ s : State, ∃ onSum edge run lim,
    l.foldl (fun s p => if bit s.cot.onTime p then endOnTime s p t else s) s = { s with
      cot.onTime := l.foldl (fun m p => setBit m p false) s.cot.onTime
      cot.onSum := onSum, cot.edge := edge, cot.limitedRun := run, cot.lastLim := lim } := by
  induction l with
  | nil => exact fun s => ⟨_, _, _, _, rfl⟩
  | cons p l ih =>
    intro s
    rw [List.foldl_cons, List.foldl_cons]
    by_cases h : bit s.cot.onTime p = true
    · obtain ⟨onSum, edge, run, lim, hl⟩ := ih (endOnTime s p t)
      rw [if_pos h, hl]
      exact ⟨onSum, edge, run, lim, rfl⟩
    · rw [if_neg h, setBit_of_bit (Bool.not_eq_true _ ▸ h)]
      exact ih s

theorem bit_foldl_setBit_false (l : List Nat) (m q : Nat) (h : q ∈ l ∨ bit m q = false) :
    bit (l.foldl (fun m p => setBit m p false) m) q = false := by
  induction l generalizing m with
  | nil => exact h.resolve_left List.not_mem_nil
  | cons p l ih =>
    rw [List.foldl_cons]
    apply ih
    rw [bit_setBit]
    split
    · exact .inr rfl
    · rename_i hne
      exact h.imp_left fun hm => (List.mem_cons.mp hm).resolve_left hne

theorem pulseTruncation_begins {x : Str} {clk : Nat} {s : State} (h : ((runTo s clk).cot.onTime &&& strMask x) ≠ 0) :
    exec (.pulseTruncation x true clk) s =
      .next (setConv (cotFlag (bump (endAllOnTimes (runTo s clk) x clk) 0x5021 3) 14) x
        { conv (endAllOnTimes (runTo s clk) x clk) x with blank := true }) := by
  have hrow : exec (.pulseTruncation x true clk) s = execPulseTruncation x true clk s := rfl
  rw [hrow, execPulseTruncation]
  dsimp only
  rw [if_pos rfl, if_pos (by simpa using h)]
  rfl

/-! ## What each event leaves (R201, R205, R207, R213 to R215) -/

/-- A trigger whose next phase is past its minimum off-time starts that phase. -/
theorem trigger_starts {u : State} {x : Str} {p clk : Nat} (hw : (conv u x).waiting = none)
    (hp : nextPhase (turnDirection u x) x = some p) (hon : bit u.cot.onTime p = false)
    (hedge : atI u.cot.edge p + 80 ≤ (clk : Int)) :
    let t := trigger u x clk
    t.cot.onTime = setBit u.cot.onTime p true ∧ t.cot.onClk = setAt u.cot.onClk p (onTimeOf (turnDirection u x) x) ∧
      t.cot.edge = setAt u.cot.edge p (clk : Int) ∧ (conv t x).waiting = none ∧
      (conv t x).charge = (conv (turnDirection u x) x).charge ∧ conv t x.other = conv u x.other ∧
      t = { u with cot := t.cot, dic.vals := t.dic.vals } := by
  obtain ⟨c, n, ht⟩ := turnDirection_eq u x
  obtain ⟨active, vals, shed, dwell, joined, ha⟩ := ite_phaseAdd_eq (addDue (turnDirection u x) x)
    (takeTrigger (endCycles (turnDirection u x) x) x p clk) x
  rw [trigger_eq clk hw hp, ha, ht, takeTrigger_starts x (by exact hon) (by exact hedge)]
  refine ⟨rfl, rfl, rfl, ?_, ?_, ?_, rfl⟩
  · rw [conv_setConv_self, startOnTime, conv_setConv_self]
  · rw [conv_setConv_self, startOnTime, conv_setConv_self]
    rfl
  · rw [conv_setConv_other]
    exact (conv_setConv_other _ _ _).trans (conv_setConv_other u x _)

/-- A trigger whose next phase is in its on-time waits for it, counted. -/
theorem trigger_waits {u : State} {x : Str} {p : Nat} (clk : Nat) (hw : (conv u x).waiting = none)
    (hp : nextPhase (turnDirection u x) x = some p) (hon : bit u.cot.onTime p = true) :
    let t := trigger u x clk
    t.cot.onTime = u.cot.onTime ∧ (conv t x).waiting = some p ∧
      dget t 0x5021 4 = satInc (dget u 0x5021 4) 0xFFFFFFFF ∧ t.cot.flt = setBit u.cot.flt 15 true ∧
      conv t x.other = conv u x.other ∧ t = { u with cot := t.cot, dic.vals := t.dic.vals } := by
  obtain ⟨c, n, ht⟩ := turnDirection_eq u x
  have hd := dget_ite_phaseAdd_ne (addDue (turnDirection u x) x)
    (takeTrigger (endCycles (turnDirection u x) x) x p clk) x (o := 0x5021) (e := 4) (by decide)
  obtain ⟨active, vals, shed, dwell, joined, ha⟩ := ite_phaseAdd_eq (addDue (turnDirection u x) x)
    (takeTrigger (endCycles (turnDirection u x) x) x p clk) x
  obtain ⟨vals', hc⟩ := bump_frame (endCycles (turnDirection u x) x) 0x5021 4
  have hcount := dget_bump_self (endCycles (turnDirection u x) x) 0x5021 4
  rw [trigger_eq clk hw hp]
  rw [ha, takeTrigger_waits x clk (by rw [ht]; exact hon), hc, ht] at hd ⊢
  rw [hc, ht] at hcount
  refine ⟨rfl, ?_, hd.trans hcount, rfl, ?_, rfl⟩
  · rw [conv_setConv_self, conv_setConv_self]
  · rw [conv_setConv_other]
    exact (conv_setConv_other _ _ _).trans (conv_setConv_other u x _)

/-- The fast limit ends an on-time, counts the cycle, and lets the string's shed phases join. -/
theorem rejoin_limitOnTime (u : State) (p clk : Nat) :
    let t := rejoin (limitOnTime (cotFlag (bump u 0x5021 0) 0) p clk) (phaseStr p)
    t.cot.onTime = setBit u.cot.onTime p false ∧ dget t 0x5021 0 = satInc (dget u 0x5021 0) 0xFFFFFFFF ∧
      t.cot.limitedRun = setAt u.cot.limitedRun p (at0 u.cot.limitedRun p + 1) ∧
      t.cot.lastLim = setBit u.cot.lastLim p true ∧ t.cot.flt = setBit u.cot.flt 0 true ∧
      (conv t (phaseStr p)).shed = 0 ∧ conv t (phaseStr p).other = conv u (phaseStr p).other ∧
      t = { u with cot := t.cot, dic.vals := t.dic.vals } := by
  obtain ⟨vals, hb⟩ := bump_frame u 0x5021 0
  have hcount := dget_bump_self u 0x5021 0
  rw [hb] at hcount ⊢
  have hd := dget_rejoin_ne (limitOnTime (cotFlag { u with dic.vals := vals } 0) p clk) (phaseStr p) (o := 0x5021) (e := 0)
    (by decide)
  have hframe : ConvFrame u (limitOnTime (cotFlag { u with dic.vals := vals } 0) p clk) := rfl
  have hjoined := hframe.trans (rejoin_frame _ (phaseStr p))
  obtain ⟨active, vals', hr⟩ := rejoin_eq (limitOnTime (cotFlag { u with dic.vals := vals } 0) p clk) (phaseStr p)
  rw [hr] at hd hjoined ⊢
  refine ⟨rfl, hd.trans hcount, rfl, rfl, rfl, ?_, ?_, hjoined⟩
  · rw [conv_setConv_self]
  · rw [conv_setConv_other]
    rfl

/-- A truncation ends every on-time of its string, counted, and blanks its comparator. -/
theorem truncated (u : State) (x : Str) (clk : Nat) :
    let t := setConv (cotFlag (bump (endAllOnTimes u x clk) 0x5021 3) 14) x
      { conv (endAllOnTimes u x clk) x with blank := true }
    (conv t x).blank = true ∧ (∀ p ∈ phasesOf x, bit t.cot.onTime p = false) ∧
      dget t 0x5021 3 = satInc (dget u 0x5021 3) 0xFFFFFFFF ∧ t.cot.flt = setBit u.cot.flt 14 true ∧
      conv t x.other = conv u x.other ∧ t = { u with cot := t.cot, dic.vals := t.dic.vals } := by
  obtain ⟨onSum, edge, run, lim, he⟩ := endOnTimes_eq (phasesOf x) clk u
  obtain ⟨vals, hb⟩ := bump_frame (endAllOnTimes u x clk) 0x5021 3
  have hcount := dget_bump_self (endAllOnTimes u x clk) 0x5021 3
  rw [hb, endAllOnTimes, he] at hcount ⊢
  refine ⟨?_, fun p hp => bit_foldl_setBit_false _ _ _ (.inl hp), hcount, rfl, ?_, rfl⟩
  · rw [conv_setConv_self]
  · rw [conv_setConv_other]
    rfl

/-- Settles O4: each event by what its meaning does to the state the modulator has run to. -/
theorem stringOnTimes : Obligations.StringOnTimes := by
  unfold Obligations.StringOnTimes
  refine ⟨?starts, ?ends, ?limit, ?truncation, fun _ _ _ => rfl, ?waits⟩
  case starts =>
    intro x p clk s u hm hs hb ho hv hw hp hon hedge
    exact ⟨_, cotTrigger_fires ⟨hm, hs, hb, ho, hv⟩, trigger_starts hw hp hon hedge⟩
  case ends =>
    intro p clk s u hon hover
    exact onTimeEnd_over hon hover
  case limit =>
    intro p clk s u hon ho
    rw [← (runTo_frame s clk).dget_eq]
    exact ⟨_, fastLimit_eq hon ho, rejoin_limitOnTime u p clk⟩
  case truncation =>
    intro x clk s u h
    rw [← (runTo_frame s clk).dget_eq]
    exact ⟨_, pulseTruncation_begins h, truncated u x clk⟩
  case waits =>
    intro x p clk s u hm hs hb ho hv hw hp hon
    rw [← (runTo_frame s clk).dget_eq]
    exact ⟨_, cotTrigger_fires ⟨hm, hs, hb, ho, hv⟩, trigger_waits clk hw hp hon⟩

end Sys2Proof.Machine

/-! PROOFS. The guard's contactor rules (R222 to R224, R305). -/
namespace Sys2Proof.Machine

/-! ## Closing and opening (R222, R305) -/

/-- A refused command is counted and recorded, and nothing passes. -/
theorem refuseCommand_refused (s : State) (i : Nat) :
    let t := refuseCommand s i
    t.cot = s.cot ∧ dget t 0x5083 67 = satInc (dget s 0x5083 67) 0xFFFFFFFF ∧
      Wrote { s with dic.vals := t.dic.vals } t 4 2 0x06 ∧
      ∀ o e, dkey o e ≠ dkey 0x5083 67 → dget t o e = dget s o e := by
  obtain ⟨vals, hb⟩ := bump_frame s 0x5083 67
  have hcount := dget_bump_self s 0x5083 67
  have hkeep := fun o e => dget_bump_ne s 0x5083 67 (o' := o) (e' := e)
  rw [refuseCommand]
  rw [hb] at hcount hkeep ⊢
  refine ⟨writeRecB_cot _ _ _ _ _, (dget_writeRecB _ _ _ _ _ _ _).trans hcount, ?_, fun o e h => ?_⟩
  · rw [writeRecB_dic]
    exact wrote_writeRecB _ _ _ _ _
  · rw [dget_writeRecB, hkeep o e h]

section
variable {s : State} {x : Str}

theorem closeMain_passes (hc : bit s.cot.cmd (kIdx x .main) = false) (hg : gateOpen s x = true)
    (hn : closesSpent s (kIdx x .main) = false) (hr : closedRecently s (kIdx x .main) = false) :
    closeMain s x = passCommand s (kIdx x .main) true := by
  simp [closeMain, hc, hg, hn, hr]

theorem closeMain_shut (hc : bit s.cot.cmd (kIdx x .main) = false) (hg : gateOpen s x = false) :
    closeMain s x = refuseCommand (bump s 0x5021 9) (kIdx x .main) := by
  simp [closeMain, hc, hg]

theorem closeMain_spent (hc : bit s.cot.cmd (kIdx x .main) = false) (hg : gateOpen s x = true)
    (hn : closesSpent s (kIdx x .main) = true) : closeMain s x = refuseCommand s (kIdx x .main) := by
  simp [closeMain, hc, hg, hn]

theorem closePre_held (hc : bit s.cot.cmd (kIdx x .pre) = false) (hr : closedRecently s (kIdx x .pre) = true) :
    closePre s x = holdCommand s (kIdx x .pre) true := by
  simp [closePre, hc, hr]

theorem closePre_passes (hc : bit s.cot.cmd (kIdx x .pre) = false) (hr : closedRecently s (kIdx x .pre) = false) :
    closePre s x = passCommand s (kIdx x .pre) true := by
  simp [closePre, hc, hr]

theorem openMain_passes (h : nActive s x = 0) : openMain s x = passCommand s (kIdx x .main) false := by
  simp [openMain, h]

/-- While a phase switches, an open is held, and the string is zeroing. -/
theorem openMain_held (h : nActive s x ≠ 0) (ho : s.cot.ovLatch = false) :
    let t := openMain s x
    t.cot.cmd = s.cot.cmd ∧ (kIdx x .main, false) ∈ t.grd.heldCmd ∧ (conv t x).st = .zeroing ∧
      t = { s with cot := t.cot, grd := t.grd, dic.vals := t.dic.vals } := by
  obtain ⟨held, vals, hh, hm⟩ := holdCommand_eq s (kIdx x .main) false
  obtain ⟨cot, vals', hz, hcmd, -⟩ := zeroing_eq { s with grd.heldCmd := held, dic.vals := vals } x .off
  have hif : (nActive s x != 0 && !s.cot.ovLatch) = true := by simp [h, ho]
  rw [openMain]
  dsimp only
  rw [if_pos hif, hh]
  split
  · rename_i hst
    exact ⟨rfl, hm, hst, rfl⟩
  · rw [hz]
    refine ⟨hcmd, hm, ?_, rfl⟩
    rw [conv_setConv_self]

/-- A held close of a precharge contactor passes. -/
theorem holdRelease_pre (hh : s.grd.heldCmd.contains (kIdx x .pre, true) = true)
    (hr : closedRecently s (kIdx x .pre) = false) (hc : bit s.cot.cmd (kIdx x .pre) = false) :
    exec (.contactorHoldRelease x .pre) s = .next (passCommand
      { s with grd.heldCmd := s.grd.heldCmd.filter (fun p => p.1 != kIdx x .pre) } (kIdx x .pre) true) := by
  have hrow : exec (.contactorHoldRelease x .pre) s = execContactorHoldRelease x .pre s := rfl
  rw [hrow, execContactorHoldRelease]
  dsimp only
  rw [if_pos hh, hr, if_neg Bool.false_ne_true]
  exact congrArg Host.Outcome.next (closePre_passes (s := { s with grd.heldCmd := _ }) hc hr)

end

/-! ## Precharge, disagreement and zeroing (R223, R224, R305) -/

theorem toOpen_cmd (s : State) (x : Str) (st : SState) (k : Contactor) :
    bit (toOpen s x st).cot.cmd (kIdx x k) = false := bit_openBoth (phasesOff s x) x k

theorem conv_toOpen (s : State) (x : Str) (st : SState) :
    conv (toOpen s x st) x = { conv s x with st := st, vss := 0, waiting := none, equal := false } := conv_setConv_self _ _ _

theorem conv_toOpen_other (s : State) (x : Str) (st : SState) : conv (toOpen s x st) x.other = conv s x.other :=
  conv_setConv_other _ _ _

theorem bit_toOpen_active {x : Str} {p : Nat} (h : p ∈ phasesOf x) (s : State) (st : SState) :
    bit (toOpen s x st).cot.active p = false := bit_phasesOff h s

theorem prechargeGuardOpen_eq {s : State} {x : Str} (h1 : bit s.cot.cmd (kIdx x .pre) = true)
    (h2 : bit s.cot.cmd (kIdx x .main) = false) : exec (.prechargeGuardOpen x) s =
      .next (if (conv s x).st = .precharge then toOpen (passCommand s (kIdx x .pre) false) x .off
        else passCommand s (kIdx x .pre) false) := by
  have hrow : exec (.prechargeGuardOpen x) s = execPrechargeGuardOpen x s := rfl
  rw [hrow, execPrechargeGuardOpen, if_pos (by rw [h1, h2]; rfl)]
  rfl

theorem contactorDisagree_eq {s : State} {x : Str} {k : Contactor}
    (h : bit s.cot.cmd (kIdx x k) ≠ bit s.cot.fb (kIdx x k)) :
    exec (.contactorDisagree x k) s = .next (convRec (cotFlagStr (latchString s x) 9 x) 3 0x07) :=
  if_pos (bne_iff_ne.mpr h)

/-- Settles O6: each command and event by the rule of the guard that its condition selects. -/
theorem contactorRules : Obligations.ContactorRules := by
  unfold Obligations.ContactorRules
  refine ⟨?passes, ?shut, ?spent, ?opens, ?waits, ?held, fun _ _ => rfl, ?released, ?guardOpens, ?overlap, ?disagrees,
    ?zeroed, ?timeout⟩
  case passes =>
    intro x s hc hg hn hr
    exact congrArg Host.Outcome.next (closeMain_passes hc hg hn hr)
  case shut =>
    intro x s hc hg
    obtain ⟨vals, hb⟩ := bump_frame s 0x5021 9
    have hcount := dget_bump_self s 0x5021 9
    have hguard := dget_bump_ne s 0x5021 9 (o' := 0x5083) (e' := 67) (by decide)
    obtain ⟨hcot, hrefused, hw, hkeep⟩ := refuseCommand_refused (bump s 0x5021 9) (kIdx x .main)
    refine ⟨_, congrArg Host.Outcome.next (closeMain_shut hc hg), ?_⟩
    rw [hguard] at hrefused
    rw [← hcount, ← hkeep 0x5021 9 (by decide)]
    rw [hb] at hcot hw hrefused ⊢
    exact ⟨hcot, rfl, hrefused, hw⟩
  case spent =>
    intro x s hc hg hn
    obtain ⟨hcot, hrefused, hw, -⟩ := refuseCommand_refused s (kIdx x .main)
    exact ⟨_, congrArg Host.Outcome.next (closeMain_spent hc hg hn), hcot, hrefused, hw⟩
  case opens =>
    intro x s hn
    exact congrArg Host.Outcome.next (openMain_passes hn)
  case waits =>
    intro x s hn ho
    exact ⟨_, rfl, openMain_held hn ho⟩
  case held =>
    intro x s hc hr
    obtain ⟨held, vals, hh, hm⟩ := holdCommand_eq s (kIdx x .pre) true
    refine ⟨_, congrArg Host.Outcome.next (closePre_held hc hr), ?_⟩
    rw [hh]
    exact ⟨rfl, hm, rfl⟩
  case released =>
    intro x s hh hr hc
    exact ⟨_, holdRelease_pre hh hr hc, rfl, not_held_passCommand _ _ _, rfl⟩
  case guardOpens =>
    intro x s hp hm
    refine ⟨_, prechargeGuardOpen_eq hp hm, ?_⟩
    split
    · exact ⟨toOpen_cmd _ _ _ _, fun _ => congrArg Conv.st (conv_toOpen _ _ _), conv_toOpen_other _ _ _,
        (passCommand_frame s _ _).trans (toOpen_frame _ x .off)⟩
    · rename_i hst
      exact ⟨bit_setBit_self _ _ _, fun h => absurd h hst, rfl, rfl⟩
  case overlap =>
    intro x s hp hm
    exact if_pos (by rw [hp, hm]; rfl)
  case disagrees =>
    intro x k s h
    have hl : Latched s x (latchString s x) := latchString_latched s x
    refine ⟨_, contactorDisagree_eq h, ?_⟩
    rw [conv_convRec, convRec_cot, convRec_mFlags, dget_convRec, convRec_grd, convRec_dic]
    refine ⟨hl.own, congrArg (setBit · _ true) hl.flags, hl.mFlags, hl.counted, wrote_convRec _ _ ?_⟩
    rw [hl.latchFrame]
    rfl
  case zeroed =>
    intro x s h
    refine ⟨_, if_pos h, ?_⟩
    exact ⟨congrArg Conv.st (conv_toOpen _ _ _), toOpen_cmd _ _ _ _, toOpen_cmd _ _ _ _,
      fun p hp => bit_toOpen_active hp _ _, conv_toOpen_other _ _ _, toOpen_frame s x _⟩
  case timeout =>
    intro x s h
    exact ⟨_, if_pos h, fun p hp => bit_phasesOff hp s, rfl, rfl, rfl⟩

end Sys2Proof.Machine

/-! PROOFS. Current limits, fold-back and shedding of a string (R207, R208, R212, R215, R216). -/
namespace Sys2Proof.Machine

/-! ## Hiccup and retry (R212, R215) -/

theorem at0_map_upTo (f : Nat → Nat) {n i : Nat} (h : i < n) : at0 ((upTo n).map f) i = f i := by
  simp [at0, upTo, h]

/-- The state in which a string's phases are off for a hiccup and its limited cycles are forgotten. -/
def hiccupOff (s : State) (x : Str) : State :=
  clearRuns (phasesOff (unfollow (cotFlagStr (bump s 0x5021 1) 1 x) x) x) x

theorem hiccup_eq {s : State} {x : Str} (hd : hiccupDue s x = true) (hs : (conv s x).st = .run) :
    exec (.hiccup x) s = if 3 ≤ (conv (hiccupOff s x) x).retries
      then .next (convRec (latchString (hiccupOff s x) x) 3 0x02)
      else .next (convRec (setConv (hiccupOff s x) x { conv (hiccupOff s x) x with
        st := .hiccup, hicLeft := 2000000, vss := 0, waiting := none }) 1 0x01) := if_pos ⟨hd, .inr hs⟩

theorem hiccupOff_eq (s : State) (x : Str) : ∃ vals follow, hiccupOff s x =
      clearRuns (phasesOff (cotFlagStr { s with cot.vFollow := follow, dic.vals := vals } 1 x) x) x ∧
    dget { s with dic.vals := vals } 0x5021 1 = satInc (dget s 0x5021 1) 0xFFFFFFFF ∧
    dget { s with dic.vals := vals } 0x5021 2 = dget s 0x5021 2 := by
  obtain ⟨vals, hb⟩ := bump_frame s 0x5021 1
  have hcount := dget_bump_self s 0x5021 1
  have hkeep := dget_bump_ne s 0x5021 1 (o' := 0x5021) (e' := 2) (by decide)
  rw [hb] at hcount hkeep
  refine ⟨vals, if s.cot.vFollow = some x then none else s.cot.vFollow, ?_, hcount, hkeep⟩
  rw [hiccupOff, hb, unfollow_eq]
  rfl

theorem hiccupOff_frame (s : State) (x : Str) : ConvFrame s (hiccupOff s x) := by
  obtain ⟨vals, follow, h, -⟩ := hiccupOff_eq s x
  rw [h]
  rfl

theorem conv_hiccupOff (s : State) (x y : Str) : conv (hiccupOff s x) y = conv s y := by
  obtain ⟨vals, follow, h, -⟩ := hiccupOff_eq s x
  rw [h]
  rfl

theorem bit_hiccupOff_active {x : Str} {p : Nat} (h : p ∈ phasesOf x) (s : State) :
    bit (hiccupOff s x).cot.active p = false := bit_phasesOff h _

theorem at0_hiccupOff_limitedRun {x : Str} {p : Nat} (h : p ∈ phasesOf x) (s : State) :
    at0 (hiccupOff s x).cot.limitedRun p = 0 := by
  rw [hiccupOff, clearRuns, at0_map_upTo _ (lt_of_mem_phasesOf h), if_pos (bit_strMask_of_mem h)]

theorem nActive_hiccupOff (s : State) (x : Str) : nActive (hiccupOff s x) x = 0 := nActive_phasesOff _ x

theorem dget_hiccupOff (s : State) (x : Str) :
    dget (hiccupOff s x) 0x5021 1 = satInc (dget s 0x5021 1) 0xFFFFFFFF ∧
      dget (hiccupOff s x) 0x5021 2 = dget s 0x5021 2 := by
  obtain ⟨vals, follow, h, hcount, hkeep⟩ := hiccupOff_eq s x
  rw [h, ← hcount, ← hkeep]
  exact ⟨dget_congr rfl _ _, dget_congr rfl _ _⟩

theorem nActive_congr {s t : State} (h : t.cot.active = s.cot.active) (x : Str) : nActive t x = nActive s x := by
  unfold nActive activeOf
  rw [h]

/-- A string that latches with its phases off opens its contactors. -/
theorem latchString_opens {s : State} {x : Str} (h1 : (conv s x).st ≠ .ovLatch) (h2 : nActive s x = 0) :
    latchString s x = toOpen (ownLatched (bump s 0x5021 2) x) x .latched := by
  obtain ⟨vals, hb⟩ := bump_frame s 0x5021 2
  rw [latchString_eq, hb, latchedOut, conv_ownLatched, if_neg (by exact h1)]
  rw [nActive_congr (s := s) (t := ownLatched { s with dic.vals := vals } x) rfl, h2]
  rfl

/-- A soft start from the start reference `vss`, µV, which the ramp follows or not (R212). -/
def startFrom (s : State) (x : Str) (vss : Nat) (follows : Bool) : State :=
  let s := if follows then { s with cot.vNow := vss, cot.vFollow := some x, cot.followAt := s.epo.samples } else s
  let s := setConv s x { conv s x with
    st := .softStart, charge := false, vss := vss, crossed := false, tried := true, shed := 0
    blank := false, waiting := none, dwell := 0 }
  setActive s x (enabledOf s x)

/-- Where both channels read 700 V a soft start begins 10 V below the bus. -/
theorem softStart_prebiased {s : State} (x : Str) (h : prebiased s = true) :
    ∃ follows, softStart s x = startFrom s x ((busSel s - 10000) * 1000) follows := ⟨_, if_pos h⟩

theorem conv_startFrom (s : State) (x : Str) (vss : Nat) (follows : Bool) : conv (startFrom s x vss follows) x =
    { conv s x with
      st := .softStart, charge := false, vss := vss, crossed := false, tried := true, shed := 0
      blank := false, waiting := none, dwell := 0 } := by
  cases follows <;> exact conv_setConv_self _ _ _

theorem conv_startFrom_other (s : State) (x : Str) (vss : Nat) (follows : Bool) :
    conv (startFrom s x vss follows) x.other = conv s x.other := by
  cases follows <;> exact conv_setConv_other _ _ _

theorem startFrom_frame (s : State) (x : Str) (vss : Nat) (follows : Bool) : CotFrame s (startFrom s x vss follows) := by
  cases follows <;> exact ⟨_, rfl⟩

/-! ## Fold-back (R216) -/

/-- The state in which a string has entered fold-back, its shed phases joined. -/
def foldedBack (s : State) (x : Str) (twice : Bool) : State :=
  rejoin (setConv s x { conv s x with fold := true, fold2 := twice }) x

theorem foldedBack_eq (s : State) (x : Str) (twice : Bool) : ∃ active vals, foldedBack s x twice =
    setConv { s with cot.active := active, dic.vals := vals } x
      { conv s x with fold := true, fold2 := twice, shed := 0, dwell := 0 } := by
  obtain ⟨active, vals, h⟩ := rejoin_eq (setConv s x { conv s x with fold := true, fold2 := twice }) x
  refine ⟨active, vals, ?_⟩
  rw [foldedBack, h, conv_setConv_self]
  exact setConv_setConv { s with cot.active := active, dic.vals := vals } x _ _

theorem dget_foldedBack_ne (s : State) (x : Str) (twice : Bool) {o e : Nat} (h : dkey o e ≠ dkey 0x5021 6) :
    dget (foldedBack s x twice) o e = dget s o e := (dget_rejoin_ne _ x h).trans (dget_setConv s x _ o e)

theorem foldedBack_frame (s : State) (x : Str) (twice : Bool) : ConvFrame s (foldedBack s x twice) := by
  obtain ⟨active, vals, h⟩ := foldedBack_eq s x twice
  rw [h]
  rfl

theorem foldBack_empty {s : State} {x : Str} (hb : (conv s x).budget = 0) (hf : (conv s x).fold = false)
    (hf2 : (conv s x).fold2 = false) : ∃ twice, exec (.foldBack x) s =
      .next (convRec (cotFlagStr (bump (foldedBack s x twice) 0x5021 7) 3 x) 1 0x03) := by
  have hrow : exec (.foldBack x) s = execFoldBack x s := rfl
  refine ⟨decide (2 * iRating s x < iMean (conv s x)), ?_⟩
  simp [hrow, execFoldBack, hb, hf, hf2, foldedBack]

/-! ## Shedding (R207) -/

theorem phaseShed_sheds {s : State} {x : Str} {p : Nat} (hd : shedDue s x = true) (ha : addDue s x = false)
    (hp : firstIn (stayOf s x) (phasesOf x).reverse = some p) : exec (.phaseShed x) s =
      .next (setConv (bump s 0x5021 5) x { conv s x with shed := setBit (conv s x).shed (p % 12) true, dwell := 0 }) := by
  have hrow : exec (.phaseShed x) s = execPhaseShed x s := rfl
  simp [hrow, execPhaseShed, hd, ha, hp]

theorem phaseShed_adds {s : State} {x : Str} (hd : shedDue s x = true) (ha : addDue s x = true) :
    exec (.phaseShed x) s = .next (phaseAdd s x) := by
  have hrow : exec (.phaseShed x) s = execPhaseShed x s := rfl
  simp [hrow, execPhaseShed, hd, ha]

/-- The lowest shed phase of a string joins, to fire next. -/
theorem phaseAdd_some {s : State} {x : Str} {p : Nat} (hp : firstIn (shedOf s x) (phasesOf x) = some p) : phaseAdd s x =
    setConv { bump s 0x5021 6 with cot.active := setBit s.cot.active p true } x
      { conv s x with shed := setBit (conv s x).shed (p % 12) false, dwell := 0, joined := some p } := by
  rw [phaseAdd, hp]

/-- Settles O7: each event by the case of its meaning that the statement's condition selects. -/
theorem currentLimitsAndShedding : Obligations.CurrentLimitsAndShedding := by
  unfold Obligations.CurrentLimitsAndShedding
  refine ⟨?hiccup, ?latch, ?retry, fun x s h => if_pos h, ?fold, ?foldEnd, ?shed, ?add⟩
  case hiccup =>
    intro x s hd hs hr
    have hfew : ¬ 3 ≤ (conv (hiccupOff s x) x).retries := by
      rw [conv_hiccupOff]
      omega
    refine ⟨_, (hiccup_eq hd hs).trans (if_neg hfew), ?_⟩
    rw [conv_convRec, convRec_cot, conv_convRec, dget_convRec, convRec_dic, conv_setConv_self, conv_setConv_other, conv_hiccupOff,
      conv_hiccupOff, dget_setConv]
    refine ⟨rfl, (dget_hiccupOff s x).1, fun p hp => ⟨bit_hiccupOff_active hp s, at0_hiccupOff_limitedRun hp s⟩, rfl,
      wrote_convRec _ _ ?_⟩
    rw [hiccupOff_frame s x]
    rfl
  case latch =>
    intro x s hd hs hr
    have hmany : 3 ≤ (conv (hiccupOff s x) x).retries := by rwa [conv_hiccupOff]
    have hl : Latched (hiccupOff s x) x (latchString (hiccupOff s x) x) := latchString_latched _ x
    have hframe : LatchFrame s (latchString (hiccupOff s x) x) := (hiccupOff_frame s x).latched hl.latchFrame
    have hopen := latchString_opens (s := hiccupOff s x) (x := x) (by rw [conv_hiccupOff, hs]; decide) (nActive_hiccupOff s x)
    have hst : (conv (latchString (hiccupOff s x) x) x).st = .latched := by rw [hopen, conv_toOpen]
    have hcmd : bit (latchString (hiccupOff s x) x).cot.cmd (kIdx x .main) = false := by
      rw [hopen]
      exact toOpen_cmd _ x _ .main
    have hfac : (hiccupOff s x).fac = s.fac := by rw [hiccupOff_frame s x]
    refine ⟨_, (hiccup_eq hd hs).trans (if_pos hmany), ?_⟩
    rw [conv_convRec, convRec_cot, dget_convRec, convRec_mFlags, convRec_grd, convRec_dic]
    refine ⟨hl.own, hst, hcmd, hl.counted.trans ?_, hl.mFlags.trans ?_, wrote_convRec _ _ (Eq.symm hframe)⟩
    · rw [(dget_hiccupOff s x).2]
    · rw [hfac]
  case retry =>
    intro x s hs h0 hp
    obtain ⟨follows, h⟩ := softStart_prebiased x
      (s := setConv s x { conv s x with retries := (conv s x).retries + 1 }) hp
    generalize (busSel (setConv s x { conv s x with retries := (conv s x).retries + 1 }) - 10000) * 1000 = vss at h
    refine ⟨_, if_pos ⟨hs, h0⟩, ?_⟩
    obtain ⟨cot, hc⟩ := startFrom_frame (setConv s x { conv s x with retries := (conv s x).retries + 1 }) x vss follows
    rw [h, conv_startFrom, conv_startFrom_other, conv_setConv_self, conv_setConv_other, hc]
    exact ⟨rfl, rfl, rfl, rfl⟩
  case fold =>
    intro x s hb hf hf2
    obtain ⟨twice, h⟩ := foldBack_empty hb hf hf2
    obtain ⟨vals, hc⟩ := bump_frame (foldedBack s x twice) 0x5021 7
    have hcount := dget_bump_self (foldedBack s x twice) 0x5021 7
    have hframe := foldedBack_frame s x twice
    refine ⟨_, h, ?_⟩
    rw [conv_convRec, convRec_cot, conv_convRec, dget_convRec, convRec_dic,
      ← dget_foldedBack_ne s x twice (o := 0x5021) (e := 7) (by decide)]
    rw [hc] at hcount ⊢
    obtain ⟨active, vals', hr⟩ := foldedBack_eq s x twice
    rw [hr] at hcount hframe ⊢
    refine ⟨?_, ?_, hcount, rfl, ?_, wrote_convRec _ _ rfl⟩
    · exact congrArg Conv.fold (conv_setConv_self _ _ _)
    · exact congrArg Conv.shed (conv_setConv_self _ _ _)
    · exact conv_setConv_other _ _ _
  case foldEnd =>
    intro x s hf hb
    exact if_pos (by rw [hf, decide_eq_true hb]; rfl)
  case shed =>
    intro x p s hd ha hp
    obtain ⟨vals, hb⟩ := bump_frame s 0x5021 5
    have hcount := dget_bump_self s 0x5021 5
    refine ⟨_, phaseShed_sheds hd ha hp, ?_⟩
    rw [hb] at hcount ⊢
    rw [conv_setConv_self, conv_setConv_other]
    exact ⟨rfl, rfl, rfl, hcount, rfl, rfl⟩
  case add =>
    intro x p s hd ha hp
    obtain ⟨vals, hb⟩ := bump_frame s 0x5021 6
    have hcount := dget_bump_self s 0x5021 6
    refine ⟨_, phaseShed_adds hd ha, ?_⟩
    rw [phaseAdd_some hp, hb]
    rw [hb] at hcount
    rw [conv_setConv_self, conv_setConv_other]
    exact ⟨rfl, rfl, rfl, rfl, hcount, rfl, rfl⟩

end Sys2Proof.Machine

/-! PROOFS. Fault records (R227 to R230, R259, R261, R263), the converter's other registers (R203, R208, R226, R231, R232, R235),
and the two statements of the converter that fail, each with the state that refutes it. -/
namespace Sys2Proof.Machine

/-! ## Fault records (R227, R230) -/

theorem length_mergeInto (s : State) (b c : Nat) (l : List Record) : (mergeInto s b c l).length = l.length := by
  induction l with
  | nil => rfl
  | cons r l ih =>
    rw [mergeInto]
    split
    · rfl
    · rw [List.length_cons, List.length_cons, ih]

/-- A record that merges changes the ring alone. -/
theorem writeRecB_merged {s : State} {b v c : Nat} (body : Nat) (hv : v < 3) (hm : s.recs.ring.any (mergesWith s b c) = true) :
    writeRecB s b v c body = { s with recs.ring := mergeInto s b c s.recs.ring } := by
  simp [writeRecB, hv, hm]

/-- A record that does not merge is the new head of the ring. -/
theorem writeRecB_new {s : State} {b v c : Nat} (body : Nat) (h : s.recs.ring.any (mergesWith s b c) = false ∨ 3 ≤ v) :
    writeRecB s b v c body = faultPaths { s with
      recs.ring := (newRecord s b v c body :: s.recs.ring).take 512
      recs.seq := s.recs.seq + 1 } (newRecord s b v c body) := by
  have hn : (decide (v < 3) && s.recs.ring.any (mergesWith s b c)) = false := by
    rcases h with h | h
    · rw [h, Bool.and_false]
    · rw [decide_eq_false (Nat.not_lt.mpr h), Bool.false_and]
  rw [writeRecB, hn, if_neg Bool.false_ne_true]

theorem ite_first {s t : State} (c : Prop) [Decidable c] (h : t.recs.first = s.recs.first) :
    (if c then t else s).recs.first = s.recs.first := by
  split
  · exact h
  · rfl

/-- The first-fault latch takes a record of severity fault or latch where it holds none. -/
theorem faultPaths_first (s : State) (r : Record) : (faultPaths s r).recs.first =
    if (decide (r.severity ≥ 2) && s.recs.first.isNone) = true then some r else s.recs.first := by
  unfold faultPaths
  refine Eq.trans (ite_first _ ?_) (Eq.trans (ite_first _ ?_) (Eq.trans (ite_first _ ?_) (Eq.trans (ite_first _ ?_)
    (apply_ite (fun u : State => u.recs.first) _ _ _))))
  all_goals exact Eq.refl _

theorem writeRecB_first_kept {s : State} {b v c : Nat} (body : Nat) (h : (decide (v ≥ 2) && s.recs.first.isNone) = false) :
    (writeRecB s b v c body).recs.first = s.recs.first := by
  unfold writeRecB
  split
  · rfl
  · rw [faultPaths_first]
    exact if_neg (by rw [newRecord, h]; exact Bool.false_ne_true)

/-- Settles O56: a record merges or becomes the head of the ring, and only the latter reaches the first-fault latch. -/
theorem faultRecords : Obligations.FaultRecords := by
  unfold Obligations.FaultRecords
  refine ⟨wrote_writeRecB, ?ring, ?latch, ?first, ?kept, ?below⟩
  case ring =>
    intro s b v c body hlen
    unfold writeRecB
    split
    · exact (length_mergeInto s b c _).trans_le hlen
    · rw [(faultPaths_ring _ _).1]
      exact List.length_take_le _ _
  case latch =>
    intro s b v c body hv
    rw [writeRecB_new body (.inr hv), (faultPaths_ring _ _).2]
  case first =>
    intro s b v c body hv hn hm
    rw [writeRecB_new body hm, faultPaths_first]
    exact if_pos (by simp [newRecord, hv, hn])
  case kept =>
    intro s b v c body r hr
    rw [writeRecB_first_kept body (by simp [hr]), hr]
  case below =>
    intro s b v c body hv
    exact writeRecB_first_kept body (by simp [Nat.not_le.mpr hv])

/-! ## Enabled phases (R203, R209, R235) -/

/-- Which phases are enabled depends on COT_PHEN, on the refused and the removed phases, and on object 0x5011. -/
theorem enabledOf_congr {s t : State} (hp : t.cot.phen = s.cot.phen) (hr : t.cot.refused = s.cot.refused)
    (hc : t.cot.checkedOff = s.cot.checkedOff) (hd : t.dic.vals = s.dic.vals) (x : Str) : enabledOf t x = enabledOf s x := by
  unfold enabledOf enabled
  rw [hp, hr, hc, dget_congr hd]

/-- One string's part of the change of the switching phases after a change of the enabled ones. -/
def refreshString (s : State) (x : Str) : State :=
  if switching s x then setActive s x (clearBits (enabledOf s x) (widen x (conv s x).shed) 24) else s

theorem refreshActive_eq (s : State) : refreshActive s = refreshString (refreshString s .A) .B := rfl

theorem refreshString_eq (s : State) (x : Str) : ∃ active onTime,
    refreshString s x = { s with cot.active := active, cot.onTime := onTime } := by
  unfold refreshString
  split <;> exact ⟨_, _, rfl⟩

theorem refreshActive_frame (s : State) : ∃ active onTime,
    refreshActive s = { s with cot.active := active, cot.onTime := onTime } := by
  obtain ⟨a, o, h⟩ := refreshString_eq s .A
  rw [refreshActive_eq, h]
  exact refreshString_eq { s with cot.active := a, cot.onTime := o } .B

/-- A disabled phase of a switching string stops. -/
theorem bit_refreshString {s : State} {x : Str} {p : Nat} (hs : switching s x = true) (hp : p ∈ phasesOf x)
    (he : bit (enabledOf s x) p = false) : bit (refreshString s x).cot.active p = false := by
  rw [refreshString, if_pos hs, bit_setActive hp, bit_clearBits _ _ (lt_of_mem_phasesOf hp), he, Bool.false_and]

theorem bit_refreshString_other {x : Str} {p : Nat} (hp : p ∈ phasesOf x) (s : State) :
    bit (refreshString s x.other).cot.active p = bit s.cot.active p := by
  unfold refreshString
  split
  · exact bit_setActive_other hp s _
  · rfl

theorem bit_refreshActive {s : State} {x : Str} {p : Nat} (hs : switching s x = true) (hp : p ∈ phasesOf x)
    (he : bit (enabledOf s x) p = false) : bit (refreshActive s).cot.active p = false := by
  rw [refreshActive_eq]
  cases x with
  | A =>
    rw [show Str.B = Str.A.other from rfl, bit_refreshString_other hp]
    exact bit_refreshString hs hp he
  | B =>
    obtain ⟨a, o, h⟩ := refreshString_eq s .A
    have hen : enabledOf (refreshString s .A) .B = enabledOf s .B := by
      rw [h]
      exact enabledOf_congr rfl rfl rfl rfl _
    refine bit_refreshString ?_ hp (by rw [hen]; exact he)
    rw [h]
    exact hs

theorem cotPhenWrite_few {v : Word} {s : State}
    (h : nEnabled { s with cot.phen := v.toNat % 2 ^ 24 } .A < 2 ∨ nEnabled { s with cot.phen := v.toNat % 2 ^ 24 } .B < 2) :
    exec (.cotPhenWrite .rt v) s = .next (bump s 0x5021 11) := by
  have hrow : exec (.cotPhenWrite .rt v) s = execCotPhenWrite .rt v s := rfl
  rw [hrow, execCotPhenWrite, if_neg (not_not_intro rfl)]
  exact if_pos h

theorem cotPhenWrite_enough {v : Word} {s : State}
    (hA : 2 ≤ nEnabled { s with cot.phen := v.toNat % 2 ^ 24 } .A)
    (hB : 2 ≤ nEnabled { s with cot.phen := v.toNat % 2 ^ 24 } .B) :
    exec (.cotPhenWrite .rt v) s = .next (refreshActive { s with cot.phen := v.toNat % 2 ^ 24 }) := by
  have hrow : exec (.cotPhenWrite .rt v) s = execCotPhenWrite .rt v s := rfl
  rw [hrow, execCotPhenWrite, if_neg (not_not_intro rfl)]
  exact if_neg (not_or.mpr ⟨Nat.not_lt.mpr hA, Nat.not_lt.mpr hB⟩)

/-! ## Inductances (R203) -/

/-- `t` is `s` with at most what reading inductances touches changed: converter, counts and records. -/
def InductFrame (s t : State) : Prop := t = { s with
  cot := t.cot, dic.vals := t.dic.vals, recs := t.recs, trc := t.trc, sec := t.sec, fac.stepDue := t.fac.stepDue }

theorem InductFrame.trans {s t u : State} (h : InductFrame s t) (k : InductFrame t u) : InductFrame s u := by
  unfold InductFrame at *
  rw [k, h]

theorem inductOne_frame (s : State) (p l : Nat) : InductFrame s (inductOne s p l) := by
  unfold inductOne
  dsimp only
  split
  · rfl
  · split
    · rfl
    · obtain ⟨vals, hb⟩ := bump_frame
        { s with cot.induct := setAt s.cot.induct p l, cot.refused := setBit s.cot.refused p true } 0x5021 10
      obtain ⟨recs, due, left, step, stop, bad, hw⟩ := writeRecB_frame { s with
        cot.induct := setAt s.cot.induct p l, cot.refused := setBit s.cot.refused p true, dic.vals := vals } 1 2 0x0C
        (convBody { s with
          cot.induct := setAt s.cot.induct p l, cot.refused := setBit s.cot.refused p true, dic.vals := vals })
      rw [hb, convRec, hw]
      rfl

theorem inductOne_refused (s : State) (p l : Nat) : (inductOne s p l).cot.refused =
    setBit s.cot.refused p (!(decide (200 ≤ l) && decide (l ≤ 2000))) := by
  unfold inductOne
  dsimp only
  split
  · rename_i h
    simp [h]
  · rename_i h
    have hf : (decide (200 ≤ l) && decide (l ≤ 2000)) = false := by simpa using h
    rw [hf]
    split
    · rename_i hr
      exact (setBit_of_bit hr).symm
    · rw [convRec_cot]
      rfl

/-- Each phase whose inductance is read is refused by its own, the others as before. -/
theorem inductAll_refused (l : List Nat) (n : Nat) (s : State) (p : Nat) :
    bit ((upTo n).foldl (fun s p => inductOne s p (at0 l p)) s).cot.refused p =
      if p < n then !(decide (200 ≤ at0 l p) && decide (at0 l p ≤ 2000)) else bit s.cot.refused p := by
  induction n with
  | zero => rfl
  | succ n ih =>
    simp only [upTo, List.range_succ, List.foldl_append, List.foldl_cons, List.foldl_nil] at ih ⊢
    rw [inductOne_refused, bit_setBit, ih]
    by_cases h : p = n
    · subst h
      simp
    · have hn : p < n + 1 ↔ p < n := by omega
      simp only [if_neg h, hn]

theorem inductAll_frame (l : List Nat) (ps : List Nat) (s : State) :
    InductFrame s (ps.foldl (fun s p => inductOne s p (at0 l p)) s) := by
  induction ps generalizing s with
  | nil => rfl
  | cons p ps ih => exact (inductOne_frame s p _).trans (ih _)

/-- Settles O9: each register and event by its meaning, whose guard the statement's condition decides. -/
theorem converterRegisters : Obligations.ConverterRegisters := by
  unfold Obligations.ConverterRegisters
  refine ⟨fun _ _ => rfl, fun v s h => cotPhenWrite_few h, ?disables, ?presence, fun _ => rfl, ?foreign⟩
  case disables =>
    intro v s h
    obtain ⟨hA, hB⟩ := h
    obtain ⟨a, o, hr⟩ := refreshActive_frame { s with cot.phen := v.toNat % 2 ^ 24 }
    refine ⟨_, cotPhenWrite_enough hA hB, ?_, fun x hs p hp he => ?_, ?_⟩
    · rw [hr]
    · refine bit_refreshActive (s := { s with cot.phen := v.toNat % 2 ^ 24 }) hs hp ?_
      rw [← he, hr]
      exact congrArg (bit · p) (enabledOf_congr rfl rfl rfl rfl x)
    · rw [hr]
  case presence =>
    intro l s
    have hframe := inductAll_frame l (upTo 24) s
    obtain ⟨a, o, hr⟩ := refreshActive_frame ((upTo 24).foldl (fun s p => inductOne s p (at0 l p)) s)
    refine ⟨_, rfl, fun p hp => ?_, ?_⟩
    · rw [readInductances, hr]
      exact (inductAll_refused l 24 s p).trans (if_pos hp)
    · rw [readInductances]
      refine hframe.trans ?_
      rw [hr]
      rfl
  case foreign =>
    intro c x close k v on s hc i hi
    simp only [List.mem_cons, List.not_mem_nil, or_false] at hi
    rcases hi with rfl | rfl | rfl | rfl | rfl | rfl | rfl | rfl <;> exact if_pos hc

/-! ## Entering precharge on a live bus (R221, R225) -/

theorem cotEna_of_off {s : State} {x : Str} (h : (conv s x).st = .off) :
    exec (.cotEna .rt x true) s = .next (enterPrecharge (setConv s x { conv s x with ena := true }) x) := by
  have hrow : exec (.cotEna .rt x true) s = execCotEna .rt x true s := rfl
  have hst : (conv (setConv s x { conv s x with ena := true }) x).st = .off := by rw [conv_setConv_self, h]
  rw [hrow, execCotEna, if_neg (by decide)]
  exact congrArg Host.Outcome.next (if_pos hst)

/-- The bus stands at 800 V, and the link of string A 11 V above its string, which is off. -/
def highLinkState : State :=
  { State.reset with cot.bus1 := 800000, cot.bus2 := 800000, cot.strV := ⟨800000, 800000⟩, cot.linkV := ⟨811000, 800000⟩ }

theorem highLinkState_off : (conv highLinkState .A).st = .off := by decide +kernel

theorem highLinkState_high : highLinkState.cot.strV.get .A + 10000 < highLinkState.cot.linkV.get .A := by decide +kernel

theorem highLinkState_starts :
    (enterPrecharge (setConv highLinkState .A { conv highLinkState .A with ena := true }) .A).cot.active = 0xFFF := by
  decide +kernel

@[simp] theorem setConv_active (s : State) (x : Str) (c : Conv) : (setConv s x c).cot.active = s.cot.active := rfl

theorem highLinkState_idle : highLinkState.cot.active = 0 := by decide +kernel

/-- Refutes O5: it has ENA with a high link change the string's own state alone, where the discharge into the bus starts its
phases (R221, R225). The reset module with a live bus and a high link on string A starts the 12 phases of that string. -/
theorem not_prechargeAndSoftStart : ¬ Obligations.PrechargeAndSoftStart := by
  unfold Obligations.PrechargeAndSoftStart
  rintro ⟨hequal, -⟩
  have ht := hequal .A highLinkState highLinkState_off highLinkState_high
  rw [cotEna_of_off highLinkState_off, Host.Outcome.next.injEq] at ht
  have hactive := highLinkState_starts
  rw [ht, setConv_active, highLinkState_idle] at hactive
  exact absurd hactive (by decide)

/-! ## Clearing the overvoltage latch under a high link (R219, R220) -/

/-- String A stands under the overvoltage latch with its link at 1,200 V, and the clear is authorised. -/
def highLinkLatchState : State :=
  { setConv State.reset .A { Conv.reset with st := .ovLatch } with
    cot.ovLatch := true, grd.auth := 32, cot.linkV := ⟨1200000, 800000⟩ }

theorem cotOvclr_authorised {s : State} (h : bit s.grd.auth 5 = true) :
    exec (.cotOvclr .rt) s = .next (clearOvLatch (useAuth s 5)) := by
  have hrow : exec (.cotOvclr .rt) s = execCotOvclr .rt s := rfl
  rw [hrow, execCotOvclr, if_neg (by decide), if_pos h]

theorem highLinkLatchState_authorised : bit highLinkLatchState.grd.auth 5 = true := by decide +kernel

theorem highLinkLatchState_st : (conv highLinkLatchState .A).st = .ovLatch := by decide +kernel

theorem highLinkLatchState_rest :
    (if (conv highLinkLatchState .A).ownLatch then .latched else restState highLinkLatchState .A) = SState.off := by
  decide +kernel

theorem highLinkLatchState_cleared : (conv (clearOvLatch (useAuth highLinkLatchState 5)) .A).st = .latched := by
  decide +kernel

/-- Refutes O8: it has a string without a latch of its own leave the overvoltage latch, where a link still at 1,200 V latches it
once the module's latch is clear (R219). -/
theorem not_overvoltageLatch : ¬ Obligations.OvervoltageLatch := by
  unfold Obligations.OvervoltageLatch
  rintro ⟨-, -, -, -, -, -, hclear, -⟩
  obtain ⟨t, ht, -, hleaves, -⟩ := hclear highLinkLatchState rfl highLinkLatchState_authorised
  rw [cotOvclr_authorised highLinkLatchState_authorised, Host.Outcome.next.injEq] at ht
  have hst := hleaves .A highLinkLatchState_st
  rw [← ht, highLinkLatchState_cleared, highLinkLatchState_rest] at hst
  exact absurd hst (by decide)

end Sys2Proof.Machine

/-! PROOFS. The writes to the calibration and the recorders (R230, R257, R259, R261, R263), the end of a loop program's load
(R245), and the write of the strings whose count the statement of their requests leaves out (R66, R277). -/
namespace Sys2Proof.Machine

/-! ## Writes to the recorders -/

/-- An immediate write of an object of any number of elements takes effect and answers 0 (R21). -/
theorem writes_immediate_elements {row : Req → Instr} {o n : Nat}
    {eff : State → Role → Option Session → Req → Nat → State}
    (hrow : ∀ r s, exec (row r) s = request (Req.writing r o) none s) (ho : elemsAndClass o = some (n, 1))
    (heff : ∀ u role k q d, q.object = o →
      effectI u (wrOf q k role d q.value none) (written q) = eff u role k q (firstWritten q)) : Writes row o 0 eff := by
  intro r d role k s h hu
  obtain ⟨-, hcls⟩ := elemsAndClass_of_admitted ho h
  obtain ⟨t, hx, hr⟩ := write_answered h hu
  refine ⟨t, (hrow r s).trans hx, ?_⟩
  rw [writeCode, hcls, acceptWrite_immediate _ _ _ hcls, heff _ _ _ _ _ rfl] at hr
  exact hr

/-- An object whose acceptance brings nothing beside the pending value. -/
theorem acceptWrite_setPend {u : State} {w : Wr} {d : Desc} (v : Nat) (hd : d.apply ≠ 1)
    (ho : w.obj ∉ ([0x2000, 0x4111, 0x4024, 0x8061] : List Nat)) :
    acceptWrite u w d [v] = setPend u w.obj w.first v d.apply := by
  simp only [List.mem_cons, List.not_mem_nil, or_false, not_or] at ho
  obtain ⟨hcontract, hselect, htarget, hbank⟩ := ho
  rw [acceptWrite_pending _ _ _ hd hbank, onAccept, if_neg hcontract, if_neg hselect, if_neg htarget, pendAll_singleton]

/-- The write of an object of one element whose acceptance brings nothing beside the pending value answers 0x06 (R21, R22). -/
theorem writes_pending {row : Req → Instr} {o cls : Nat}
    (hrow : ∀ r s, exec (row r) s = request (Req.writing r o) none s) (ho : elemsAndClass o = some (1, cls)) (hc : 2 ≤ cls)
    (hn : o ∉ ([0x2000, 0x4111, 0x4024, 0x8061] : List Nat)) :
    Writes row o 0x06 (fun u _ _ _ v => setPend u o 0 v cls) := by
  refine writes_single hrow ho (if_pos hc) fun u role k q v d hd hf hq => ?_
  subst hq
  rw [acceptWrite_setPend v (by omega) hn, wrOf_obj, wrOf_first, hf, hd]

/-! ## The end of a loop program's load (R245, R265) -/

theorem countVerify_frame (s : State) (c : Nat) : ∃ vals, countVerify s c = { s with dic.vals := vals } := by
  unfold countVerify
  split
  · exact bump_frame s _ _
  · exact ⟨_, rfl⟩

theorem countVerify_zero (s : State) : countVerify s 0 = s := rfl

/-- What the end of a load makes of an image: it lies verified in slot 1. -/
def verifiedSlot (s : State) : ProgSlot :=
  { state := 2, result := 0, ident := (readLoopImage (loopReader s)).ident
    version := (readLoopImage (loopReader s)).version
    hash := Config.sha256 (pkgBytes (loopReader s) 0 (readLoopImage (loopReader s)).signed)
    code := imageInstrs (loopReader s) (readLoopImage (loopReader s))
    data := imageData (loopReader s) (readLoopImage (loopReader s)) }

theorem loopProgramLoadDone_idle {s : State} (g : Sig) (h : s.lpe.slot1.state ≠ 1) :
    exec (.loopProgramLoadDone g) s = .next s := by
  have hrow : exec (.loopProgramLoadDone g) s = execLoopProgramLoadDone g s := rfl
  rw [hrow, execLoopProgramLoadDone, if_pos h]

theorem loopProgramLoadDone_verified {s : State} {g : Sig} (h : s.lpe.slot1.state = 1)
    (hc : loopImageCode s (readLoopImage (loopReader s)) s.lpe.loadAt.2 g (ownerKeys s) = 0) :
    exec (.loopProgramLoadDone g) s = .next { s with
      lpe.loadFor := false, lpe.clean := 0, lpe.slot1 := verifiedSlot s
      lpe.shad := { LoopCtx.reset with mem := dataMem (verifiedSlot s).data, ended := true } } := by
  have hrow : exec (.loopProgramLoadDone g) s = execLoopProgramLoadDone g s := rfl
  rw [hrow, execLoopProgramLoadDone, if_neg (not_not_intro h)]
  dsimp only
  rw [hc, if_neg (not_not_intro rfl), countVerify_zero]
  rfl

theorem loopProgramLoadDone_refused {s : State} {g : Sig} (h : s.lpe.slot1.state = 1)
    (hc : loopImageCode s (readLoopImage (loopReader s)) s.lpe.loadAt.2 g (ownerKeys s) ≠ 0) :
    ∃ vals, exec (.loopProgramLoadDone g) s = .next { s with
      lpe.loadFor := false, lpe.clean := 0, dic.vals := vals
      lpe.slot1 := { ProgSlot.empty with
        result := loopImageCode s (readLoopImage (loopReader s)) s.lpe.loadAt.2 g (ownerKeys s) } } := by
  have hrow : exec (.loopProgramLoadDone g) s = execLoopProgramLoadDone g s := rfl
  obtain ⟨vals, hv⟩ :=
    countVerify_frame s (loopImageCode s (readLoopImage (loopReader s)) s.lpe.loadAt.2 g (ownerKeys s))
  rw [hrow, execLoopProgramLoadDone, if_neg (not_not_intro h)]
  dsimp only
  rw [if_pos hc, hv]
  exact ⟨vals, rfl⟩

/-- Settles O49: each write by what its object's acceptance does, the end of a load by the code of the image. -/
theorem recorderRequests : Obligations.RecorderRequests := by
  unfold Obligations.RecorderRequests
  refine ⟨?calibration, ?snapshot, ?trace, ?resume, ?copy, ?first, ?sync, ?verified, ?refused, ?idle⟩
  case calibration =>
    exact writes_pending (fun _ _ => rfl) (by decide) (by decide) (by decide)
  case snapshot =>
    refine writes_immediate (fun _ _ => rfl) (by decide) fun u role k q v d hf ho => ?_
    unfold effectI effectHigh
    rw [wrOf_obj, ho]
    rfl
  case trace =>
    refine writes_immediate_elements (n := 20) (fun _ _ => rfl) (by decide) fun u role k q d ho => ?_
    unfold effectI effectHigh
    rw [wrOf_obj, ho]
    rfl
  case resume =>
    exact writes_pending (fun _ _ => rfl) (by decide) (by decide) (by decide)
  case copy =>
    refine writes_immediate (fun _ _ => rfl) (by decide) fun u role k q v d hf ho => ?_
    unfold effectI effectHigh
    rw [wrOf_obj, ho]
    rfl
  case first =>
    refine writes_immediate (fun _ _ => rfl) (by decide) fun u role k q v d hf ho => ?_
    unfold effectI effectHigh
    rw [wrOf_obj, ho]
    rfl
  case sync =>
    refine writes_immediate (fun _ _ => rfl) (by decide) fun u role k q v d hf ho => ?_
    simp [effectI, effectHigh, ho, hf]
  case verified =>
    intro g s h hc
    exact ⟨_, loopProgramLoadDone_verified h hc, rfl, rfl, rfl, rfl, rfl, rfl, rfl, rfl⟩
  case refused =>
    intro g s h hc
    obtain ⟨vals, hx⟩ := loopProgramLoadDone_refused h hc
    exact ⟨_, hx, rfl, rfl⟩
  case idle =>
    exact fun g s h => loopProgramLoadDone_idle g h

/-! ## Host bleed masks in continuous mode (R66, R277) -/

theorem writes_hostBleedMasks : Writes .hostBleedMasks 0x6022 0 (fun u _ _ _ v => acceptMasks u v) := by
  refine writes_immediate (fun _ _ => rfl) (by decide) fun u role k q v d hf ho => ?_
  unfold effectI effectShelf
  rw [wrOf_obj, ho]
  rfl

/-- The masks stored alone leave the count of neighbours. -/
theorem dget_masksStored (u : State) (v : Nat) :
    dget { dset u 0x6022 0 v with strs.hostMask := true, epo.fallback := setBit u.epo.fallback 3 false } 0x6056 6 =
      dget u 0x6056 6 :=
  (dget_congr rfl _ _).trans (dget_dset_ne u 0x6022 0 v 0x6056 6 (by decide))

/-- A session of the Owner over the LD0 mailbox. -/
def maskingOwner : Session :=
  { number := 1, role := .owner, key := 0, link := .ld 0, rx := 0, tx := 0, opened := 0, used := 0, promoted := false
    scopes := 0, till := 0, kRd := 0, kDr := 0, sRd := 0, sDr := 0 }

/-- The active module, that session open, whose host masks bleed in continuous mode. -/
def continuousState : State :=
  dset { State.reset with sec.sessions := [maskingOwner], red.role := .active } 0x6020 0 1

/-- The masks that set the first two positions of string A. -/
def pairMasksRequest : Req :=
  { link := .ld 0, session := some 1, arrived := 20, gen := 1, op := 2, flags := 3, transaction := 0, object := 0x6022
    element := 0, ext := 0, resv := 0, count := 1, offset := 0, length := 80, value := bytesOf (3 * 256 ^ 8) 80, sigs := []
    derivedOk := true, can := none }

/-- The descriptor of the masks. -/
def masksDesc : Desc := (objDesc 0x6022).getD ⟨0, 1, 1, 1, 1, .rule, 0, 0, 0, 0⟩

theorem pairMasksRequest_admitted : Admitted continuousState (Req.writing pairMasksRequest 0x6022) masksDesc .owner
    (some maskingOwner) none := by decide +kernel

theorem pairMasksRequest_unclamped : Unclamped continuousState (Req.writing pairMasksRequest 0x6022) := by decide +kernel

theorem pairMasksRequest_counted :
    dget (acceptMasks (counted continuousState (Req.writing pairMasksRequest 0x6022))
      (firstWritten (Req.writing pairMasksRequest 0x6022))) 0x6056 6 = 1 := by decide +kernel

theorem counted_pairMasksRequest :
    dget (counted continuousState (Req.writing pairMasksRequest 0x6022)) 0x6056 6 = 0 := by decide +kernel

/-- Refutes O46: it has the host's bleed masks stored alone, where in continuous mode each pair of neighbours that they set is
counted (R66, R277). Masks that set positions 0 and 1 of string A raise that count from 0 to 1. -/
theorem not_converterAndStringRequests : ¬ Obligations.ConverterAndStringRequests := by
  unfold Obligations.ConverterAndStringRequests
  rintro ⟨-, -, -, -, -, -, -, -, -, -, -, -, -, -, hmasks, -⟩
  obtain ⟨t, ht, hstored⟩ := hmasks _ _ _ _ _ pairMasksRequest_admitted pairMasksRequest_unclamped
  obtain ⟨t', ht', haccepted⟩ := writes_hostBleedMasks _ _ _ _ _ pairMasksRequest_admitted pairMasksRequest_unclamped
  obtain rfl : t' = t := by rwa [ht', Host.Outcome.next.injEq] at ht
  have hnone : dget t' 0x6056 6 = 0 := by
    rw [hstored.dget_eq, countCode_zero]
    exact (dget_masksStored _ _).trans counted_pairMasksRequest
  have hone : dget t' 0x6056 6 = 1 := by
    rw [haccepted.dget_eq, countCode_zero]
    exact pairMasksRequest_counted
  exact absurd (hnone.symm.trans hone) (by decide)

end Sys2Proof.Machine

/-! PROOFS. The loop engine's instructions (R240 to R243): what a completed instruction leaves, exact and saturated results, and
the control of a pass. -/
namespace Sys2Proof.Machine

/-! ## Contexts, operands and records (R241, R255 to R257) -/

@[simp] theorem lctx_setLctx (s : State) (c : Ctx) (x : LoopCtx) : lctx (setLctx s c x) c = x := by cases c <;> rfl

theorem setLctx_frame (s : State) (c : Ctx) (x : LoopCtx) : ∃ lpe, setLctx s c x = { s with lpe := lpe } := by
  cases c <;> exact ⟨_, rfl⟩

@[simp] theorem lwrite_pc (x : LoopCtx) (d : LOp) (v : Int) : (lwrite x d v).pc = x.pc := by cases d <;> rfl

@[simp] theorem writeRecB_lpe (s : State) (b v c body : Nat) : (writeRecB s b v c body).lpe = s.lpe := by
  obtain ⟨_, _, _, _, _, _, h⟩ := writeRecB_frame s b v c body
  rw [h]

@[simp] theorem lpeRec_lpe (s : State) (v c : Nat) : (lpeRec s v c).lpe = s.lpe := writeRecB_lpe _ _ _ _ _
@[simp] theorem lpeRec_dic (s : State) (v c : Nat) : (lpeRec s v c).dic = s.dic := writeRecB_dic _ _ _ _ _
@[simp] theorem dget_lpeRec (s : State) (v c o e : Nat) : dget (lpeRec s v c) o e = dget s o e := dget_writeRecB _ _ _ _ _ _ _

/-- `u` is `s` with at most its loop engine and its counters changed. -/
def LoopCounted (s u : State) : Prop := u = { s with lpe := u.lpe, dic.vals := u.dic.vals }

theorem LoopCounted.of_lpe (s : State) (lpe : Lpe) : LoopCounted s { s with lpe := lpe } := rfl

theorem LoopCounted.bump {s u : State} (h : LoopCounted s u) (o e : Nat) : LoopCounted s (bump u o e) := by
  obtain ⟨vals, hb⟩ := bump_frame u o e
  unfold LoopCounted at *
  rw [hb, h]

theorem wrote_lpeRec {s u : State} (v c : Nat) (h : LoopCounted s u) :
    Wrote { s with lpe := (lpeRec u v c).lpe, dic.vals := (lpeRec u v c).dic.vals } (lpeRec u v c) 2 v c := by
  unfold LoopCounted at h
  rw [lpeRec_lpe, lpeRec_dic, ← h]
  exact wrote_writeRecB u 2 v c (lpeBody u)

theorem noteSat_lpe (s : State) : (noteSat s).lpe = { s.lpe with satFlag := true } := lpeRec_lpe _ _ _

theorem lctx_noteSat (s : State) (c : Ctx) : lctx (noteSat s) c = lctx s c := by
  unfold lctx
  rw [noteSat_lpe]

/-- `t` is `s` with at most its loop engine, its counters and its records changed. -/
def LoopFrame (s t : State) : Prop :=
  t = { s with lpe := t.lpe, dic := t.dic, recs := t.recs, trc := t.trc, sec.trialBad := t.sec.trialBad }

theorem noteSat_frame (s : State) : LoopFrame s (noteSat s) := by
  obtain ⟨ring, seq, h⟩ := writeRecB_frame_of_lt (bump { s with lpe.satFlag := true } 0x5055 3) 2 0x07
    (lpeBody (bump { s with lpe.satFlag := true } 0x5055 3)) (v := 1) (by decide)
  unfold noteSat lpeRec LoopFrame
  rw [h]
  rfl

/-! ## A completed instruction (R242, R249) -/

/-- The context after an instruction of `cost` clocks that gives `r`: the new context, and whether it saturated. -/
def stepped (x : LoopCtx) (cost : Nat) (r : LoopCtx × Bool) : LoopCtx :=
  { r.1 with pc := (r.1.pc + 1) % 4096, clk := x.clk + cost, dirty := r.1.dirty || r.2 }

theorem completesInTime {s : State} {c : Ctx} {cost : Nat} (hr : passRuns s c = true) (hc : (lctx s c).clk + cost ≤ 720) :
    (passRuns s c && decide ((lctx s c).clk + cost ≤ 720)) = true := by
  rw [hr, decide_eq_true hc, Bool.and_true]

theorem not_completesInTime {s : State} {c : Ctx} {cost : Nat} (hc : 720 < (lctx s c).clk + cost) :
    ¬ (passRuns s c && decide ((lctx s c).clk + cost ≤ 720)) = true := by
  rw [decide_eq_false (Nat.not_le.mpr hc), Bool.and_false]
  exact Bool.false_ne_true

/-- An instruction that completes by the deadline; a saturation is noted. -/
theorem lstep_completes {s : State} {c : Ctx} {cost : Nat} (hr : passRuns s c = true) (hc : (lctx s c).clk + cost ≤ 720)
    (f : LoopCtx → LoopCtx × Bool) :
    lstep s c cost f = if (f (lctx s c)).2 then noteSat (setLctx s c (stepped (lctx s c) cost (f (lctx s c))))
      else setLctx s c (stepped (lctx s c) cost (f (lctx s c))) := by
  unfold lstep
  dsimp only
  rw [if_pos (completesInTime hr hc)]
  rfl

/-- An instruction that would pass the deadline does nothing. -/
theorem lstep_late {s : State} {c : Ctx} {cost : Nat} (hc : 720 < (lctx s c).clk + cost) (f : LoopCtx → LoopCtx × Bool) :
    lstep s c cost f = s := by
  unfold lstep
  exact if_neg (not_completesInTime hc)

theorem lctx_lstep {s : State} {c : Ctx} {cost : Nat} (hr : passRuns s c = true) (hc : (lctx s c).clk + cost ≤ 720)
    (f : LoopCtx → LoopCtx × Bool) : lctx (lstep s c cost f) c = stepped (lctx s c) cost (f (lctx s c)) := by
  rw [lstep_completes hr hc]
  split
  · rw [lctx_noteSat, lctx_setLctx]
  · exact lctx_setLctx _ _ _

theorem lstep_frame {s : State} {c : Ctx} {cost : Nat} (hr : passRuns s c = true) (hc : (lctx s c).clk + cost ≤ 720)
    (f : LoopCtx → LoopCtx × Bool) : LoopFrame s (lstep s c cost f) := by
  obtain ⟨lpe, hs⟩ := setLctx_frame s c (stepped (lctx s c) cost (f (lctx s c)))
  rw [lstep_completes hr hc, hs]
  split
  · exact noteSat_frame { s with lpe := lpe }
  · rfl

/-- An instruction that saturates nothing changes its context alone. -/
theorem lstep_clean {s : State} {c : Ctx} {cost : Nat} {f : LoopCtx → LoopCtx × Bool} {y : LoopCtx}
    (hr : passRuns s c = true) (hc : (lctx s c).clk + cost ≤ 720) (hf : f (lctx s c) = (y, false)) :
    lstep s c cost f = setLctx s c { y with pc := (y.pc + 1) % 4096, clk := (lctx s c).clk + cost } := by
  rw [lstep_completes hr hc, hf, stepped, Bool.or_false]
  rfl

/-- An instruction that writes a result and saturates nothing. -/
theorem lstep_writes {s : State} {c : Ctx} {cost : Nat} {f : LoopCtx → LoopCtx × Bool} {d : LOp} {v : Int}
    (hr : passRuns s c = true) (hc : (lctx s c).clk + cost ≤ 720) (hf : f (lctx s c) = (lwrite (lctx s c) d v, false)) :
    lstep s c cost f = setLctx s c
      { lwrite (lctx s c) d v with pc := ((lctx s c).pc + 1) % 4096, clk := (lctx s c).clk + cost } := by
  rw [lstep_clean hr hc hf, lwrite_pc]

/-! ## Exact results (R241, R242) -/

theorem lexact_of_fits {v : Int} (op : Nat) (h : fits32 v = true) : lexact op v = (v, false) := if_pos h

theorem sat32_of_fits {v : Int} (h : fits32 v = true) : sat32 v = v := by
  simp only [fits32, Bool.and_eq_true, decide_eq_true_eq] at h
  unfold sat32 clampI
  omega

theorem ldivide_of_ne {a b : Int} (h : b ≠ 0) :
    ldivide a b = (sat32 (tdiv (a * 16777216) b), !fits32 (tdiv (a * 16777216) b)) :=
  if_neg h

theorem ldivide_of_fits {a b : Int} (hb : b ≠ 0) (h : fits32 (tdiv (a * 16777216) b) = true) :
    ldivide a b = (tdiv (a * 16777216) b, false) := by
  rw [ldivide_of_ne hb, sat32_of_fits h, h, Bool.not_true]

theorem ldivide_zero {a : Int} (h : 0 < a) : ldivide a 0 = (2147483647, true) := by
  rw [ldivide, if_pos rfl, if_pos h]

/-- Two operands read clean, and an exact result. -/
theorem lbin_clean {x : LoopCtx} {a b : LOp} {g : Int → Int → Int × Bool} {v : Int} (d : LOp) (ha : (lread x a).2 = false)
    (hb : (lread x b).2 = false) (hg : g (lread x a).1 (lread x b).1 = (v, false)) :
    lbin x d a b g = (lwrite x d v, false) := by
  unfold lbin
  dsimp only
  rw [hg, ha, hb]
  rfl

/-- What SHIFT makes of a value (R242): left by `n`, or right by `−n` with the sign kept. -/
def lshifted (v n : Int) : Int × Bool := if 0 ≤ n then lexact 2 (v * 2 ^ n.toNat) else (v / 2 ^ (-n).toNat, false)

/-- The context that SHIFT gives, and whether it saturated. -/
def lshift (x : LoopCtx) (d a : LOp) (n : Int) : LoopCtx × Bool :=
  (lwrite x d (lshifted (lread x a).1 n).1, (lread x a).2 || (lshifted (lread x a).1 n).2)

theorem lpShift_eq (c : Ctx) (d a : LOp) (n : Int) (s : State) :
    exec (.lpShift c d a n) s = .next (lstep s c 1 (lshift · d a n)) := rfl

theorem lshifted_left {v n : Int} (hn : 0 ≤ n) (h : fits32 (v * 2 ^ n.toNat) = true) :
    lshifted v n = (v * 2 ^ n.toNat, false) := (if_pos hn).trans (lexact_of_fits 2 h)

theorem lshifted_right (v : Int) {n : Int} (hn : n < 0) : lshifted v n = (v / 2 ^ (-n).toNat, false) :=
  if_neg (Int.not_le.mpr hn)

theorem lshift_clean {x : LoopCtx} {a : LOp} {n v : Int} (d : LOp) (ha : (lread x a).2 = false)
    (hv : lshifted (lread x a).1 n = (v, false)) : lshift x d a n = (lwrite x d v, false) := by
  rw [lshift, ha, hv, Bool.or_false]

/-- Settles O10: each instruction is one step that writes its exact result and saturates nothing. -/
theorem loopArithmetic : Obligations.LoopArithmetic := by
  unfold Obligations.LoopArithmetic
  intro fin clean c s hr
  refine ⟨?move, ?add, ?subtract, ?left, ?right, ?min, ?max, ?clamp, ?mac, ?divide⟩
  case move =>
    intro d a hc hclean
    have ha := hclean a (by simp)
    exact congrArg Host.Outcome.next (lstep_writes hr hc (by rw [ha]))
  case add =>
    intro d a b hc hclean hfit
    exact congrArg Host.Outcome.next (lstep_writes hr hc
      (lbin_clean d (hclean a (by simp)) (hclean b (by simp)) (lexact_of_fits 0 hfit)))
  case subtract =>
    intro d a b hc hclean hfit
    exact congrArg Host.Outcome.next (lstep_writes hr hc
      (lbin_clean d (hclean a (by simp)) (hclean b (by simp)) (lexact_of_fits 1 hfit)))
  case left =>
    intro d a n hc hclean hfit
    exact (lpShift_eq c d a n s).trans (congrArg Host.Outcome.next (lstep_writes hr hc
      (lshift_clean d (hclean a (by simp)) (lshifted_left (Int.natCast_nonneg n) hfit))))
  case right =>
    intro d a n hc hclean hn
    have hright := lshifted_right (lread (lctx s c) a).1 (n := -(n : Int)) (by omega)
    rw [neg_neg, Int.toNat_natCast] at hright
    exact (lpShift_eq c d a _ s).trans (congrArg Host.Outcome.next (lstep_writes hr hc
      (lshift_clean d (hclean a (by simp)) hright)))
  case min =>
    intro d a b hc hclean
    exact congrArg Host.Outcome.next (lstep_writes hr hc (lbin_clean d (hclean a (by simp)) (hclean b (by simp)) rfl))
  case max =>
    intro d a b hc hclean
    exact congrArg Host.Outcome.next (lstep_writes hr hc (lbin_clean d (hclean a (by simp)) (hclean b (by simp)) rfl))
  case clamp =>
    intro d a l h hc hclean
    have ha := hclean a (by simp)
    have hl := hclean l (by simp)
    have hh := hclean h (by simp)
    refine congrArg Host.Outcome.next (lstep_writes hr hc ?_)
    dsimp only
    rw [ha, hl, hh]
    rfl
  case mac =>
    intro i a b hc hclean hsat
    have ha := hclean a (by simp)
    have hb := hclean b (by simp)
    refine congrArg Host.Outcome.next (lstep_clean hr hc ?_)
    dsimp only [lproduct]
    rw [hsat, ha, hb]
    simp
  case divide =>
    intro d a b hc hclean hb hfit
    exact congrArg Host.Outcome.next (lstep_writes hr hc
      (lbin_clean d (hclean a (by simp)) (hclean b (by simp)) (ldivide_of_fits hb hfit)))

/-! ## Results outside the format (R241, R255, R257) -/

/-- In `t` an instruction of `cost` clocks has completed that writes the value `w` to `d`; nothing outside the loop engine, the
counters and the records has changed. -/
def ResultWritten (s t : State) (c : Ctx) (cost : Nat) (d : LOp) (w : Int) : Prop :=
  (lctx t c).pc = ((lctx s c).pc + 1) % 4096 ∧ (lctx t c).clk = (lctx s c).clk + cost ∧
  (∀ v, w = v → lctx t c =
    { lwrite (lctx s c) d v with pc := (lctx t c).pc, clk := (lctx t c).clk, dirty := (lctx t c).dirty }) ∧
  LoopFrame s t

theorem lstep_resultWritten {s : State} {c : Ctx} {cost : Nat} {f : LoopCtx → LoopCtx × Bool} {d : LOp} {w : Int}
    (hr : passRuns s c = true) (hc : (lctx s c).clk + cost ≤ 720) (hf : (f (lctx s c)).1 = lwrite (lctx s c) d w) :
    ResultWritten s (lstep s c cost f) c cost d w := by
  refine ⟨?_, ?_, ?_, lstep_frame hr hc f⟩
  · rw [lctx_lstep hr hc, stepped, hf, lwrite_pc]
  · rw [lctx_lstep hr hc, stepped]
  · rintro v rfl
    rw [lctx_lstep hr hc, stepped, hf]

theorem lbin_resultWritten {s : State} {c : Ctx} {cost : Nat} (hr : passRuns s c = true) (hc : (lctx s c).clk + cost ≤ 720)
    (d a b : LOp) (g : Int → Int → Int × Bool) :
    ResultWritten s (lstep s c cost (lbin · d a b g)) c cost d (g (lread (lctx s c) a).1 (lread (lctx s c) b).1).1 :=
  lstep_resultWritten hr hc rfl

theorem lexact_fst {v : Int} (op : Nat) (h : fits32 v = true) : (lexact op v).1 = v := by rw [lexact_of_fits op h]

/-- Settles O11: a step completes on any operands; a saturation is noted, and a late instruction does nothing. -/
theorem loopSaturation : Obligations.LoopSaturation := by
  unfold Obligations.LoopSaturation
  refine ⟨?zero, ?add, ?late, ?subtract, ?shift, ?divide, ?mac⟩
  case zero =>
    intro c d a b s hr hc ha hb
    have hdiv : lbin (lctx s c) d a b ldivide = (lwrite (lctx s c) d 2147483647, true) := by
      unfold lbin
      dsimp only
      rw [hb, ldivide_zero ha, Bool.or_true]
    obtain ⟨lpe, hset⟩ := setLctx_frame s c (stepped (lctx s c) 20 (lwrite (lctx s c) d 2147483647, true))
    have ht : exec (.lpDivide c d a b) s =
        .next (noteSat (setLctx s c (stepped (lctx s c) 20 (lwrite (lctx s c) d 2147483647, true)))) := by
      refine congrArg Host.Outcome.next ((lstep_completes hr hc _).trans ?_)
      rw [hdiv]
      rfl
    refine ⟨_, ht, ?_, ?_, ?_, ?_⟩
    · rw [lctx_noteSat, lctx_setLctx, stepped, Bool.or_true, lwrite_pc]
    · rw [noteSat_lpe]
    · rw [hset, noteSat, dget_lpeRec]
      exact dget_bump_self _ _ _
    · rw [hset]
      exact wrote_lpeRec 1 0x07 (.bump (.of_lpe s _) 0x5055 3)
  case add =>
    intro c d a b s hr hc
    obtain ⟨hpc, hclk, hexact, hframe⟩ := lbin_resultWritten hr hc d a b (fun u v => lexact 0 (u + v))
    exact ⟨_, rfl, hpc, hclk, fun hfit => hexact _ (lexact_fst 0 hfit), hframe⟩
  case late =>
    intro c d a o s hr hc
    exact ⟨congrArg Host.Outcome.next (lstep_late hc _), congrArg Host.Outcome.next (lstep_late hc _),
      if_neg (not_completesInTime hc)⟩
  case subtract =>
    intro c d a b s hr hc
    obtain ⟨hpc, hclk, hexact, hframe⟩ := lbin_resultWritten hr hc d a b (fun u v => lexact 1 (u - v))
    exact ⟨_, rfl, hpc, hclk, fun hfit => hexact _ (lexact_fst 1 hfit), hframe⟩
  case shift =>
    intro c d a n s hr hc
    obtain ⟨hpc, hclk, hexact, hframe⟩ := lstep_resultWritten (f := (lshift · d a n)) hr hc rfl
    exact ⟨_, lpShift_eq c d a n s, hpc, hclk, fun hn hfit => hexact _ (congrArg Prod.fst (lshifted_left hn hfit)),
      fun hn => hexact _ (congrArg Prod.fst (lshifted_right _ hn)), hframe⟩
  case divide =>
    intro c d a b s hr hc
    obtain ⟨hpc, hclk, hexact, hframe⟩ := lbin_resultWritten hr hc d a b ldivide
    exact ⟨_, rfl, hpc, hclk, fun hb => hexact _ (by rw [ldivide_of_ne hb]), hframe⟩
  case mac =>
    intro c i a fa b fb s hr hc
    refine ⟨_, rfl, ?_, lstep_frame hr hc _⟩
    rw [lctx_lstep hr hc]
    rfl

/-! ## Control and data (R240, R242, R243) -/

/-- Settles O12: each instruction is one step that saturates nothing; END commits as its context is. -/
theorem loopControl : Obligations.LoopControl := by
  unfold Obligations.LoopControl
  refine ⟨?compare, ?taken, ?notTaken, ?load, ?store, ?program, ?shadow⟩
  case compare =>
    intro c a b s hr hc ha hb
    refine congrArg Host.Outcome.next (lstep_clean hr hc
      (y := { lctx s c with less := decide ((lread (lctx s c) a).1 < (lread (lctx s c) b).1) }) ?_)
    rw [ha, hb]
    rfl
  case taken =>
    intro c l target s hr hc hl ht
    have hrow : exec (.lpBranch c l target) s = execLpBranch c l target s := rfl
    have htaken : ((lctx s c).less == l) = true := beq_iff_eq.mpr hl
    have hpc : ((target + 4095) % 4096 + 1) % 4096 = target := by omega
    rw [hrow, execLpBranch]
    simp only [htaken, if_true]
    rw [lstep_clean hr hc rfl, hpc]
  case notTaken =>
    intro c l target s hr hc hl
    have hrow : exec (.lpBranch c l target) s = execLpBranch c l target s := rfl
    have hkept : ((lctx s c).less == l) = false := beq_eq_false_iff_ne.mpr hl
    rw [hrow, execLpBranch]
    simp only [hkept, Bool.false_eq_true, if_false]
    rw [lstep_clean hr hc rfl]
  case load =>
    exact fun c d inp s hr hc => congrArg Host.Outcome.next (lstep_writes hr hc rfl)
  case store =>
    intro c p a s hr hc ha
    refine congrArg Host.Outcome.next (lstep_clean hr hc (y := { lctx s c with
      out := (p, (lread (lctx s c) a).1) :: (lctx s c).out.filter (fun q => q.1 != p) }) ?_)
    rw [ha]
  case program =>
    exact fun s hr hc => if_pos (completesInTime hr hc)
  case shadow =>
    exact fun s hr hc => if_pos (completesInTime hr hc)

end Sys2Proof.Machine

/-! PROOFS. The supervision of the loop engine (R247 to R251, R254, R257, R308): overruns, the fixed law and the return of the
program, and the bus channels. -/
namespace Sys2Proof.Machine

/-! ## Records in states that share their ring and their time (R230) -/

theorem mergesWith_congr {s u : State} (h : u.epo = s.epo) (b c : Nat) : mergesWith u b c = mergesWith s b c := by
  funext r
  unfold mergesWith
  rw [h]

theorem mergeInto_congr {s u : State} (h : u.epo = s.epo) (b c : Nat) (l : List Record) :
    mergeInto u b c l = mergeInto s b c l := by
  induction l with
  | nil => rfl
  | cons r l ih => rw [mergeInto, mergeInto, mergesWith_congr h, ih]

/-- Whether a record was written depends on the records and the time alone. -/
theorem Recorded.congr {s u t w : State} {b v c : Nat} (h : Recorded u w b v c) (hr : u.recs = s.recs) (he : u.epo = s.epo)
    (ht : t.recs = w.recs) : Recorded s t b v c := by
  unfold Recorded at *
  rwa [ht, ← hr, ← he, ← mergesWith_congr he, ← mergeInto_congr he]

/-! ## The deadline (R240, R247) -/

/-- An overrun before its record: it is noted and counted, and its pass commits nothing. -/
def overrun (s : State) : State :=
  bump { s with
    lpe.ovrFlag := true, lpe.ovrCnt := satInc s.lpe.ovrCnt 255, lpe.abortPc := s.lpe.prog.pc
    lpe.prog := { s.lpe.prog with dirty := true, out := [], memNew := s.lpe.prog.mem } } 0x5055 0

theorem dget_overrun (s : State) : dget (overrun s) 0x5055 0 = satInc (dget s 0x5055 0) 0xFFFFFFFF :=
  dget_bump_self _ _ _

theorem abortPass_third {s : State} (hr : s.lpe.run = true) (he : s.lpe.prog.ended = false) (hs : s.lpe.src = 0)
    (hn : s.lpe.ovrCnt = 2) : abortPass s = { lpeRec (overrun s) 1 0x01 with lpe.takeover := true } := by
  have habort : (s.lpe.run && !s.lpe.prog.ended) = true := by rw [hr, he]; rfl
  have hthird : (overrun s).lpe.ovrCnt = 3 := (congrArg (satInc · 255) hn).trans rfl
  have hsrc : (overrun s).lpe.src = 0 := hs
  have htake : (decide (3 ≤ (lpeRec (overrun s) 1 0x01).lpe.ovrCnt) && (lpeRec (overrun s) 1 0x01).lpe.src == 0) = true := by
    rw [lpeRec_lpe, hthird, hsrc]
    rfl
  exact (if_pos habort).trans (if_pos htake)

theorem abortPass_ended {s : State} (h : s.lpe.prog.ended = true) : abortPass s = s := by
  have hn : (s.lpe.run && !s.lpe.prog.ended) = false := by rw [h, Bool.not_true, Bool.and_false]
  exact if_neg (by rw [hn]; exact Bool.false_ne_true)

theorem abortShadow_frame (s : State) : ∃ shad, abortShadow s = { s with lpe.shad := shad } := by
  unfold abortShadow
  split <;> exact ⟨_, rfl⟩

theorem abortShadow_ended {s : State} (h : s.lpe.shadowEn = false ∨ s.lpe.shad.ended = true) : abortShadow s = s := by
  have hn : (s.lpe.run && s.lpe.shadowEn && !s.lpe.shad.ended) = false := by
    rcases h with h | h <;> simp [h]
  exact if_neg (by rw [hn]; exact Bool.false_ne_true)

theorem traceSample_frame (s : State) : ∃ trc, traceSample s = { s with trc := trc } := by
  unfold traceSample
  split
  · unfold traceTake
    split <;> exact ⟨_, rfl⟩
  · exact ⟨_, rfl⟩

theorem freezeRecord_frame (s : State) : ∃ red, freezeRecord s = { s with red := red } := by
  unfold freezeRecord
  dsimp only
  split <;> exact ⟨_, rfl⟩

/-- In Live the deadline aborts what has not ended; the trace's sample and the frozen record touch nothing else. -/
theorem passDeadline_frame {s : State} (h : s.power.mstate = .live) :
    ∃ trc red, exec .passDeadline s = .next { abortShadow (abortPass s) with trc := trc, red := red } := by
  obtain ⟨trc, ht⟩ := traceSample_frame (abortShadow (abortPass s))
  obtain ⟨red, hf⟩ := freezeRecord_frame (traceSample (abortShadow (abortPass s)))
  refine ⟨trc, red, (if_pos (beq_iff_eq.mpr h)).trans ?_⟩
  rw [hf, ht]

/-! ## The fixed law and the return of the program (R247, R249, R254) -/

theorem fixedLawTakeover_in_charge {s : State} (ht : s.lpe.takeover = true) (hs : s.lpe.src = 0) :
    exec .fixedLawTakeover s =
      .next (lpeRec (bump { s with lpe.takeover := false, lpe.src := 1, lpe.cleanBg := 0 } 0x5055 1) 2 0x02) := by
  have hrow : exec .fixedLawTakeover s = execFixedLawTakeover s := rfl
  rw [hrow, execFixedLawTakeover, ht, hs]
  rfl

theorem fixedLawTakeover_already {s : State} (ht : s.lpe.takeover = true) (hs : s.lpe.src ≠ 0) :
    exec .fixedLawTakeover s = .next { s with lpe.takeover := false } :=
  if_pos (by rw [ht, bne_iff_ne.mpr hs]; rfl)

theorem programReturn_due {s : State} (hs : s.lpe.src = 1) (hc : 1000 ≤ s.lpe.cleanBg) (he : s.epo.sample ≤ 1) :
    exec .programReturn s = .next (lpeRec
      (bump { s with lpe.src := 0, lpe.progReturn := false, lpe.cleanBg := 0, lpe.ovrCnt := 0 } 0x5055 2) 0 0x03) :=
  (if_pos ⟨hs, hc, he⟩).trans (congrArg Host.Outcome.next (if_pos hs))

theorem lpeFixrst_authorised {s : State} (ha : bit s.grd.auth 2 = true) (hs : s.lpe.src = 1) :
    exec (.lpeFixrst .rt) s = .next { useAuth s 2 with lpe.progReturn := true } :=
  (if_pos ha).trans (congrArg Host.Outcome.next (if_pos hs))

/-! ## The bus channels (R251, R254) -/

theorem lpeSelreq_authorised {s : State} (ha : bit s.grd.auth 1 = true) (hp : plausible s s.lpe.selCh = true) :
    exec (.lpeSelreq .rt) s = .next { useAuth s 1 with lpe.sel := s.lpe.selCh } :=
  (if_pos ha).trans (congrArg Host.Outcome.next (if_pos hp))

theorem markChannel_frame (s : State) (k v : Bool) : ∃ impl, markChannel s k v = { s with lpe.impl := impl } := by
  cases k <;> exact ⟨_, rfl⟩

@[simp] theorem plausible_markChannel (s : State) (k v : Bool) : plausible (markChannel s k v) k = !v := by
  cases k <;> rfl

@[simp] theorem plausible_markChannel_other (s : State) (k v : Bool) :
    plausible (markChannel s k v) (!k) = plausible s (!k) := by cases k <;> rfl

theorem plausible_congr {s t : State} (h : t.lpe.impl = s.lpe.impl) (k : Bool) : plausible t k = plausible s k := by
  unfold plausible
  rw [h]

/-- The selected channel is implausible and the other is not: the other is selected. -/
theorem channelImplausible_switches {s : State} {k : Bool} (hd : implausibleDue s k = true) (hk : plausible s k = true)
    (ho : plausible s (!k) = true) (hs : s.lpe.sel = k) : exec (.channelImplausible k) s =
      .next (lpeRec (bump (switchTo (markChannel s k true) (!k)) 0x5055 4) 1 0x04) := by
  obtain ⟨impl, hm⟩ := markChannel_frame s k true
  have hsel : (markChannel s k true).lpe.sel = k := by rw [hm]; exact hs
  refine (if_pos (by rw [hd, hk]; rfl)).trans ?_
  exact (if_pos ((plausible_markChannel_other s k true).trans ho)).trans (if_pos hsel)

/-- Both channels are implausible: the fixed law is in charge, open-loop. -/
theorem channelImplausible_both {s : State} {k : Bool} (hd : implausibleDue s k = true) (hk : plausible s k = true)
    (ho : plausible s (!k) = false) : exec (.channelImplausible k) s =
      .next (lpeRec (bump (bump { markChannel s k true with lpe.src := 2, lpe.cleanBg := 0 } 0x5055 5) 0x5055 1) 2 0x05) := by
  refine (if_pos (by rw [hd, hk]; rfl)).trans (if_neg ?_)
  rw [plausible_markChannel_other, ho]
  exact Bool.false_ne_true

/-- A channel is plausible again; where both were implausible it is selected, and the fixed law goes on closed-loop. -/
theorem channelPlausible_again {s : State} {k : Bool} (hk : plausible s k = false)
    (hf : (if k then s.lpe.chFault.2 else s.lpe.chFault.1) = false)
    (hn : 1000 ≤ if k then s.lpe.inBand.2 else s.lpe.inBand.1) : exec (.channelPlausible k) s =
      .next (if s.lpe.src = 2 then { lpeRec (markChannel s k false) 0 0x06 with lpe.sel := k, lpe.src := 1 }
        else lpeRec (markChannel s k false) 0 0x06) := by
  obtain ⟨impl, hm⟩ := markChannel_frame s k false
  have hsrc : (lpeRec (markChannel s k false) 0 0x06).lpe.src = s.lpe.src := by rw [lpeRec_lpe, hm]
  have hrow : exec (.channelPlausible k) s = execChannelPlausible k s := rfl
  rw [hrow, execChannelPlausible]
  dsimp only
  rw [if_pos (by rw [hk, hf, decide_eq_true hn]; rfl), hsrc]

/-- Settles O13: each event by what its meaning does where the statement's condition holds. -/
theorem loopEngineSupervision : Obligations.LoopEngineSupervision := by
  unfold Obligations.LoopEngineSupervision
  refine ⟨?third, ?inTime, ?takeover, ?returned, fun s hs ha => lpeFixrst_authorised ha hs, ?unauthorised,
    fun s ha hp => lpeSelreq_authorised ha hp, fun _ => rfl, fun _ => rfl, ?switch, ?both, ?again, ?foreign,
    fun s ht hs => fixedLawTakeover_already ht hs⟩
  case third =>
    intro s hl hr he hs hn
    obtain ⟨trc, red, ht⟩ := passDeadline_frame hl
    obtain ⟨shad, hshad⟩ := abortShadow_frame (abortPass s)
    obtain ⟨ring, seq, hrec⟩ := writeRecB_frame_of_lt (overrun s) 2 0x01 (lpeBody (overrun s)) (v := 1) (by decide)
    have hrecorded := (wrote_writeRecB (overrun s) 2 1 0x01 (lpeBody (overrun s))).1
    rw [hshad, abortPass_third hr he hs hn, lpeRec, hrec] at ht
    rw [hrec] at hrecorded
    exact ⟨_, ht, rfl, congrArg (satInc · 255) hn, rfl, rfl, rfl, rfl, (dget_congr rfl _ _).trans (dget_overrun s),
      hrecorded.congr rfl rfl rfl, rfl, rfl⟩
  case inTime =>
    intro s hl _ he hshad
    obtain ⟨trc, red, ht⟩ := passDeadline_frame hl
    rw [abortPass_ended he, abortShadow_ended hshad] at ht
    exact ⟨_, ht, rfl, rfl, rfl⟩
  case takeover =>
    intro s ht hs
    exact ⟨_, fixedLawTakeover_in_charge ht hs, congrArg Lpe.src (lpeRec_lpe _ _ _), congrArg Lpe.cleanBg (lpeRec_lpe _ _ _),
      congrArg Lpe.takeover (lpeRec_lpe _ _ _), (dget_lpeRec _ _ _ _ _).trans (dget_bump_self _ _ _),
      wrote_lpeRec 2 0x02 (.bump (.of_lpe s _) 0x5055 1)⟩
  case returned =>
    intro s hs hc he
    exact ⟨_, programReturn_due hs hc he, congrArg Lpe.src (lpeRec_lpe _ _ _), congrArg Lpe.ovrCnt (lpeRec_lpe _ _ _),
      (dget_lpeRec _ _ _ _ _).trans (dget_bump_self _ _ _), wrote_lpeRec 0 0x03 (.bump (.of_lpe s _) 0x5055 2)⟩
  case unauthorised =>
    intro s ha
    exact if_neg (by rw [ha]; exact Bool.false_ne_true)
  case switch =>
    intro k s hd hk ho hs
    obtain ⟨impl, hm⟩ := markChannel_frame s k true
    have himpl := plausible_markChannel s k true
    have hrow := channelImplausible_switches hd hk ho hs
    rw [hm] at himpl hrow
    refine ⟨_, hrow, (plausible_congr (congrArg Lpe.impl (lpeRec_lpe _ _ _)) k).trans himpl,
      congrArg Lpe.sel (lpeRec_lpe _ _ _), congrArg Lpe.idist (lpeRec_lpe _ _ _), ?_,
      (dget_lpeRec _ _ _ _ _).trans (dget_bump_self _ _ _), wrote_lpeRec 1 0x04 (.bump (.of_lpe s _) 0x5055 4)⟩
    rw [lpeRec_lpe]
    cases k <;> rfl
  case both =>
    intro k s hd hk ho
    obtain ⟨impl, hm⟩ := markChannel_frame s k true
    have himpl := plausible_markChannel s k true
    have hrow := channelImplausible_both hd hk ho
    rw [hm] at himpl hrow
    refine ⟨_, hrow, (plausible_congr (congrArg Lpe.impl (lpeRec_lpe _ _ _)) k).trans himpl,
      congrArg Lpe.src (lpeRec_lpe _ _ _), ?_, ?_,
      wrote_lpeRec 2 0x05 (.bump (.bump (.of_lpe s _) 0x5055 5) 0x5055 1)⟩
    · rw [dget_lpeRec, dget_bump_ne _ _ _ (by decide)]
      exact dget_bump_self _ _ _
    · rw [dget_lpeRec, dget_bump_self, dget_bump_ne _ _ _ (by decide)]
      rfl
  case again =>
    intro k s hk hf hn
    obtain ⟨impl, hm⟩ := markChannel_frame s k false
    obtain ⟨ring, seq, hrec⟩ := writeRecB_frame_of_lt (markChannel s k false) 2 0x06 (lpeBody (markChannel s k false))
      (v := 0) (by decide)
    have hrecorded := (wrote_writeRecB (markChannel s k false) 2 0 0x06 (lpeBody (markChannel s k false))).1
    have himpl := plausible_markChannel s k false
    refine ⟨_, channelPlausible_again hk hf hn, ?_⟩
    rw [lpeRec, hrec, hm]
    rw [hrec, hm] at hrecorded
    rw [hm] at himpl
    split
    · exact ⟨himpl, rfl, fun _ => rfl, hrecorded.congr rfl rfl rfl, rfl⟩
    · rename_i hs
      exact ⟨himpl, rfl, fun h => absurd h hs, hrecorded.congr rfl rfl rfl, rfl⟩
  case foreign =>
    intro c on s hc i hi
    simp only [List.mem_cons, List.not_mem_nil, or_false] at hi
    rcases hi with rfl | rfl | rfl <;> exact if_pos hc

end Sys2Proof.Machine

/-! PROOFS. The trace, the fault snapshot and the flight recorder (R258, R259, R261 to R263). -/
namespace Sys2Proof.Machine

/-! ## The trace (R258, R261) -/

theorem traceTrig_armed {s : State} (ha : s.trc.armed = true) (he : s.trc.en = true) : traceTrig s = { s with
    trc.armed := false, trc.triggered := true, trc.tpos := s.trc.pos, trc.left := 32768 - s.trc.pre } :=
  if_pos (by rw [ha, he]; rfl)

/-! ## The flight recorder (R262, R263, R480) -/

theorem recording_of {s : State} (hl : s.power.mstate = .live) (ha : isActive s = true) (hr : s.trc.recRun = true) :
    recording s = true := by
  rw [recording, ha, hr, inLive, hl]
  rfl

/-- The frame `v` stored, or left to wait, and numbered, before its segment closes. -/
def frameTaken (s : State) (v : Nat) : State :=
  { storeFrame s v with
    trc.recFrame := v
    trc.recSeq := (s.trc.recSeq + 1) % 2 ^ 32
    trc.frameNo := s.trc.frameNo + 1
    trc.recInSeg := s.trc.recInSeg + 1 }

theorem recorderFrame_recorded {s : State} (h : recording s = true) (vals : List Word) :
    exec (.recorderFrame vals) s = .next (segmentClose (frameTaken s (frameValue s vals))) := if_pos h

theorem storeFrame_running {s : State} (h : s.eng.state = .idle ∨ s.eng.state = .running) (v : Nat) :
    storeFrame s v = dramPut s (frameOffset s.trc.recSeq) 272 v :=
  if_pos (by rcases h with h | h <;> rw [h] <;> rfl)

theorem storeFrame_waits {s : State} (hi : s.eng.state ≠ .idle) (hr : s.eng.state ≠ .running) (hq : s.trc.recQ.length < 64)
    (v : Nat) : storeFrame s v = { s with trc.recQ := s.trc.recQ ++ [(s.trc.recSeq, v)] } := by
  have hstopped : ¬ (s.eng.state == .idle || s.eng.state == .running) = true := by simp [hi, hr]
  exact (if_neg hstopped).trans (if_pos hq)

/-- The close of a segment touches its counts alone. -/
theorem segmentClose_eq (s : State) : ∃ mirrored, segmentClose s = { s with
    trc.recInSeg := if s.trc.recInSeg < 25000 then s.trc.recInSeg else 0
    trc.segDone := if s.trc.recInSeg < 25000 then s.trc.segDone else s.trc.segDone + 1
    trc.segMirrored := mirrored } := by
  by_cases h : s.trc.recInSeg < 25000
  · refine ⟨s.trc.segMirrored, (if_pos h).trans ?_⟩
    rw [if_pos h, if_pos h]
  · refine ⟨if mirrorUp s then s.trc.segMirrored + 1 else s.trc.segMirrored, (if_neg h).trans ?_⟩
    rw [if_neg h, if_neg h]

/-- Settles O27: each command and event by its meaning where the statement's condition holds. -/
theorem traceAndRecorder : Obligations.TraceAndRecorder := by
  unfold Obligations.TraceAndRecorder
  refine ⟨fun _ => rfl, ?swtrig, ?trigger, ?done, fun s h => if_pos h, ?stored, ?autoStop,
    fun c s hc => ⟨if_pos hc, if_pos hc⟩, ?waits⟩
  case swtrig =>
    exact fun s ha he => congrArg Host.Outcome.next (traceTrig_armed (s := accessOk s) ha he)
  case trigger =>
    exact fun s ha he ht => congrArg Host.Outcome.next ((if_pos ht).trans (traceTrig_armed ha he))
  case done =>
    exact fun s ht hd => if_pos (by rw [ht, hd]; rfl)
  case stored =>
    intro v s hl ha hr he
    have hrow := recorderFrame_recorded (recording_of hl ha hr) v
    obtain ⟨mirrored, hclose⟩ := segmentClose_eq (frameTaken s (frameValue s v))
    obtain ⟨m, hput⟩ := dramPut_frame s (frameOffset s.trc.recSeq) 272 (frameValue s v)
    have hstored := dramN_dramPut s (frameOffset s.trc.recSeq) 272 (frameValue s v)
    have hkept := fun a => memRead_dramPut_outside s (frameOffset s.trc.recSeq) 272 (frameValue s v) (b := a)
    rw [hclose, frameTaken, storeFrame_running he, hput] at hrow
    simp only [hput] at hstored hkept
    exact ⟨_, hrow, (dramN_congr rfl _ _).trans hstored, hkept, rfl, rfl, rfl, rfl⟩
  case autoStop =>
    intro n s hs hn
    have hrow : exec .recorderAutoStop s = execRecorderAutoStop s := rfl
    rw [hrow, execRecorderAutoStop, hs]
    exact if_pos hn
  case waits =>
    intro v s hl ha hr hi hrun hq
    have hrow := recorderFrame_recorded (recording_of hl ha hr) v
    obtain ⟨mirrored, hclose⟩ := segmentClose_eq (frameTaken s (frameValue s v))
    rw [hclose, frameTaken, storeFrame_waits hi hrun hq] at hrow
    exact ⟨_, hrow, rfl, rfl, rfl⟩

end Sys2Proof.Machine

/-! PROOFS. Positions and wires of the strings, their records, and wire surveys and open-wire tests (R277, R278, R281, R283). -/
namespace Sys2Proof.Machine

/-! ## Positions, wires and their states (R266, R297) -/

theorem wireG_ne {x : Str} {i j : Nat} (h : i ≠ j) : wireG x i ≠ wireG x j := by
  unfold wireG
  omega

theorem posG_ne {x : Str} {i j : Nat} (h : i ≠ j) : posG x i ≠ posG x j := by
  unfold posG
  omega

theorem dkey_ne_of_element {o e e' : Nat} (h : e ≠ e') : dkey o e ≠ dkey o e' := by
  unfold dkey
  omega

theorem wst_congr {s t : State} (h : t.strs.wires = s.strs.wires) (w : Nat) : wst t w = wst s w := by
  unfold wst
  rw [h]

theorem pst_congr {s t : State} (h : t.strs.pstate = s.strs.pstate) (g : Nat) : pst t g = pst s g := by
  unfold pst
  rw [h]

@[simp] theorem wst_setWst_self (s : State) (w v : Nat) : wst (setWst s w v) w = v := by
  unfold wst setWst
  by_cases h : v = 3 <;> simp [h]

@[simp] theorem pst_setPst_self (s : State) (g v : Nat) : pst (setPst s g v) g = v := by
  unfold pst setPst
  by_cases h : v = 1 <;> simp [h]

theorem pst_setPst_ne {s : State} {g h : Nat} (v : Nat) (hne : h ≠ g) : pst (setPst s g v) h = pst s h := by
  unfold pst setPst
  simp [mget_mset_ne _ _ _ _ hne]

/-! ## What records and the stop of bleeds leave (R230, R276, R295) -/

/-- `t` is `s` with at most its strings changed, and fault records written. -/
def StringFrame (s t : State) : Prop :=
  t = { s with strs := t.strs, recs := t.recs, trc := t.trc, sec := t.sec, fac.stepDue := t.fac.stepDue }

theorem StringFrame.trans {s t u : State} (h : StringFrame s t) (k : StringFrame t u) : StringFrame s u := by
  unfold StringFrame at *
  rw [k, h]

theorem strRec_frame (s : State) (v c : Nat) (x : Str) (d k j : Nat) : StringFrame s (strRec s v c x d k j) := by
  obtain ⟨_, _, _, _, _, _, h⟩ := writeRecB_frame s 3 v c (strBody s x d k j)
  rw [strRec, h]
  rfl

@[simp] theorem strRec_strs (s : State) (v c : Nat) (x : Str) (d k j : Nat) : (strRec s v c x d k j).strs = s.strs := by
  obtain ⟨_, _, _, _, _, _, h⟩ := writeRecB_frame s 3 v c (strBody s x d k j)
  rw [strRec, h]

/-- A record of the strings is written on the state that holds everything else the event changed, its strings alone. -/
theorem wrote_strRec {s u : State} (h : u = { s with strs := u.strs }) (v c : Nat) (x : Str) (d k j : Nat) :
    Wrote { s with strs := (strRec u v c x d k j).strs } (strRec u v c x d k j) 3 v c := by
  rw [strRec_strs, ← h]
  exact wrote_writeRecB u 3 v c (strBody u x d k j)

/-- The stop of a string's bleeds touches its bleeds and the count of suspensions alone. -/
theorem stopBleeds_eq (s : State) (x : Str) : ∃ bleed vals, stopBleeds s x =
      { s with strs.bleed := bleed, dic.vals := vals } ∧
    ∀ o e, dkey o e ≠ dkey 0x6056 7 → dget (stopBleeds s x) o e = dget s o e := by
  unfold stopBleeds
  dsimp only
  split
  · exact ⟨_, _, rfl, fun _ _ _ => rfl⟩
  · exact ⟨_, _, rfl, fun _ _ h => (dget_congr rfl _ _).trans (dget_bump_ne s _ _ h)⟩

/-! ## Wire surveys (R278) -/

/-- `t` is `s` with at most what the storing of wires touches changed: the wires, those due for a test, the first results, and
the values of the dictionary. -/
def SurveyFrame (s t : State) : Prop :=
  t = { s with
    strs.wires := t.strs.wires, strs.owtDue := t.strs.owtDue, strs.steps := t.strs.steps, dic.vals := t.dic.vals }

theorem SurveyFrame.trans {s t u : State} (h : SurveyFrame s t) (k : SurveyFrame t u) : SurveyFrame s u := by
  unfold SurveyFrame at *
  rw [k, h]

theorem SurveyFrame.bleedUA {s t : State} (h : SurveyFrame s t) : t.strs.bleedUA = s.strs.bleedUA := by
  unfold SurveyFrame at h
  rw [h]

theorem SurveyFrame.surveyEnd {s t : State} (h : SurveyFrame s t) : t.strs.surveyEnd = s.strs.surveyEnd := by
  unfold SurveyFrame at h
  rw [h]

/-- With the survey's own fields changed besides, it leaves all but the strings and the values of the dictionary. -/
theorem SurveyFrame.strsVals {s t u : State} (h : SurveyFrame s t) (k : u = { t with strs := u.strs }) :
    u = { s with strs := u.strs, dic.vals := u.dic.vals } := by
  unfold SurveyFrame at h
  rw [k, h]

/-- The resistance of a wire, 0.1 mΩ, from its step in µV and the bleed current of its island (R278). -/
def wireOhms (s : State) (x : Str) (step : Nat) : Nat := min (step * 10000 / max 1 (s.strs.bleedUA.get x)) 65535

theorem SurveyFrame.wireOhms {s t : State} (h : SurveyFrame s t) (x : Str) (step : Nat) :
    wireOhms t x step = wireOhms s x step := by
  unfold Machine.wireOhms
  rw [h.bleedUA]

theorem storeWire_vals (s : State) (x : Str) (j step : Nat) :
    (storeWire s x j step).dic.vals = (dset s 0x6021 (wireG x j) (wireOhms s x step)).dic.vals := by
  unfold storeWire
  dsimp only
  split <;> rfl

theorem storeWire_frame (s : State) (x : Str) (j step : Nat) : SurveyFrame s (storeWire s x j step) := by
  unfold storeWire
  dsimp only
  split <;> rfl

theorem dget_storeWire_self (s : State) (x : Str) (j step : Nat) :
    dget (storeWire s x j step) 0x6021 (wireG x j) = wireOhms s x step :=
  (dget_congr (storeWire_vals s x j step) _ _).trans (dget_dset_self _ _ _ _)

theorem dget_storeWire_ne (s : State) (x : Str) {i j : Nat} (step : Nat) (h : i ≠ j) :
    dget (storeWire s x j step) 0x6021 (wireG x i) = dget s 0x6021 (wireG x i) :=
  (dget_congr (storeWire_vals s x j step) _ _).trans (dget_dset_ne _ _ _ _ _ _ (dkey_ne_of_element (wireG_ne h)))

theorem surveyWire_frame (s : State) (x : Str) (j step : Nat) : SurveyFrame s (surveyWire s x j step) := by
  unfold surveyWire
  dsimp only
  split
  · rfl
  · exact .trans (t := { s with strs.steps := mset s.strs.steps (wireG x j) 0 }) rfl (storeWire_frame _ x j _)

theorem dget_surveyWire_ne (s : State) (x : Str) {i j : Nat} (step : Nat) (h : i ≠ j) :
    dget (surveyWire s x j step) 0x6021 (wireG x i) = dget s 0x6021 (wireG x i) := by
  unfold surveyWire
  dsimp only
  split
  · rfl
  · exact (dget_storeWire_ne _ x _ h).trans (dget_congr rfl _ _)

/-- The second measurement of an inner wire stores the mean of both. -/
theorem dget_surveyWire_second {s : State} {x : Str} {j : Nat} (h : mget s.strs.steps (wireG x j) ≠ 0) (step : Nat) :
    dget (surveyWire s x j step) 0x6021 (wireG x j) =
      wireOhms s x ((mget s.strs.steps (wireG x j) - 1 + step) / 2) := by
  have hs : surveyWire s x j step = storeWire { s with strs.steps := mset s.strs.steps (wireG x j) 0 } x j
      ((mget s.strs.steps (wireG x j) - 1 + step) / 2) := if_neg h
  rw [hs, dget_storeWire_self]
  rfl

/-- The wires next to a position stored from what its slot measured: the inner ones below and above it, and an end wire from the
position's own fall. -/
def slotStored (s : State) (x : Str) (k : Nat) (below above own : Int) : State :=
  let s := if 0 < k then surveyWire s x k below.toNat else s
  let s := if k < 287 then surveyWire s x (k + 1) above.toNat else s
  let s := if k = 0 then storeWire s x 0 (own - above).toNat else s
  if k = 287 then storeWire s x 288 (own - below).toNat else s

/-- The survey after a slot of position `k`: the next position of the string, or its end. -/
def slotDone (s : State) (x : Str) (k : Nat) : State :=
  if k < s.strs.surveyEnd then { s with strs.survey := some (x, k + 1) } else { s with strs.survey := none, strs.steps := [] }

theorem wireSurveySlot_due {s : State} {x : Str} {k : Nat} (h : s.strs.survey = some (x, k)) (below above own : Int) :
    exec (.wireSurveySlot x k below above own) s = .next (slotDone (slotStored s x k below above own) x k) := by
  by_cases hk : k < (slotStored s x k below above own).strs.surveyEnd
  · exact (if_pos h).trans ((if_pos hk).trans (congrArg Host.Outcome.next (if_pos hk).symm))
  · exact (if_pos h).trans ((if_neg hk).trans (congrArg Host.Outcome.next (if_neg hk).symm))

theorem slotDone_survey (s : State) (x : Str) (k : Nat) :
    (slotDone s x k).strs.survey = if k < s.strs.surveyEnd then some (x, k + 1) else none := by
  unfold slotDone
  split <;> rfl

theorem slotDone_frame (s : State) (x : Str) (k : Nat) :
    slotDone s x k = { s with strs := (slotDone s x k).strs } := by
  unfold slotDone
  split <;> rfl

theorem dget_slotDone (s : State) (x : Str) (k o e : Nat) : dget (slotDone s x k) o e = dget s o e := by
  rw [slotDone_frame]
  rfl

/-- In the first slot the lowest inner wire and the end wire 0 are measured. -/
theorem slotStored_first (s : State) (x : Str) (below above own : Int) :
    slotStored s x 0 below above own = storeWire (surveyWire s x 1 above.toNat) x 0 (own - above).toNat := rfl

/-- In the last slot the highest inner wire and the end wire 288 are measured. -/
theorem slotStored_last (s : State) (x : Str) (below above own : Int) :
    slotStored s x 287 below above own = storeWire (surveyWire s x 287 below.toNat) x 288 (own - below).toNat := rfl

theorem slotStored_inner {k : Nat} (h0 : 0 < k) (h1 : k < 287) (s : State) (x : Str) (below above own : Int) :
    slotStored s x k below above own = surveyWire (surveyWire s x k below.toNat) x (k + 1) above.toNat := by
  have hne : ¬ k = 0 := by omega
  have hne' : ¬ k = 287 := by omega
  simp only [slotStored, if_pos h0, if_pos h1, if_neg hne, if_neg hne']

theorem slotStored_beyond {k : Nat} (h : 287 < k) (s : State) (x : Str) (below above own : Int) :
    slotStored s x k below above own = surveyWire s x k below.toNat := by
  have h0 : 0 < k := by omega
  have h1 : ¬ k < 287 := by omega
  have hne : ¬ k = 0 := by omega
  have hne' : ¬ k = 287 := by omega
  simp only [slotStored, if_pos h0, if_neg h1, if_neg hne, if_neg hne']

theorem slotStored_frame (s : State) (x : Str) (k : Nat) (below above own : Int) :
    SurveyFrame s (slotStored s x k below above own) := by
  rcases Nat.eq_zero_or_pos k with rfl | h0
  · exact (surveyWire_frame s x 1 _).trans (storeWire_frame _ x 0 _)
  · rcases Nat.lt_trichotomy k 287 with h1 | rfl | h1
    · rw [slotStored_inner h0 h1]
      exact (surveyWire_frame s x k _).trans (surveyWire_frame _ x (k + 1) _)
    · exact (surveyWire_frame s x 287 _).trans (storeWire_frame _ x 288 _)
    · rw [slotStored_beyond h1]
      exact surveyWire_frame s x k _

theorem dget_slotStored_first (s : State) (x : Str) (below above own : Int) :
    dget (slotStored s x 0 below above own) 0x6021 (wireG x 0) = wireOhms s x (own - above).toNat := by
  rw [slotStored_first, dget_storeWire_self, (surveyWire_frame s x 1 _).wireOhms]

theorem dget_slotStored_last (s : State) (x : Str) (below above own : Int) :
    dget (slotStored s x 287 below above own) 0x6021 (wireG x 288) = wireOhms s x (own - below).toNat := by
  rw [slotStored_last, dget_storeWire_self, (surveyWire_frame s x 287 _).wireOhms]

/-- The wire below a position whose first result is kept is stored in the position's slot. -/
theorem dget_slotStored_below {s : State} {x : Str} {k : Nat} (h0 : 0 < k) (h1 : k ≤ 287)
    (hm : mget s.strs.steps (wireG x k) ≠ 0) (below above own : Int) :
    dget (slotStored s x k below above own) 0x6021 (wireG x k) =
      wireOhms s x ((mget s.strs.steps (wireG x k) - 1 + below.toNat) / 2) := by
  rcases Nat.lt_or_eq_of_le h1 with h1 | rfl
  · rw [slotStored_inner h0 h1, dget_surveyWire_ne _ x _ (by omega), dget_surveyWire_second hm]
  · rw [slotStored_last, dget_storeWire_ne _ x _ (by omega), dget_surveyWire_second hm]

/-! ## Open-wire tests (R281, R283) -/

theorem openWireTest_queues (s : State) (x : Str) (l : List Nat) : ∃ t, exec (.openWireTest x l) s = .next t ∧
    t.strs.owt = s.strs.owt ++ (l.filter (fun j => j ≤ 288 && present s x (wireDrawer j))).map (fun j => (x, j)) ∧
    dget t 0x6056 4 = satInc (dget s 0x6056 4) 0xFFFFFFFF ∧ t = { s with strs := t.strs, dic.vals := t.dic.vals } := by
  refine ⟨startOwt s x l, rfl, ?_⟩
  unfold startOwt
  obtain ⟨bleed, vals, hstop, hcount⟩ := stopBleeds_eq s x
  have hkept := hcount 0x6056 4 (by decide)
  rw [hstop] at hkept
  dsimp only
  rw [hstop]
  split
  · exact ⟨rfl, (dget_bump_self _ _ _).trans (congrArg (satInc · _) hkept), rfl⟩
  · exact ⟨rfl, dget_bump_self _ _ _, rfl⟩

/-- A result is taken: its wire leaves the test, and its two changes are kept for records (R295). -/
def resultTaken (s : State) (x : Str) (j dBelow dAbove : Nat) : State :=
  { s with strs.owt := s.strs.owt.filter (fun p => p != (x, j)), strs.injected := ⟨dBelow, dAbove⟩ }

/-- A test that followed a sum failure has ended: it found no wire open, and no wire of the string is suspect or still to be
tested (R283). -/
def sumUnexplained (s : State) (x : Str) : Bool :=
  s.strs.sumRun.get x == 3 && !s.strs.owtFound.get x && !(upTo 289).any (fun k => wst s (wireG x k) == 4) &&
    !s.strs.owt.any (fun p => p.1 == x)

/-- The state after a result: the end of such a test is recorded as a measurement fault. -/
def testVerdict (s : State) (x : Str) : State :=
  if sumUnexplained s x then strRec s 2 0x06 x 0xFF 0xFFFF 0xFFFF else s

theorem testVerdict_strs (s : State) (x : Str) : (testVerdict s x).strs = s.strs := by
  unfold testVerdict
  split
  · exact strRec_strs _ _ _ _ _ _ _
  · rfl

theorem testVerdict_frame (s : State) (x : Str) : StringFrame s (testVerdict s x) := by
  unfold testVerdict
  split
  · exact strRec_frame _ _ _ _ _ _ _
  · rfl

theorem testVerdict_found {s : State} {x : Str} (h : s.strs.owtFound.get x = true) : testVerdict s x = s := by
  simp [testVerdict, sumUnexplained, h]

theorem wst_testVerdict (s : State) (x : Str) (w : Nat) : wst (testVerdict s x) w = wst s w :=
  wst_congr (congrArg Strs.wires (testVerdict_strs s x)) w

/-- The verdict on a wire of a present drawer (R281): open, intact or suspect. -/
def wireJudged (s : State) (x : Str) (j dBelow dAbove : Nat) : State :=
  if 100 ≤ dBelow ∨ 100 ≤ dAbove then wireOpen s x j
  else if dBelow < 5 ∧ dAbove < 5 then wireIntact s x j
  else setWst s (wireG x j) 4

theorem openWireResult_judged {s : State} {x : Str} {j : Nat} (h : s.strs.owt.contains (x, j) = true)
    (hp : present s x (wireDrawer j) = true) (dBelow dAbove : Nat) : exec (.openWireResult x j dBelow dAbove) s =
      .next (testVerdict (wireJudged (resultTaken s x j dBelow dAbove) x j dBelow dAbove) x) := by
  have hhere : ¬ (!present (resultTaken s x j dBelow dAbove) x (wireDrawer j)) = true := by
    have hsame : present (resultTaken s x j dBelow dAbove) x (wireDrawer j) = true := hp
    simp [hsame]
  have hjudged : (if !present (resultTaken s x j dBelow dAbove) x (wireDrawer j) then resultTaken s x j dBelow dAbove
      else wireJudged (resultTaken s x j dBelow dAbove) x j dBelow dAbove) = _ := if_neg hhere
  rw [← hjudged]
  by_cases hv : sumUnexplained (if !present (resultTaken s x j dBelow dAbove) x (wireDrawer j)
      then resultTaken s x j dBelow dAbove else wireJudged (resultTaken s x j dBelow dAbove) x j dBelow dAbove) x = true
  · exact (if_pos h).trans ((if_pos hv).trans (congrArg Host.Outcome.next (if_pos hv).symm))
  · exact (if_pos h).trans ((if_neg hv).trans (congrArg Host.Outcome.next (if_neg hv).symm))

theorem resultTaken_frame (s : State) (x : Str) (j dBelow dAbove : Nat) :
    StringFrame s (resultTaken s x j dBelow dAbove) := rfl

theorem not_contains_resultTaken (s : State) (x : Str) (j dBelow dAbove : Nat) :
    (resultTaken s x j dBelow dAbove).strs.owt.contains (x, j) = false := by
  simp [resultTaken]

/-- A broken wire: it is open, the positions beside an inner one are marked wire open, and its record is written (R283). -/
theorem wireOpen_eq (s : State) (x : Str) (j : Nat) : ∃ u d k,
    wireOpen s x j = strRec u 2 0x04 x d k j ∧ u = { s with strs := u.strs } ∧ wst u (wireG x j) = 1 ∧
    u.strs.owtFound.get x = true ∧ u.strs.owt = s.strs.owt ∧
    (0 < j → j < 288 → pst u (posG x (j - 1)) = 4 ∧ pst u (posG x j) = 4) := by
  have hw := wst_setWst_self s (wireG x j) 1
  have hfound := Two.get_set_self s.strs.owtFound x true
  unfold wireOpen
  dsimp only
  split
  · exact ⟨_, _, _, rfl, rfl, hw, hfound, rfl, fun h => absurd h (by omega)⟩
  · split
    · exact ⟨_, _, _, rfl, rfl, hw, hfound, rfl, fun _ h => absurd h (by omega)⟩
    · refine ⟨_, _, _, rfl, rfl, hw, hfound, rfl, fun h _ => ⟨?_, pst_setPst_self _ (posG x j) 4⟩⟩
      exact (pst_setPst_ne 4 (posG_ne (by omega))).trans (pst_setPst_self _ (posG x (j - 1)) 4)

/-- A deviating position whose two wires are intact is recorded as a cell fault (R283). -/
def cellChecked (s : State) (x : Str) (k : Nat) : State :=
  if pst s (posG x k) == 5 && mget s.strs.singleRun (posG x k) == 3 && wst s (wireG x k) == 0 &&
      wst s (wireG x (k + 1)) == 0 && !s.strs.owt.contains (x, k) && !s.strs.owt.contains (x, k + 1) then
    strRec s 1 0x05 x (drawerOf k) k 0xFFFF
  else s

theorem cellChecked_strs (s : State) (x : Str) (k : Nat) : (cellChecked s x k).strs = s.strs := by
  unfold cellChecked
  split
  · exact strRec_strs _ _ _ _ _ _ _
  · rfl

theorem cellChecked_frame (s : State) (x : Str) (k : Nat) : StringFrame s (cellChecked s x k) := by
  unfold cellChecked
  split
  · exact strRec_frame _ _ _ _ _ _ _
  · rfl

/-- The positions on both sides of an intact wire are so checked. -/
def besideChecked (s : State) (x : Str) (j : Nat) : State :=
  let s := if 0 < j then cellChecked s x (j - 1) else s
  if j < 288 then cellChecked s x j else s

theorem besideChecked_strs (s : State) (x : Str) (j : Nat) : (besideChecked s x j).strs = s.strs := by
  unfold besideChecked
  split <;> split <;> simp only [cellChecked_strs]

theorem besideChecked_frame (s : State) (x : Str) (j : Nat) : StringFrame s (besideChecked s x j) := by
  have hbelow : StringFrame s (if 0 < j then cellChecked s x (j - 1) else s) := by
    split
    · exact cellChecked_frame s x (j - 1)
    · rfl
  unfold besideChecked
  dsimp only
  split
  · exact hbelow.trans (cellChecked_frame _ x j)
  · exact hbelow

/-- An intact wire is so marked; a suspect pair it parts becomes deviating, else the positions beside it are checked (R283). -/
theorem wireIntact_eq (s : State) (x : Str) (j : Nat) : wireIntact s x j =
    if wst s (wireG x j) == 4 && mget s.strs.pairRun (wireG x j) == 3 then
      strRec (setPst (setPst (setWst s (wireG x j) 0) (posG x (j - 1)) 5) (posG x j) 5) 1 0x05 x (wireDrawer j) j j
    else besideChecked (setWst s (wireG x j) 0) x j := rfl

theorem wireIntact_strs (s : State) (x : Str) (j : Nat) :
    (wireIntact s x j).strs.wires = (setWst s (wireG x j) 0).strs.wires ∧ (wireIntact s x j).strs.owt = s.strs.owt := by
  rw [wireIntact_eq]
  split
  · rw [strRec_strs]
    exact ⟨rfl, rfl⟩
  · rw [besideChecked_strs]
    exact ⟨rfl, rfl⟩

theorem wireIntact_frame (s : State) (x : Str) (j : Nat) : StringFrame s (wireIntact s x j) := by
  rw [wireIntact_eq]
  split
  · exact .trans (t := setPst (setPst (setWst s (wireG x j) 0) (posG x (j - 1)) 5) (posG x j) 5) rfl
      (strRec_frame _ _ _ _ _ _ _)
  · exact .trans (t := setWst s (wireG x j) 0) rfl (besideChecked_frame _ x j)

/-- Settles O17: the expiry by its meaning; a slot by what it stores of each wire; a test by what it queues; a result by the
verdict on its wire. -/
theorem wireSurveysAndTests : Obligations.WireSurveysAndTests := by
  unfold Obligations.WireSurveysAndTests
  refine ⟨?expiry, ?slot, fun x l s => openWireTest_queues s x l, ?broken, ?intact, ?suspect⟩
  case expiry =>
    intro s hmask hend
    exact if_pos (by simp [hmask, hend])
  case slot =>
    intro x k b a o s h
    have hframe := slotStored_frame s x k b a o
    refine ⟨_, wireSurveySlot_due h b a o, ?_, ?_, ?_, ?_, ?_⟩
    · rw [slotDone_survey, hframe.surveyEnd]
    · rintro rfl
      rw [dget_slotDone]
      exact dget_slotStored_first s x b a o
    · rintro rfl
      rw [dget_slotDone]
      exact dget_slotStored_last s x b a o
    · intro h0 h1 hm
      rw [dget_slotDone]
      exact dget_slotStored_below h0 h1 hm b a o
    · exact hframe.strsVals (slotDone_frame _ x k)
  case broken =>
    intro x j b a s hdue hp hopen
    have hjudged : wireJudged (resultTaken s x j b a) x j b a = wireOpen (resultTaken s x j b a) x j := if_pos hopen
    obtain ⟨u, d, k, hu, hframe, hw, hfound, howt, hpair⟩ := wireOpen_eq (resultTaken s x j b a) x j
    have hexec := openWireResult_judged hdue hp b a
    rw [hjudged, hu, testVerdict_found (by rw [strRec_strs, hfound])] at hexec
    refine ⟨_, hexec, ?_, ?_, ?_, ?_, ?_⟩
    · rw [wst_congr (congrArg Strs.wires (strRec_strs _ _ _ _ _ _ _)), hw]
    · rw [strRec_strs, hfound]
    · intro h0 h1
      have hpst := pst_congr (congrArg Strs.pstate (strRec_strs u 2 0x04 x d k j))
      rw [hpst, hpst]
      exact hpair h0 h1
    · rw [strRec_strs, howt]
      exact not_contains_resultTaken s x j b a
    · exact wrote_strRec (hframe.trans rfl) 2 0x04 x d k j
  case intact =>
    intro x j b a s hdue hp hb ha
    have hjudged : wireJudged (resultTaken s x j b a) x j b a = wireIntact (resultTaken s x j b a) x j :=
      (if_neg (by omega)).trans (if_pos ⟨hb, ha⟩)
    obtain ⟨hwires, howt⟩ := wireIntact_strs (resultTaken s x j b a) x j
    have hexec := openWireResult_judged hdue hp b a
    rw [hjudged] at hexec
    refine ⟨_, hexec, ?_, ?_, ?_⟩
    · rw [wst_testVerdict, wst_congr hwires, wst_setWst_self]
    · rw [testVerdict_strs, howt]
      exact not_contains_resultTaken s x j b a
    · exact (resultTaken_frame s x j b a).trans ((wireIntact_frame _ x j).trans (testVerdict_frame _ x))
  case suspect =>
    intro x j b a s hdue hp hb ha h
    have hjudged : wireJudged (resultTaken s x j b a) x j b a = setWst (resultTaken s x j b a) (wireG x j) 4 :=
      (if_neg (by omega)).trans (if_neg (by omega))
    have hexec := openWireResult_judged hdue hp b a
    rw [hjudged] at hexec
    refine ⟨_, hexec, ?_, ?_⟩
    · rw [wst_testVerdict, wst_setWst_self]
    · exact (resultTaken_frame s x j b a).trans (.trans (t := setWst (resultTaken s x j b a) (wireG x j) 4) rfl
        (testVerdict_frame _ x))

end Sys2Proof.Machine

/-! PROOFS. Trips, drawers and their strings (R225, R273, R288): the two statements that fail, each for a string that holds a
latch of its own. -/
namespace Sys2Proof.Machine

/-! ## A string that leaves service (R225, R273, R288) -/

@[simp] theorem strRec_cot (s : State) (v c : Nat) (x : Str) (d k j : Nat) : (strRec s v c x d k j).cot = s.cot :=
  writeRecB_cot _ _ _ _ _

/-- Zeroing of a running string leads to the state its cause asks for, but to latched where the string holds its own latch. -/
theorem after_takeOut_of_run {s u : State} (hu : u.cot = s.cot) {x : Str} (hr : (conv s x).st = .run) (hn : nActive s x ≠ 0)
    (after : SState) : (conv (takeOut u x after) x).after = if (conv s x).ownLatch then .latched else after := by
  have hconv : conv u x = conv s x := conv_congr (congrArg Cot.str hu) x
  have hkept : ¬ ((conv u x).st = .latched ∨ (conv u x).st = .ovLatch) := by simp [hconv, hr]
  have hswitch : (nActive u x != 0) = true := by
    rw [nActive_congr (congrArg Cot.active hu) x]
    exact bne_iff_ne.mpr hn
  unfold takeOut
  rw [if_neg hkept, hconv]
  refine (congrArg (fun t => (conv t x).after) (if_pos hswitch)).trans ?_
  obtain ⟨cot, vals, h, -⟩ := zeroing_eq
    { setConv u x { conv s x with retries := 0 } with
      grd.heldCmd := u.grd.heldCmd.filter (fun p => p.1 / 2 != x.idx) } x
    (if (conv s x).ownLatch then .latched else after)
  exact (congrArg (fun t => (conv t x).after) h).trans (congrArg Conv.after (conv_setConv_self _ _ _))

@[simp] theorem setTrip_cot (s : State) (g : Nat) (ov : Bool) : (setTrip s g ov).cot = s.cot := by
  cases ov <;> rfl

@[simp] theorem dropSurvey_cot (s : State) (x : Str) : (dropSurvey s x).cot = s.cot := by
  unfold dropSurvey
  split
  · split <;> rfl
  · rfl

/-- The state in which the trip of a position has set its latch and is counted (R273). -/
def tripCounted (s : State) (x : Str) (k : Nat) (ov : Bool) : State := bump (setTrip s (posG x k) ov) 0x6056 2

theorem tripCounted_cot (s : State) (x : Str) (k : Nat) (ov : Bool) : (tripCounted s x k ov).cot = s.cot :=
  setTrip_cot s (posG x k) ov

theorem restState_tripCounted (s : State) (x : Str) (k : Nat) (ov : Bool) :
    restState (tripCounted s x k ov) x = restState s x := by
  cases ov <;> rfl

/-- The state in which the tripped string has then left service. -/
def tripTaken (s : State) (x : Str) (k : Nat) (ov : Bool) : State :=
  takeOut (dropSurvey (tripCounted s x k ov) x) x (restState (tripCounted s x k ov) x)

/-- The records of a trip leave the converter as the string's removal from service does. -/
theorem positionTrip_cot {s : State} {x : Str} {k : Nat} (h : masked s x k = false) (ov : Bool) :
    ∃ t, exec (.positionTrip x k ov) s = .next t ∧ t.cot = (tripTaken s x k ov).cot := by
  have hunmasked : ¬ masked s x k = true := by simp [h]
  by_cases h3 : 3 ≤ clearsOf (strRec (tripTaken s x k ov) 2 (if ov then 0x01 else 0x02) x (drawerOf k) k 0xFFFF) (posG x k)
  · exact ⟨_, (if_neg hunmasked).trans (if_pos h3), (strRec_cot _ _ _ _ _ _ _).trans (strRec_cot _ _ _ _ _ _ _)⟩
  · exact ⟨_, (if_neg hunmasked).trans (if_neg h3), strRec_cot _ _ _ _ _ _ _⟩

/-- A trip of an unmasked position of a running string zeroes the string on its way to rest, or to its own latch. -/
theorem after_positionTrip {s : State} {x : Str} {k : Nat} (h : masked s x k = false) (ov : Bool)
    (hr : (conv s x).st = .run) (hn : nActive s x ≠ 0) :
    ∃ t, exec (.positionTrip x k ov) s = .next t ∧
      (conv t x).after = if (conv s x).ownLatch then .latched else restState s x := by
  obtain ⟨t, ht, hcot⟩ := positionTrip_cot h ov
  refine ⟨t, ht, ?_⟩
  rw [conv_congr (congrArg Cot.str hcot), tripTaken, restState_tripCounted]
  exact after_takeOut_of_run ((dropSurvey_cot _ x).trans (tripCounted_cot s x k ov)) hr hn _

@[simp] theorem setPst_cot (s : State) (g v : Nat) : (setPst s g v).cot = s.cot := rfl

theorem foldl_setPst_cot (g : Nat → Nat) (v : Nat) (l : List Nat) (s : State) :
    (l.foldl (fun s k => setPst s (g k) v) s).cot = s.cot := by
  induction l generalizing s with
  | nil => rfl
  | cons k l ih => exact ih (setPst s (g k) v)

theorem foldl_setWst_cot (w : Nat → Nat) (v : Nat) (l : List Nat) (s : State) :
    (l.foldl (fun s j => setWst s (w j) v) s).cot = s.cot := by
  induction l generalizing s with
  | nil => rfl
  | cons j l ih => exact ih (setWst s (w j) v)

/-- The positions and wires of a released drawer marked absent (R289). -/
def drawerAbsent (s : State) (x : Str) (d : Nat) : State :=
  let s := ((upTo 48).map (· + 48 * d)).foldl (fun s k => setPst s (posG x k) 2) s
  let s := if 0 < d && present s x (d - 1) then setPst s (posG x (48 * d - 1)) 3 else s
  ((upTo 289).filter (fun j => wireDrawer j == d)).foldl (fun s j => setWst s (wireG x j) 2) s

theorem drawerAbsent_cot (s : State) (x : Str) (d : Nat) : (drawerAbsent s x d).cot = s.cot := by
  unfold drawerAbsent
  dsimp only
  rw [foldl_setWst_cot (wireG x)]
  split
  · rw [setPst_cot, foldl_setPst_cot (posG x)]
  · rw [foldl_setPst_cot (posG x)]

/-- The release of a drawer takes its string out, its positions and wires marked, and writes two records (R288, R289). -/
theorem drawerRelease_takesOut (s : State) (x : Str) (d : Nat) : ∃ u, u.cot = s.cot ∧
    exec (.drawerRelease x d) s = .next
      (strRec (convRec (takeOut (dropSurvey (drawerAbsent u x d) x) x .isolated) 0 0x0B) 0 0x09 x d 0xFFFF 0xFFFF) := by
  refine ⟨_, ?_, rfl⟩
  rfl

/-- The release of a drawer of a running string zeroes the string on its way to isolated, or to its own latch. -/
theorem after_drawerRelease {s : State} {x : Str} (d : Nat) (hr : (conv s x).st = .run) (hn : nActive s x ≠ 0) :
    ∃ t, exec (.drawerRelease x d) s = .next t ∧
      (conv t x).after = if (conv s x).ownLatch then .latched else .isolated := by
  obtain ⟨u, hu, ht⟩ := drawerRelease_takesOut s x d
  refine ⟨_, ht, ?_⟩
  have hrecs : ∀ w : State, (strRec (convRec w 0 0x0B) 0 0x09 x d 0xFFFF 0xFFFF).cot = w.cot := fun w => by simp
  rw [conv_congr (congrArg Cot.str (hrecs _))]
  exact after_takeOut_of_run (((dropSurvey_cot _ x).trans (drawerAbsent_cot u x d)).trans hu) hr hn .isolated

/-! ## A running string whose own latch is set -/

/-- A record of the sister in which string A runs and holds a latch of its own (R327, R328). -/
def latchedRunRecord : RecordIn :=
  { ownRecord State.reset with states := ⟨4, 0⟩, latched := ⟨true, false⟩, switching := 1 }

/-- The module just reset, once it has taken that record. -/
def latchedRunState : State := adoptRecord State.reset latchedRunRecord

theorem latchedRunState_runs : (conv latchedRunState .A).st = .run := by decide +kernel

theorem latchedRunState_switches : nActive latchedRunState .A ≠ 0 := by decide +kernel

theorem latchedRunState_latch : (conv latchedRunState .A).ownLatch = true := by decide +kernel

theorem latchedRunState_rest : restState latchedRunState .A = .off := by decide +kernel

theorem latchedRunState_unmasked : masked latchedRunState .A 0 = false := by decide +kernel

/-- Refutes O15: it has the trip of a running string lead to rest, off or isolated, where a string that holds its own latch goes
to latched (R220, R225). A standby takes the states and the latches of a record as they come (R328), so that string A may run
with its latch set; a trip of its position 0 then zeroes it on its way to latched. -/
theorem not_positionTrips : ¬ Obligations.PositionTrips := by
  unfold Obligations.PositionTrips
  rintro ⟨htrip, -, -⟩
  obtain ⟨t, ht, -, -, -, hzero, -⟩ := htrip .A 0 true latchedRunState latchedRunState_unmasked
  obtain ⟨t', ht', hafter⟩ := after_positionTrip latchedRunState_unmasked true latchedRunState_runs latchedRunState_switches
  obtain rfl : t' = t := by rwa [ht', Host.Outcome.next.injEq] at ht
  obtain ⟨-, hrest⟩ := hzero latchedRunState_runs latchedRunState_switches
  rw [hafter, latchedRunState_latch, latchedRunState_rest] at hrest
  exact absurd hrest (by decide)

/-- Refutes O18: it has the release of a drawer of a running string lead to isolated, where a string that holds its own latch goes
to latched (R220, R225). With string A running and its latch set, as a standby may take it from a record (R328), the release of
its drawer 0 zeroes it on its way to latched. -/
theorem not_drawersTemperaturesAndLinks : ¬ Obligations.DrawersTemperaturesAndLinks := by
  unfold Obligations.DrawersTemperaturesAndLinks
  rintro ⟨hrelease, -⟩
  obtain ⟨t, ht, -, -, -, hzero, -⟩ := hrelease .A 0 latchedRunState (by decide)
  obtain ⟨t', ht', hafter⟩ := after_drawerRelease 0 latchedRunState_runs latchedRunState_switches
  obtain rfl : t' = t := by rwa [ht', Host.Outcome.next.injEq] at ht
  obtain ⟨-, hisolated⟩ := hzero latchedRunState_runs latchedRunState_switches
  rw [hafter, latchedRunState_latch] at hisolated
  exact absurd hisolated (by decide)

end Sys2Proof.Machine

/-! PROOFS. The envelope guard: limits that only narrow (R298, R299, R302, R303), escalation, authorisations and the Owner layer
(R301, R304, R308, R314), and the record of a babble cut (R307), which the ring may lose. -/
namespace Sys2Proof.Machine

/-! ## The narrower of two values (R298) -/

theorem wider_eq_false_iff (q a b : Nat) : wider q a b = false ↔ if guardLower q then b ≤ a else a ≤ b := by
  unfold wider
  split <;> simp

theorem wider_narrower_left (q a b : Nat) : wider q (narrower q a b) a = false := by
  rw [wider_eq_false_iff, narrower]
  split
  · exact Nat.le_max_left a b
  · exact Nat.min_le_left a b

theorem wider_narrower_right (q a b : Nat) : wider q (narrower q a b) b = false := by
  rw [wider_eq_false_iff, narrower]
  split
  · exact Nat.le_max_right a b
  · exact Nat.min_le_right a b

theorem wider_self (q a : Nat) : wider q a a = false := by
  rw [wider_eq_false_iff, ite_self]

theorem wider_trans {q a b c : Nat} (h : wider q a b = false) (k : wider q b c = false) : wider q a c = false := by
  rw [wider_eq_false_iff] at *
  split_ifs at *
  · exact k.trans h
  · exact h.trans k

/-! ## Limits (R299) -/

/-- A limit within what a layer sets for the quantity. -/
def boundBy (v q l : Nat) : Nat := if layerSets v q then narrower q l (layerVal v q) else l

theorem layerLimit_eq (s : State) (q : Nat) :
    layerLimit s q = boundBy (ownLayer s) q (boundBy (intLayer s) q (guardFactory q)) := rfl

theorem wider_boundBy (v q l : Nat) : wider q (boundBy v q l) l = false := by
  unfold boundBy
  split
  · exact wider_narrower_left q l _
  · exact wider_self q l

theorem wider_boundBy_layerVal {v q : Nat} (h : layerSets v q = true) (l : Nat) :
    wider q (boundBy v q l) (layerVal v q) = false := by
  rw [boundBy, if_pos h]
  exact wider_narrower_right q l _

theorem effLimit_of_has {s : State} {q : Nat} (h : guardHas q = true) :
    effLimit s q = narrower q (layerLimit s q) (narrowing s q) :=
  if_pos h

theorem wider_effLimit_layerLimit (s : State) {q : Nat} (h : guardHas q = true) :
    wider q (effLimit s q) (layerLimit s q) = false := by
  rw [effLimit_of_has h]
  exact wider_narrower_left q _ _

theorem wider_effLimit_narrowing (s : State) {q : Nat} (h : guardHas q = true) :
    wider q (effLimit s q) (narrowing s q) = false := by
  rw [effLimit_of_has h]
  exact wider_narrower_right q _ _

/-! ## Narrowing (R302, R313) -/

/-- The state after the RT pair writes the narrowing of a quantity. -/
def narrowed (s : State) (q v : Nat) : State :=
  { s with grd.nar := mset s.grd.nar q (if v = guardFactory q then 0 else v + 1) }

theorem guardNarrowing_rt (q : Nat) (v : Word) (s : State) :
    exec (.guardNarrowing .rt q v) s = .next (if guardHas q = true then narrowed s q v.toNat else s) := by
  show execGuardNarrowing .rt q v s = _
  rw [execGuardNarrowing, if_neg (not_not_intro rfl)]
  split <;> rfl

theorem narrowing_narrowed_self (s : State) (q v : Nat) : narrowing (narrowed s q v) q = v := by
  unfold narrowing narrowed
  by_cases h : v = guardFactory q <;> simp [h]

theorem narrowing_narrowed_ne (s : State) {q p : Nat} (v : Nat) (h : p ≠ q) : narrowing (narrowed s q v) p = narrowing s p := by
  unfold narrowing narrowed
  simp only [mget_mset_ne _ _ _ _ h]

theorem layerLimit_narrowed (s : State) (q v p : Nat) : layerLimit (narrowed s q v) p = layerLimit s p := rfl

/-- Settles O20: each bound is one narrowing more of the one before it, and a narrowing that is written reaches no layer. -/
theorem guardOnlyNarrows : Obligations.GuardOnlyNarrows := by
  unfold Obligations.GuardOnlyNarrows
  refine ⟨?limit, ?clamp, ?written⟩
  case limit =>
    intro s q hq
    have hown := wider_effLimit_layerLimit s hq
    rw [layerLimit_eq] at hown
    have hint := wider_trans hown (wider_boundBy _ q _)
    exact ⟨wider_trans hint (wider_boundBy _ q _), fun hset => wider_trans hint (wider_boundBy_layerVal hset _),
      fun hset => wider_trans hown (wider_boundBy_layerVal hset _), wider_effLimit_narrowing s hq⟩
  case clamp => exact fun s q v => ⟨wider_narrower_right q v _, wider_narrower_left q v _⟩
  case written =>
    intro s q v t ht p hp
    rw [guardNarrowing_rt, Host.Outcome.next.injEq] at ht
    have hlayers : layerLimit t p = layerLimit s p := by
      rw [← ht]
      split
      · exact layerLimit_narrowed s q _ p
      · rfl
    exact ⟨hlayers, hlayers ▸ wider_effLimit_layerLimit t hp⟩

/-! ## Records of the guard (R230, R314) -/

theorem ite_fac {s t : State} (c : Prop) [Decidable c] (h : c → t.fac = s.fac) : (if c then t else s).fac = s.fac := by
  split
  · rename_i hc
    exact h hc
  · rfl

/-- A record outside the blocks of the converter and the strings marks no protective step. -/
theorem faultPaths_fac (s : State) {r : Record} (h : (r.block == 1 || r.block == 3) = false) : (faultPaths s r).fac = s.fac := by
  unfold faultPaths
  refine Eq.trans (ite_fac _ fun _ => ?_) (Eq.trans (ite_fac _ fun _ => ?_) (Eq.trans (ite_fac _ fun hc => ?_)
    (Eq.trans (ite_fac _ fun _ => ?_) (ite_fac _ fun _ => ?_))))
  case refine_3 =>
    rw [h, Bool.and_false] at hc
    exact absurd hc Bool.false_ne_true
  all_goals exact Eq.refl _

theorem writeRecB_fac {b : Nat} (s : State) (v c body : Nat) (h : (b == 1 || b == 3) = false) :
    (writeRecB s b v c body).fac = s.fac := by
  unfold writeRecB
  split
  · rfl
  · exact faultPaths_fac _ h

@[simp] theorem writeRecB_power (s : State) (b v c body : Nat) : (writeRecB s b v c body).power = s.power := by
  obtain ⟨_, _, _, _, _, _, h⟩ := writeRecB_frame s b v c body
  rw [h]

/-- `t` is `s` with at most its guard changed, and records of the guard written. -/
def GuardFrame (s t : State) : Prop := t = { s with grd := t.grd, recs := t.recs, trc := t.trc, sec := t.sec }

theorem GuardFrame.trans {s t u : State} (h : GuardFrame s t) (k : GuardFrame t u) : GuardFrame s u := by
  unfold GuardFrame at *
  rw [k, h]

theorem guardFrame_writeRecB (s : State) (v c body : Nat) : GuardFrame s (writeRecB s 4 v c body) := by
  have hfac := writeRecB_fac (b := 4) s v c body rfl
  obtain ⟨_, _, _, _, _, _, h⟩ := writeRecB_frame s 4 v c body
  rw [h] at hfac ⊢
  unfold GuardFrame
  rw [← hfac]

/-- Whether a record was written does not depend on the guard. -/
theorem Wrote.with_grd {u t : State} {b v c : Nat} (h : Wrote u t b v c) (g : Grd) :
    Wrote { u with grd := g } { t with grd := g } b v c := by
  obtain ⟨hrec, hframe⟩ := h
  refine ⟨hrec.congr rfl rfl rfl, ?_⟩
  unfold RecordFrame at *
  rw [hframe]

/-! ## Escalation (R304, R315) -/

/-- A quantity with violations in `n` epochs of the window enters the warnings. -/
def enterWarning (n : Nat) (s : State) (q : Nat) : State :=
  if 32 ≤ n && !s.grd.warn.contains q then { s with grd.warn := q :: s.grd.warn } else s

/-- Its record, at most once a minute. -/
def recordWarning (n : Nat) (s : State) (q : Nat) : State :=
  if 32 ≤ n && (mget s.grd.warnTick q == 0 || decide (mget s.grd.warnTick q - 1 + 60000 ≤ s.epo.ticks)) then
    { writeRecB s 4 1 0x01 (guardBody s q s.grd.lastSrc 255 s.grd.lastClamped 0) with
      grd.warnTick := mset s.grd.warnTick q (s.epo.ticks + 1) }
  else s

/-- It enters the faults, with its record. -/
def enterFault (n : Nat) (s : State) (q : Nat) : State :=
  if 128 ≤ n && !s.grd.fault.contains q then
    { writeRecB s 4 2 0x02 (guardBody s q s.grd.lastSrc 255 s.grd.lastClamped 0) with grd.fault := q :: s.grd.fault }
  else s

theorem guardEscalation_eq {q : Nat} (s : State) (h : guardHas q = true) : exec (.guardEscalation q) s =
    .next (enterFault (violEpochs s q) (recordWarning (violEpochs s q) (enterWarning (violEpochs s q) s q) q) q) := by
  show execGuardEscalation q s = _
  rw [execGuardEscalation, if_pos h]
  rfl

theorem enterWarning_frame (n : Nat) (s : State) (q : Nat) : ∃ l, enterWarning n s q = { s with grd.warn := l } := by
  unfold enterWarning
  split <;> exact ⟨_, rfl⟩

theorem mem_enterWarning {n : Nat} (s : State) (q : Nat) (h : 32 ≤ n) : q ∈ (enterWarning n s q).grd.warn := by
  unfold enterWarning
  by_cases hc : q ∈ s.grd.warn <;> simp [h, hc]

theorem recordWarning_frame (n : Nat) (s : State) (q : Nat) : GuardFrame s (recordWarning n s q) ∧
    (recordWarning n s q).grd.warn = s.grd.warn ∧ (recordWarning n s q).grd.fault = s.grd.fault := by
  unfold recordWarning
  split
  · refine ⟨(guardFrame_writeRecB s 1 0x01 _).trans rfl, ?_, ?_⟩ <;> simp only [writeRecB_grd]
  · exact ⟨rfl, rfl, rfl⟩

/-- The first warning of a quantity writes its record. -/
theorem wrote_recordWarning {n : Nat} {s : State} {q : Nat} (hn : 32 ≤ n) (ht : mget s.grd.warnTick q = 0) :
    Wrote { s with grd := (recordWarning n s q).grd } (recordWarning n s q) 4 1 0x01 := by
  have hdue : (decide (32 ≤ n) && (mget s.grd.warnTick q == 0 ||
      decide (mget s.grd.warnTick q - 1 + 60000 ≤ s.epo.ticks))) = true := by simp [hn, ht]
  rw [recordWarning, if_pos hdue]
  exact (wrote_writeRecB s 4 1 0x01 _).with_grd _

theorem enterFault_below {n : Nat} (s : State) (q : Nat) (h : n < 128) : enterFault n s q = s := by
  simp [enterFault, Nat.not_le.mpr h]

theorem enterFault_new {n : Nat} {s : State} {q : Nat} (hn : 128 ≤ n) (hq : s.grd.fault.contains q = false) :
    GuardFrame s (enterFault n s q) ∧ q ∈ (enterFault n s q).grd.fault ∧ (enterFault n s q).grd.warn = s.grd.warn ∧
      ∃ r ∈ (enterFault n s q).recs.ring, r.block = 4 ∧ r.cause = 0x02 := by
  have hnew : (decide (128 ≤ n) && !s.grd.fault.contains q) = true := by rw [hq, decide_eq_true hn]; rfl
  rw [enterFault, if_pos hnew]
  refine ⟨(guardFrame_writeRecB s 2 0x02 _).trans rfl, List.mem_cons_self, ?_, exists_mem_writeRecB s 4 2 0x02 _⟩
  simp only [writeRecB_grd]

theorem guardEscalation_faults {q : Nat} {s : State} (hq : guardHas q = true) (hn : 128 ≤ violEpochs s q)
    (hf : s.grd.fault.contains q = false) : ∃ t, exec (.guardEscalation q) s = .next t ∧
      q ∈ t.grd.fault ∧ q ∈ t.grd.warn ∧ (∃ r ∈ t.recs.ring, r.block = 4 ∧ r.cause = 0x02) ∧ GuardFrame s t := by
  obtain ⟨l, hw⟩ := enterWarning_frame (violEpochs s q) s q
  have hmem := mem_enterWarning s q (show 32 ≤ violEpochs s q by omega)
  rw [guardEscalation_eq s hq]
  generalize enterWarning (violEpochs s q) s q = w at hw hmem ⊢
  have hfault : w.grd.fault = s.grd.fault := by rw [hw]
  obtain ⟨hframe, hwarn, hfault'⟩ := recordWarning_frame (violEpochs s q) w q
  generalize recordWarning (violEpochs s q) w q = u at hframe hwarn hfault' ⊢
  obtain ⟨hframe', hin, hkept, hrec⟩ := enterFault_new (s := u) hn (by rw [hfault', hfault, hf])
  have hguard : GuardFrame s w := by
    rw [hw]
    rfl
  exact ⟨_, rfl, hin, by rw [hkept, hwarn]; exact hmem, hrec, (hguard.trans hframe).trans hframe'⟩

theorem guardEscalation_warns {q : Nat} {s : State} (hq : guardHas q = true) (hn : 32 ≤ violEpochs s q)
    (hlt : violEpochs s q < 128) (ht : mget s.grd.warnTick q = 0) : ∃ t, exec (.guardEscalation q) s = .next t ∧
      q ∈ t.grd.warn ∧ t.grd.fault = s.grd.fault ∧ Wrote { s with grd := t.grd } t 4 1 0x01 := by
  obtain ⟨l, hw⟩ := enterWarning_frame (violEpochs s q) s q
  have hmem := mem_enterWarning s q hn
  rw [guardEscalation_eq s hq, enterFault_below _ q hlt]
  generalize enterWarning (violEpochs s q) s q = w at hw hmem ⊢
  obtain ⟨-, hwarn, hfault⟩ := recordWarning_frame (violEpochs s q) w q
  have hwrote := wrote_recordWarning (s := w) (q := q) hn (by rw [hw]; exact ht)
  have hsame : ∀ g, { w with grd := g } = { s with grd := g } := fun g => by rw [hw]
  rw [hsame] at hwrote
  exact ⟨_, rfl, by rw [hwarn]; exact hmem, by rw [hfault, hw], hwrote⟩

/-! ## The Owner layer of the peer (R36, R301) -/

theorem ownerLayerAdopt_adopts (v : Nat) {s : State} (he : s.grd.layerErr = true) (hp : s.red.peerHere = true) :
    ∃ t, exec (.ownerLayerAdopt v) s = .next t ∧ dget t 0x5081 0 = v ∧ t.grd.layerErr = false ∧
      t.power.hold = (if s.power.hold = .layer then .none else s.power.hold) ∧
      Wrote { s with dic.vals := t.dic.vals, grd.layerErr := false, power.hold := t.power.hold } t 4 0 0x08 := by
  have hadopt : (s.grd.layerErr && s.red.peerHere) = true := by rw [he, hp]; rfl
  refine ⟨_, if_pos hadopt, ?_, ?_, ?_, ?_⟩
  · rw [dget_writeRecB]
    exact dget_dset_self s 0x5081 0 v
  · rw [writeRecB_grd]
  · rw [writeRecB_power]
  · rw [writeRecB_dic, writeRecB_power]
    exact wrote_writeRecB _ 4 0 0x08 _

/-- Settles O19: each command by its meaning where the statement's condition holds. -/
theorem guardCommands : Obligations.GuardCommands := by
  unfold Obligations.GuardCommands
  refine ⟨?narrows, ?refused, ?faults, ?warns, ?authorises, ?expires, ?adopts⟩
  case narrows =>
    intro q v s hq
    rw [guardNarrowing_rt, if_pos hq]
    exact ⟨_, rfl, narrowing_narrowed_self s q _, fun p hp => narrowing_narrowed_ne s _ hp, rfl⟩
  case refused => exact fun c q v s hc => if_pos hc
  case faults => exact fun q s hq hn hf => guardEscalation_faults hq hn hf
  case warns => exact fun q s hq hn hlt ht => guardEscalation_warns hq hn hlt ht
  case authorises => exact fun b s hb => if_pos hb
  case expires => exact fun b s => rfl
  case adopts => exact fun v s he hp => ownerLayerAdopt_adopts v he hp

/-! ## The record of a third babble cut (R230, R307) -/

/-- A babble cut before its record: the channel is cut, its frame ended, and the cut counted. -/
def cutOff (s : State) (c : Chan) : State := setOn (cutBits (bump s 0x5083 66) c) c none

theorem cutOff_grd (s : State) (c : Chan) : (cutOff s c).grd = (cutBits s c).grd := by
  cases c <;> rfl

theorem cutOff_recs (s : State) (c : Chan) : (cutOff s c).recs = s.recs := by
  cases c <;> rfl

theorem cutOff_epo (s : State) (c : Chan) : (cutOff s c).epo = s.epo := by
  cases c <;> rfl

/-- The cuts of a channel in the last 10 s. -/
def recentCuts (s : State) (c : Chan) : Nat :=
  (s.grd.cutTicks.filter (fun p => decide (s.epo.ticks < p.2 + 10000) && p.1 == chIdx c)).length

/-- A channel that stays off the network until restart. -/
def silenced (s : State) (c : Chan) : State := { s with grd.silent := setBit s.grd.silent (chIdx c) true }

theorem cutBits_third {s : State} {c : Chan} (h : 2 ≤ recentCuts s c) :
    3 ≤ ((cutBits s c).grd.cutTicks.filter (fun p => p.1 == chIdx c)).length := by
  have hboth : (fun p : Nat × Nat => p.1 == chIdx c && decide (s.epo.ticks < p.2 + 10000)) =
      fun p => decide (s.epo.ticks < p.2 + 10000) && p.1 == chIdx c := funext fun p => Bool.and_comm _ _
  show 3 ≤ (((chIdx c, s.epo.ticks) :: s.grd.cutTicks.filter _).filter _).length
  rw [List.filter_cons_of_pos (by exact beq_self_eq_true _), List.length_cons, List.filter_filter, hboth]
  exact Nat.succ_le_succ h

/-- The third cut within 10 s silences the channel, with a latch record above that of the cut. -/
theorem babbleCut_third {s : State} {c : Chan} (h : 2 ≤ recentCuts s c) :
    ∃ a b, exec (.babbleCut c) s = .next (writeRecB (silenced (writeRecB (cutOff s c) 4 2 0x04 a) c) 4 3 0x05 b) := by
  have hthird : ∀ a, 3 ≤ ((writeRecB (cutOff s c) 4 2 0x04 a).grd.cutTicks.filter (fun p => p.1 == chIdx c)).length := by
    intro a
    rw [writeRecB_grd, cutOff_grd]
    exact cutBits_third h
  exact ⟨_, _, if_pos (hthird _)⟩

/-- Of a full ring the latch record takes the place of the oldest element, also where the cut was merged into just that one. -/
theorem babbleCut_third_ring {s : State} {c : Chan} (h : 2 ≤ recentCuts s c)
    (hmerge : s.recs.ring.any (mergesWith s 4 0x04) = true) :
    ∃ t, exec (.babbleCut c) s = .next t ∧ ∃ r, r.cause = 0x05 ∧
      t.recs.ring = r :: (mergeInto s 4 0x04 s.recs.ring).take 511 := by
  obtain ⟨a, b, hcut⟩ := babbleCut_third h
  have hmerge' : (cutOff s c).recs.ring.any (mergesWith (cutOff s c) 4 0x04) = true := by
    rwa [cutOff_recs, mergesWith_congr (cutOff_epo s c)]
  have hring : (silenced (writeRecB (cutOff s c) 4 2 0x04 a) c).recs.ring = mergeInto s 4 0x04 s.recs.ring := by
    rw [writeRecB_merged a (by decide) hmerge', ← mergeInto_congr (cutOff_epo s c), ← cutOff_recs s c]
    rfl
  generalize silenced (writeRecB (cutOff s c) 4 2 0x04 a) c = u at hcut hring
  refine ⟨_, hcut, newRecord u 4 3 0x05 b, rfl, ?_⟩
  rw [writeRecB_new b (.inr (Nat.le_refl 3)), (faultPaths_ring _ _).1, ← hring]
  rfl

/-- So no record of the cut is left where the other elements are of other blocks. -/
theorem babbleCut_third_unrecorded {s t : State} {c : Chan} (ht : exec (.babbleCut c) s = .next t)
    (h : 2 ≤ recentCuts s c) (hmerge : s.recs.ring.any (mergesWith s 4 0x04) = true)
    (hothers : ∀ r ∈ (mergeInto s 4 0x04 s.recs.ring).take 511, r.block ≠ 4) :
    ∀ r ∈ t.recs.ring, ¬ (r.block = 4 ∧ r.cause = 0x04) := by
  obtain ⟨t', ht', latch, hlatch, hring⟩ := babbleCut_third_ring h hmerge
  obtain rfl : t' = t := by rwa [ht', Host.Outcome.next.injEq] at ht
  rintro r hr ⟨hblock, hcause⟩
  rw [hring] at hr
  rcases List.mem_cons.mp hr with rfl | hold
  · omega
  · exact hothers r hold hblock

/-- A full ring whose oldest element is the record of a cut at the first tick, under 511 overvoltage latches, which never merge
(R230). -/
def crowdedRing : List Record :=
  List.replicate 511 (newRecord State.reset 1 3 0x04 0) ++ [newRecord State.reset 4 2 0x04 0]

/-- FN-A was cut at the first tick and again 450 ms later; it is now 900 ms. -/
def crowdedState : State :=
  { State.reset with epo.ticks := 900, grd.cutTicks := [(0, 450), (0, 0)], recs.ring := crowdedRing, recs.seq := 512 }

theorem crowdedState_cuts : recentCuts crowdedState .A = 2 := by decide +kernel

theorem crowdedState_merges : crowdedState.recs.ring.any (mergesWith crowdedState 4 0x04) = true := by decide +kernel

theorem crowdedState_others : ∀ r ∈ (mergeInto crowdedState 4 0x04 crowdedState.recs.ring).take 511, r.block ≠ 4 := by
  decide +kernel

/-- Refutes O33: it has the record of a babble cut in the ring after the cut, where the latch record of a third cut (R307) may
overwrite it. The cut is merged into the record of the first of the three (R230), and where that one is the oldest of a full ring
the latch record takes its element. -/
theorem not_fieldTransmission : ¬ Obligations.FieldTransmission := by
  unfold Obligations.FieldTransmission
  rintro ⟨-, -, -, hbabble, -⟩
  obtain ⟨t, ht, -, -, -, -, -, ⟨r, hr, hcut⟩, -⟩ := hbabble .A crowdedState
  exact babbleCut_third_unrecorded ht crowdedState_cuts.ge crowdedState_merges crowdedState_others r hr hcut

end Sys2Proof.Machine

/-! PROOFS. What every step keeps of the queue and the identity (R348, R405). -/
namespace Sys2Proof.Machine

/-- Settles O53: every command keeps the queue it is given, which the step has shortened, and the identity. -/
theorem stepKeepsQueueAndIdentity : Obligations.StepKeepsQueueAndIdentity := by
  unfold Obligations.StepKeepsQueueAndIdentity
  intro s t h
  unfold step at h
  split at h
  · rename_i hqueue
    obtain rfl := Host.Outcome.next.inj h
    exact ⟨by rw [hqueue, List.tail_nil], rfl, rfl⟩
  · rename_i c rest hqueue
    obtain ⟨-, hpending, hserial, hident⟩ := exec_keep _ _ t h
    exact ⟨by rw [hqueue, List.tail_cons]; exact hpending, hserial, hident⟩

end Sys2Proof.Machine

/-! PROOFS. Handovers, drills and phase checks of the two modules (R336, R338 to R341), and the records of redundancy (R343,
R344). -/
namespace Sys2Proof.Machine

/-! ## Records of redundancy (R343, R344) -/

@[simp] theorem writeRecB_red (s : State) (b v c body : Nat) : (writeRecB s b v c body).red = s.red := by
  obtain ⟨_, _, _, _, _, _, h⟩ := writeRecB_frame s b v c body
  rw [h]

@[simp] theorem writeRecB_epo (s : State) (b v c body : Nat) : (writeRecB s b v c body).epo = s.epo := by
  obtain ⟨_, _, _, _, _, _, h⟩ := writeRecB_frame s b v c body
  rw [h]

@[simp] theorem redRec_red (s : State) (v c : Nat) : (redRec s v c).red = s.red := writeRecB_red _ _ _ _ _
@[simp] theorem redRec_epo (s : State) (v c : Nat) : (redRec s v c).epo = s.epo := writeRecB_epo _ _ _ _ _
@[simp] theorem redRec_dic (s : State) (v c : Nat) : (redRec s v c).dic = s.dic := writeRecB_dic _ _ _ _ _
@[simp] theorem dget_redRec (s : State) (v c o e : Nat) : dget (redRec s v c) o e = dget s o e := dget_writeRecB _ _ _ _ _ _ _

theorem redRec_frame (s : State) (v c : Nat) :
    ∃ recs due left step stop bad, redRec s v c =
      { s with recs := recs, trc.snapDue := due, trc.snapLeft := left, fac.stepDue := step, trc.recStop := stop
               sec.trialBad := bad } := writeRecB_frame _ _ _ _ _

theorem wrote_redRec {u s : State} (v c : Nat) (h : u = s) : Wrote u (redRec s v c) 7 v c := h ▸ wrote_writeRecB _ _ _ _ _

/-- Whether a record was written depends neither on the redundancy nor on the stored values. -/
theorem Wrote.with_red_vals {u t : State} {b v c : Nat} (h : Wrote u t b v c) (red : Red) (vals : SMap) :
    Wrote { u with red := red, dic.vals := vals } { t with red := red, dic.vals := vals } b v c := by
  obtain ⟨hrec, hframe⟩ := h
  refine ⟨hrec.congr rfl rfl rfl, ?_⟩
  unfold RecordFrame at *
  rw [hframe]

/-- The boundary for which a handover is planned depends on the epoch clock alone. -/
theorem dueE_congr {s t : State} (h : t.epo = s.epo) : dueE t = dueE s := by
  unfold dueE
  rw [h]

/-! ## Drills and the phase check (R336, R340) -/

theorem swapDrill_active {s : State} (hdue : drillDue s = true) (ha : isActive s = true) : exec .swapDrill s =
    if peerFit s = true then .next { s with
      red.handover := some (dueE s), red.relKind := 4, red.relWhy := 6, red.drillOrig := true
      red.lastDrill := some (minuteNow s) }
    else .next (redRec { s with red.relKind := 4, red.relWhy := 6, red.lastDrill := some (minuteNow s) } 2 0x05) := by
  show execSwapDrill s = _
  unfold execSwapDrill
  rw [hdue]
  exact if_pos ha

/-- The end of a drill: its record and its count, and a handover back. -/
def drillEnded (s : State) : State :=
  { planHandover (bump (redRec s 0 0x04) 0x7004 3) 3 6 with red.drill := none }

theorem drillEnd_active {d : Nat} {s : State} (ha : isActive s = true) (hd : s.red.drill = some d) (ht : d ≤ s.epo.ticks)
    (hc : s.red.checking = false) : exec .drillEnd s = .next (drillEnded s) := by
  show execDrillEnd s = _
  have hend : (decide (d ≤ s.epo.ticks) && !s.red.checking) = true := by simp [ht, hc]
  rw [execDrillEnd, if_pos ha, hd]
  exact if_pos hend

theorem drillEnded_handover (s : State) : (drillEnded s).red.handover = some (dueE s) :=
  congrArg some (dueE_congr (redRec_epo s 0 0x04))

theorem dget_drillEnded (s : State) : dget (drillEnded s) 0x7004 3 = satInc (dget s 0x7004 3) 0xFFFFFFFF := by
  have hvals : (drillEnded s).dic.vals = (bump (redRec s 0 0x04) 0x7004 3).dic.vals := by
    unfold drillEnded planHandover
    rfl
  rw [dget_congr hvals, dget_bump_self, dget_redRec]

theorem drillEnded_frame (s : State) : ∃ red vals, drillEnded s = { redRec s 0 0x04 with red := red, dic.vals := vals } := by
  unfold drillEnded
  generalize redRec s 0 0x04 = u
  exact ⟨_, _, rfl⟩

theorem wrote_drillEnded (s : State) :
    Wrote { s with red := (drillEnded s).red, dic.vals := (drillEnded s).dic.vals } (drillEnded s) 7 0 0x04 := by
  obtain ⟨red, vals, h⟩ := drillEnded_frame s
  rw [h]
  exact (wrote_redRec 0 0x04 rfl).with_red_vals red vals

/-- The failing phases of a check leave the enabled ones, and the drive fault is set (R336). -/
def phasesFailed (s : State) (m : Nat) : State :=
  refreshActive { s with
    red.checking := false, red.failMask := m, red.driveFault := true, cot.checkedOff := s.cot.checkedOff ||| m }

theorem phasesFailed_frame (s : State) (m : Nat) : ∃ active onTime, phasesFailed s m = { s with
    red.checking := false, red.failMask := m, red.driveFault := true
    cot.checkedOff := s.cot.checkedOff ||| m, cot.active := active, cot.onTime := onTime } := refreshActive_frame _

theorem phaseCheckComplete_failing {s : State} (hc : s.red.checking = true) (hl : s.red.checkLeft = 0)
    (hf : failingPhases s ≠ 0) (hd : s.red.drill = none) : ∃ body, exec .phaseCheckComplete s =
      .next (writeRecB (phasesFailed s (failingPhases s)) 7 2 0x06 body) := by
  have hdone : (s.red.checking && s.red.checkLeft == 0) = true := by simp [hc, hl]
  have hdrill : ∀ body, ¬ (writeRecB (phasesFailed s (failingPhases s)) 7 2 0x06 body).red.drill.isSome = true := by
    intro body
    obtain ⟨_, _, hframe⟩ := phasesFailed_frame s (failingPhases s)
    rw [writeRecB_red, hframe]
    simp [hd]
  show ∃ body, execPhaseCheckComplete s = _
  rw [execPhaseCheckComplete, if_pos hdone]
  exact ⟨_, (if_neg hf).trans (if_neg (hdrill _))⟩

/-- Settles O26: each event by its meaning where the statement's condition holds. -/
theorem handoversAndDrills : Obligations.HandoversAndDrills := by
  unfold Obligations.HandoversAndDrills
  refine ⟨?revert, ?drill, ?skipped, ?drillEnd, ?passed, ?failed, ?alone, ?absent⟩
  case revert =>
    intro s hrevert hdrill ha hfit horig hmin
    simp only [exec, execRevertHandover, hrevert, hdrill, ha, hfit, horig, hmin, true_and, true_or, if_true, planHandover]
  case drill =>
    intro s hdue ha hfit
    rw [swapDrill_active hdue ha, if_pos hfit]
  case skipped =>
    intro s hdue ha hfit
    exact ⟨_, (swapDrill_active hdue ha).trans (if_neg (by simp [hfit])), wrote_redRec _ _ rfl⟩
  case drillEnd =>
    intro d s ha hd ht hc
    exact ⟨_, drillEnd_active ha hd ht hc, rfl, drillEnded_handover s, dget_drillEnded s, wrote_drillEnded s⟩
  case passed =>
    intro s hc hl hf
    have hdone : (s.red.checking && s.red.checkLeft == 0) = true := by simp [hc, hl]
    show execPhaseCheckComplete s = _
    rw [execPhaseCheckComplete, if_pos hdone, hf]
    rfl
  case failed =>
    intro s hc hl hf hd
    obtain ⟨body, hx⟩ := phaseCheckComplete_failing hc hl hf hd
    obtain ⟨active, onTime, hframe⟩ := phasesFailed_frame s (failingPhases s)
    rw [hframe] at hx
    refine ⟨_, hx, ?_⟩
    rw [writeRecB_red, writeRecB_cot]
    exact ⟨rfl, rfl, rfl, wrote_writeRecB _ _ _ _ _⟩
  case alone =>
    intro s hr
    refine ⟨_, if_pos hr, ?_⟩
    rw [redRec_red]
    exact ⟨rfl, wrote_redRec _ _ rfl⟩
  case absent =>
    intro s hr
    exact if_neg (by simp [hr])

end Sys2Proof.Machine

/-! PROOFS. The sister link (R324 to R326, R330), state records (R327, R328, R332) and epoch images (R329). -/
namespace Sys2Proof.Machine

/-! ## Lanes of the sister link (R324 to R326) -/

@[simp] theorem laneOf_setLane (s : State) (i : Nat) (l : Lane) : laneOf (setLane s i l) i = l := by
  unfold laneOf setLane
  split <;> rfl

@[simp] theorem laneOf_bump (s : State) (o e i : Nat) : laneOf (bump s o e) i = laneOf s i := rfl

@[simp] theorem laneOf_linkUp (s : State) (up : Bool) (i : Nat) : laneOf { s with red.linkUp := up } i = laneOf s i := rfl

@[simp] theorem laneOf_redRec (s : State) (v c i : Nat) : laneOf (redRec s v c) i = laneOf s i := by
  unfold laneOf
  rw [redRec_red]

theorem sisterBlock_badCrc {l : Nat} {k : BlockIn} {s : State} (hup : (laneOf s l).up = true) (hcrc : k.crcOk = false) :
    exec (.sisterBlockReceived l k) s = .next (bump (setLane s l
      { laneOf s l with crcFails := (laneOf s l).crcFails + 1, nakDue := true }) 0x7004 6) := by
  show execSisterBlockReceived l k s = _
  simp only [execSisterBlockReceived, hup, hcrc, Bool.not_true, Bool.not_false, Bool.false_eq_true, if_false, if_true]

/-- The next block in sequence is delivered (R326). -/
theorem sisterBlock_inSequence {l : Nat} {k : BlockIn} {s : State} (hup : (laneOf s l).up = true) (hcrc : k.crcOk = true)
    (hnak : k.nak = false) (hidle : k.idle = false) (hseq : k.seq = (laneOf s l).expect) :
    exec (.sisterBlockReceived l k) s = .next (deliverHash (setLane s l
      { laneOf s l with acked := k.ack, expect := ((laneOf s l).expect + 1) % 65536, nakDue := false }) k) := by
  show execSisterBlockReceived l k s = _
  simp only [execSisterBlockReceived, hup, hcrc, hnak, hidle, hseq, Bool.not_true, Bool.false_eq_true, if_false, if_true]

/-- Streams other than those of writes and mirrors bring the peer's fitness and program hash alone, or nothing (R325). -/
theorem deliverHash_plain {s : State} {k : BlockIn} (h4 : k.stream ≠ 4) (h6 : k.stream ≠ 6) (hd : k.digest = 0) :
    deliverHash s k = if k.stream = 5 then { s with red.peerFitness := k.fitness, lpe.peerHash := k.slot1 } else s := by
  have hcopy : ∀ u : State, ¬ (k.stream = 4 ∧ isStandby u = true) := fun _ h => h4 h.1
  simp only [deliverHash, hcopy, h6, hd, if_false, if_true]

theorem laneOf_deliverHash_plain {s : State} {k : BlockIn} (h4 : k.stream ≠ 4) (h6 : k.stream ≠ 6) (hd : k.digest = 0)
    (i : Nat) : laneOf (deliverHash s k) i = laneOf s i := by
  rw [deliverHash_plain h4 h6 hd]
  split <;> rfl

/-- Stream 4 brings a standby the active module's writes (R330). -/
theorem deliverHash_copy {s : State} {k : BlockIn} (hs : isStandby s = true) (h4 : k.stream = 4) (hd : k.digest = 0) :
    deliverHash s k = k.copy.foldl copyWrite s := by
  simp [deliverHash, h4, hs, hd]

theorem copyWrite_with_red (s : State) (red : Red) (w : Nat × Nat × Nat × Nat) :
    copyWrite { s with red := red } w = { s with red := red, dic := (copyWrite s w).dic } := by
  unfold copyWrite
  split <;> rfl

theorem copyWrite_frame (s : State) (w : Nat × Nat × Nat × Nat) : copyWrite s w = { s with dic := (copyWrite s w).dic } :=
  copyWrite_with_red s s.red w

/-- Copies of writes change the dictionary alone, whatever the redundancy. -/
theorem foldl_copyWrite_with_red (l : List (Nat × Nat × Nat × Nat)) (s : State) (red : Red) :
    l.foldl copyWrite { s with red := red } = { s with red := red, dic := (l.foldl copyWrite s).dic } := by
  induction l generalizing s with
  | nil => rfl
  | cons w l ih =>
    rw [List.foldl_cons, List.foldl_cons, copyWrite_with_red, copyWrite_frame s w]
    exact ih { s with dic := (copyWrite s w).dic }

theorem sisterAckTimeout_unacked {l : Nat} {s : State} (hup : (laneOf s l).up = true)
    (hack : (laneOf s l).acked ≠ (laneOf s l).txSeq) : exec (.sisterAckTimeout l) s = .next (bump (setLane s l { laneOf s l with
      resendFrom := some (((laneOf s l).acked + 1) % 65536), replays := (laneOf s l).replays + 1 }) 0x7004 7) := by
  exact if_pos (by simp [hup, hack])

theorem laneRetrained_training {l : Nat} {s : State} (hcxl : cxlOn s = true) (href : s.power.refGone = false)
    (hb : s.power.bridgeFailed.contains 3 = false) (ht : (laneOf s l).training = true) : exec (.laneRetrained l) s = .next
      (bump { setLane s l { laneOf s l with up := true, training := false } with red.linkUp := true } 0x7004 8) := by
  have hon : (cxlOn s && !s.power.refGone && !s.power.bridgeFailed.contains 3) = true := by simp only [hcxl, href, hb]; rfl
  show execLaneRetrained l s = _
  simp only [execLaneRetrained, hon, ht, if_true]

/-! ## State records (R327, R328, R332) -/

/-- A record arrives at a standby (R327): its sequence is kept, its age is 0, and it is counted. -/
def recordHeard (s : State) (k : RecordIn) : State :=
  { s with red.recSeq := k.sampleSeq, red.recAge := 0, red.recordsOk := satInc s.red.recordsOk 1000 }

theorem stateRecord_compared {s : State} {k : RecordIn} (hs : isStandby s = true) (hl : s.power.mstate = .live)
    (hr : k.release = false) : exec (.stateRecord k) s = .next (compareState (compareInputs (recordHeard s k) k) k) := by
  have hlive : (isStandby s && inLive s) = true := by simp [hs, inLive, hl]
  show execStateRecord k s = _
  simp only [execStateRecord, hlive, hr, Bool.false_eq_true, if_true, if_false]
  rfl

theorem compareInputs_agree {s : State} {k : RecordIn} (h : k.inputDigest = s.red.digests.1) :
    compareInputs s k = { s with red.inAgree := satInc s.red.inAgree 1000 } := if_pos h

theorem compareState_agree {s : State} {k : RecordIn} (h : recordAgrees s k = true) :
    compareState s k = { s with red.stAgree := satInc s.red.stAgree 250 } := if_pos (.inr h)

theorem compareState_differ {s : State} {k : RecordIn} (hin : k.inputDigest = s.red.digests.1) (h : recordAgrees s k = false) :
    compareState s k = redRec (bump { s with red.stAgree := 0, red.adopt := some k, red.adoptIn := 2 } 0x7004 9) 1 0x08 :=
  if_neg (by simp [hin, h])

/-! ## Epoch images (R329) -/

theorem takeObject_frame (s : State) (p : Nat × Nat) : ∃ layer, takeObject s p =
    { s with red.peerLayer := layer, dic := (takeObject s p).dic } := by
  unfold takeObject
  split <;> exact ⟨_, rfl⟩

/-- The objects of an image change the dictionary and the peer's calibration layer. -/
theorem foldl_takeObject_frame (l : List (Nat × Nat)) (s : State) : ∃ layer, l.foldl takeObject s =
    { s with red.peerLayer := layer, dic := (l.foldl takeObject s).dic } := by
  induction l generalizing s with
  | nil => exact ⟨_, rfl⟩
  | cons p l ih =>
    obtain ⟨layer, hp⟩ := takeObject_frame s p
    obtain ⟨last, hl⟩ := ih (takeObject s p)
    refine ⟨last, ?_⟩
    rw [List.foldl_cons]
    generalize l.foldl takeObject (takeObject s p) = t at hl ⊢
    rw [hl, hp]

theorem takePlans_frame (s : State) (k : ImageIn) : takePlans s k = { s with epo := (takePlans s k).epo } := by
  unfold takePlans
  split <;> rfl

theorem takePlans_present {s : State} {k : ImageIn} (h : k.epoch = s.epo.count) :
    (takePlans s k).epo.planN = k.planN ∧ (takePlans s k).epo.planNext = k.planNext := by
  unfold takePlans
  rw [if_pos h]
  exact ⟨rfl, rfl⟩

theorem foldl_putEvent_frame (l : List Nat) (s : State) : ∃ events n, l.foldl putEvent s =
    { s with fac.events := events, fac.eventN := n } := by
  induction l generalizing s with
  | nil => exact ⟨_, _, rfl⟩
  | cons v l ih => exact ih (putEvent s v)

theorem takeMapping_frame (s : State) (k : ImageIn) : takeMapping s k = { s with eng := (takeMapping s k).eng } := rfl

/-- What a standby takes of a complete image, beside the plans, the mapping and the events. -/
theorem takeImage_frame (s : State) (k : ImageIn) : ∃ layer epo eng events n,
    (k.epoch = s.epo.count → epo.planN = k.planN ∧ epo.planNext = k.planNext) ∧
    takeImage s k = { s with
      dic := (k.objects.foldl takeObject s).dic, epo := epo, eng := eng
      red.peerLayer := layer, red.image := some k.epoch, red.current := true
      fac.events := events, fac.eventN := n, fac.latest := k.latest, fac.emCount := k.emergency, fac.chain := k.chainHead
      lead.holder := some k.leadSlot, lead.expiry := some k.expiry, lead.throttle := k.throttle, lead.held := k.held
      lead.restoreDelay := k.restoreDelay, lead.holdOrder := k.holdOrder, lead.carry := k.carry
      lead.stepCnt := smapOf k.stepCnt, lead.tables := smapOf k.tables
      strs.tripOv := smapOf k.tripOv, strs.tripUv := smapOf k.tripUv, strs.tripHeld := smapOf k.tripHeld
      strs.wires := smapOf k.wires, lpe.prog := { s.lpe.prog with mem := smapOf k.loopMem } } := by
  obtain ⟨layer, hobjects⟩ := foldl_takeObject_frame k.objects s
  obtain ⟨events, n, hevents⟩ := foldl_putEvent_frame
    (k.events.filter (fun v => !((takePlans (k.objects.foldl takeObject s) k).fac.events.map (·.2)).contains v))
    (takePlans (k.objects.foldl takeObject s) k)
  refine ⟨layer, (takePlans (k.objects.foldl takeObject s) k).epo,
    (takeMapping (takeEvents (takePlans (k.objects.foldl takeObject s) k) k.events) k).eng, events, n, ?_, ?_⟩
  · intro h
    exact takePlans_present (by rw [hobjects]; exact h)
  · unfold takeImage
    dsimp only
    rw [takeMapping_frame, takeEvents, hevents, takePlans_frame]
    generalize (k.objects.foldl takeObject s) = t at hobjects ⊢
    rw [hobjects]

/-- The image taken, with the record of a standby that becomes able where one is due. -/
theorem epochImageReceived_standby {s : State} (k : ImageIn) (hs : isStandby s = true) : ∃ recs due left step stop bad,
    exec (.epochImageReceived k) s = .next { takeImage s k with
      recs := recs, trc.snapDue := due, trc.snapLeft := left, fac.stepDue := step, trc.recStop := stop
      sec.trialBad := bad } := by
  show ∃ recs due left step stop bad, execEpochImageReceived k s = _
  rw [execEpochImageReceived, if_pos hs]
  dsimp only
  generalize takeImage s k = t
  split
  · obtain ⟨recs, due, left, step, stop, bad, h⟩ := redRec_frame t 0 0x0D
    exact ⟨recs, due, left, step, stop, bad, congrArg Host.Outcome.next h⟩
  · exact ⟨_, _, _, _, _, _, rfl⟩

/-- Settles O25: a block, a lane and a record by the case of its meaning that the statement's condition selects; an image by
what a standby takes of it. -/
theorem sisterLinkAndRecords : Obligations.SisterLinkAndRecords := by
  unfold Obligations.SisterLinkAndRecords
  refine ⟨?badCrc, ?plain, ?copy, ?unacked, ?idle, ?down, ?retrained, ?lost, ?agrees, ?differs, ?missed, ?send, ?image⟩
  case badCrc =>
    intro l k s hup hcrc
    refine ⟨_, sisterBlock_badCrc hup hcrc, ?_⟩
    rw [laneOf_bump, laneOf_setLane, dget_bump_self]
    exact ⟨rfl, rfl, rfl, rfl, rfl⟩
  case plain =>
    intro l k s hup hcrc hnak hidle hseq hd h4 h6
    refine ⟨_, sisterBlock_inSequence hup hcrc hnak hidle hseq, ?_⟩
    rw [laneOf_deliverHash_plain h4 h6 hd, laneOf_setLane, deliverHash_plain h4 h6 hd]
    split
    · exact ⟨rfl, rfl, fun _ => rfl, rfl⟩
    · rename_i h5
      exact ⟨rfl, rfl, fun h => absurd h h5, rfl⟩
  case copy =>
    intro l k s hs hup hcrc hnak hidle hseq hd h4
    refine ⟨_, sisterBlock_inSequence hup hcrc hnak hidle hseq, ?_⟩
    rw [deliverHash_copy (by exact hs) h4 hd, setLane, foldl_copyWrite_with_red]
    exact ⟨rfl, rfl⟩
  case unacked =>
    intro l s hup hack
    refine ⟨_, sisterAckTimeout_unacked hup hack, ?_⟩
    rw [laneOf_bump, laneOf_setLane, dget_bump_self]
    exact ⟨rfl, rfl, rfl⟩
  case idle =>
    intro l s hup
    refine ⟨_, congrArg Host.Outcome.next (if_pos hup), ?_⟩
    rw [laneOf_setLane]
    exact ⟨rfl, rfl⟩
  case down =>
    intro l s hup
    refine ⟨_, if_pos hup, ?_⟩
    rw [laneOf_redRec, laneOf_setLane, redRec_red]
    exact ⟨rfl, rfl, wrote_redRec _ _ rfl⟩
  case retrained =>
    intro l s hcxl href hb ht
    refine ⟨_, laneRetrained_training hcxl href hb ht, ?_⟩
    rw [laneOf_bump, laneOf_linkUp, laneOf_setLane, dget_bump_self]
    exact ⟨rfl, rfl, rfl, rfl, rfl⟩
  case lost =>
    intro s ha hb hup
    have hdown : ¬ (s.red.lanes.a.up || s.red.lanes.b.up) = true := by simp [ha, hb]
    exact ⟨_, (if_neg hdown).trans (congrArg Host.Outcome.next (if_pos hup)), wrote_redRec _ _ rfl⟩
  case agrees =>
    intro k s hs hl hin hagrees hr
    rw [stateRecord_compared hs hl hr, compareInputs_agree (s := recordHeard s k) hin, compareState_agree (by exact hagrees)]
    rfl
  case differs =>
    intro k s hs hl hin hagrees hr
    refine ⟨_, stateRecord_compared hs hl hr, ?_⟩
    rw [compareInputs_agree (s := recordHeard s k) hin, compareState_differ (by exact hin) (by exact hagrees), redRec_red,
      redRec_dic, dget_redRec, dget_bump_self]
    exact ⟨rfl, rfl, rfl, rfl, wrote_redRec _ _ rfl⟩
  case missed =>
    intro s hs
    refine ⟨_, if_pos hs, ?_⟩
    rw [dget_bump_self]
    exact ⟨rfl, rfl, rfl⟩
  case send =>
    intro s ha hup
    exact if_pos (by simp [ha, hup])
  case image =>
    intro k s hs
    obtain ⟨recs, due, left, step, stop, bad, hx⟩ := epochImageReceived_standby k hs
    obtain ⟨layer, epo, eng, events, n, hplans, hframe⟩ := takeImage_frame s k
    rw [hframe] at hx
    exact ⟨_, hx, rfl, rfl, rfl, rfl, rfl, rfl, rfl, rfl, rfl, hplans, fun _ => rfl, fun _ => rfl, rfl, rfl, rfl, rfl, rfl, rfl⟩

end Sys2Proof.Machine

/-! PROOFS. The shelf lease (R317 to R322, R523): the statement that fails, for a HOLD word in negotiation. -/
namespace Sys2Proof.Machine

/-! ## A HOLD word in negotiation (R472, R523) -/

/-- A HOLD word of the peer reaches a module that negotiates its role (R318, R523). -/
def NegotiationHold (w : Word) (s : State) : Prop :=
  wordValid s w.toNat = true ∧ bit w.toNat 4 = false ∧ bit w.toNat 3 = true ∧
    s.power.mstate = .watch ∧ s.red.role = .noRole ∧ s.power.hold = .none

theorem leaseWordReceived_negotiationHold {w : Word} {s : State} (b : Bool) (h : NegotiationHold w s) :
    exec (.leaseWordReceived b w none) s = .next (tryLive (decideRole (hearWord s b w) .standby)) := by
  obtain ⟨hvalid, hrelease, hhold, hwatch, hrole, hnone⟩ := h
  have hdecides : (bit w.toNat 3 && (hearWord s b w).power.mstate == .watch && (hearWord s b w).red.role == .noRole &&
      (hearWord s b w).power.hold == .none) = true := by
    simp [hearWord, hhold, hwatch, hrole, hnone]
  have hbad : ¬ (!wordValid s w.toNat) = true := by simp [hvalid]
  have hkeeps : ¬ bit w.toNat 4 = true := by simp [hrelease]
  show execLeaseWordReceived b w none s = _
  rw [execLeaseWordReceived, if_neg hbad]
  exact (if_neg hkeeps).trans (if_pos hdecides)

/-- The module is the standby, and the role's record is merged into the ring. -/
def standbyMerged (s : State) (b : Bool) (w : Word) : State :=
  { hearWord s b w with red.role := .standby, recs.ring := mergeInto s 9 0x09 s.recs.ring }

/-- The role's record merges into one the ring holds (R230). -/
theorem decideRole_standby_merged {s : State} (b : Bool) (w : Word) (h : s.recs.ring.any (mergesWith s 9 0x09) = true) :
    decideRole (hearWord s b w) .standby = standbyMerged s b w := by
  have hmerge : ({ hearWord s b w with red.role := .standby } : State).recs.ring.any
      (mergesWith { hearWord s b w with red.role := .standby } 9 0x09) = true := h
  have hring := mergeInto_congr (s := s) (u := { hearWord s b w with red.role := .standby }) rfl 9 0x09 s.recs.ring
  unfold decideRole stateRec standbyMerged
  dsimp only
  rw [writeRecB_merged _ (by decide) hmerge, ← hring]
  rfl

/-- A record merges behind those it does not merge with. -/
theorem mergeInto_append {s : State} {b c : Nat} {l : List Record} (m : List Record)
    (h : ∀ r ∈ l, mergesWith s b c r = false) : mergeInto s b c (l ++ m) = l ++ mergeInto s b c m := by
  induction l with
  | nil => rfl
  | cons r l ih =>
    obtain ⟨hr, hl⟩ := List.forall_mem_cons.mp h
    rw [List.cons_append, mergeInto, if_neg (by simp [hr]), ih hl, List.cons_append]

/-- Where the module may go Live, the record of its new state becomes the head of the ring (R230, R472). -/
theorem tryLive_ring {s : State} (hlive : mayGoLive s = true) (hnew : s.recs.ring.any (mergesWith s 9 0x06) = false) :
    ∃ r, r.cause = 0x06 ∧ (tryLive s).recs.ring = r :: s.recs.ring.take 511 := by
  rw [tryLive, if_pos hlive, setMState, stateRec, writeRecB_new _ (.inl (by exact hnew)), (faultPaths_ring _ _).1]
  exact ⟨_, rfl, rfl⟩

/-- So no record of the role is left where it merged into the oldest element of a full ring of other blocks. -/
theorem leaseWordReceived_unrecorded {w : Word} {s t : State} {b : Bool} (h : NegotiationHold w s)
    (ht : exec (.leaseWordReceived b w none) s = .next t) (hmerge : s.recs.ring.any (mergesWith s 9 0x09) = true)
    (hlive : mayGoLive (standbyMerged s b w) = true)
    (hnew : (mergeInto s 9 0x09 s.recs.ring).any (mergesWith s 9 0x06) = false)
    (hothers : ∀ r ∈ (mergeInto s 9 0x09 s.recs.ring).take 511, r.block ≠ 9) :
    ∀ r ∈ t.recs.ring, ¬ (r.block = 9 ∧ r.cause = 0x09) := by
  rw [leaseWordReceived_negotiationHold b h, decideRole_standby_merged b w hmerge, Host.Outcome.next.injEq] at ht
  obtain ⟨live, hcause, hring⟩ := tryLive_ring (s := standbyMerged s b w) hlive
    (by rw [mergesWith_congr (s := s) (u := standbyMerged s b w) rfl]; exact hnew)
  rw [← ht, hring]
  rintro r hr ⟨hblock, hrole⟩
  rcases List.mem_cons.mp hr with rfl | hold
  · omega
  · exact hothers r hold hblock

/-- The record of an overvoltage latch at the first tick, and that of a role decided then. -/
def oldLatch : Record := newRecord State.reset 1 3 0x04 0
def oldRole : Record := newRecord State.reset 9 0 0x09 0

/-- A module in slot A that negotiates its role at 900 ms and may go Live once it has one. Its ring is full, and its oldest record
is that of the role. -/
def negotiatingState : State :=
  { State.reset with
    epo.ticks := 900, power.liveReq := true, power.sup54 := true, grd.intBlank := false
    recs.ring := List.replicate 511 oldLatch ++ [oldRole], recs.seq := 512 }

/-- The HOLD word of slot B. -/
def peerHoldWord : Word := BitVec.ofNat 32 (withCrc8 9)

theorem negotiatingState_hold : NegotiationHold peerHoldWord negotiatingState :=
  ⟨by decide, by decide, by decide, rfl, rfl, rfl⟩

theorem negotiatingState_live : mayGoLive (standbyMerged negotiatingState false peerHoldWord) = true := rfl

theorem negotiatingState_ring : negotiatingState.recs.ring = List.replicate 511 oldLatch ++ [oldRole] := rfl

theorem negotiatingState_merges : negotiatingState.recs.ring.any (mergesWith negotiatingState 9 0x09) = true := by
  rw [negotiatingState_ring, List.any_append, Bool.or_eq_true]
  exact .inr rfl

theorem negotiatingState_merged : mergeInto negotiatingState 9 0x09 negotiatingState.recs.ring =
    List.replicate 511 oldLatch ++ [{ oldRole with repeats := 1, merged := true }] := by
  rw [negotiatingState_ring, mergeInto_append [oldRole] fun r hr => by rw [List.eq_of_mem_replicate hr]; rfl]
  rfl

theorem negotiatingState_new : (mergeInto negotiatingState 9 0x09 negotiatingState.recs.ring).any
    (mergesWith negotiatingState 9 0x06) = false := by
  rw [negotiatingState_merged, List.any_eq_false]
  intro r hr
  rcases List.mem_append.mp hr with hlatch | hrole
  · rw [List.eq_of_mem_replicate hlatch]
    decide
  · rw [List.mem_singleton.mp hrole]
    decide

theorem negotiatingState_others :
    ∀ r ∈ (mergeInto negotiatingState 9 0x09 negotiatingState.recs.ring).take 511, r.block ≠ 9 := by
  rw [negotiatingState_merged, List.take_left' List.length_replicate]
  intro r hr
  rw [List.eq_of_mem_replicate hr]
  decide

/-- Refutes O24: it has the record of the decided role in the ring after a HOLD word in negotiation, where the record of the
entry to Live that follows at once (R472) may overwrite it. The role's record is merged into one of the second before (R230), and
where that one is the oldest of a full ring the other record takes its element. -/
theorem not_shelfLease : ¬ Obligations.ShelfLease := by
  unfold Obligations.ShelfLease
  rintro ⟨-, -, -, hhold, -⟩
  obtain ⟨hvalid, hrelease, hbit, hwatch, hrole, hnone⟩ := negotiatingState_hold
  obtain ⟨t, ht, -, -, -, -, r, hr, hrecord⟩ :=
    hhold false peerHoldWord negotiatingState hvalid hrelease hbit hwatch hrole hnone
  exact leaseWordReceived_unrecorded negotiatingState_hold ht negotiatingState_merges negotiatingState_live
    negotiatingState_new negotiatingState_others r hr hrecord

end Sys2Proof.Machine

/-! PROOFS. Segmented writes (R392, R393): the statement that fails, for a first segment out of place. -/
namespace Sys2Proof.Machine

/-! ## A first segment out of place (R25, R392, R393) -/

theorem answerWrite_segment {s : State} {r : Req} {k : Option Session} {role : Role} {d : Desc} (img : Option Sig) (p : Resp)
    (hn : deniedWrite s r k role d = false) (hf : r.flags % 4 ≠ 3) :
    answerWrite s r k role d img p = segment s r k role d img p := by
  simp [answerWrite, hn, hf]

/-- A first segment with an offset is out of order, whatever is staged. -/
theorem segment_first_misplaced {s : State} {r : Req} {d : Desc} (k : Option Session) (role : Role) (img : Option Sig)
    (p : Resp) (hf : r.flags % 4 = 1) (ho : r.offset ≠ 0) :
    segment s r k role d img p = (bump s 0x1020 12, withCode p 0x03) := by
  have hfirst : bit r.flags 0 = true := by
    rw [bit, Nat.testBit_zero, decide_eq_true_eq]
    omega
  rw [segment, if_pos hfirst, if_pos (.inl ho)]

/-- It answers 0x03, and is counted. -/
theorem write_first_misplaced {r : Req} {d : Desc} {role : Role} {k : Option Session} {s : State}
    (ht : Taken s (Req.withOp r 2) role k) (hw : Formed (Req.withOp r 2) 2) (hd : objDesc r.object = some d)
    (hn : deniedWrite (counted s r) (Req.withOp r 2) k role d = false) (hf : r.flags % 4 = 1) (ho : r.offset ≠ 0) :
    ∃ t, exec (.write r) s = .next t ∧ Replied (Req.withOp r 2) 0x03 (bump (counted s r) 0x1020 12) t := by
  have ha := answer_formed (s := counted s (Req.withOp r 2)) k role none hw (by decide) (by decide) hd
  rw [if_pos rfl, answerWrite_segment none _ (by exact hn) (by show r.flags % 4 ≠ 3; omega),
    segment_first_misplaced (r := Req.withOp r 2) k role none _ hf ho] at ha
  obtain ⟨t, hx, hr, -⟩ := request_answered ht ha rfl
  exact ⟨t, hx, hr⟩

/-- A request has one reply: the response it keeps carries the code. -/
theorem Replied.code_unique {r : Req} {c c' : Nat} {a a' t : State} (h : Replied r c a t) (h' : Replied r c' a' t) : c = c' := by
  obtain ⟨p, waits, hp, -, ht⟩ := h
  obtain ⟨p', waits', hp', -, ht'⟩ := h'
  have hkept := congrArg (fun u : State => u.dic.kept) (ht.symm.trans ht')
  simp only [(deliver_dic _ _ _ _).2.2] at hkept
  obtain ⟨-, hlast⟩ := List.append_inj' hkept rfl
  simp only [List.cons.injEq, Prod.mk.injEq, true_and, and_true] at hlast
  obtain ⟨hresp, -⟩ := hlast
  rw [← hp, ← hp', hresp]

/-- A session of the Owner on the first mailbox. -/
def ownerSession : Session :=
  { number := 1, role := .owner, key := 0, link := .ld 0, rx := 0, tx := 0, opened := 0, used := 0, promoted := false, scopes := 0
    till := 0, kRd := 0, kDr := 0, sRd := 0, sDr := 0 }

/-- The module after reset with that session open, which has staged two bytes of the Owner's guard layer. -/
def halfStagedState : State :=
  { State.reset with
    sec.sessions := [ownerSession]
    dic.staged := [{ object := 0x5081, element := 0, count := 1, session := some 1, bytes := [0, 0], whole := 264, resv := false }] }

/-- A first segment of the same object at offset 1. -/
def misplacedSegment : Req :=
  { link := .ld 0, session := some 1, arrived := 20, gen := 1, op := 2, flags := 1, transaction := 0, object := 0x5081
    element := 0, ext := 0, resv := 0, count := 1, offset := 1, length := 2, value := [0, 0], sigs := [], derivedOk := true
    can := none }

theorem misplacedSegment_taken : Taken halfStagedState (Req.withOp misplacedSegment 2) .owner (some ownerSession) :=
  ⟨rfl, rfl, by decide, by decide, rfl, rfl, rfl⟩

theorem misplacedSegment_formed : Formed (Req.withOp misplacedSegment 2) 2 := ⟨by decide, rfl, rfl, rfl, rfl⟩

theorem misplacedSegment_permitted : ∃ d, objDesc misplacedSegment.object = some d ∧
    deniedWrite (counted halfStagedState misplacedSegment) (Req.withOp misplacedSegment 2) (some ownerSession) .owner d = false :=
  ⟨_, rfl, rfl⟩

/-- Refutes O44: it has every first segment of an object already staged answered 0x09, where one with an offset is out of order
and answers 0x03 (R393), which R25 puts before 0x09. -/
theorem not_segmentsAndForwards : ¬ Obligations.SegmentsAndForwards := by
  unfold Obligations.SegmentsAndForwards
  rintro ⟨-, hstaged, -⟩
  obtain ⟨d, hd, hn⟩ := misplacedSegment_permitted
  obtain ⟨t, ht, hreply⟩ := hstaged misplacedSegment d .owner (some ownerSession) halfStagedState misplacedSegment_taken
    misplacedSegment_formed hd hn rfl (.inl (by decide))
  obtain ⟨t', ht', hmisplaced⟩ := write_first_misplaced misplacedSegment_taken misplacedSegment_formed hd hn rfl (by decide)
  obtain rfl : t' = t := by rwa [ht', Host.Outcome.next.injEq] at ht
  exact absurd (hmisplaced.code_unique hreply) (by decide)

end Sys2Proof.Machine


/-! PROOFS. Signatures, trials and the entropy source of the security die (R347, R349 to R352, R364). -/
namespace Sys2Proof.Machine

/-! ## Records of the security die (R230, R259, R364, R377) -/

theorem faultPaths_security {r : Record} (h : r.block = 8) (s : State) : ∃ first stop bad, faultPaths s r =
    { s with recs.first := first, trc.recStop := stop, sec.trialBad := bad } := by
  have hsnap : (r.block == 1 || r.block == 2) = false := by rw [h]; rfl
  have hstep : (r.block == 1 || r.block == 3) = false := by rw [h]; rfl
  unfold faultPaths
  simp only [hsnap, hstep, Bool.and_false, Bool.false_and, Bool.false_eq_true, if_false]
  (repeat' split) <;> exact ⟨_, _, _, rfl⟩

theorem secRec_frame (s : State) (v c role tgt : Nat) : ∃ recs stop bad, secRec s v c role tgt =
    { s with recs := recs, trc.recStop := stop, sec.trialBad := bad } := by
  unfold secRec writeRecB
  split
  · exact ⟨_, _, _, rfl⟩
  · obtain ⟨first, stop, bad, h⟩ := faultPaths_security (r := newRecord s 8 v c _) rfl
      { s with recs.ring := (newRecord s 8 v c _ :: s.recs.ring).take 512, recs.seq := s.recs.seq + 1 }
    exact ⟨_, stop, bad, h⟩

theorem exists_mem_secRec (s : State) (v c role tgt : Nat) :
    ∃ f ∈ (secRec s v c role tgt).recs.ring, f.block = 8 ∧ f.cause = c := exists_mem_writeRecB _ _ _ _ _

/-! ## Signatures (R349, R351, R352) -/

theorem reserveBlock_eq (s : State) : reserveBlock s =
    { s with sec.ctrLeaf := if s.sec.q = 64 * s.sec.ctrLeaf then s.sec.ctrLeaf + 1 else s.sec.ctrLeaf } := by
  unfold reserveBlock
  split <;> rfl

theorem publishSigned_seal {j : SignJob} (h : j.kind = 0) (s : State) : ∃ seals, publishSigned s j =
    { s with fac.seals := seals, fac.sealN := s.fac.sealN + 1 } :=
  ⟨_, if_pos h⟩

theorem publishSigned_value {j : SignJob} (h : j.kind ≠ 0) (s : State) : ∃ vals, publishSigned s j =
    { s with dic.vals := vals } := by
  rw [publishSigned, if_neg h]
  split <;> exact ⟨_, rfl⟩

theorem leafRecords_frame (s : State) : ∃ warn res recs stop bad, leafRecords s =
    { s with
      sec.usedWarn := warn, sec.reserveRec := res, recs := recs, trc.recStop := stop, sec.trialBad := bad } := by
  have hwarn : ∃ warn recs stop bad, (if s.sec.usedWarn < s.sec.q * 10 / 33554432 then
      secRec { s with sec.usedWarn := s.sec.q * 10 / 33554432 } 1 0x04 4 0 else s) =
      { s with sec.usedWarn := warn, recs := recs, trc.recStop := stop, sec.trialBad := bad } := by
    split
    · obtain ⟨recs, stop, bad, h⟩ := secRec_frame { s with sec.usedWarn := s.sec.q * 10 / 33554432 } 1 0x04 4 0
      exact ⟨_, recs, stop, bad, h⟩
    · exact ⟨_, _, _, _, rfl⟩
  obtain ⟨warn, recs, stop, bad, hw⟩ := hwarn
  unfold leafRecords
  simp only [hw]
  split
  · obtain ⟨recs', stop', bad', h⟩ := secRec_frame
      { s with
        sec.usedWarn := warn, sec.reserveRec := true, recs := recs, trc.recStop := stop, sec.trialBad := bad } 3 0x05 4 0
    exact ⟨warn, true, recs', stop', bad', h⟩
  · exact ⟨_, _, _, _, _, rfl⟩

/-- The state in which the signature of a request is published: the request is taken, its block of leaves reserved. -/
def jobTaken (s : State) (j : SignJob) : State := reserveBlock { s with sec.queue := dropJob j s.sec.queue }

theorem signatureComplete_eq {s : State} {j : SignJob} (hp : powered s = true) (hj : nextJob s = some j)
    (hq : s.sec.q < 33554432) (hl : s.sec.lowerTree = some (s.sec.q / 1024)) : exec .signatureComplete s =
      .next (leafRecords { publishSigned (jobTaken s j) j with sec.q := (publishSigned (jobTaken s j) j).sec.q + 1 }) := by
  show execSignatureComplete s = _
  unfold execSignatureComplete
  simp only [hj]
  exact if_neg (by simp [hp, hl, hq])

/-- What the signature of request `j` publishes is an hour's seal, or a value of the dictionary; the request leaves the queue, and
the first leaf of a block reserves it. -/
theorem signatureComplete_published {s : State} {j : SignJob} (hp : powered s = true) (hj : nextJob s = some j)
    (hq : s.sec.q < 33554432) (hl : s.sec.lowerTree = some (s.sec.q / 1024)) :
    ∃ seals vals warn res recs stop bad, exec .signatureComplete s = .next { s with
      sec.q := s.sec.q + 1, sec.queue := dropJob j s.sec.queue
      sec.ctrLeaf := if s.sec.q = 64 * s.sec.ctrLeaf then s.sec.ctrLeaf + 1 else s.sec.ctrLeaf
      fac.seals := if j.kind = 0 then seals else s.fac.seals
      fac.sealN := if j.kind = 0 then s.fac.sealN + 1 else s.fac.sealN
      dic.vals := vals, sec.usedWarn := warn, sec.reserveRec := res, recs := recs, trc.recStop := stop
      sec.trialBad := bad } := by
  have hpublish : ∃ seals vals, publishSigned (jobTaken s j) j = { jobTaken s j with
      fac.seals := if j.kind = 0 then seals else (jobTaken s j).fac.seals
      fac.sealN := if j.kind = 0 then (jobTaken s j).fac.sealN + 1 else (jobTaken s j).fac.sealN
      dic.vals := vals } := by
    by_cases hk : j.kind = 0
    · obtain ⟨seals, h⟩ := publishSigned_seal hk (jobTaken s j)
      exact ⟨seals, (jobTaken s j).dic.vals, by rw [h, if_pos hk, if_pos hk]⟩
    · obtain ⟨vals, h⟩ := publishSigned_value hk (jobTaken s j)
      exact ⟨s.fac.seals, vals, by rw [h, if_neg hk, if_neg hk]⟩
  obtain ⟨seals, vals, hs⟩ := hpublish
  rw [signatureComplete_eq hp hj hq hl, hs, jobTaken, reserveBlock_eq]
  obtain ⟨warn, res, recs, stop, bad, h⟩ := leafRecords_frame _
  exact ⟨seals, vals, warn, res, recs, stop, bad, congrArg _ h⟩

theorem signatureComplete_waits {s : State} (h : nextJob s = none ∨ s.sec.lowerTree ≠ some (s.sec.q / 1024)) :
    exec .signatureComplete s = .next s := by
  show execSignatureComplete s = _
  unfold execSignatureComplete
  cases hj : nextJob s with
  | none => rfl
  | some j =>
    have hl : s.sec.lowerTree ≠ some (s.sec.q / 1024) := h.resolve_left (by simp [hj])
    exact if_pos (by simp [hl])

theorem nextJob_of_seal {s : State} {j : SignJob} (h : s.sec.queue.find? (fun j => j.kind == 0) = some j) :
    nextJob s = some j := by
  simp [nextJob, h]

/-! ## Trials (R364) -/

theorem setBank_eq (s : State) (b : Bool) (k : Bank) : ∃ banks, setBank s b k = { s with sec.banks := banks } := by
  cases b <;> exact ⟨_, rfl⟩

@[simp] theorem bankOf_setBank_self (s : State) (b : Bool) (k : Bank) : bankOf (setBank s b k) b = k := by
  cases b <;> rfl

theorem bankOf_setBank_ne (s : State) {b c : Bool} (k : Bank) (h : c ≠ b) : bankOf (setBank s b k) c = bankOf s c := by
  obtain rfl : c = !b := Bool.eq_not.mpr h
  cases b <;> rfl

/-- A bank depends on the two banks alone. -/
theorem bankOf_congr {s t : State} (h : t.sec.banks = s.sec.banks) (b : Bool) : bankOf t b = bankOf s b := by
  unfold bankOf
  rw [h]

/-- A start of the bank in trial that failed is counted, and the module starts again. -/
def trialCounted (s : State) : State := { s with sec.trialFails := s.sec.trialFails + 1, power.wakeNext := some 2 }

theorem trialBootFailed_counted {s : State} (ht : s.sec.trial = true) (hf : s.sec.trialFails < 2) :
    exec .trialBootFailed s = .next (trialCounted s) := by
  have hless : s.sec.trialFails + 1 < 3 := by omega
  show execTrialBootFailed s = _
  simp [execTrialBootFailed, ht, hless, trialCounted]

/-- The bank in trial is rejected, and the previous one runs. -/
def trialReverted (s : State) : State :=
  setBank (setBank s s.sec.bankB { bankOf s s.sec.bankB with state := 4 }) s.sec.prevB
    { bankOf s s.sec.prevB with state := 3 }

theorem trialReverted_eq (s : State) : ∃ banks, trialReverted s = { s with sec.banks := banks } := by
  obtain ⟨banks, h⟩ := setBank_eq s s.sec.bankB { bankOf s s.sec.bankB with state := 4 }
  obtain ⟨banks', h'⟩ := setBank_eq { s with sec.banks := banks } s.sec.prevB { bankOf s s.sec.prevB with state := 3 }
  exact ⟨banks', by rw [trialReverted, h, h']⟩

theorem trialReverted_rejected {s : State} (h : s.sec.bankB ≠ s.sec.prevB) :
    (bankOf (trialReverted s) s.sec.bankB).state = 4 := by
  rw [trialReverted, bankOf_setBank_ne _ _ h, bankOf_setBank_self]

theorem trialReverted_returned (s : State) : (bankOf (trialReverted s) s.sec.prevB).state = 3 := by
  rw [trialReverted, bankOf_setBank_self]

theorem trialBootFailed_third {s : State} (ht : s.sec.trial = true) (hf : 2 ≤ s.sec.trialFails) :
    exec .trialBootFailed s = .next (secRec { trialCounted s with
      sec.banks := (trialReverted (trialCounted s)).sec.banks, sec.trial := false, sec.bankB := s.sec.prevB
      sec.activate := none } 2 0x02 4 0) := by
  have hthird : ¬ (trialCounted s).sec.trialFails < 3 := by
    show ¬ s.sec.trialFails + 1 < 3
    omega
  have hrun : execTrialBootFailed s = .next (secRec { trialReverted (trialCounted s) with
      sec.trial := false, sec.bankB := (trialReverted (trialCounted s)).sec.prevB, sec.activate := none } 2 0x02 4 0) := by
    unfold execTrialBootFailed
    rw [ht]
    exact if_neg hthird
  obtain ⟨banks, h⟩ := trialReverted_eq (trialCounted s)
  show execTrialBootFailed s = _
  rw [hrun, h]
  rfl

/-- The bank that runs, no longer in trial. -/
def trialKept (s : State) : State := setBank s s.sec.bankB { bankOf s s.sec.bankB with state := 3 }

theorem trialKept_kept (s : State) : (bankOf (trialKept s) s.sec.bankB).state = 3 := by
  rw [trialKept, bankOf_setBank_self]

theorem endTrial_eq (s : State) : endTrial s = secRec { s with
    sec.banks := (trialKept s).sec.banks, sec.trial := false, sec.trialFails := 0, sec.trialBad := false
    sec.rollback := max s.sec.rollback (bankOf s s.sec.bankB).security } 0 0x0A 4 0 := by
  obtain ⟨banks, h⟩ := setBank_eq s s.sec.bankB { bankOf s s.sec.bankB with state := 3 }
  rw [endTrial, trialKept, h]

theorem trialAutoCommit_due {s : State} (ht : s.sec.trial = true) (hl : s.power.mstate = .live)
    (hb : s.sec.trialBad = false) (hd : s.power.liveTick + 86400000 ≤ s.epo.ticks) :
    exec .trialAutoCommit s = .next (endTrial s) :=
  if_pos (by simp [ht, hb, hd, inLive, hl])

theorem trialAutoCommit_bad {s : State} (hb : s.sec.trialBad = true) : exec .trialAutoCommit s = .next s :=
  if_neg (by simp [hb])

/-- Settles O37: the signature by what it publishes, each end of a trial by the banks it leaves and its record, the entropy source
by its record. -/
theorem signaturesAndTrials : Obligations.SignaturesAndTrials := by
  unfold Obligations.SignaturesAndTrials
  refine ⟨fun _ => rfl, ?signed, fun _ h => signatureComplete_waits h, fun _ _ h => nextJob_of_seal h, ?counted, ?third, ?ended,
    ?bad, ?stop, fun _ => rfl⟩
  case signed =>
    intro j s hp hj hq hl
    obtain ⟨seals, vals, warn, res, recs, stop, bad, h⟩ := signatureComplete_published hp hj hq hl
    refine ⟨_, h, rfl, rfl, fun hr => if_pos hr, fun hr => if_neg hr, fun hk => if_pos hk, fun hk => ?_, rfl⟩
    simp [hk]
  case counted => exact fun s ht hf => trialBootFailed_counted ht hf
  case third =>
    intro s ht hf hne
    obtain ⟨recs, stop, bad, h⟩ := secRec_frame { trialCounted s with
      sec.banks := (trialReverted (trialCounted s)).sec.banks, sec.trial := false, sec.bankB := s.sec.prevB
      sec.activate := none } 2 0x02 4 0
    refine ⟨_, trialBootFailed_third ht hf, ?_, ?_, ?_, ?_, exists_mem_secRec _ _ _ _ _, ?_⟩
    · rw [h]
    · rw [h]
    · rw [bankOf_congr (s := trialReverted (trialCounted s)) (by rw [h])]
      exact trialReverted_rejected (s := trialCounted s) hne
    · rw [bankOf_congr (s := trialReverted (trialCounted s)) (by rw [h])]
      exact trialReverted_returned (trialCounted s)
    · rw [h]
      rfl
  case ended =>
    intro s ht hl hb hd
    obtain ⟨recs, stop, bad, h⟩ := secRec_frame { s with
      sec.banks := (trialKept s).sec.banks, sec.trial := false, sec.trialFails := 0, sec.trialBad := false
      sec.rollback := max s.sec.rollback (bankOf s s.sec.bankB).security } 0 0x0A 4 0
    refine ⟨_, (trialAutoCommit_due ht hl hb hd).trans (congrArg _ (endTrial_eq s)), ?_, ?_, ?_,
      exists_mem_secRec _ _ _ _ _, ?_⟩
    · rw [h]
    · rw [h]
    · rw [bankOf_congr (s := trialKept s) (by rw [h])]
      exact trialKept_kept s
    · rw [h]
  case bad => exact fun s _ _ hb => trialAutoCommit_bad hb
  case stop =>
    intro s he
    refine ⟨secRec (bump { s with sec.entropyOk := false } 0x8070 5) 2 0x03 4 0, if_pos he, ?_, ?_, ?_⟩
    · obtain ⟨recs, stop, bad, h⟩ := secRec_frame (bump { s with sec.entropyOk := false } 0x8070 5) 2 0x03 4 0
      rw [h]
      rfl
    · rw [secRec, dget_writeRecB, dget_bump_self]
      rfl
    · rw [secRec, writeRecB_dic]
      exact wrote_writeRecB _ _ _ _ _

end Sys2Proof.Machine


/-! PROOFS. Sessions and grants (R366, R375): the statement that fails, for two open sessions of one number. -/
namespace Sys2Proof.Machine

/-! ## Two sessions of one number (R365, R375) -/

/-- The end of a passphrase's rights finds the first session of the number, and leaves the state where that one has none. -/
theorem passphraseDurationEnd_unpromoted {n : Nat} {s : State} {k : Session} (hk : findSession s n = some k)
    (hp : k.promoted = false) : exec (.passphraseDurationEnd n) s = .next s := by
  show execPassphraseDurationEnd n s = .next s
  simp [execPassphraseDurationEnd, hk, hp]

/-- A Public session on J7. -/
def publicSession : Session :=
  { number := 0, role := .pub, key := 0, link := .j7, rx := 0, tx := 0, opened := 0, used := 0, promoted := false, scopes := 0
    till := 0, kRd := 0, kDr := 0, sRd := 0, sDr := 0 }

/-- A session of the same number on the first mailbox, with a passphrase's rights up to tick 0. -/
def promotedSession : Session := { publicSession with link := .ld 0, role := .service, promoted := true, scopes := 8 }

/-- The module after reset with both open, as 32-bit numbers that wrap allow (R365). -/
def sharedNumberState : State := { State.reset with sec.sessions := [publicSession, promotedSession] }

/-- Refutes O38: it has the rights of every promoted session of the number end, where the row ends those of the first session of
the number; with a Public session 0 before the promoted session 0 nothing changes. -/
theorem not_sessionsAndGrants : ¬ Obligations.SessionsAndGrants := by
  unfold Obligations.SessionsAndGrants
  rintro ⟨-, -, -, -, -, -, -, -, -, -, -, -, -, -, -, -, hend⟩
  obtain ⟨t, ht, hover, -⟩ := hend 0 sharedNumberState
  obtain rfl : sharedNumberState = t := by
    rwa [passphraseDurationEnd_unpromoted (k := publicSession) rfl rfl, Host.Outcome.next.injEq] at ht
  exact absurd (hover promotedSession (by decide) rfl rfl (Nat.le_refl 0)) (by decide)

end Sys2Proof.Machine

/-! PROOFS. Requests to the security die (R351, R370): the statement that fails, for a request for evidence at a full queue. -/
namespace Sys2Proof.Machine

/-! ## A full signing queue (R351) -/

theorem requestEvidence_full {s : State} (h : queueFree s = false) (role : Role) (n : Nat) :
    (requestEvidence s role n).sec.queue = s.sec.queue := by
  have hcounted : queueFree (countDay s role) = false := h
  rw [requestEvidence, queueSign, hcounted]
  rfl

/-- A request for evidence. -/
def evidenceJob : SignJob := { kind := 2, minute := 0, root := 0, contract := 0, role := 0, nonce := 0 }

/-- The module after reset with 1,024 of them waiting. -/
def fullQueueState : State := { State.reset with sec.queue := List.replicate 1024 evidenceJob }

theorem fullQueueState_full : queueFree fullQueueState = false := by
  show decide ((List.replicate 1024 evidenceJob).length < 1024) = false
  rw [List.length_replicate]
  rfl

/-- Refutes O48: it has every request for evidence join the queue, whatever waits there, where a queue of 1,024 requests takes no
more (R351). -/
theorem not_trustRequests : ¬ Obligations.TrustRequests := by
  unfold Obligations.TrustRequests
  rintro ⟨-, -, -, -, -, -, -, -, hqueued, -⟩
  have hlonger := hqueued fullQueueState .owner 0
  rw [requestEvidence_full fullQueueState_full] at hlonger
  simpa using congrArg List.length hlonger

end Sys2Proof.Machine


/-! PROOFS. The start of the module through the security die (R360, R443, R471, R473, R521, R522). -/
namespace Sys2Proof.Machine

/-! ## Fields of what a write puts in the stack (R9, R157) -/

theorem memReadAll_add (m : Memory) (i j : Nat) : ∀ a, memReadAll m a (i + j) = memReadAll m a i ++ memReadAll m (a + i) j := by
  induction i with
  | zero => intro a; simp [memReadAll]
  | succ i ih =>
    intro a
    rw [Nat.succ_add, memReadAll, memReadAll, ih, List.cons_append, Nat.add_assoc, Nat.add_comm 1 i]

theorem bytesOf_add (i j : Nat) : ∀ v, bytesOf v (i + j) = bytesOf v i ++ bytesOf (v / 256 ^ i) j := by
  induction i with
  | zero => intro v; simp [bytesOf]
  | succ i ih =>
    intro v
    rw [Nat.succ_add, bytesOf, bytesOf, ih, List.cons_append, Nat.div_div_eq_div_mul, Nat.pow_succ']

/-- A field of a number written to the stack is the field of the number. -/
theorem dramN_dramPut_field (s : State) (a v : Nat) {n off len : Nat} (h : off + len ≤ n) :
    dramN (dramPut s a n v) (a + off) len = fieldAt v off len := by
  obtain ⟨rest, rfl⟩ := Nat.exists_eq_add_of_le h
  have hall : memReadAll (dramPut s a (off + len + rest) v).net.dram a (off + len + rest) =
      (bytesOf v (off + len + rest)).map (BitVec.ofNat 8) := by
    have := memReadAll_memWriteAll ((bytesOf v (off + len + rest)).map (BitVec.ofNat 8)) s.net.dram a
    rwa [List.length_map, length_bytesOf] at this
  rw [memReadAll_add, memReadAll_add, bytesOf_add, bytesOf_add, List.map_append, List.map_append] at hall
  obtain ⟨hupTo, -⟩ := List.append_inj hall (by simp)
  obtain ⟨-, hfield⟩ := List.append_inj hupTo (by simp)
  rw [dramN, hfield, leOf_toNat_bytes, leOf_bytesOf, fieldAt]

/-! ## The record archive filled again (R443) -/

/-- The words of the archive's header: its sequence number first, the number of events fourth. -/
theorem fieldAt_six_words (q a b e c d : Nat) :
    let v := packAt [(0, 8, q), (8, 8, a), (16, 8, b), (24, 8, e), (32, 8, c), (40, 8, d)]
    fieldAt v 0 8 = q % 2 ^ 64 ∧ fieldAt v 24 8 = e % 2 ^ 64 := by
  simp only [packAt, fieldAt]
  omega

/-- Entries written within a region leave the stack outside it. -/
theorem memRead_foldl_dramPut_outside {α : Type} {lo hi x : Nat} {at_ size value : α → Nat}
    (hin : ∀ p, lo ≤ at_ p ∧ at_ p + size p ≤ hi) (hx : x < lo ∨ hi ≤ x) (l : List α) : ∀ s : State,
    memRead (l.foldl (fun s p => dramPut s (at_ p) (size p) (value p)) s).net.dram x = memRead s.net.dram x := by
  induction l with
  | nil => exact fun _ => rfl
  | cons p l ih =>
    intro s
    have hp := hin p
    rw [List.foldl_cons, ih, memRead_dramPut_outside _ _ _ _ (by omega)]

/-- The stack once the minutes, the events and the hour seals stand in the archive. -/
def archiveFilled (s : State) : State :=
  let minutes := (s.fac.minutes.map (·.2)).foldl (fun s v =>
    dramPut s (archive + 0x40000000 + 64 * (fieldAt v 4 4 % 2 ^ 24)) 64 v) s
  let events := minutes.fac.events.foldl (fun s p => dramPut s (archive + 0x80000000 + 32 * (p.1 % 2 ^ 25)) 32 p.2) minutes
  (s.fac.seals.map (·.2)).foldl (fun s v =>
    dramPut s (archive + 0xC0000000 + 8192 * ((fieldAt v 4 4 + 1) / 60 % 2 ^ 19)) (min (varLen 8192 v) 8192) v) events

theorem archiveFilled_frame (s : State) : ∃ m, archiveFilled s = { s with net.dram := m } := by
  unfold archiveFilled
  dsimp only
  obtain ⟨m, h⟩ := foldl_dram_frame (f := fun s v =>
    dramPut s (archive + 0x40000000 + 64 * (fieldAt v 4 4 % 2 ^ 24)) 64 v) (fun _ _ => dramPut_frame _ _ _ _)
    (s.fac.minutes.map (·.2)) s
  rw [h]
  obtain ⟨m', h'⟩ := foldl_dram_frame (f := fun s (p : Nat × Nat) =>
    dramPut s (archive + 0x80000000 + 32 * (p.1 % 2 ^ 25)) 32 p.2) (fun _ _ => dramPut_frame _ _ _ _) s.fac.events
    { s with net.dram := m }
  rw [h']
  exact foldl_dram_frame (fun _ _ => dramPut_frame _ _ _ _) _ { s with net.dram := m' }

theorem archiveFilled_outside (s : State) {x : Nat} (hx : x < archive ∨ archive + 0x1C0000000 ≤ x) :
    memRead (archiveFilled s).net.dram x = memRead s.net.dram x := by
  unfold archiveFilled
  dsimp only
  rw [memRead_foldl_dramPut_outside (lo := archive) (hi := archive + 0x1C0000000) (fun v => by omega) hx,
    memRead_foldl_dramPut_outside (lo := archive) (hi := archive + 0x1C0000000) (fun v => by omega) hx,
    memRead_foldl_dramPut_outside (lo := archive) (hi := archive + 0x1C0000000) (fun v => by omega) hx]

/-- The header comes last: the sequence number, the number of events, and the ranges of the minutes and the hours. -/
theorem refreshArchive_eq (s : State) : ∃ a b c d, refreshArchive s =
    dramPut { archiveFilled s with net.archiveSeq := s.net.archiveSeq + 2 } archive 48
      (packAt [(0, 8, s.net.archiveSeq + 2), (8, 8, a), (16, 8, b), (24, 8, s.fac.eventN), (32, 8, c), (40, 8, d)]) := by
  obtain ⟨m, hm⟩ := archiveFilled_frame s
  have hseq : (archiveFilled s).net.archiveSeq = s.net.archiveSeq := by rw [hm]
  have hevents : (archiveFilled s).fac.eventN = s.fac.eventN := by rw [hm]
  rw [← hseq, ← hevents]
  exact ⟨_, _, _, _, rfl⟩

theorem refreshArchive_outside (s : State) {x : Nat} (hx : x < archive ∨ archive + 0x1C0000000 ≤ x) :
    memRead (refreshArchive s).net.dram x = memRead s.net.dram x := by
  obtain ⟨a, b, c, d, h⟩ := refreshArchive_eq s
  rw [h, memRead_dramPut_outside _ _ _ _ (by omega)]
  exact archiveFilled_outside s hx

theorem refreshArchive_header (s : State) :
    dramN (refreshArchive s) archive 8 = (s.net.archiveSeq + 2) % 2 ^ 64 ∧
      dramN (refreshArchive s) (archive + 24) 8 = s.fac.eventN % 2 ^ 64 := by
  obtain ⟨a, b, c, d, h⟩ := refreshArchive_eq s
  obtain ⟨hseq, hevents⟩ := fieldAt_six_words (s.net.archiveSeq + 2) a b s.fac.eventN c d
  rw [h]
  exact ⟨(dramN_dramPut_field _ archive _ (off := 0) (by decide)).trans hseq,
    (dramN_dramPut_field _ archive _ (by decide)).trans hevents⟩

/-! ## What a start does after its reset (R401, R522, R527, R531, R532) -/

/-- `t` is `s` with at most what a start restores and records changed: straps and counts, metering and attribution, records,
the banks' states, and what is measured of the converter. -/
def StartFrame (s t : State) : Prop := t = { s with
  power.strapShelf := t.power.strapShelf, power.strapB := t.power.strapB, power.strapsOk := t.power.strapsOk
  power.hold := t.power.hold, power.pllRecord := t.power.pllRecord
  epo := t.epo, lead.carry := t.lead.carry, fac := t.fac, dic.vals := t.dic.vals, grd := t.grd, recs := t.recs, trc := t.trc
  sec.fwMeasure := t.sec.fwMeasure, sec.banks := t.sec.banks, sec.trial := t.sec.trial, sec.trialBad := t.sec.trialBad
  cot.str := t.cot.str, cot.induct := t.cot.induct, cot.refused := t.cot.refused, cot.active := t.cot.active
  cot.onTime := t.cot.onTime }

theorem StartFrame.trans {s t u : State} (h : StartFrame s t) (k : StartFrame t u) : StartFrame s u := by
  unfold StartFrame at *
  rw [k, h]

theorem StartFrame.net_eq {s t : State} (h : StartFrame s t) : t.net = s.net := by
  unfold StartFrame at h
  rw [h]

theorem StartFrame.ite {s t u : State} {p : Prop} [Decidable p] (h : StartFrame s t) (k : StartFrame s u) :
    StartFrame s (if p then t else u) := by
  split
  · exact h
  · exact k

theorem StartFrame.foldl {α : Type} {f : State → α → State} (hf : ∀ s a, StartFrame s (f s a)) (l : List α) :
    ∀ s, StartFrame s (l.foldl f s) := by
  induction l with
  | nil => exact fun _ => rfl
  | cons a l ih => exact fun s => (hf s a).trans (ih _)

theorem startFrame_writeRecB (s : State) (b v c body : Nat) : StartFrame s (writeRecB s b v c body) := by
  obtain ⟨_, _, _, _, _, _, h⟩ := writeRecB_frame s b v c body
  rw [h]
  rfl

theorem startFrame_restoreMetering (s : State) : StartFrame s (restoreMetering s) := by
  unfold restoreMetering
  split <;> rfl

theorem startFrame_crcFailure (s : State) (f : Nat × Nat) : StartFrame s (crcFailure s f) := by
  have hlost : StartFrame s (if 0x2020 ≤ f.1 ∧ f.1 ≤ 0x2023 then { s with fac.lost := s.fac.lost ++ [f] } else s) :=
    .ite rfl rfl
  unfold crcFailure
  dsimp only
  generalize (if 0x2020 ≤ f.1 ∧ f.1 ≤ 0x2023 then { s with fac.lost := s.fac.lost ++ [f] } else s) = u at hlost ⊢
  refine .ite rfl (hlost.trans ?_)
  exact .ite rfl (.ite rfl (.ite rfl (.ite rfl (.ite rfl (.ite rfl (.ite rfl (.ite rfl (.ite rfl (.ite rfl rfl)))))))))

theorem startFrame_crcRecord (s : State) (f : Nat × Nat) : StartFrame s (crcRecord s f) := by
  unfold crcRecord
  split <;> exact startFrame_writeRecB _ _ _ _ _

theorem startFrame_closeMinute (s : State) (n : Nat) : StartFrame s (closeMinute s n) := by
  have hflag : StartFrame s (if hasContract s then s else minuteFlag s 3) := .ite rfl rfl
  unfold closeMinute
  dsimp only
  generalize (if hasContract s then s else minuteFlag s 3) = u at hflag ⊢
  exact .ite (hflag.trans rfl) rfl

/-- The minute that the loss interrupted is closed, with a record where the flush was not complete (R529, R532). -/
theorem startFrame_closeInterrupted (s : State) (b : BootIn) : StartFrame s (closeInterrupted s b) := by
  unfold closeInterrupted
  cases s.power.commit with
  | none => rfl
  | some c =>
    have hrec : StartFrame s (if !(b.marker && c.flushed)
        then stateRec (minuteFlag (minuteFlag (minuteFlag s 10) 14) 1) 1 0x08 0 0 0 else minuteFlag (minuteFlag s 10) 14) :=
      .ite (.trans (t := minuteFlag (minuteFlag (minuteFlag s 10) 14) 1) rfl (startFrame_writeRecB _ _ _ _ _)) rfl
    exact .ite rfl ((hrec.trans (startFrame_closeMinute _ c.socNow)).trans rfl)

/-- The end of an unlock is logged and recorded at the start (R374, R375). -/
theorem startFrame_grantLost (s : State) (had : Option Grant) (was : Nat) : StartFrame s (grantLost s had was) := by
  have hended : ∀ (s : State) (role scopes : Nat), StartFrame s (secRec (logEvent
      { s with fac.nextFlags := setBit s.fac.nextFlags 13 true } 10 role 0 scopes) 0 0x08 role 0) := fun s role scopes =>
    .trans (t := logEvent { s with fac.nextFlags := setBit s.fac.nextFlags 13 true } 10 role 0 scopes) rfl
      (startFrame_writeRecB _ _ _ _ _)
  unfold grantLost
  cases had with
  | none => exact StartFrame.foldl (fun s _ => hended s 2 8) _ s
  | some g => exact (hended s 4 g.scopes).trans (StartFrame.foldl (fun s _ => hended s 2 8) _ _)

theorem startFrame_inductOne (s : State) (p l : Nat) : StartFrame s (inductOne s p l) := by
  unfold inductOne
  dsimp only
  split
  · rfl
  · split
    · rfl
    · refine .trans ?_ (startFrame_writeRecB _ _ _ _ _)
      rfl

theorem startFrame_readInductances (s : State) (l : List Nat) : StartFrame s (readInductances s l) := by
  refine .trans (StartFrame.foldl (fun s p => startFrame_inductOne s p (at0 l p)) (upTo 24) s) ?_
  obtain ⟨_, _, h⟩ := refreshActive_frame ((upTo 24).foldl (fun s p => inductOne s p (at0 l p)) s)
  rw [readInductances, h]
  rfl

/-! ## A start with a bank that verifies (R360, R443, R471, R522) -/

/-- The module reset, its bank chosen and its counts restored (R360, R361, R522). -/
def booted (s : State) (b : BootIn) (bank : Bool) (wake : Nat) : State :=
  let s := restoreCounts (volatile (applyRestart s)) b
  { s with
    sec.bankB := bank, power.wake := wake, sec.cold := if wake = 0 then some s.epo.ticks else s.sec.cold
    sec.revoked := s.sec.revoked ||| (if bank then s.sec.banks.b else s.sec.banks.a).revoke % 16
    sec.issued := s.epo.count }

/-- The bank measured, metering and attribution restored, the straps read, failing elements replaced (R35, R362, R401, R527,
R531). -/
def restored (s : State) (b : BootIn) : State :=
  let s := restoreAttr (restoreMetering { s with sec.fwMeasure := measurement s })
  (firstFails b.crcFail).foldl crcRecord (b.crcFail.foldl crcFailure (readStraps s b.straps))

theorem startFrame_restored (s : State) (b : BootIn) : StartFrame s (restored s b) := by
  have hmetered : StartFrame s (restoreMetering { s with sec.fwMeasure := measurement s }) :=
    .trans (t := { s with sec.fwMeasure := measurement s }) rfl (startFrame_restoreMetering _)
  have hstraps : StartFrame s (readStraps (restoreAttr (restoreMetering { s with sec.fwMeasure := measurement s })) b.straps) :=
    hmetered.trans rfl
  exact (hstraps.trans (StartFrame.foldl startFrame_crcFailure _ _)).trans (StartFrame.foldl startFrame_crcRecord _ _)

/-- A boot of another bank than the selected one, and a control clock lost before, are recorded (R360, R470). -/
def startNoted (s : State) (bank want : Bool) (before : Nat) : State :=
  let s := if bank = want then s else secRec { setBankState s bank 3 with sec.trial := false } 2 0x01 4 0
  if s.power.pllRecord then stateRec { s with power.pllRecord := false } 2 0x04 before 1 2 else s

theorem startFrame_startNoted (s : State) (bank want : Bool) (before : Nat) : StartFrame s (startNoted s bank want before) := by
  have hbank : StartFrame s (if bank = want then s else secRec { setBankState s bank 3 with sec.trial := false } 2 0x01 4 0) :=
    .ite rfl (.trans (t := { setBankState s bank 3 with sec.trial := false }) (by cases bank <;> rfl)
      (startFrame_writeRecB _ _ _ _ _))
  unfold startNoted
  dsimp only
  generalize (if bank = want then s else secRec { setBankState s bank 3 with sec.trial := false } 2 0x01 4 0) = u at hbank ⊢
  refine hbank.trans (.ite ?_ rfl)
  exact .trans (t := { u with power.pllRecord := false }) rfl (startFrame_writeRecB _ _ _ _ _)

/-- The interrupted minute and a lost unlock closed, the strings at rest, the start recorded and the power boards read. -/
def startClosed (s : State) (b : BootIn) (had : Option Grant) (was before : Nat) : State :=
  let s := grantLost (closeInterrupted s b) had was
  let s := { s with fac.un := nominalV s.fac.un b.ratings }
  readInductances (stateRec (startStrings s) 0 0x06 before (stateCode s) 0) b.inductances

theorem startFrame_startClosed (s : State) (b : BootIn) (had : Option Grant) (was before : Nat) :
    StartFrame s (startClosed s b had was before) := by
  have hlost : StartFrame s (grantLost (closeInterrupted s b) had was) :=
    (startFrame_closeInterrupted s b).trans (startFrame_grantLost _ had was)
  unfold startClosed
  dsimp only
  generalize grantLost (closeInterrupted s b) had was = u at hlost ⊢
  have hrec : StartFrame u (stateRec (startStrings { u with fac.un := nominalV u.fac.un b.ratings }) 0 0x06 before
      (stateCode { u with fac.un := nominalV u.fac.un b.ratings }) 0) :=
    .trans (t := startStrings { u with fac.un := nominalV u.fac.un b.ratings }) rfl (startFrame_writeRecB _ _ _ _ _)
  exact hlost.trans (hrec.trans (startFrame_readInductances _ _))

theorem start_of_bootBank {s : State} {b : BootIn} {bank : Bool} (h : bootBank s b = some bank) (wake : Nat) :
    ∃ u, StartFrame (booted s b bank wake) u ∧ start s b wake = refreshArchive u := by
  refine ⟨startClosed (startNoted (restored (booted s b bank wake) b) bank (s.sec.activate.getD s.sec.bankB) (stateCode s)) b
    s.sec.grant (s.sec.sessions.filter (·.promoted)).length (stateCode s), ?_, ?_⟩
  · exact ((startFrame_restored _ b).trans (startFrame_startNoted _ _ _ _)).trans (startFrame_startClosed _ _ _ _ _)
  · rw [start, h]
    rfl

theorem booted_dram (s : State) (b : BootIn) (bank : Bool) (wake : Nat) : (booted s b bank wake).net.dram = s.net.dram := by
  obtain ⟨hdram, -⟩ := applyRestart_keep s
  exact hdram

/-- The module that a start leaves runs in Watch from the bank that boots, as a reset leaves it. -/
theorem start_verified {s : State} {b : BootIn} {bank : Bool} (h : bootBank s b = some bank) (wake : Nat) :
    let t := start s b wake
    t.power.mstate = .watch ∧ t.power.wake = wake ∧ t.sec.bankB = bank ∧ t.red.role = .noRole ∧ t.red.holding = false ∧
      t.red.driveEn = false ∧ t.red.timerOk = false ∧ t.lead.isLead = false ∧ t.sec.sessions = [] ∧ t.sec.grant = none ∧
      t.lpe.run = false ∧ t.cot.cmd = 0 := by
  obtain ⟨u, hu, ht⟩ := start_of_bootBank h wake
  obtain ⟨m, hm⟩ := refreshArchive_frame u
  unfold StartFrame at hu
  rw [ht, hm, hu]
  exact ⟨rfl, rfl, rfl, rfl, rfl, rfl, rfl, rfl, rfl, rfl, rfl, rfl⟩

theorem start_dram {s : State} {b : BootIn} {bank : Bool} (h : bootBank s b = some bank) (wake : Nat) :
    let t := start s b wake
    (∀ a, (a < archive ∨ archive + 0x1C0000000 ≤ a) → memRead t.net.dram a = memRead s.net.dram a) ∧
      dramN t archive 8 = t.net.archiveSeq % 2 ^ 64 ∧ dramN t (archive + 24) 8 = t.fac.eventN % 2 ^ 64 := by
  obtain ⟨u, hu, ht⟩ := start_of_bootBank h wake
  obtain ⟨hseq, hevents⟩ := refreshArchive_header u
  obtain ⟨m, hm⟩ := refreshArchive_frame u
  rw [ht]
  refine ⟨fun a ha => ?_, ?_, ?_⟩
  · rw [refreshArchive_outside u ha, hu.net_eq, booted_dram]
  · rw [hseq, hm]
  · rw [hevents, hm]

/-! ## A start with no bank that verifies (R360, R473) -/

/-- A string without supply is off, isolated or latched (R225). -/
def stringOff (s : State) (x : Str) : State :=
  match (conv s x).st with
  | .latched => s
  | .ovLatch => s
  | _ => setConv s x { conv s x with st := if (conv s x).ownLatch then .latched else restState s x }

theorem stringOff_frame (s : State) (x : Str) : ∃ str, stringOff s x = { s with cot.str := str } := by
  unfold stringOff
  split <;> exact ⟨_, rfl⟩

theorem losePower_undriven (s : State) (m : MState) :
    (losePower s m).red.role = .noRole ∧ (losePower s m).red.driveEn = false ∧ (losePower s m).cot.cmd = 0 := by
  have hrun : ∃ u : State, losePower s m = stringOff (stringOff u .A) .B ∧ u.red.role = .noRole ∧ u.red.driveEn = false ∧
      u.cot.cmd = 0 := ⟨_, rfl, rfl, rfl, rfl⟩
  obtain ⟨u, hu, hrole, hdrive, hcmd⟩ := hrun
  obtain ⟨str, hA⟩ := stringOff_frame u .A
  obtain ⟨str', hB⟩ := stringOff_frame { u with cot.str := str } .B
  rw [hu, hA, hB]
  exact ⟨hrole, hdrive, hcmd⟩

theorem start_unverified {s : State} {b : BootIn} (h : bootBank s b = none) (wake : Nat) :
    let t := start s b wake
    t.power.mstate = .recovery ∧ t.red.role = .noRole ∧ t.red.driveEn = false ∧ t.cot.cmd = 0 := by
  have hlost := losePower_undriven (secRec s 2 0x01 4 0) (secRec s 2 0x01 4 0).power.mstate
  rw [start, h]
  dsimp only [setMState, stateRec]
  obtain ⟨_, _, _, _, _, _, hrec⟩ := writeRecB_frame { losePower (secRec s 2 0x01 4 0) (secRec s 2 0x01 4 0).power.mstate with
    power.cplLock := true, power.yplLock := true, power.mstate := .recovery } 9 0 0x06 _
  rw [hrec]
  exact ⟨rfl, hlost⟩

/-- Settles O3: a start with a bank that verifies is a reset from which only counts and records are restored; each row is such a
start in the states it takes. -/
theorem restartEntersWatch : Obligations.RestartEntersWatch := by
  unfold Obligations.RestartEntersWatch
  intro started
  have hstart : ∀ s b wake, started s b wake (start s b wake) := by
    intro s b wake
    obtain ⟨-, hpending, hserial, hident⟩ := start_keep s b wake
    refine ⟨fun bank h => ?_, fun h => start_unverified h wake⟩
    obtain ⟨hstate, hwake, hbank, hrole, hholding, hdrive, htimer, hlead, hsessions, hgrant, hrun, hcmd⟩ :=
      start_verified h wake
    obtain ⟨hdram, hseq, hevents⟩ := start_dram h wake
    exact ⟨hstate, hwake, hbank, hrole, hholding, hdrive, htimer, hlead, hsessions, hgrant, hrun, hcmd, hdram, hseq, hevents,
      hserial, hident, hpending⟩
  refine ⟨fun b s h => ⟨_, ?_, hstart s b _⟩, fun b s h => ⟨_, ?_, hstart s b _⟩,
    fun b s h hf hs => ⟨_, ?_, hstart { s with power.pfw := false } b 2⟩⟩
  · show execSupply54vInRange b s = _
    rw [execSupply54vInRange, h]
  · show execModuleRestart b s = _
    rcases h with h | h | h <;> rw [execModuleRestart, h]
  · show execModuleRestart b s = _
    rw [execModuleRestart, h]
    exact if_pos (by rw [hf, hs]; rfl)

end Sys2Proof.Machine

/-! PROOFS. The step (spec/95), and the interrupt controller (R492 to R498, R501 to R504). -/
namespace Sys2Proof.Machine

/-- Settles O50: a step is a match on the queue. -/
theorem stepRunsTheFrontCommand : Obligations.StepRunsTheFrontCommand := by
  unfold Obligations.StepRunsTheFrontCommand
  refine ⟨fun c s => rfl, fun s h => ?_⟩
  rw [step, h]

/-! ## Targets (R488) -/

theorem coreOf_coreNum (u : Core5) : coreOf (coreNum u % 8) = some u := by
  cases u <;> rfl

theorem coreNum_ne {e c : Core5} (h : e ≠ c) : coreNum e ≠ coreNum c := by
  intro hn
  have hsame : some e = some c := by rw [← coreOf_coreNum e, hn, coreOf_coreNum]
  exact h (Option.some.inj hsame)

/-! ## Software pending bits (R496) -/

theorem setPending_private {i : Nat} (h : i < 32) (s : State) (c : Core5) (b : Bool) :
    ∃ m, setPending s c i b = { s with icu.pswp := m } := ⟨_, if_pos h⟩

theorem setPending_shared {i : Nat} (h : 32 ≤ i) (s : State) (c : Core5) (b : Bool) :
    ∃ m, setPending s c i b = { s with icu.swp := m } := ⟨_, if_neg (Nat.not_lt.mpr h)⟩

theorem setPending_frame (s : State) (c : Core5) (i : Nat) (b : Bool) :
    ∃ p m, setPending s c i b = { s with icu.pswp := p, icu.swp := m } := by
  by_cases h : i < 32
  · obtain ⟨p, hp⟩ := setPending_private h s c b
    exact ⟨p, _, hp⟩
  · obtain ⟨m, hm⟩ := setPending_shared (Nat.not_lt.mp h) s c b
    exact ⟨_, m, hm⟩

/-- Of the bits of a target, one alone changes. -/
theorem swPending_setPending (s : State) (c : Core5) (i j : Nat) (b : Bool) :
    swPending (setPending s c i b) c j = if j = i then b else swPending s c j := by
  unfold swPending setPending
  by_cases hi : i < 32 <;> by_cases hj : j < 32
  · simp only [hi, hj, if_true, mget_mset_self, bit_setBit]
  · simp only [hi, hj, if_true, if_false, if_neg (show j ≠ i by omega)]
  · simp only [hi, hj, if_true, if_false, if_neg (show j ≠ i by omega)]
  · simp only [hi, hj, if_false, mget_mset]
    by_cases hw : j / 32 = i / 32
    · have hbit : j % 32 = i % 32 ↔ j = i := by omega
      simp only [hw, if_true, bit_setBit, hbit]
    · rw [if_neg hw, if_neg fun h => hw (by rw [h])]

@[simp] theorem swPending_setPending_self (s : State) (c : Core5) (i : Nat) (b : Bool) :
    swPending (setPending s c i b) c i = b := by rw [swPending_setPending, if_pos rfl]

/-- What holds of a state, and of every state in which one allowed bit more is set, holds once those of a word are. -/
theorem setPendings_induction {P : State → Prop} {s : State} (c : Core5) (base v : Nat) (ok : Nat → Bool) (h : P s)
    (hset : ∀ u k, k < 32 → P u → P (setPending u c (base + k) true)) : P (setPendings s c base v ok) := by
  refine List.foldlRecOn _ _ h fun u hu k hk => ?_
  split
  · exact hset u k ((mem_upTo 32 k).mp hk) hu
  · exact hu

theorem setPendings_private (s : State) (c : Core5) (v : Nat) (ok : Nat → Bool) :
    ∃ m, setPendings s c 0 v ok = { s with icu.pswp := m } := by
  refine setPendings_induction (P := fun u => ∃ m, u = { s with icu.pswp := m }) c 0 v ok ⟨_, rfl⟩ ?_
  rintro _ k hk ⟨m, rfl⟩
  obtain ⟨m', h⟩ := setPending_private (show 0 + k < 32 by omega) { s with icu.pswp := m } c true
  exact ⟨m', h⟩

theorem setPendings_shared {base : Nat} (hb : 32 ≤ base) (s : State) (c : Core5) (v : Nat) (ok : Nat → Bool) :
    ∃ m, setPendings s c base v ok = { s with icu.swp := m } := by
  refine setPendings_induction (P := fun u => ∃ m, u = { s with icu.swp := m }) c base v ok ⟨_, rfl⟩ ?_
  rintro _ k - ⟨m, rfl⟩
  obtain ⟨m', h⟩ := setPending_shared (show 32 ≤ base + k by omega) { s with icu.swp := m } c true
  exact ⟨m', h⟩

theorem swPending_foldl_setPending (c : Core5) (base v k : Nat) (ok : Nat → Bool) (l : List Nat) : ∀ s,
    swPending (l.foldl (fun s k => if bit v k && ok (base + k) then setPending s c (base + k) true else s) s) c (base + k) =
      (swPending s c (base + k) || (decide (k ∈ l) && (bit v k && ok (base + k)))) := by
  induction l with
  | nil => simp
  | cons i l ih =>
    intro s
    rw [List.foldl_cons, ih]
    by_cases hik : k = i
    · subst hik
      by_cases hb : (bit v k && ok (base + k)) = true <;> simp [hb]
    · by_cases hb : (bit v i && ok (base + i)) = true <;> simp [hb, hik, swPending_setPending]

/-- The bits of a word that are allowed are set, the others of its range stay. -/
theorem swPending_setPendings (s : State) (c : Core5) (base v : Nat) (ok : Nat → Bool) {k : Nat} (h : k < 32) :
    swPending (setPendings s c base v ok) c (base + k) = (swPending s c (base + k) || (bit v k && ok (base + k))) := by
  rw [setPendings, swPending_foldl_setPending, decide_eq_true ((mem_upTo 32 k).mpr h), Bool.true_and]

/-! ## Claims (R493 to R495) -/

theorem winner_eq_some {s : State} {c : Core5} {i : Nat} (h : eligible s c i = true) (hi : i < 83)
    (hlow : ∀ j, j < i → eligible s c j = false) : winner s c = some i := by
  unfold winner upTo
  rw [List.find?_range_eq_some]
  exact ⟨h, List.mem_range.mpr hi, fun j hj => by rw [hlow j hj]; rfl⟩

theorem winner_eq_none {s : State} {c : Core5} (h : ∀ j, j < 83 → eligible s c j = false) : winner s c = none := by
  unfold winner
  rw [List.find?_eq_none]
  intro j hj
  rw [h j ((mem_upTo 83 j).mp hj)]
  exact Bool.false_ne_true

/-- The state in which source `i` is claimed for a target. -/
def claimed (s : State) (c : Core5) (i : Nat) : State :=
  { setPending (accessOk s) c i false with
    icu.active := mset s.icu.active (coreNum c) i, dic.reg := BitVec.ofNat 32 i }

theorem icuClaim_winner {s : State} {c : Core5} {i : Nat} (h : winner s c = some i) :
    exec (.icuClaim c) s = .next (claimed s c i) := by
  have hw : winner (accessOk s) c = some i := h
  obtain ⟨p, m, hset⟩ := setPending_frame (accessOk s) c i false
  show execIcuClaim c s = _
  simp only [execIcuClaim, hw, claimed, hset]
  rfl

theorem icuClaim_none {s : State} {c : Core5} (h : winner s c = none) :
    exec (.icuClaim c) s = .next { s with
      dic.reg := 0#32, dic.busErr := false
      icu.spur := mset s.icu.spur (coreNum c) (satInc (mget s.icu.spur (coreNum c)) 65535) } := by
  have hw : winner (accessOk s) c = none := h
  show execIcuClaim c s = _
  simp only [execIcuClaim, hw]
  rfl

theorem claimed_frame (s : State) (c : Core5) (i : Nat) : ∃ p m, claimed s c i = { s with
    dic.reg := BitVec.ofNat 32 i, dic.busErr := false
    icu.active := mset s.icu.active (coreNum c) i, icu.pswp := p, icu.swp := m } := by
  obtain ⟨p, m, hset⟩ := setPending_frame (accessOk s) c i false
  exact ⟨p, m, by rw [claimed, hset]; rfl⟩

theorem swPending_claimed (s : State) (c : Core5) (i j : Nat) :
    swPending (claimed s c i) c j = if j = i then false else swPending s c j :=
  swPending_setPending (accessOk s) c i j false

theorem activeSrc_claimed (s : State) (c e : Core5) (i : Nat) :
    activeSrc (claimed s c i) e = if e = c then i else activeSrc s e := by
  show mget (mset s.icu.active (coreNum c) i) (coreNum e) = _
  split
  · next h => rw [h, mget_mset_self]
  · next h => rw [mget_mset_ne _ _ _ _ (coreNum_ne h)]; rfl

theorem eligible_of_active {s : State} {c : Core5} (h : activeSrc s c ≠ 0) (j : Nat) : eligible s c j = false := by
  rw [eligible, beq_false_of_ne h, Bool.and_false]

/-- Settles O59: a claim takes the winner, or counts as spurious. -/
theorem claimTakesTheWinner : Obligations.ClaimTakesTheWinner := by
  unfold Obligations.ClaimTakesTheWinner
  refine ⟨fun c i s hi h hlow => ?_, fun c s h => icuClaim_none (winner_eq_none h), fun c s => eligible_of_active⟩
  obtain ⟨p, m, hframe⟩ := claimed_frame s c i
  refine ⟨_, icuClaim_winner (winner_eq_some h hi hlow), ?_, ?_, ?_, fun j _ hj => ?_, fun e he => ?_, ?_⟩
  · rw [hframe]
  · rw [activeSrc_claimed, if_pos rfl]
  · rw [swPending_claimed, if_pos rfl]
  · rw [swPending_claimed, if_neg hj]
  · rw [activeSrc_claimed, if_neg he]
  · rw [hframe]

/-! ## Routes and faults (R497, R498, R502, R504) -/

theorem routeOf_set (s : State) (i n : Nat) :
    routeOf { s with icu.route := mset s.icu.route i (if n = routeReset i then 0 else n + 1) } i = n := by
  by_cases h : n = routeReset i
  · simp only [routeOf, mget_mset_self, if_true, h]
  · simp [routeOf, h]

theorem icuRouteWrite_taken {s : State} {i n : Nat} (hi : sharedHas i = true) (hf : routeFixed i = false) (hn : n ≤ 4)
    (he : isEnabled s .rt i = false) (ha : activeAnywhere s i = false) : exec (.icuRouteWrite .rt i n) s =
      .next { s with dic.busErr := false, icu.route := mset s.icu.route i (if n = routeReset i then 0 else n + 1) } := by
  have hn8 : n % 8 = n := by omega
  have hno : ¬ (routeFixed i || 4 < n % 8 || isEnabled (accessOk s) .rt i || activeAnywhere (accessOk s) i) = true := by
    have he' : isEnabled (accessOk s) .rt i = false := he
    have ha' : activeAnywhere (accessOk s) i = false := ha
    simp [hf, hn8, Nat.not_lt.mpr hn, he', ha']
  show execIcuRouteWrite .rt i n s = _
  rw [execIcuRouteWrite, if_neg (by decide)]
  dsimp only
  rw [if_neg (by simp [hi]), if_neg hno, hn8]
  rfl

theorem icuRouteWrite_rejected {s : State} {i : Nat} (n : Nat) (hi : sharedHas i = true)
    (h : routeFixed i = true ∨ isEnabled s .rt i = true ∨ activeAnywhere s i = true) : exec (.icuRouteWrite .rt i n) s =
      .next { s with dic.busErr := false, icu.routeRej := satInc s.icu.routeRej 65535 } := by
  have hno : (routeFixed i || 4 < n % 8 || isEnabled (accessOk s) .rt i || activeAnywhere (accessOk s) i) = true := by
    have he : isEnabled (accessOk s) .rt i = isEnabled s .rt i := rfl
    have ha : activeAnywhere (accessOk s) i = activeAnywhere s i := rfl
    rw [he, ha]
    rcases h with h | h | h <;> simp [h]
  show execIcuRouteWrite .rt i n s = _
  rw [execIcuRouteWrite, if_neg (by decide)]
  dsimp only
  rw [if_neg (by simp [hi]), if_pos hno]
  rfl

/-- A completion of a source that is not the active one is kept where no fault is (R497). -/
theorem icuComplete_wrong {s : State} {c : Core5} {i : Nat} (h : activeSrc s c ≠ i % 512) (hf : s.icu.fault = none) :
    exec (.icuComplete c i) s = .next { s with
      dic.busErr := false
      icu.fault := some { count := 0, target := coreNum c, cause := if activeSrc s c = 0 then 2 else 1, source := i % 512 } } := by
  have hfault : ∀ cause, icuFault (accessOk s) c cause (i % 512) = { s with
      dic.busErr := false
      icu.fault := some { count := 0, target := coreNum c, cause := cause, source := i % 512 } } := by
    intro cause
    have hnone : (accessOk s).icu.fault = none := hf
    rw [icuFault, hnone]
    rfl
  have hact : activeSrc (accessOk s) c = activeSrc s c := rfl
  show execIcuComplete c i s = _
  rw [execIcuComplete]
  dsimp only
  rw [hact, if_neg h, hfault, hfault]
  split <;> rfl

theorem icuFaultClear_fault {s : State} {f : IcuFault} (h : s.icu.fault = some f) :
    exec (.icuFaultClear .rt) s = .next
      { writeRecB (accessOk s) 10 1 0x20 (packAt [(0, 1, f.target), (2, 2, f.source)]) with icu.fault := none } := by
  have hf : (accessOk s).icu.fault = some f := h
  show execIcuFaultClear .rt s = _
  rw [execIcuFaultClear, if_neg (by decide)]
  dsimp only
  rw [hf]

/-- The clear of a fault writes its record; source 32, which shows the fault, drops. -/
theorem icuFaultClear_wrote {s : State} {f : IcuFault} (h : s.icu.fault = some f) : ∃ t,
    exec (.icuFaultClear .rt) s = .next t ∧ t.icu = { s.icu with fault := none } ∧ levelOf t .rt 32 = false ∧
      Wrote { s with dic.busErr := false, icu := t.icu } t 10 1 0x20 := by
  obtain ⟨hrec, hframe⟩ := wrote_writeRecB (accessOk s) 10 1 0x20 (packAt [(0, 1, f.target), (2, 2, f.source)])
  unfold RecordFrame at hframe
  rw [icuFaultClear_fault h]
  refine ⟨_, rfl, ?_, rfl, hrec.congr rfl rfl rfl, ?_⟩
  · rw [hframe]
    rfl
  · unfold RecordFrame
    rw [hframe]
    rfl

/-! ## The registers that set software pending bits (R496, R503) -/

theorem icuPswp_sets (c : Core5) (v : Word) (s : State) : ∃ t, exec (.icuPswp c v) s = .next t ∧
    (∀ i, i < 32 → swPending t c i = (swPending s c i || (bit v.toNat i && privHas c i))) ∧
    t = { s with dic.busErr := false, icu.pswp := t.icu.pswp } := by
  obtain ⟨m, hframe⟩ := setPendings_private (accessOk s) c v.toNat (privHas c)
  refine ⟨setPendings (accessOk s) c 0 v.toNat (privHas c), rfl, fun i hi => ?_, ?_⟩
  · have hset := swPending_setPendings (accessOk s) c 0 v.toNat (privHas c) hi
    rwa [Nat.zero_add] at hset
  · rw [hframe]
    rfl

theorem icuSwp_sets {w : Nat} (h1 : 1 ≤ w) (h15 : w ≤ 15) (v : Word) (s : State) : ∃ t,
    exec (.icuSwp .rt w v) s = .next t ∧
    (∀ k, k < 32 → swPending t .rt (32 * w + k) = (swPending s .rt (32 * w + k) || (bit v.toNat k && sharedHas (32 * w + k)))) ∧
    t = { s with dic.busErr := false, icu.swp := t.icu.swp } := by
  obtain ⟨m, hframe⟩ := setPendings_shared (base := 32 * w) (by omega) (accessOk s) .rt v.toNat sharedHas
  have hrow : exec (.icuSwp .rt w v) s = .next (setPendings (accessOk s) .rt (32 * w) v.toNat sharedHas) := by
    show execIcuSwp .rt w v s = _
    rw [execIcuSwp, if_neg (by decide), if_pos (by simp [h1, h15])]
  refine ⟨_, hrow, fun k hk => swPending_setPendings (accessOk s) .rt (32 * w) v.toNat sharedHas hk, ?_⟩
  rw [hframe]
  rfl

theorem icuSswp_sets {c : Core5} {i : Nat} {s : State} (h32 : 32 ≤ i) (h512 : i < 512) (ho : ownedBy s c i = true) :
    ∃ t, exec (.icuSswp c i) s = .next t ∧ swPending t c i = true ∧
      t = { s with dic.busErr := false, icu.swp := t.icu.swp } := by
  have hi : i % 512 = i := Nat.mod_eq_of_lt h512
  have hown : ownedBy (accessOk s) c i = true := ho
  have hrow : exec (.icuSswp c i) s = .next (setPending (accessOk s) c i true) := by
    show execIcuSswp c i s = _
    simp [execIcuSswp, hi, h32, hown]
  obtain ⟨m, hframe⟩ := setPending_shared h32 (accessOk s) c true
  refine ⟨_, hrow, swPending_setPending_self _ _ _ _, ?_⟩
  rw [hframe]
  rfl

theorem icuXsig_sets {c u : Core5} {i : Nat} (hu : u ≠ c) (h16 : 16 ≤ i) (h32 : i < 32) (s : State) :
    ∃ t, exec (.icuXsig c (coreNum u) i) s = .next t ∧ swPending t u i = true ∧
      t = { s with dic.busErr := false, icu.pswp := t.icu.pswp } := by
  have hi : i % 32 = i := Nat.mod_eq_of_lt h32
  have hrow : exec (.icuXsig c (coreNum u) i) s = .next (setPending (accessOk s) u i true) := by
    show execIcuXsig c (coreNum u) i s = _
    simp [execIcuXsig, coreOf_coreNum, hi, hu, h16]
  obtain ⟨m, hframe⟩ := setPending_private h32 (accessOk s) u true
  refine ⟨_, hrow, swPending_setPending_self _ _ _ _, ?_⟩
  rw [hframe]
  rfl

/-- Settles O14: each register by what it does where the statement's condition holds. -/
theorem interruptController : Obligations.InterruptController := by
  unfold Obligations.InterruptController
  refine ⟨?shared, ?priv, ?claim, fun c s h => icuClaim_none h, ?complete, fun c i s h hf => icuComplete_wrong h hf,
    icuPswp_sets, fun c i s h32 h512 ho => icuSswp_sets h32 h512 ho, fun c u i s hu h16 h32 => icuXsig_sets hu h16 h32 s,
    fun w v s h1 h15 => icuSwp_sets h1 h15 v s, ?route, fun i n s hi h => icuRouteWrite_rejected n hi h,
    fun f s h => icuFaultClear_wrote h, ?others⟩
  case shared =>
    intro c i b s h32 hi
    exact (if_neg (Nat.not_lt.mpr h32)).trans (if_pos hi)
  case priv =>
    intro c i b s h9 hi
    exact (if_pos (show i < 32 by omega)).trans (if_pos (by simp [h9, hi]))
  case claim =>
    intro c i s h hi hlow
    obtain ⟨p, m, hframe⟩ := claimed_frame s c i
    refine ⟨_, icuClaim_winner (winner_eq_some h hi hlow), ?_, ?_, ?_, fun j hj => ?_, ?_⟩
    · rw [hframe]
    · exact mget_mset_self _ _ _
    · rw [swPending_claimed, if_pos rfl]
    · rw [swPending_claimed, if_neg hj]
    · rw [hframe]
  case complete =>
    intro c i s h h0
    exact (if_neg (by rw [← h] at h0; exact h0)).trans (if_pos h)
  case route =>
    intro i n s hi hf hn he ha
    exact ⟨_, icuRouteWrite_taken hi hf hn he ha, routeOf_set _ i n, rfl⟩
  case others =>
    intro c v w i n s hc k hk
    simp only [List.mem_cons, List.not_mem_nil, or_false] at hk
    rcases hk with rfl | rfl | rfl <;> exact if_pos hc

end Sys2Proof.Machine

/-! PROOFS. Supply commands and the loss of power (R471 to R474, R520, R528 to R530). -/
namespace Sys2Proof.Machine

/-! ## What an engine that goes dark leaves (R142, R478 to R482) -/

/-- `t` is `s` with at most the counts and marks of its crossings changed, and events and warnings written (R476, R478, R487). -/
def CountFrame (s t : State) : Prop := t = { s with
  power.pulseCount := t.power.pulseCount, power.xlost := t.power.xlost, power.xdrop := t.power.xdrop
  power.xTicks := t.power.xTicks, recs.ring := t.recs.ring, recs.seq := t.recs.seq }

theorem CountFrame.trans {s t u : State} (h : CountFrame s t) (k : CountFrame t u) : CountFrame s u := by
  unfold CountFrame at *
  rw [k, h]

theorem countFrame_crossRec (s : State) (cls i n : Nat) : CountFrame s (crossRec s cls i n) := by
  unfold crossRec
  dsimp only
  split
  · rfl
  · obtain ⟨ring, seq, h⟩ := writeRecB_frame_of_lt
      { s with power.xTicks := mset s.power.xTicks (32 * cls + i) (s.epo.ticks + 1) } 10 (2 + cls)
      (packAt [(0, 1, 0xFF), (1, 1, cls), (2, 1, i), (4, 4, n)]) (v := if cls = 0 then 1 else 0) (by split <;> omega)
    rw [h]
    rfl

theorem countFrame_resetPulse (s : State) (i : Nat) : CountFrame s (resetPulse s i) := by
  have hlost : ∀ u : State, CountFrame u (setLost u i) := by
    intro u
    unfold setLost
    split
    · rfl
    · exact .trans (t := { u with power.xlost := setBit u.power.xlost i true }) rfl (countFrame_crossRec _ 0 i 1)
  unfold resetPulse
  dsimp only
  split
  · exact .trans (t := { s with power.pulseCount := mdel s.power.pulseCount i }) rfl (hlost _)
  · rfl

theorem countFrame_resetFifo (s : State) (f n : Nat) : CountFrame s (resetFifo s f n) := by
  unfold resetFifo
  split
  · rfl
  · exact .trans (t := dropEntries s f n) rfl (countFrame_crossRec _ 1 f n)

/-- `t` is `s` with at most its engine and the crossings of the engine's domain changed. -/
def DarkFrame (s t : State) : Prop := t = { s with
  power.pulseCount := t.power.pulseCount, power.xlost := t.power.xlost, power.xdrop := t.power.xdrop
  power.xTicks := t.power.xTicks, eng := t.eng, trc.recQ := t.trc.recQ, recs.ring := t.recs.ring, recs.seq := t.recs.seq }

theorem darkFrame_resetEngineDomain (s : State) : DarkFrame s (resetEngineDomain s) := by
  have h : CountFrame s (resetFifo (resetFifo (resetPulse (resetPulse (resetPulse s 1) 2) 3) 0
      (resetPulse (resetPulse (resetPulse s 1) 2) 3).eng.feedQ.length) 2
      (resetPulse (resetPulse (resetPulse s 1) 2) 3).trc.recQ.length) :=
    ((((countFrame_resetPulse s 1).trans (countFrame_resetPulse _ 2)).trans (countFrame_resetPulse _ 3)).trans
      (countFrame_resetFifo _ 0 _)).trans (countFrame_resetFifo _ 2 _)
  unfold CountFrame at h
  unfold resetEngineDomain DarkFrame
  dsimp only
  rw [h]

theorem engineDark_eq (s : State) : ∃ pulses lost drop ticks eng recQ ring seq,
    engineDark s = { s with
      power.pulseCount := pulses, power.xlost := lost, power.xdrop := drop, power.xTicks := ticks
      eng := eng, trc.recQ := recQ, recs.ring := ring, recs.seq := seq } ∧
    eng.state = .dark ∧ eng.started = none ∧ eng.holdFc = true := by
  have h := darkFrame_resetEngineDomain s
  unfold DarkFrame at h
  unfold engineDark
  dsimp only
  split
  · exact ⟨_, _, _, _, _, _, _, _, rfl, rfl, rfl, rfl⟩
  · rw [h]
    exact ⟨_, _, _, _, _, _, _, _, rfl, rfl, rfl, rfl⟩

/-! ## Leaving Live (R473, R523) -/

theorem contactorFrame_outOpen (s : State) (x : Str) : ContactorFrame s (outOpen s x) := by
  have hunfollow : ContactorFrame s (unfollow s x) := by
    rw [unfollow_eq]
    rfl
  unfold outOpen
  split
  · exact toOpen_frame s x _
  · exact toOpen_frame s x _
  · exact hunfollow.trans (toOpen_frame _ x _)

theorem setMState_frame (s : State) (m : MState) :
    ∃ ring seq, setMState s m = { s with power.mstate := m, recs.ring := ring, recs.seq := seq } :=
  writeRecB_frame_of_lt { s with power.mstate := m } 9 0x06 _ (by decide)

/-- What stands before the engine goes dark: the drive is released, and an active module's strings and loop are stopped. -/
theorem leaveLive_eq (s : State) : ∃ u, u.power = s.power ∧ u.red.driveEn = false ∧ leaveLive s =
    setMState { engineDark u with red.role := .noRole, red.holding := false, red.claimed := false } .watch := by
  have hopen : ContactorFrame s (outOpen (outOpen s .A) .B) :=
    (contactorFrame_outOpen s .A).trans (contactorFrame_outOpen _ .B)
  unfold leaveLive
  dsimp only
  split
  · refine ⟨_, ?_, rfl, rfl⟩
    show (outOpen (outOpen s .A) .B).power = s.power
    exact (congrArg State.power hopen :)
  · exact ⟨clearTimer s, rfl, rfl, rfl⟩

/-- Out of Live the module is in Watch, without role or drive, its engine dark; its supplies stand as they did. -/
theorem leaveLive_left (s : State) :
    (leaveLive s).power.mstate = .watch ∧ (leaveLive s).power.sup54 = s.power.sup54 ∧
      (leaveLive s).power.supStr = s.power.supStr ∧ (leaveLive s).red.driveEn = false ∧
      (leaveLive s).red.role = .noRole ∧ (leaveLive s).eng.state = .dark := by
  obtain ⟨u, hpower, hdrive, h⟩ := leaveLive_eq s
  obtain ⟨_, _, _, _, _, _, _, _, hdark, hstate, -⟩ := engineDark_eq u
  obtain ⟨_, _, hm⟩ := setMState_frame
    { engineDark u with red.role := .noRole, red.holding := false, red.claimed := false } .watch
  rw [h, hm, hdark, ← hpower]
  exact ⟨rfl, rfl, rfl, hdrive, rfl, hstate⟩

/-! ## Supply commands (R472, R520, R528, R529) -/

/-- A module in hold-up (R528). -/
def heldUp (s : State) : State :=
  { engineDark (linkDieOff s) with
    power.mstate := .holdup, power.pfw := true, power.sup54 := false, power.supStr := false, power.flushed := false
    dic.staged := [], sec.queue := [], eng.learn := s.eng.checkpoint
    red.handover := if s.red.relSet then s.red.handover else none }

theorem powerFailWarning_heldUp {s : State} (h0 : s.power.mstate ≠ .noSupply) (hh : s.power.mstate ≠ .holdup) :
    exec .powerFailWarning s = .next (heldUp s) :=
  if_neg (not_or.mpr ⟨h0, hh⟩)

theorem heldUp_eq (s : State) : ∃ pulses lost drop ticks eng recQ ring seq, heldUp s = { s with
      power := { s.power with
        mstate := .holdup, pfw := true, flushed := false, sup54 := false, supStr := false
        pulseCount := pulses, xlost := lost, xdrop := drop, xTicks := ticks }
      eng := eng, dic.staged := [], sec.queue := [], red.handover := if s.red.relSet then s.red.handover else none
      red.linkUp := false, red.lanes := ⟨{ s.red.lanes.a with up := false }, { s.red.lanes.b with up := false }⟩
      net.cxl := 0, trc.recQ := recQ, recs.ring := ring, recs.seq := seq } ∧
    eng.state = .dark ∧ eng.started = none ∧ eng.holdFc = true := by
  obtain ⟨pulses, lost, drop, ticks, eng, recQ, ring, seq, hdark, heng⟩ := engineDark_eq (linkDieOff s)
  exact ⟨pulses, lost, drop, ticks, { eng with learn := s.eng.checkpoint }, recQ, ring, seq, by rw [heldUp, hdark]; rfl, heng⟩

/-- The flush writes its record, then the marked commit. -/
theorem holdupFlushComplete_flushed {s : State} (hh : s.power.mstate = .holdup) (hf : s.power.flushed = false) :
    ∃ body, exec .holdupFlushComplete s = .next
      (commitNow { writeRecB s 9 2 0x07 body with power.flushed := true } true) :=
  ⟨_, if_pos (by rw [hh, hf]; rfl)⟩

theorem holdupCommit_metered {s : State} (e : EpochIn) (hh : s.power.mstate = .holdup) (hf : s.power.flushed = true) :
    exec (.holdupCommit e) s = .next (commitNow (meterEpochs s e 10) true) :=
  if_pos (by rw [hh, hf]; rfl)

theorem supply54vOutOfRange_live {s : State} (h : s.power.mstate = .live) :
    exec .supply54vOutOfRange s = .next (leaveLive { s with power.sup54 := false, power.supStr := true }) := by
  show execSupply54vOutOfRange s = _
  simp only [execSupply54vOutOfRange, h]

theorem supply54vOutOfRange_watch {s : State} (h : s.power.mstate = .watch) :
    exec .supply54vOutOfRange s = .next { s with power.sup54 := false, power.supStr := true } := by
  show execSupply54vOutOfRange s = _
  simp only [execSupply54vOutOfRange, h]

theorem supply54vOutOfRange_recovery {s : State} (h : s.power.mstate = .recovery) :
    exec .supply54vOutOfRange s = .next (losePower { s with power.sup54 := false } .umbra) := by
  show execSupply54vOutOfRange s = _
  simp only [execSupply54vOutOfRange, h]

/-- Settles O1: each supply command by what it leaves in the state it takes. -/
theorem supplyCommandsMovePowerState : Obligations.SupplyCommandsMovePowerState := by
  unfold Obligations.SupplyCommandsMovePowerState
  refine ⟨fun s h => if_pos h, ?inRange, ?holdup, fun s h => supply54vOutOfRange_watch h, ?warning, ?flush, ?commit, ?live⟩
  case inRange =>
    intro b s h
    show execSupply54vInRange b s = _
    rcases h with h | h <;> rw [execSupply54vInRange, h]
  case holdup =>
    intro b s h
    show execSupply54vInRange b s = _
    rw [execSupply54vInRange, h]
  case warning =>
    intro s h0 hh
    obtain ⟨_, _, _, _, _, _, _, _, h, hstate, hstarted, hold⟩ := heldUp_eq s
    rw [powerFailWarning_heldUp h0 hh, h]
    exact ⟨_, rfl, rfl, rfl, rfl, rfl, hstate, hstarted, hold, rfl, rfl, fun hrel => if_neg (by simp [hrel]), rfl, rfl, rfl,
      rfl, rfl⟩
  case flush =>
    intro s hh hf
    obtain ⟨body, h⟩ := holdupFlushComplete_flushed hh hf
    obtain ⟨hrec, hframe⟩ := wrote_writeRecB s 9 2 0x07 body
    unfold RecordFrame at hframe
    refine ⟨_, h, ⟨hrec.congr rfl rfl rfl, ?_⟩, _, rfl, rfl, ?_⟩
    · unfold RecordFrame
      rw [hframe]
      rfl
    · rw [hframe]
      exact ⟨rfl, rfl, rfl, rfl, rfl⟩
  case commit =>
    intro e s hh hf
    exact ⟨_, holdupCommit_metered e hh hf, rfl, rfl, rfl, ⟨_, rfl, rfl, rfl, rfl, rfl, rfl⟩, rfl⟩
  case live =>
    intro s h
    exact ⟨_, supply54vOutOfRange_live h, leaveLive_left _⟩

/-! ## Loss of power (R471, R473, R474, R530) -/

/-- What a module in state `m` without its supply holds: no role, no lease, no drive, no link, no frame, an empty stack. -/
def Unpowered (m : MState) (t : State) : Prop :=
  t.power.mstate = m ∧ t.power.liveReq = false ∧ t.red.role = .noRole ∧ t.red.timerOk = false ∧ t.red.remain = 0 ∧
  t.red.driveEn = false ∧ t.red.driveReq = false ∧ t.cot.cmd = 0 ∧ t.cot.active = 0 ∧ t.cot.onTime = 0 ∧
  t.eng.state = .dark ∧ t.eng.started = none ∧ t.lead.isLead = false ∧ t.lead.drives = false ∧ t.net.dram = [] ∧
  t.net.cxl = 0 ∧ t.red.linkUp = false ∧ t.red.lanes.a.up = false ∧ t.red.lanes.b.up = false ∧
  t.net.txA = [] ∧ t.net.txB = [] ∧ t.net.onA = none ∧ t.net.onB = none

/-- `t` is `s` with at most what a loss of power touches changed. -/
def PowerFrame (s t : State) : Prop := t = { s with
  power := t.power, eng := t.eng, red := t.red, lead := t.lead, cot := t.cot, net := t.net, trc.recQ := t.trc.recQ
  recs.ring := t.recs.ring, recs.seq := t.recs.seq }

theorem stringOff_lost {s u : State} {m : MState} (x : Str) (h : Unpowered m u ∧ PowerFrame s u) :
    Unpowered m (stringOff u x) ∧ PowerFrame s (stringOff u x) := by
  obtain ⟨hlost, hframe⟩ := h
  obtain ⟨str, hstr⟩ := stringOff_frame u x
  rw [hstr]
  refine ⟨hlost, ?_⟩
  unfold PowerFrame at hframe ⊢
  rw [hframe]

theorem losePower_lost (s : State) (m : MState) : Unpowered m (losePower s m) ∧ PowerFrame s (losePower s m) := by
  have hrun : ∃ u : State, losePower s m = stringOff (stringOff u .A) .B ∧ Unpowered m u ∧ PowerFrame s u := by
    obtain ⟨_, _, _, _, _, _, _, _, hdark, -⟩ := engineDark_eq s
    refine ⟨_, rfl, ⟨rfl, rfl, rfl, rfl, rfl, rfl, rfl, rfl, rfl, rfl, rfl, rfl, rfl, rfl, rfl, rfl, rfl, rfl, rfl, rfl, rfl, rfl,
      rfl⟩, ?_⟩
    unfold PowerFrame dropDrive
    rw [hdark]
  obtain ⟨u, hu, hlost⟩ := hrun
  rw [hu]
  exact stringOff_lost .B (stringOff_lost .A hlost)

/-- Settles O2: each event loses the power of the state it takes, the input of 54 V apart. -/
theorem powerLossDropsDrivesAndMemory : Obligations.PowerLossDropsDrivesAndMemory := by
  unfold Obligations.PowerLossDropsDrivesAndMemory
  intro lost
  have hlost : ∀ s m, lost s m (losePower s m) := fun s m => by
    simpa only [Unpowered, PowerFrame, and_assoc] using losePower_lost s m
  refine ⟨fun s hw h54 hstr => ⟨_, if_pos ?fed, hlost s .umbra⟩,
    fun s hr => ⟨_, supply54vOutOfRange_recovery hr, hlost { s with power.sup54 := false } .umbra⟩,
    fun s hh h54 => ⟨_, if_pos ?cutoff, hlost s .noSupply⟩⟩
  case fed =>
    rw [hw, h54, hstr]
    rfl
  case cutoff =>
    rw [hh, h54]
    rfl

end Sys2Proof.Machine

/-! PROOFS. The mailbox commands (R408, R441, R451, R452, R462). -/
namespace Sys2Proof.Machine

/-! ## A command of a mailbox (R441, R451, R452, R462) -/

section MailboxCommand
variable {ld op : Nat} {s : State} (ho : cxlOn s = true) (hb : s.power.bridgeFailed.contains 3 = false)
include ho hb

/-- A mailbox that answers counts the command, then judges its device and its length. -/
theorem mailCmd_judged (hld : ld < 4) (lenOk : Bool) (f : State → State) : mailCmd ld op lenOk f s =
    if ld = 3 ∧ op ≠ 1 then .next (mailRefused (mailCount s (.ld ld)) ld op 2)
    else if !lenOk then .next (mailRefused (mailCount s (.ld ld)) ld op 1)
    else .next (f (mailCount s (.ld ld))) := by
  have hanswers : ¬ (!cxlOn s || decide (3 < ld)) = true := by simp [ho, Nat.le_of_lt_succ hld]
  have hjoined : ¬ mailCut s (.ld ld) = true := by
    rw [mailCut, hb]
    exact Bool.false_ne_true
  rw [mailCmd, if_neg hanswers, if_neg hjoined]

theorem mailCmd_done (hld : ld < 3) (f : State → State) :
    mailCmd ld op true f s = .next (f (mailCount s (.ld ld))) := by
  rw [mailCmd_judged ho hb (by omega), if_neg (by omega)]
  rfl

theorem mailCmd_badLength (hld : ld < 3) (f : State → State) :
    mailCmd ld op false f s = .next (mailRefused (mailCount s (.ld ld)) ld op 1) := by
  rw [mailCmd_judged ho hb (by omega), if_neg (by omega)]
  rfl

/-- LD3 takes Identify alone. -/
theorem mailCmd_notTaken (hop : op ≠ 1) (lenOk : Bool) (f : State → State) :
    mailCmd 3 op lenOk f s = .next (mailRefused (mailCount s (.ld 3)) 3 op 2) := by
  rw [mailCmd_judged ho hb (by decide), if_pos ⟨rfl, hop⟩]

theorem identify_done (hld : ld < 4) :
    exec (.identify ld true) s = .next (mailStandard ld 0x0001 (mailCount s (.ld ld))) := by
  show mailCmd ld 0x0001 true (mailStandard ld 0x0001) s = _
  rw [mailCmd_judged ho hb hld, if_neg fun h => h.2 rfl]
  rfl

/-- An opcode outside the list is refused by every mailbox. -/
theorem unsupportedCommand_refused (hld : ld < 4) (hop : op ∉ opcodes) :
    exec (.unsupportedCommand ld op) s = .next (mailRefused (mailCount s (.ld ld)) ld op 2) := by
  have hother : ¬ opcodes.contains op = true := by rwa [List.contains_iff_mem]
  show execUnsupportedCommand ld op s = _
  rw [execUnsupportedCommand, if_neg hother, mailCmd_judged ho hb hld]
  split <;> rfl

end MailboxCommand

theorem mailCmd_cut {ld op : Nat} {s : State} (ho : cxlOn s = true) (hb : s.power.bridgeFailed.contains 3 = true)
    (hld : ld < 4) (lenOk : Bool) (f : State → State) :
    mailCmd ld op lenOk f s = .next (mailDone (mailCount s (.ld ld)) ld op 3 []) := by
  have hanswers : ¬ (!cxlOn s || decide (3 < ld)) = true := by simp [ho, Nat.le_of_lt_succ hld]
  rw [mailCmd, if_neg hanswers, if_pos (by exact hb)]
  rfl

@[simp] theorem mailDone_dic (s : State) (ld op c : Nat) (payload : List Nat) :
    (mailDone s ld op c payload).dic = s.dic := pulse_dic s 8 _

theorem mailDone_dram (s : State) (ld op c : Nat) (payload : List Nat) :
    (mailDone s ld op c payload).net.dram = s.net.dram := (mailDone_keep s ld op c payload).1

/-- A refused command is counted as one that arrived and as one refused. -/
theorem mailRefused_counts (ld op c : Nat) (s : State) :
    dget (mailRefused (mailCount s (.ld ld)) ld op c) 0x1012 3 = satInc (dget s 0x1012 3) 0xFFFFFFFF ∧
      dget (mailRefused (mailCount s (.ld ld)) ld op c) 0x1012 4 = satInc (dget s 0x1012 4) 0xFFFFFFFF := by
  have hdone : ∀ o e, dget (mailDone (mailCount s (.ld ld)) ld op c []) o e = dget (bump s 0x1012 3) o e :=
    dget_congr (congrArg Dic.vals (mailDone_dic _ _ _ _ _))
  constructor
  · rw [mailRefused, dget_bump_ne _ _ _ (by decide), hdone, dget_bump_self]
  · rw [mailRefused, dget_bump_self, hdone, dget_bump_ne _ _ _ (by decide)]

/-- The windows of LD0, LD1 and LD2 (R441). -/
theorem ldSize_eq {ld : Nat} (h : ld < 3) : ldSize ld = (if ld = 0 then 24 else if ld = 1 then 8 else 1) * 2 ^ 30 := by
  interval_cases ld <;> rfl

/-! ## Owner staging writes (R367, R451) -/

/-- The command is counted, and the session notes its message. -/
def stagingHeard (s : State) (ld : Nat) (k : Session) : State :=
  updSession (mailCount s (.ld ld)) k.number (fun k => { k with rx := k.rx + 1, tx := k.tx + 1, used := s.epo.ticks })

theorem stagingHeard_frame (s : State) (ld : Nat) (k : Session) : ∃ sessions vals,
    stagingHeard s ld k = { s with sec.sessions := sessions, dic.vals := vals } := ⟨_, _, rfl⟩

/-- A staging write in its session answers its code, and stores its bytes where the code is 0. -/
theorem ownerStagingWrite_answered {ld n off c : Nat} {k : Session} {data : List Byte} {s : State} (ho : cxlOn s = true)
    (hb : s.power.bridgeFailed.contains 3 = false) (hld : ld < 3) (hk : findSession s n = some k) (hl : k.link = .ld ld)
    (hc : stagingCode s k off data.length = c) : exec (.ownerStagingWrite ld true (some n) (k.rx + 1) true off data) s =
      .next (mailDone (if c = 0 then dramBytes (stagingHeard s ld k) (ownerStaging + off) data else stagingHeard s ld k)
        ld 0xC010 0 [c]) := by
  have hsession : mailSession (mailCount s (.ld ld)) ld (some n) = some k := by
    have hk' : findSession (mailCount s (.ld ld)) n = some k := hk
    simp only [mailSession, hk', hl, if_true]
  have hcode : stagingCode (mailCount s (.ld ld)) k off data.length = c := hc
  show mailCmd ld 0xC010 true (stagingWrite ld (some n) (k.rx + 1) true off data) s = _
  rw [mailCmd_done ho hb hld]
  simp only [stagingWrite, hsession, hcode, ne_eq, not_true_eq_false, Bool.not_true, Bool.false_eq_true, if_false]
  rfl

/-- Where the code is not 0, nothing is stored. -/
theorem ownerStagingWrite_notStored {ld n off c : Nat} {k : Session} {data : List Byte} {s : State} (ho : cxlOn s = true)
    (hb : s.power.bridgeFailed.contains 3 = false) (hld : ld < 3) (hk : findSession s n = some k) (hl : k.link = .ld ld)
    (hc : stagingCode s k off data.length = c) (h0 : c ≠ 0) : ∃ t,
    exec (.ownerStagingWrite ld true (some n) (k.rx + 1) true off data) s = .next t ∧
    t.net.mailOut = some { ld := ld, opcode := 0xC010, code := 0, payload := [c] } ∧ t.net.dram = s.net.dram := by
  rw [ownerStagingWrite_answered ho hb hld hk hl hc, if_neg h0]
  exact ⟨_, rfl, rfl, mailDone_dram _ _ _ _ _⟩

theorem stagingCode_role {k : Session} (s : State) (off len : Nat) (h : k.role ≠ .owner) :
    stagingCode s k off len = 0x02 :=
  if_pos h

theorem stagingCode_beyond {k : Session} (s : State) {off len : Nat} (h : k.role = .owner) (hlen : slotBytes < off + len) :
    stagingCode s k off len = 0x03 := by
  rw [stagingCode, if_neg (not_not.mpr h), if_pos hlen]

theorem stagingCode_within {k : Session} (s : State) {off len : Nat} (h : k.role = .owner) (hlen : off + len ≤ slotBytes) :
    stagingCode s k off len = if inLive s then 0 else 0x09 := by
  rw [stagingCode, if_neg (not_not.mpr h), if_neg (Nat.not_lt.mpr hlen)]

theorem ownerStagingWrite_stored {n off : Nat} {k : Session} {data : List Byte} {s : State} (h : s.power.mstate = .live)
    (hb : s.power.bridgeFailed.contains 3 = false) (hk : findSession s n = some k) (hl : k.link = .ld 0)
    (hr : k.role = .owner) (hlen : off + data.length ≤ 0x90000000) : ∃ t,
    exec (.ownerStagingWrite 0 true (some n) (k.rx + 1) true off data) s = .next t ∧
    t.net.mailOut = some { ld := 0, opcode := 0xC010, code := 0, payload := [0] } ∧
    t.net.dram = memWriteAll s.net.dram (ownerStaging + off) data ∧
    (s.net.cxl = 2 → t = { s with
      net.dram := t.net.dram, net.mailOut := t.net.mailOut, sec.sessions := t.sec.sessions, dic.vals := t.dic.vals }) := by
  have hcode : stagingCode s k off data.length = 0 := by
    rw [stagingCode_within s hr hlen, if_pos (by rw [inLive, h]; rfl)]
  obtain ⟨sessions, vals, hheard⟩ := stagingHeard_frame s 0 k
  rw [ownerStagingWrite_answered (cxlOn_of_live h) hb (by decide) hk hl hcode, if_pos rfl, hheard]
  generalize hu : dramBytes { s with sec.sessions := sessions, dic.vals := vals } (ownerStaging + off) data = u
  refine ⟨_, rfl, rfl, ?_, fun hup => ?_⟩
  · rw [mailDone_dram, ← hu]
    rfl
  · have hcxl : u.net.cxl = 2 := by
      rw [← hu]
      exact hup
    rw [mailDone_of_up hcxl, ← hu]
    rfl

/-- Settles O39: each command by what its mailbox answers. -/
theorem mailboxCommands : Obligations.MailboxCommands := by
  unfold Obligations.MailboxCommands
  refine ⟨fun ld s ho hb hld => identify_done ho hb hld, ?done, ?badLength, ?notTaken,
    fun ld op s ho hb hld hop => unsupportedCommand_refused ho hb hld hop, ?counts, ?stored, ?role, ?beyond, ?watch,
    fun ld r s hld => if_pos (by simpa using hld), ?cut, ?read⟩
  case done =>
    intro ld s ho hb hld
    refine ⟨(mailCmd_done ho hb hld _ : execGetEventRecords ld true s = _),
      fun hs => (mailCmd_done ho hb hld _ : execClearEventRecords ld true hs s = _),
      (mailCmd_done ho hb hld _ : execGetEventInterruptPolicy ld true s = _),
      fun p => (mailCmd_done ho hb hld _ : execSetEventInterruptPolicy ld true p s = _),
      (mailCmd_done ho hb hld _ : execGetFwInfo ld true s = _),
      (mailCmd_done ho hb hld _ : execGetSupportedLogs ld true s = _),
      (mailCmd_done ho hb hld _ : execGetLog ld true s = _), ?size,
      (mailCmd_done ho hb hld _ : execGetHealthInfo ld true s = _),
      (mailCmd_done ho hb hld _ : execGetPoisonList ld true s = _)⟩
    rw [← ldSize_eq hld]
    exact (mailCmd_done ho hb hld _ : execIdentifyMemoryDevice ld true s = _)
  case badLength =>
    intro ld s ho hb hld
    exact ⟨mailCmd_badLength ho hb hld _, mailCmd_badLength ho hb hld _, fun r => mailCmd_badLength ho hb hld (fun t => t)⟩
  case notTaken =>
    intro b s ho hb
    show execGetFwInfo 3 b s = _
    exact mailCmd_notTaken ho hb (by decide) b _
  case counts =>
    intro ld op c s
    obtain ⟨harrived, hrefused⟩ := mailRefused_counts ld op c s
    exact ⟨harrived, hrefused, rfl⟩
  case stored =>
    intro n off k data s h hb hk hl hr hlen
    obtain ⟨t, ht, hout, hdram, hframe⟩ := ownerStagingWrite_stored h hb hk hl hr hlen
    refine ⟨t, ht, hout, fun i hi => ?_, fun a ha => ?_, hframe⟩
    · rw [hdram, memRead_memWriteAll_of_inside _ _ _ _ hi]
    · rw [hdram, memRead_memWriteAll_of_outside _ _ _ _ ha]
  case role =>
    intro ld n off k data s ho hb hld hk hl hr
    exact ownerStagingWrite_notStored ho hb hld hk hl (stagingCode_role s off _ hr) (by decide)
  case beyond =>
    intro n off k data s ho hb hk hl hr hlen
    exact ownerStagingWrite_notStored ho hb (by decide) hk hl (stagingCode_beyond s hr hlen) (by decide)
  case watch =>
    intro n off k data s h hb hk hl hr hlen
    have hcode : stagingCode s k off data.length = 0x09 := by
      rw [stagingCode_within s hr hlen, if_neg (by rw [inLive, h]; decide)]
    exact ownerStagingWrite_notStored (by rw [cxlOn, h]; rfl) hb (by decide) hk hl hcode (by decide)
  case cut =>
    intro ld b s ho hb hld
    exact ⟨(mailCmd_cut ho hb hld b _ : execIdentify ld b s = _), (mailCmd_cut ho hb hld b _ : execGetLog ld b s = _)⟩
  case read =>
    intro ld r q d role k s hld hq ht hf hd hm hh hn hl hlen
    have hrow : exec (.dictionaryPlain ld true r) s = request q none s := by
      rw [hq]
      exact if_pos (by simpa using hld)
    have hbytes : readBytes (counted s q) q d = elemsBytes d q.object (firstOf q) q.count (readVal (counted s q)) := by
      obtain ⟨-, -, -, hop, -⟩ := hf
      simp [readBytes, hop]
    obtain ⟨t, hx, hreply, -⟩ :=
      read_answered ht hf (by decide) (by decide) (by decide) hd hm hh hn hl (hbytes ▸ hlen) rfl
    exact ⟨t, hrow.trans hx, hreply⟩

end Sys2Proof.Machine

/-! PROOFS. The checks on a received frame (R414, R424, R425). -/
namespace Sys2Proof.Machine

/-! ## A frame noted and a bad frame (R87, R408, R424, R437) -/

/-- What the receiver notes of a frame: the line's occupancy, and whether acknowledgements are suppressed. -/
def noted (s : State) (log : List (Nat × Nat × Nat)) (off : Bool) : State :=
  { s with net.rxLog := log, lead.ackOff := off }

@[simp] theorem dget_noted (s : State) (log : List (Nat × Nat × Nat)) (off : Bool) (o e : Nat) :
    dget (noted s log off) o e = dget s o e := rfl

theorem rxNote_noted (s : State) (c : Chan) (n : Nat) : ∃ log off, rxNote s c n = noted s log off := by
  unfold rxNote ackUpdate
  dsimp only
  split
  · exact ⟨_, _, rfl⟩
  · split <;> exact ⟨_, _, rfl⟩

/-- `t` is `s` with at most the network's notes changed, and an event or a warning written. -/
def NotedFrame (s t : State) : Prop := t = { s with net := t.net, recs.ring := t.recs.ring, recs.seq := t.recs.seq }

theorem NotedFrame.ite {s t u : State} {p : Prop} [Decidable p] (h : NotedFrame s t) (k : NotedFrame s u) :
    NotedFrame s (if p then t else u) := by
  split
  · exact h
  · exact k

theorem notedFrame_fnRec (s : State) (net : Net) (c body : Nat) : NotedFrame s (fnRec { s with net := net } 1 c body) := by
  obtain ⟨ring, seq, hrec⟩ := writeRecB_frame_of_lt { s with net := net } 6 c body (v := 1) (by decide)
  rw [fnRec, hrec]
  rfl

/-- A bad frame is counted in the element of its kind; beside that it is noted, and may be recorded. -/
theorem badFrame_frame (s : State) (h : Hdr) (kind : Nat) :
    NotedFrame (bump s 0x1002 (2 + kind)) (badFrame s h kind) :=
  .ite (notedFrame_fnRec (bump s 0x1002 (2 + kind)) _ _ _) rfl

/-! ## The checks on a key frame (R416, R424, R425) -/

/-- A key frame is no CAN FD frame: its source is its header's own (R414). -/
theorem sourced_of_key {h : Hdr} (s : State) (hid : h.ident = 0x020) (hk : frameKnown h = true) : sourced s h = h := by
  have hfd : h.fd = false := by
    simp only [frameKnown, hid, Bool.and_eq_true] at hk
    obtain ⟨-, hfd⟩ := hk
    simpa using hfd
  rw [sourced, hfd]
  rfl

/-- The checks on a frame of the identifier of key frames, in the order of R424. -/
theorem keyFrame_checked {s : State} {h : Hdr} (p : KeyChunk) (hid : h.ident = 0x020) (hk : frameKnown h = true) :
    ∃ log off f, exec (.keyFrame h p) s = .next (
      let u := noted s log off
      let e := extendEpoch s h.epoch
      if !enrolledNode s h.src then badFrame (bump u 0x1002 0) h 1
      else if !(tagOk s e h.tag || zeroOk s h) then badFrame (bump u 0x1002 0) h 0
      else if mget s.sec.fresh (pairKey h) = pairOf h e then u
      else if mget s.sec.fresh (pairKey h) < pairOf h e && inEpochs s e false then f
      else bump (bump u 0x1002 0) 0x1002 4) := by
  obtain ⟨log, off, hnote⟩ := rxNote_noted s h.chan 72
  have hpass : ¬ (!frameKnown h || !(h.ident == 0x020)) = true := by simp [hk, hid]
  have hrow : exec (.keyFrame h p) s = .next (receive s h 72 (h.ident == 0x020) false true false (fun s _ =>
      if s.lead.holder == some h.src then takeChunk s p else s)) := rfl
  unfold receive at hrow
  dsimp only at hrow
  rw [sourced_of_key s hid hk, hnote, if_neg hpass] at hrow
  exact ⟨log, off, _, hrow⟩

/-- A frame of another identifier is counted as received and as unknown. -/
theorem keyFrame_unknown {s : State} {h : Hdr} (p : KeyChunk) (hid : h.ident ≠ 0x020) :
    ∃ log off, exec (.keyFrame h p) s = .next (bump (bump (noted s log off) 0x1002 0) 0x1002 5) := by
  obtain ⟨log, off, hnote⟩ := rxNote_noted s (sourced s h).chan 72
  have hfail : (!frameKnown (sourced s h) || !(h.ident == 0x020)) = true := by simp [hid]
  refine ⟨log, off, ?_⟩
  show Host.Outcome.next (receive s h 72 (h.ident == 0x020) false true false _) = _
  unfold receive
  dsimp only
  rw [hnote, if_pos hfail]

/-- A frame that is received and fails a check is counted under both. -/
theorem dget_received_failed (s : State) (log : List (Nat × Nat × Nat)) (off : Bool) {e : Nat}
    (he : dkey 0x1002 e ≠ dkey 0x1002 0) :
    dget (bump (bump (noted s log off) 0x1002 0) 0x1002 e) 0x1002 e = satInc (dget s 0x1002 e) 0xFFFFFFFF := by
  rw [dget_bump_self, dget_bump_ne _ _ _ he, dget_noted]

theorem failed_received (s : State) (log : List (Nat × Nat × Nat)) (off : Bool) {e : Nat}
    (he : dkey 0x1002 e ≠ dkey 0x1002 0) :
    let t := bump (bump (noted s log off) 0x1002 0) 0x1002 e
    dget t 0x1002 e = satInc (dget s 0x1002 e) 0xFFFFFFFF ∧ t.sec = s.sec ∧
      t = { s with dic.vals := t.dic.vals, net.rxLog := t.net.rxLog, lead.ackOff := t.lead.ackOff } := by
  intro t
  have hcount : dget t 0x1002 e = _ := dget_received_failed s log off he
  obtain ⟨vals, hframe⟩ : ∃ vals, t = { noted s log off with dic.vals := vals } := ⟨_, rfl⟩
  clear_value t
  refine ⟨hcount, ?_, ?_⟩
  · rw [hframe]
    rfl
  · rw [hframe]
    rfl

/-- A bad frame of a stranger, or with a bad tag, is counted; neither the chunks collected nor the freshness kept change. -/
theorem badFrame_received {s : State} {log : List (Nat × Nat × Nat)} {off : Bool} (h : Hdr) {kind : Nat}
    (he : dkey 0x1002 (2 + kind) ≠ dkey 0x1002 0) :
    let t := badFrame (bump (noted s log off) 0x1002 0) h kind
    dget t 0x1002 (2 + kind) = satInc (dget s 0x1002 (2 + kind)) 0xFFFFFFFF ∧ t.sec.keyChunks = s.sec.keyChunks ∧
      t.sec.fresh = s.sec.fresh ∧
      t = { s with
        dic.vals := t.dic.vals, net := t.net, lead.ackOff := t.lead.ackOff, recs := t.recs, trc := t.trc, sec := t.sec } := by
  intro t
  have hframe : NotedFrame _ t := badFrame_frame (bump (noted s log off) 0x1002 0) h kind
  have hcount := dget_received_failed s log off he
  obtain ⟨vals, hbumped⟩ : ∃ vals, bump (bump (noted s log off) 0x1002 0) 0x1002 (2 + kind) =
    { noted s log off with dic.vals := vals } := ⟨_, rfl⟩
  unfold NotedFrame at hframe
  rw [hbumped] at hframe hcount
  clear_value t
  have hvals : t.dic.vals = vals := by rw [hframe]
  refine ⟨(dget_congr hvals _ _).trans hcount, ?_⟩
  rw [hframe]
  exact ⟨rfl, rfl, rfl⟩

/-- Settles O31: the checks in their order, each by the first that fails. -/
theorem frameChecksInOrder : Obligations.FrameChecksInOrder := by
  unfold Obligations.FrameChecksInOrder
  intro s h p
  refine ⟨fun hid => ?ident, fun hid hk hnode => ?stranger, fun hid hk hnode htag hzero => ?tag,
    fun hid hk hnode htag hsame => ?copy, fun hid hk hnode htag hold => ?stale, fun hk => ?unknown⟩
  case ident =>
    obtain ⟨log, off, ht⟩ := keyFrame_unknown (s := s) p hid
    refine ⟨_, ht, ?_, failed_received s log off (e := 5) (by decide)⟩
    rw [dget_bump_ne _ _ _ (by decide), dget_bump_self, dget_noted]
  case stranger =>
    obtain ⟨log, off, f, ht⟩ := keyFrame_checked (s := s) p hid hk
    simp only [hnode, Bool.not_false, if_true] at ht
    exact ⟨_, ht, badFrame_received h (kind := 1) (by decide)⟩
  case tag =>
    obtain ⟨log, off, f, ht⟩ := keyFrame_checked (s := s) p hid hk
    simp only [hnode, htag, hzero, Bool.not_true, Bool.or_false, Bool.not_false, Bool.false_eq_true, if_false, if_true] at ht
    exact ⟨_, ht, badFrame_received h (kind := 0) (by decide)⟩
  case copy =>
    obtain ⟨log, off, f, ht⟩ := keyFrame_checked (s := s) p hid hk
    simp only [hnode, htag, hsame, Bool.not_true, Bool.true_or, Bool.false_eq_true, if_false, if_true] at ht
    exact ⟨_, ht, rfl⟩
  case stale =>
    obtain ⟨log, off, f, ht⟩ := keyFrame_checked (s := s) p hid hk
    simp only [hnode, htag, Nat.ne_of_gt hold, Nat.not_lt_of_gt hold, decide_false, Bool.false_and, Bool.not_true,
      Bool.true_or, Bool.false_eq_true, if_false] at ht
    exact ⟨_, ht, failed_received s log off (e := 4) (by decide)⟩
  case unknown =>
    have hrow : exec (.unknownFrame h) s = .next (bump (bump s 0x1002 0) 0x1002 5) := by
      show execUnknownFrame h s = _
      rw [execUnknownFrame, hk, if_neg Bool.false_ne_true]
    obtain ⟨vals, hframe⟩ : ∃ vals, bump (bump s 0x1002 0) 0x1002 5 = { s with dic.vals := vals } := ⟨_, rfl⟩
    refine ⟨_, hrow, ?_, ?_⟩
    · rw [dget_bump_self, dget_bump_ne _ _ _ (by decide)]
    · rw [hframe]

end Sys2Proof.Machine

/-! PROOFS. Every command runs (O54): each meaning ends, on every path, in a next state. A conditional answers a next state when
both its branches do, so a meaning that is a tree of conditionals is settled by the shape of that tree; the meanings that split
on a value, and the writes that run several meanings in turn, have a lemma each. Only the CXL.mem accesses can end in a fault. -/

namespace Sys2Proof.Machine

/-! ## The ways to answer a next state -/

theorem Safe.next {t : State} : Safe (.next t) := ⟨t, rfl⟩

theorem Safe.ite {p : Prop} [Decidable p] {x y : Out} (hx : Safe x) (hy : Safe y) : Safe (if p then x else y) := by
  split
  · exact hx
  · exact hy

theorem Safe.andThen {o : Out} {f : State → Out} (ho : Safe o) (hf : ∀ u, Safe (f u)) : Safe (andThen o f) := by
  obtain ⟨u, rfl⟩ := ho
  exact hf u

theorem requestIn_safe (r : Req) (img : Option Sig) (s : State) : Safe (requestIn r img s) := by
  unfold requestIn
  refine .ite .next ?_
  split <;> exact .next

theorem request_safe (r : Req) (img : Option Sig) (s : State) : Safe (request r img s) :=
  .ite .next (.ite .next (.ite .next (.ite (requestIn_safe _ _ _) .next)))

theorem mailCmd_safe (ld op : Nat) (lenOk : Bool) (f : State → State) (s : State) : Safe (mailCmd ld op lenOk f s) :=
  .ite .next (.ite .next (.ite .next (.ite .next .next)))

/-! ## The meanings that split on a value -/

theorem execSupply54vInRange_safe (b : BootIn) (s : State) : Safe (execSupply54vInRange b s) := by
  unfold execSupply54vInRange
  split <;> exact .next

theorem execSupply54vOutOfRange_safe (s : State) : Safe (execSupply54vOutOfRange s) := by
  unfold execSupply54vOutOfRange
  dsimp only
  split <;> exact .next

theorem execModuleRestart_safe (b : BootIn) (s : State) : Safe (execModuleRestart b s) := by
  unfold execModuleRestart
  split
  case h_3 => exact .ite .next .next
  all_goals exact .next

theorem execSignatureComplete_safe (s : State) : Safe (execSignatureComplete s) := by
  unfold execSignatureComplete
  split
  · exact .next
  · exact .ite .next .next

theorem execLpEnd_safe (c : Ctx) (s : State) : Safe (execLpEnd c s) := by
  unfold execLpEnd
  refine .ite ?_ .next
  cases c <;> exact .next

theorem execPhaseShed_safe (x : Str) (s : State) : Safe (execPhaseShed x s) := by
  unfold execPhaseShed
  refine .ite .next (.ite .next ?_)
  split <;> exact .next

theorem execFrameTransmit_safe (c : Chan) (clock : Nat) (s : State) : Safe (execFrameTransmit c clock s) := by
  unfold execFrameTransmit
  refine .ite .next ?_
  split
  · exact .next
  · exact .ite .next .next

theorem execFrameTransmitComplete_safe (c : Chan) (s : State) : Safe (execFrameTransmitComplete c s) := by
  unfold execFrameTransmitComplete
  split
  · exact .next
  · dsimp only
    split <;> exact .next

theorem execLeadElection_safe (newKey : Nat) (s : State) : Safe (execLeadElection newKey s) := by
  unfold execLeadElection
  split
  · exact .next
  · refine .ite .next ?_
    split
    · exact .ite .next .next
    · exact .ite .next .next

theorem execHoldRelease_safe (s : State) : Safe (execHoldRelease s) := by
  unfold execHoldRelease
  split
  · exact .next
  · exact .ite .next .next

/-- The end of a key request: the key that follows goes out too where there is one. -/
theorem keyNextSent_safe (s : State) (node : Nat) : Safe (match s.sec.keyNext with
    | none => .next s
    | some k => .next (keyFramesTo s k s.sec.keySwitch node)) := by
  split <;> exact .next

theorem execKeyRequest_safe (h : Hdr) (node : Nat) (s : State) : Safe (execKeyRequest h node s) :=
  .ite .next (.ite (keyNextSent_safe _ _) .next)

theorem execSessionOpen_safe (q : SessIn) (s : State) : Safe (execSessionOpen q s) := by
  unfold execSessionOpen
  refine .ite .next (.ite .next (.ite .next (.ite .next ?_)))
  split
  · exact .next
  · dsimp only
    split <;> exact .next

theorem execSessionMessage_safe (n counter : Nat) (authOk : Bool) (r : Req) (s : State) :
    Safe (execSessionMessage n counter authOk r s) := by
  unfold execSessionMessage
  refine .ite .next (.ite .next ?_)
  dsimp only
  split
  · exact .next
  · exact .ite .next (.ite .next (.ite .next (requestIn_safe _ _ _)))

theorem execRefreshDone_safe (sramFixed dramFixed : Nat) (inferred : List (Nat × Nat)) (s : State) :
    Safe (execRefreshDone sramFixed dramFixed inferred s) := by
  unfold execRefreshDone
  split
  · exact .next
  · exact .ite .next (.ite .next (.ite .next .next))

theorem execTrainingPair_safe (s : State) : Safe (execTrainingPair s) := by
  unfold execTrainingPair
  refine .ite .next ?_
  split
  · exact .next
  · exact .ite .next .next

theorem execLearningStep_safe (s : State) : Safe (execLearningStep s) := by
  unfold execLearningStep
  dsimp only
  split
  · exact .ite .next (.ite .next .next)
  · exact .next

theorem execReshardShadowCompare_safe (upset : Bool) (s : State) : Safe (execReshardShadowCompare upset s) := by
  unfold execReshardShadowCompare
  split
  · exact .next
  · exact .ite .next (.ite .next .next)

theorem execDrillEnd_safe (s : State) : Safe (execDrillEnd s) := by
  unfold execDrillEnd
  refine .ite ?_ (.ite .next .next)
  split
  · exact .next
  · exact .ite .next .next

theorem execUnlockExpiry_safe (s : State) : Safe (execUnlockExpiry s) := by
  unfold execUnlockExpiry
  split
  · exact .next
  · exact .ite .next .next

theorem execPassphraseRefusalEnd_safe (s : State) : Safe (execPassphraseRefusalEnd s) := by
  unfold execPassphraseRefusalEnd
  split
  · exact .ite .next .next
  · exact .next

theorem execPassphraseDurationEnd_safe (n : Nat) (s : State) : Safe (execPassphraseDurationEnd n s) := by
  unfold execPassphraseDurationEnd
  split
  · exact .next
  · exact .ite .next .next

theorem execRecorderAutoStop_safe (s : State) : Safe (execRecorderAutoStop s) := by
  unfold execRecorderAutoStop
  split
  · exact .ite .next .next
  · exact .next

theorem execCxlLinkChange_safe (ev : CxlEvent) (s : State) : Safe (execCxlLinkChange ev s) := by
  unfold execCxlLinkChange
  refine .ite .next ?_
  cases ev
  case up => exact .ite .next .next
  all_goals exact .next

theorem execPllLockLoss_safe (p : Pll) (s : State) : Safe (execPllLockLoss p s) := by
  cases p
  case control => exact .ite .next .next
  all_goals exact .next

theorem execLeaseWordReceived_safe (onLine : Bool) (w : Word) (hello : Option PeerHello) (s : State) :
    Safe (execLeaseWordReceived onLine w hello s) := by
  unfold execLeaseWordReceived
  refine .ite .next ?_
  dsimp only
  cases hello <;> exact .ite .next (.ite .next (.ite .next .next))

theorem execSiderealRead_safe (core : Core5) (s : State) : Safe (execSiderealRead core s) := by
  unfold execSiderealRead
  exact .ite .next .next

/-! ## The interrupt controller -/

theorem execIcuClaim_safe (t : Core5) (s : State) : Safe (execIcuClaim t s) := by
  unfold execIcuClaim
  dsimp only
  split <;> exact .next

theorem execIcuXsig_safe (t : Core5) (target source : Nat) (s : State) : Safe (execIcuXsig t target source s) := by
  unfold execIcuXsig
  dsimp only
  split
  · exact .next
  · exact .ite .next .next

theorem execIcuFaultClear_safe (core : Core5) (s : State) : Safe (execIcuFaultClear core s) := by
  unfold execIcuFaultClear
  refine .ite .next ?_
  dsimp only
  split <;> exact .next

theorem execIcuRouteWrite_safe (core : Core5) (i route : Nat) (s : State) : Safe (execIcuRouteWrite core i route s) :=
  .ite .next (.ite .next (.ite .next .next))

/-! ## Register accesses -/

theorem csrRead_safe (s : State) (core : Core5) (addr : Nat) : Safe (csrRead s core addr) :=
  .ite (execIcuClaim_safe _ _) (.ite .next (.ite .next (.ite .next .next)))

theorem execReadClearRegister_safe (core : Core5) (addr : Nat) (s : State) : Safe (execReadClearRegister core addr s) :=
  .ite (csrRead_safe _ _ _) (.ite .next .next)

theorem execCotEna_safe (core : Core5) (x : Str) (on : Bool) (s : State) : Safe (execCotEna core x on s) :=
  .ite .next (.ite .next (.ite .next .next))

theorem execCotStart_safe (core : Core5) (x : Str) (s : State) : Safe (execCotStart core x s) :=
  .ite .next (.ite .next .next)

theorem execCotLatclr_safe (core : Core5) (x : Str) (s : State) : Safe (execCotLatclr core x s) :=
  .ite .next (.ite .next .next)

theorem execCotOvclr_safe (core : Core5) (s : State) : Safe (execCotOvclr core s) :=
  .ite .next (.ite .next .next)

theorem execCotShedEn_safe (core : Core5) (on : Bool) (s : State) : Safe (execCotShedEn core on s) := .ite .next .next

theorem writeCtrlStr_safe (x : Str) (v : Nat) {o : Out} (h : Safe o) : Safe (writeCtrlStr x v o) := by
  have hena : Safe (andThen o (execCotEna .rt x (bit v x.idx))) := h.andThen fun u => execCotEna_safe .rt x _ u
  have hstart : Safe (if bit v (2 + x.idx) then
      andThen (andThen o (execCotEna .rt x (bit v x.idx))) (execCotStart .rt x)
      else andThen o (execCotEna .rt x (bit v x.idx))) :=
    .ite (hena.andThen fun u => execCotStart_safe .rt x u) hena
  exact .ite (hstart.andThen fun u => execCotLatclr_safe .rt x u) hstart

theorem writeCotCtrl_safe (s : State) (v : Nat) : Safe (writeCotCtrl s v) := by
  have h : Safe (writeCtrlStr .B v (writeCtrlStr .A v (execCotShedEn .rt (bit v 4) s))) :=
    writeCtrlStr_safe .B v (writeCtrlStr_safe .A v (execCotShedEn_safe .rt _ s))
  exact .ite (h.andThen fun u => execCotOvclr_safe .rt u) h

theorem execContactorMainCommand_safe (core : Core5) (x : Str) (on : Bool) (s : State) :
    Safe (execContactorMainCommand core x on s) :=
  .ite .next (.ite .next .next)

theorem execContactorPrechargeCommand_safe (core : Core5) (x : Str) (on : Bool) (s : State) :
    Safe (execContactorPrechargeCommand core x on s) :=
  .ite .next (.ite .next .next)

theorem writeCont_safe (v : Nat) (x : Str) {o : Out} (h : Safe o) : Safe (writeCont v x o) :=
  .andThen (.andThen h fun u => .ite .next (execContactorPrechargeCommand_safe .rt x _ u))
    fun u => .ite .next (execContactorMainCommand_safe .rt x _ u)

theorem writeCot_safe (s : State) (off v : Nat) : Safe (writeCot s off v) :=
  .ite (writeCotCtrl_safe s v) (.ite .next (.ite .next (.ite (.ite .next (.ite .next .next)) (.ite .next
    (.ite (writeCont_safe v .B (writeCont_safe v .A .next)) (.ite .next .next))))))

theorem execLpeRun_safe (core : Core5) (on : Bool) (s : State) : Safe (execLpeRun core on s) :=
  .ite .next (.ite .next .next)

theorem execLpeSelreq_safe (core : Core5) (s : State) : Safe (execLpeSelreq core s) := .ite .next (.ite .next .next)

theorem execLpeFixrst_safe (core : Core5) (s : State) : Safe (execLpeFixrst core s) := .ite .next (.ite .next .next)

theorem writeLpeCtrl_safe (s : State) (v : Nat) : Safe (writeLpeCtrl s v) := by
  have hrun := execLpeRun_safe .rt (bit v 0) { s with lpe.shadowEn := bit v 2, lpe.selCh := bit v 3 }
  have hsel : Safe (if bit v 4 then
      andThen (execLpeRun .rt (bit v 0) { s with lpe.shadowEn := bit v 2, lpe.selCh := bit v 3 }) (execLpeSelreq .rt)
      else execLpeRun .rt (bit v 0) { s with lpe.shadowEn := bit v 2, lpe.selCh := bit v 3 }) :=
    .ite (hrun.andThen fun u => execLpeSelreq_safe .rt u) hrun
  exact .ite (hsel.andThen fun u => execLpeFixrst_safe .rt u) hsel

theorem writeLpe_safe (s : State) (off v : Nat) : Safe (writeLpe s off v) := .ite (writeLpeCtrl_safe s v) (.ite .next .next)

theorem writeGrd_safe (s : State) (off v : Nat) : Safe (writeGrd s off v) :=
  .ite .next (.ite (.ite .next (.ite .next .next)) .next)

theorem writeAonClk_safe (s : State) (v : Nat) : Safe (writeAonClk s v) := .ite .next (.ite .next .next)

theorem writeAon_safe (s : State) (off v : Nat) : Safe (writeAon s off v) :=
  .ite (.ite .next (.ite .next (.ite .next .next))) (.ite (writeAonClk_safe s v) (.ite .next (.ite .next .next)))

theorem writeIcu_safe (s : State) (off v : Nat) : Safe (writeIcu s off v) :=
  .ite (.ite (execIcuFaultClear_safe .rt s) .next) (.ite .next (.ite (.ite .next (.ite .next .next))
    (.ite (execIcuRouteWrite_safe .rt _ v s) .next)))

theorem blockWrite_safe (s : State) (addr v : Nat) : Safe (blockWrite s addr v) := by
  unfold blockWrite
  exact .ite (writeIcu_safe _ _ _) (.ite (writeCot_safe _ _ _) (.ite (writeLpe_safe _ _ _) (.ite (writeGrd_safe _ _ _)
    (.ite (writeAon_safe _ _ _) .next))))

theorem execEngAperWrite_safe (core : Core5) (value : Word) (s : State) : Safe (execEngAperWrite core value s) :=
  .ite .next (.ite .next .next)

theorem execIcuComplete_safe (t : Core5) (v : Nat) (s : State) : Safe (execIcuComplete t v s) := .ite .next (.ite .next .next)

theorem execIcuSswp_safe (t : Core5) (v : Nat) (s : State) : Safe (execIcuSswp t v s) := .ite .next .next

theorem csrWrite_safe (s : State) (core : Core5) (addr v : Nat) : Safe (csrWrite s core addr v) :=
  .ite (execIcuComplete_safe _ _ _) (.ite .next (.ite .next (.ite (execIcuSswp_safe _ _ _)
    (.ite (execIcuXsig_safe _ _ _ _) .next))))

theorem writeMap_safe (s : State) (core : Core5) (addr v : Nat) : Safe (writeMap s core addr v) :=
  .ite (blockWrite_safe _ _ _) (.ite .next (.ite .next (.ite (execEngAperWrite_safe _ _ _) (.ite .next .next))))

theorem execRegisterWrite_safe (core : Core5) (addr : Nat) (value : Word) (s : State) :
    Safe (execRegisterWrite core addr value s) :=
  .ite (csrWrite_safe _ _ _ _) (.ite (writeMap_safe _ _ _ _) .next)

/-! ## The CXL.mem accesses -/

/-- A CXL.mem access beyond its window in Live ends in a fault: the address does not exist (R441). -/
theorem cxlMemRead_runs (ld off len : Nat) (bad : Bool) (s : State) :
    Safe (exec (.cxlMemRead ld off len bad) s) ∨
      (s.power.mstate = .live ∧ ldSize ld < off + len ∧
        exec (.cxlMemRead ld off len bad) s = .fault (.noSuchAddress ld off)) := by
  by_cases hserved : memServed s = true
  · have hlive : s.power.mstate = .live := by simp_all [memServed, inLive]
    have hbridge : s.power.bridgeFailed.contains 4 = false := by simp_all [memServed]
    rw [cxlMemRead_served hlive hbridge]
    by_cases hbeyond : ldSize ld < off + len
    · exact .inr ⟨hlive, hbeyond, if_pos hbeyond⟩
    · rw [if_neg hbeyond]
      exact .inl (.ite .next .next)
  · have hrow : exec (.cxlMemRead ld off len bad) s = execCxlMemRead ld off len bad s := rfl
    rw [hrow, execCxlMemRead, if_pos (c := (!memServed s) = true) (by simpa using hserved)]
    exact .inl (.ite .next .next)

theorem cxlMemWrite_runs (ld off : Nat) (data : List Byte) (s : State) :
    Safe (exec (.cxlMemWrite ld off data) s) ∨
      (s.power.mstate = .live ∧ ldSize ld < off + data.length ∧
        exec (.cxlMemWrite ld off data) s = .fault (.noSuchAddress ld off)) := by
  by_cases hserved : memServed s = true
  · have hlive : s.power.mstate = .live := by simp_all [memServed, inLive]
    have hbridge : s.power.bridgeFailed.contains 4 = false := by simp_all [memServed]
    rw [cxlMemWrite_served hlive hbridge]
    by_cases hbeyond : ldSize ld < off + data.length
    · exact .inr ⟨hlive, hbeyond, if_pos hbeyond⟩
    · rw [if_neg hbeyond]
      exact .inl (.ite .next .next)
  · have hrow : exec (.cxlMemWrite ld off data) s = execCxlMemWrite ld off data s := rfl
    rw [hrow, execCxlMemWrite, if_pos (c := (!memServed s) = true) (by simpa using hserved)]
    exact .inl (.ite .next .next)

/-! ## Every command -/

/-- Settles O54: each arm of the dispatch by the shape of its meaning; the two accesses of CXL.mem by the window they name. -/
theorem everyCommandRuns : Obligations.EveryCommandRuns := by
  unfold Obligations.EveryCommandRuns
  intro c s
  cases c with
  | lowerTreeBuild | lpMove | lpAdd | lpSubtract | lpCompare | lpShift | lpMin | lpMax | lpClamp | lpMac | lpDivide
    | lpBranch | lpInputLoad | lpOutputStore | cotTrigger | onTimeEnd | powerBoardPresenceChange | driveEnLoss
    | openWireTest | drawerRelease | drawerInsert | thermistorRead | guardEscalation | authorisationExpiry | cutEnd
    | busOffRecovery | capFrame | heartbeat | trayReport | joinFrame | keyFrame | writeForwardAck | sessionExpiry
    | rectifierHealthChange | refreshDeadlineMiss | reshardBuildDone | uncorrectableError | entropyResume
    | traceTrigger | crystalReturn | icuPswp | learningStateMirror | sessionOpenReassemblyTimeout | sisterIdleBlock | paceFrame
    | hintMismatch => exact .inl .next
  | auxSupplyApplied | roleNegotiationTimeout | stringFedTimeout | powerFailWarning | holdupFlushComplete
    | holdupCommit | holdupCutoff | extraMeridianEdge | missedPulse | loopSample | passDeadline | programReturn
    | channelPlausible | fastLimit | hiccupRetry | retryCountReset | foldBack | foldBackEnd | ovPhaseRelease
    | linkOvervoltage | cotShedEn | prechargeGuardOpen | prechargeOverlapOpen | linkDischargeDone | prechargeComplete
    | prechargeTimeout | contactorConfirmed | contactorDisagree | softStartCrossing | softStartTimeout
    | zeroingComplete | zeroingTimeout | tripAutoClear | umbraSurvey | bleedMaskExpiry | afeReport | afeLinkLoss
    | ownerLayerAdopt | guardAuthorisation | babbleCut | heartbeatSend | leadLeaseLapse | throttleRestore
    | trayAbsenceLeave | unknownFrame | groupKeyDistribution | segmentTimeout | writeForwardTimeout | feedLost
    | feedRestored | hostSocTargetExpiry | attributionFold | featureFrame | refreshStart | holdForecast
    | modelLoadDone | scrubRead | fastModeExit | leaseRenewal | leaseClaim | driveEnTimeout | lockstepMismatch
    | driveConflict | explicitRelease | laneDown | laneRetrained | sisterLinkLost | stateRecord
    | stateRecordDeadlineMiss | epochImageSend | epochImageReceived | revertHandover | peerAbsent | trialAutoCommit
    | challengeExpiry | entropyStop | traceArm | traceSwtrig | traceDone | snapshotFreeze | recorderFrame
    | dictionaryMirrorRefresh | referenceLoss | referenceRestored | crystalLoss | enginePllRelock | enginePllEnable
    | icuSswp | linkBelow1150 | leadMeridianDrive | epochOwnGridOpen | sisterAckTimeout => exact .inl (.ite .next .next)
  | fixedLawReturn | channelSelection | loopProgramLoad | loopProgramSelect | stringLatchClear | overvoltageLatchClear
    | busReferenceTarget | referenceSlew | tripClear | hostBleedMasks | wireSurveyRequest | openWireTestRequest
    | stringIsolate | endIsolation | integratorLayerWrite | ownerLayerWrite | leadRelease | read | readPending | write
    | describe | malformedRequest | contractWrite | breakerCapWrite | rampLimitWrite | emergencyAnnouncement
    | hostAllocationTable | hostFillerAnswer | hostSocTarget | modelLoad | modelSelect | clearSlot
    | revertSignedWeights | handoverCommand | clearDriveFault | replacementAdoption | keyEnrolment | nodeTableWrite
    | firmwareLoad | activateBank | commitTrial | evidenceRequest | onDemandSeal | unlockGrant | endUnlock
    | passphraseVerifier | passphraseAttempt | userCalibrationWrite | snapshotRearm | traceConfiguration
    | recorderResume | exportContent | firstFaultClear | auxSyncFunction => exact .inl (request_safe _ _ _)
  | identify | getEventRecords | clearEventRecords | getEventInterruptPolicy | setEventInterruptPolicy | getFwInfo
    | getSupportedLogs | getLog | identifyMemoryDevice | getHealthInfo | getPoisonList | ownerStagingWrite =>
    exact .inl (.ite .next (.ite .next (.ite .next (.ite .next .next))))
  | pulseTruncation | hiccup | wireSurveySlot | openWireResult => exact .inl (.ite (.ite .next .next) .next)
  | twilightStart | fixedLawTakeover | lpeFixrst | lpeSelreq | lpeRun | loopProgramLoadDone | busOvervoltageLatch
    | cotOvclr | cotLatclr | cotStart | cotPhenWrite | contactorMainCommand | contactorPrechargeCommand | strobe
    | positionTrip | guardNarrowing | candidateEvaluation | trialBootFailed | bridgeCrcFail | engAperWrite
    | icuComplete | icuSwp => exact .inl (.ite .next (.ite .next .next))
  | unsupportedCommand => exact .inl (.ite .next (mailCmd_safe _ _ _ _ _))
  | channelImplausible => exact .inl (.ite (.ite (.ite .next .next) .next) .next)
  | phaseCheckComplete | busPrebiasCheck => exact .inl (.ite (.ite .next (.ite .next .next)) .next)
  | shelfLeavesService | interruptSource | contactorHoldRelease => exact .inl (.ite (.ite .next .next) (.ite .next .next))
  | liveReq | meridianPulse | cotEna | damagedSlotFetch | bondCrcFail | engineTemperature | icuRouteWrite
    | engineWakeComplete => exact .inl (.ite .next (.ite .next (.ite .next .next)))
  | dictionaryPlain => exact .inl (.ite (request_safe _ _ _) (mailCmd_safe _ _ _ _ _))
  | swapDrill => exact .inl (.ite .next (.ite (.ite .next .next) (.ite .next .next)))
  | sisterBlockReceived => exact .inl (.ite .next (.ite .next (.ite .next (.ite .next (.ite .next .next)))))
  | supply54vInRange => exact .inl (execSupply54vInRange_safe _ _)
  | supply54vOutOfRange => exact .inl (execSupply54vOutOfRange_safe _)
  | moduleRestart => exact .inl (execModuleRestart_safe _ _)
  | signatureComplete => exact .inl (execSignatureComplete_safe _)
  | lpEnd => exact .inl (execLpEnd_safe _ _)
  | phaseShed => exact .inl (execPhaseShed_safe _ _)
  | frameTransmit => exact .inl (execFrameTransmit_safe _ _ _)
  | frameTransmitComplete => exact .inl (execFrameTransmitComplete_safe _ _)
  | leadElection => exact .inl (execLeadElection_safe _ _)
  | holdRelease => exact .inl (execHoldRelease_safe _)
  | keyRequest => exact .inl (execKeyRequest_safe _ _ _)
  | sessionOpen => exact .inl (execSessionOpen_safe _ _)
  | sessionMessage => exact .inl (execSessionMessage_safe _ _ _ _ _)
  | refreshDone => exact .inl (execRefreshDone_safe _ _ _ _)
  | trainingPair => exact .inl (execTrainingPair_safe _)
  | learningStep => exact .inl (execLearningStep_safe _)
  | reshardShadowCompare => exact .inl (execReshardShadowCompare_safe _ _)
  | drillEnd => exact .inl (execDrillEnd_safe _)
  | unlockExpiry => exact .inl (execUnlockExpiry_safe _)
  | passphraseRefusalEnd => exact .inl (execPassphraseRefusalEnd_safe _)
  | passphraseDurationEnd => exact .inl (execPassphraseDurationEnd_safe _ _)
  | recorderAutoStop => exact .inl (execRecorderAutoStop_safe _)
  | cxlLinkChange => exact .inl (execCxlLinkChange_safe _ _)
  | pllLockLoss => exact .inl (execPllLockLoss_safe _ _)
  | leaseWordReceived => exact .inl (execLeaseWordReceived_safe _ _ _ _)
  | readClearRegister => exact .inl (execReadClearRegister_safe _ _ _)
  | registerWrite => exact .inl (execRegisterWrite_safe _ _ _ _)
  | siderealRead => exact .inl (execSiderealRead_safe _ _)
  | icuClaim => exact .inl (execIcuClaim_safe _ _)
  | icuXsig => exact .inl (execIcuXsig_safe _ _ _ _)
  | icuFaultClear => exact .inl (execIcuFaultClear_safe _ _)
  | cxlMemRead ld off len bad =>
    refine (cxlMemRead_runs ld off len bad s).imp_right fun ⟨hlive, hbeyond, hfault⟩ => .inl ?_
    exact ⟨ld, off, len, bad, rfl, hlive, hbeyond, hfault⟩
  | cxlMemWrite ld off data =>
    refine (cxlMemWrite_runs ld off data s).imp_right fun ⟨hlive, hbeyond, hfault⟩ => .inr ?_
    exact ⟨ld, off, data, rfl, hlive, hbeyond, hfault⟩

end Sys2Proof.Machine

/-! PROOFS. Roles and Live (R472, R523): the statement that fails, for the role that a module takes when no HOLD word is heard. -/
namespace Sys2Proof.Machine

/-! ## Roles decided by time (R523) -/

/-- A module negotiates its role and has heard no HOLD word (R523). -/
def NegotiationSilent (s : State) : Prop :=
  s.power.mstate = .watch ∧ s.red.role = .noRole ∧ s.power.hold = .none ∧ s.grd.intBlank = false ∧
    s.red.peerHold = false ∧ s.power.refGone = false

/-- The module that takes the lease: it holds and claims it as the active one, and its word goes out. -/
def leaseTaken (s : State) : State :=
  sendWord (decideRole { s with red.holding := true, red.claimed := true } .active) false

theorem roleNegotiationTimeout_silent {s : State} (h : NegotiationSilent s) :
    exec .roleNegotiationTimeout s = .next (tryLive (leaseTaken s)) := by
  obtain ⟨hwatch, hrole, hnone, hblank, hpeer, href⟩ := h
  exact if_pos (by simp [hwatch, hrole, hnone, hblank, hpeer, href])

/-- The module has taken the lease, and the role's record is merged into the ring. -/
def activeMerged (s : State) : State :=
  sendWord (queueMissing { s with
    red.holding := true, red.claimed := true, red.role := .active
    recs.ring := mergeInto s 9 0x09 s.recs.ring }) false

/-- The role's record merges into one the ring holds (R230). -/
theorem leaseTaken_merged {s : State} (h : s.recs.ring.any (mergesWith s 9 0x09) = true) : leaseTaken s = activeMerged s := by
  have hring := mergeInto_congr (s := s)
    (u := { s with red.holding := true, red.claimed := true, red.role := .active }) rfl 9 0x09 s.recs.ring
  have hmerge : ({ s with red.holding := true, red.claimed := true, red.role := .active } : State).recs.ring.any
      (mergesWith { s with red.holding := true, red.claimed := true, red.role := .active } 9 0x09) = true := h
  unfold leaseTaken decideRole stateRec activeMerged
  dsimp only
  rw [writeRecB_merged _ (by decide) hmerge, ← hring, if_pos rfl]

/-- So no record of the role is left where it merged into the oldest element of a full ring of other blocks. -/
theorem roleNegotiationTimeout_unrecorded {s t : State} (h : NegotiationSilent s)
    (ht : exec .roleNegotiationTimeout s = .next t) (hmerge : s.recs.ring.any (mergesWith s 9 0x09) = true)
    (hlive : mayGoLive (activeMerged s) = true)
    (hnew : (mergeInto s 9 0x09 s.recs.ring).any (mergesWith s 9 0x06) = false)
    (hothers : ∀ r ∈ (mergeInto s 9 0x09 s.recs.ring).take 511, r.block ≠ 9) :
    ∀ r ∈ t.recs.ring, ¬ (r.block = 9 ∧ r.cause = 0x09) := by
  rw [roleNegotiationTimeout_silent h, leaseTaken_merged hmerge, Host.Outcome.next.injEq] at ht
  obtain ⟨live, hcause, hring⟩ := tryLive_ring (s := activeMerged s) hlive
    (by rw [mergesWith_congr (s := s) (u := activeMerged s) rfl]; exact hnew)
  rw [← ht, hring]
  rintro r hr ⟨hblock, hrole⟩
  rcases List.mem_cons.mp hr with rfl | hold
  · omega
  · exact hothers r hold hblock

theorem negotiatingState_silent : NegotiationSilent negotiatingState := ⟨rfl, rfl, rfl, rfl, rfl, rfl⟩

theorem negotiatingState_mayGoLive : mayGoLive (activeMerged negotiatingState) = true := rfl

/-- Refutes O22: it has the record of the decided role in the ring after the negotiation's end, where the record of the entry to
Live that follows at once (R472) may overwrite it. The role's record is merged into one of the second before (R230), and where
that one is the oldest of a full ring the other record takes its element. -/
theorem not_rolesAndLive : ¬ Obligations.RolesAndLive := by
  unfold Obligations.RolesAndLive
  rintro ⟨hsilent, -⟩
  obtain ⟨hwatch, hrole, hnone, hblank, hpeer, href⟩ := negotiatingState_silent
  obtain ⟨t, ht, -, -, -, -, -, ⟨r, hr, hrecord⟩, -⟩ :=
    hsilent negotiatingState hwatch hrole hnone hblank hpeer href
  exact roleNegotiationTimeout_unrecorded negotiatingState_silent ht negotiatingState_merges negotiatingState_mayGoLive
    negotiatingState_new negotiatingState_others r hr hrecord

end Sys2Proof.Machine

/-! PROOFS. Clocks and bridges (R461): the statement that fails, for the retrain of a bridge that also fails it. -/
namespace Sys2Proof.Machine

/-! ## The third retrain of bridge B4 (R230, R461) -/

/-- Bridge B4 is retrained, before the record of it. -/
def retrained (s : State) : State :=
  { s with
    power.bridgeTries := mset s.power.bridgeTries 4 0
    power.bridgeTrains :=
      madd (s.power.bridgeTrains.filter fun p => decide (s.epo.ticks < p.1 / 16 + 1000)) (16 * s.epo.ticks + 4) 1 }

/-- Bridge B4 is retrained, and the record of it is merged into the ring. -/
def retrainMerged (s : State) : State := { retrained s with recs.ring := mergeInto s 10 0x04 s.recs.ring }

/-- The retrain's record merges into one the ring holds (R230). -/
theorem writeRecB_retrained {s : State} (body : Nat) (h : s.recs.ring.any (mergesWith s 10 0x04) = true) :
    writeRecB (retrained s) 10 1 0x04 body = retrainMerged s := by
  have hring := mergeInto_congr (s := s) (u := retrained s) rfl 10 0x04 s.recs.ring
  rw [writeRecB_merged body (by decide) (by exact h), retrainMerged, ← hring]
  rfl

/-- The eighth failure of a flit of B4 is the third retrain within 1 s, and the retrain's record merges. -/
def ThirdRetrain (s : State) : Prop :=
  s.power.bridgeFailed.contains 4 = false ∧ mget s.power.bridgeTries 4 = 7 ∧
    s.recs.ring.any (mergesWith s 10 0x04) = true ∧ 3 ≤ trainsIn (retrainMerged s) 4

theorem retrainBridge_four (s : State) : retrainBridge s 4 = s := if_neg (by decide)

theorem bridgeCrcFail_thirdRetrain {s : State} {seq c : Nat} {l : List Nat} (h : ThirdRetrain s) (hcrc : flitCrc seq l ≠ c) :
    exec (.bridgeCrcFail 4 seq l c false) s = .next (bridgeFails (retrainMerged s) 4) := by
  obtain ⟨hup, htries, hmerge, hthird⟩ := h
  have hfails : ¬ ((4 : Nat) = 0 ∨ 4 < 4 ∨ s.power.bridgeFailed.contains 4 = true ∨ flitCrc seq l = c) := by
    simp only [hup, hcrc]
    decide
  have hlast : ¬ (if false = true then 0 else mget s.power.bridgeTries 4) + 1 < 8 := by simp [htries]
  show execBridgeCrcFail 4 seq l c false s = _
  rw [execBridgeCrcFail, if_neg hfails]
  dsimp only
  rw [if_neg hlast, retrainBridge_four]
  change Host.Outcome.next (if 3 ≤ trainsIn (writeRecB (retrained s) 10 1 0x04 _) 4 then
    bridgeFails (writeRecB (retrained s) 10 1 0x04 _) 4 else writeRecB (retrained s) 10 1 0x04 _) = _
  rw [writeRecB_retrained _ hmerge, if_pos hthird]

theorem bridgeFails_four {s : State} (h : s.power.bridgeFailed.contains 4 = false) :
    bridgeFails s 4 =
      writeRecB { s with power.bridgeFailed := 4 :: s.power.bridgeFailed } 10 2 0x05 (packAt [(0, 1, 4), (4, 4, 3)]) := by
  have hup : ¬ s.power.bridgeFailed.contains 4 = true := by rw [h]; exact Bool.false_ne_true
  rw [bridgeFails, if_neg hup]
  rfl

/-- The failure of bridge B4 is a new record at the head of the ring. -/
theorem bridgeFails_ring {s : State} (hup : s.power.bridgeFailed.contains 4 = false)
    (hnew : s.recs.ring.any (mergesWith s 10 0x05) = false) :
    ∃ r, r.cause = 0x05 ∧ (bridgeFails s 4).recs.ring = r :: s.recs.ring.take 511 := by
  rw [bridgeFails_four hup, writeRecB_new _ (.inl (by exact hnew)), (faultPaths_ring _ _).1]
  exact ⟨_, rfl, rfl⟩

/-- So no record of the retrain is left where it merged into the oldest element of a full ring of other blocks. -/
theorem bridgeCrcFail_unrecorded {s t : State} {seq c : Nat} {l : List Nat} (h : ThirdRetrain s) (hcrc : flitCrc seq l ≠ c)
    (ht : exec (.bridgeCrcFail 4 seq l c false) s = .next t)
    (hnew : (mergeInto s 10 0x04 s.recs.ring).any (mergesWith s 10 0x05) = false)
    (hothers : ∀ r ∈ (mergeInto s 10 0x04 s.recs.ring).take 511, r.block ≠ 10) :
    ∀ r ∈ t.recs.ring, ¬ (r.block = 10 ∧ r.cause = 0x04) := by
  rw [bridgeCrcFail_thirdRetrain h hcrc, Host.Outcome.next.injEq] at ht
  obtain ⟨failure, hfailure, hring⟩ := bridgeFails_ring (s := retrainMerged s) h.1
    (by rw [mergesWith_congr (s := s) (u := retrainMerged s) rfl]; exact hnew)
  rw [← ht, hring]
  rintro r hr ⟨hblock, hcause⟩
  rcases List.mem_cons.mp hr with rfl | hold
  · omega
  · exact hothers r hold hblock

/-- Bridge B4 was retrained at the first tick and again 450 ms later; it is now 900 ms, and a flit has failed seven times. The
ring is full: its oldest element is the record of the retrains, under 511 overvoltage latches. -/
def retrainingState : State :=
  { State.reset with
    epo.ticks := 900, power.bridgeTries := [(4, 7)], power.bridgeTrains := [(16 * 450 + 4, 1), (4, 1)]
    recs.ring := List.replicate 511 (newRecord State.reset 1 3 0x04 0) ++ [newRecord State.reset 10 1 0x04 0]
    recs.seq := 512 }

theorem retrainingState_third : ThirdRetrain retrainingState :=
  ⟨by decide +kernel, by decide +kernel, by decide +kernel, by decide +kernel⟩

theorem retrainingState_new :
    (mergeInto retrainingState 10 0x04 retrainingState.recs.ring).any (mergesWith retrainingState 10 0x05) = false := by
  decide +kernel

theorem retrainingState_others :
    ∀ r ∈ (mergeInto retrainingState 10 0x04 retrainingState.recs.ring).take 511, r.block ≠ 10 := by
  decide +kernel

theorem flitCrc_empty_ne : flitCrc 0 [] ≠ 0 := by decide +kernel

/-- Refutes O23: it has the record of a retrained bridge in the ring after the retrain, where the record of the bridge's failure,
which the third retrain within 1 s brings (R461), may overwrite it. The retrain is merged into the record of the first of the
three (R230), and where that one is the oldest of a full ring the failure's record takes its element. -/
theorem not_clocksAndBridges : ¬ Obligations.ClocksAndBridges := by
  unfold Obligations.ClocksAndBridges
  rintro ⟨-, -, -, -, -, hretrains, -⟩
  obtain ⟨hup, htries, -, -⟩ := retrainingState_third
  obtain ⟨t, ht, -, ⟨r, hr, hretrain⟩, -⟩ :=
    hretrains 4 0 [] 0 retrainingState (by decide) (by decide) hup flitCrc_empty_ne htries
  exact bridgeCrcFail_unrecorded retrainingState_third flitCrc_empty_ne ht retrainingState_new retrainingState_others r hr
    hretrain

end Sys2Proof.Machine
